-- ==== Sys2Proof/Word.lean ====
section
/-!
DEFINITION. The machine's plain words: bytes as the buses carry them and the 32-bit
words of its register pages.
-/
namespace Sys2Proof

/-- One byte, as memories, mailboxes and datagrams hold it. -/
abbrev Byte := BitVec 8

/-- A run of bytes in transmission or address order. -/
abbrev Bytes := List (BitVec 8)

/-- One 32-bit register word. -/
abbrev Word := BitVec 32

/-- A sparse table by number: keys strictly rising, no entry equal to the table's default. -/
abbrev Tab (α : Type) := List (Nat × α)

end Sys2Proof
end

