-- ==== Sys2Proof/Syntax.lean ====
section
/-!
DEFINITION. The commands of the block: one constructor for each row of the table of operations and
events. A constructor's operands are what the outside world brings with the event: which mailbox,
register or link it concerns, the bytes of a message, and the measurements the device's analogue
parts would make there (a sampled voltage, an edge's instant, a level).

A KMP command's row is its start from a mailbox's taken commands, so its one operand is the mailbox
number (DEDUCED, assumption log, entry 3): the command's own fields lie in the bytes that DOORBELL or
KMP_DATAGRAM_RECEIVE took.
-/
namespace Sys2Proof

/-- The block's commands, in the order of the table. -/
inductive Instr where
  /-- POWER_ON_RESET. VIN leaves, or has not yet reached, the power-on threshold (R473). -/
  | powerOnReset
  /-- NRESET_ASSERT. NRESET held low for `lowNs` (R358). -/
  | nresetAssert (lowNs : Nat)
  /-- RESET_RELEASE. Every reset source released, with the strap levels sampled (R360). -/
  | resetRelease (spiv : Bool) (refclk : Bool) (pcie : Bool)
  /-- PLL_LOCK. Crystal and PLLs locked (R362). -/
  | pllLock
  /-- BIST_COMPLETE. Built-in self-test ends with its findings: `failedLanes` physical lanes, `badSlices` and `failedStarts` masks, `probes`
  of targets (service segments by number, sub-stripe s of bank b as 136 + 16b + s) as V_f in mV and the repeat's V_f, `dark` the 1 ms
  counts of SPADs by 4 × (640 × row + column) + SPAD (R367). -/
  | bistComplete (tussockFail : Bool) (fatal : Bool) (badSlices : Nat) (failedLanes : List Nat) (failedStarts : Nat) (probes : List
      (Nat × List (Nat × Nat))) (dark : List (Nat × Nat)) (sramRepairs : Nat)
  /-- REPAIR_MAP_BUILT. The repair map is complete (R367). -/
  | repairMapBuilt
  /-- ROM_INFO. Returns the boot ROM version, device ID, boot stage, halt cause, loader state and fuse count (R371). -/
  | romInfo (mb : Nat)
  /-- LOAD_BEGIN. Claims the loader for its port and starts delivery of one component, discarding what was delivered of it before (R370). -/
  | loadBegin (mb : Nat)
  /-- LOAD_CHUNK. Copies one chunk of a component from the bulk window at its offset (R370). -/
  | loadChunk (mb : Nat)
  /-- LOAD_END. Verifies the delivered component in the order of the loader reason codes and accepts or discards it (R374). -/
  | loadEnd (mb : Nat)
  /-- LOADER_CLAIM_EXPIRY. Two seconds without a loader command (R369). -/
  | loaderClaimExpiry
  /-- FW_INIT_COMPLETE. Firmware initialisation ends (R362). -/
  | fwInitComplete
  /-- CAST_ON_GAUGE_COLLECTION_END. The 200 ms collection ends with these bin counts per lane; unlisted lanes count uniformly (R97). -/
  | castOnGaugeCollectionEnd (counts : List (Nat × List Nat))
  /-- CALIBRATION_FIRING_END. Calibration firing ends with these reference statistics (lane, number, mean in 1/256 ns; unlisted lanes 500
  and 41), breakdown voltage and temperature, clock ratios, and whether the reservoirs charged (R176, R242). -/
  | calibrationFiringEnd (refMeans : List (Nat × Nat × Nat)) (vbd : Nat) (temp : Int) (clockRatios : List Nat) (charged : Bool)
  /-- FRAME_TICK. The frame tick: the broadcast latch applies pending settings, per-frame statistics are latched and the frame number
  advances (R24). -/
  | frameTick
  /-- DWELL_TICK. A dwell tick; the lanes in `lockLost` report loss of interpolator lock, the groups in `stalled` had reduced that many
  channels when the tick came, and a peak-engine lane or the shared calibration of those in `broken` has failed (R17, R41). -/
  | dwellTick (lockLost : List Nat) (stalled : List (Nat × Nat)) (broken : List Nat)
  /-- FLUSH_TICK. A flush tick advances reduction and formatting after the last dwell of a frame, with no shots (R27). -/
  | flushTick (stalled : List (Nat × Nat))
  /-- WINDOW_BIAS. The next dwell's receive window is powered 100 ns before its tick, and the old window stops detecting (R43). -/
  | windowBias
  /-- SHOT_TICK. A shot tick; reservoirs of the segments in `low` are below 27 V; `obs` gives a segment's mid-pulse voltage in mV and
  charge in 1/64 nC where other than nominal (R41). -/
  | shotTick (low : List Nat) (obs : List (Nat × Nat × Nat))
  /-- START_LANE_EDGE. A start lane stamps a firing edge of its bank's pulse pair within the acceptance span (R87). -/
  | startLaneEdge (bank : Nat) (coarse : Nat) (tap : Nat)
  /-- SPAD_AVALANCHE. A SPAD of a macropixel fires `ps` picoseconds after the shot tick and recharges in `recharge` eighths of a ns;
  `readings` are raw stamps of lanes, unlisted lanes reading by their nominal taps (R65). -/
  | spadAvalanche (row : Nat) (col : Nat) (spad : Nat) (ps : Nat) (recharge : Nat) (readings : List (Nat × Nat))
  /-- COARSE_PHASE_CLOSE. The coarse phase closes, the candidates become final and the fine windows are set (R111). -/
  | coarsePhaseClose
  /-- POINT_FORMAT. The formatter forms a dwell's points from its lane returns and writes its records into the stream queues (R135). -/
  | pointFormat
  /-- POINT_TAG_CHECK. Hook B recomputes a dwell's tag over its record block as it reached Tussock: `flips` the bytes that differ, by
  offset and exclusive or, `tagXor` how the tag itself differs (R257). -/
  | pointTagCheck (flips : List (Nat × Nat)) (tagXor : Nat)
  /-- TENSION_TICK. A Tension tick; the slots listed did not finish (R230) (R220). -/
  | tensionTick (slow : List Nat)
  /-- SEDGE_SLOT. A Sedge conversion returns this 16-bit code (R207). -/
  | sedgeSlot (code : Int)
  /-- OPEN_WIRE_TEST. A diagnostic period's open-wire test of an input runs, and two failures confirm an open wire and mark suspect
  records (R212). -/
  | openWireTest
  /-- PROBE_ROUND. One round of probe pulses with the sampled V_f in mV per segment (R173). -/
  | probeRound (round : Nat) (vf : List (Nat × Nat))
  /-- PROBE_CONFIRM_SLOT. A failing probe is repeated and, if it is confirmed, the segment is judged failed or SPARE_BAD is set (R174). -/
  | probeConfirmSlot (bank : Nat) (vf : Nat)
  /-- PROBE_BLOCK_END. Failures left without a confirmation slot count as confirmed at F + 50 us (R174). -/
  | probeBlockEnd
  /-- DARK_COUNT_POSITION_END. A mapping position ends with these counts by SPAD number; unlisted SPADs count none (R73). -/
  | darkCountPositionEnd (counts : List (Nat × Nat))
  /-- GAUGE_RANDOM_EDGE. A random edge reaches a TDC during collection and increments its accumulator entry (R92). -/
  | gaugeRandomEdge (lane : Nat) (code : Nat)
  /-- GAUGE_COLLECTION_END. A turnaround's Gauge collection ends, completing the refresh of each lane that meets period and hit count
  (R93). -/
  | gaugeCollectionEnd
  /-- GAUGE_TABLE_DERIVE. A new table is derived and bounded in the frame after the refresh, and either shadowed or discarded (R95). -/
  | gaugeTableDerive (lane : Nat) (tussockDiffers : Bool)
  /-- TEST_TONE_SLOT. A lead group's impedances are measured with the test tone, one for a pair and four for a bridge group, `cross` between
  the two drive pairs, and faults are confirmed or cleared (R200). -/
  | testToneSlot (group : Nat) (ohms : List Nat) (cross : Nat)
  /-- RAIL_SWITCH_TEST. An emitter rail switch is test-opened or closed alone and its node readback is judged (R245). -/
  | railSwitchTest (switch : Nat) (pass : Bool)
  /-- OUTPUT_SWITCH_TEST. A safety-output switch is test-opened or closed alone and its pins are judged (R245). -/
  | outputSwitchTest (output : Nat) (switch : Nat) (pass : Bool) (shorted : Bool)
  /-- OUTPUT_OVERCURRENT. An output current above 0.75 A for 100 us locks the output out (R247). -/
  | outputOvercurrent (output : Nat)
  /-- EMITTER_SELFTEST_RUN. The self-test's V_f samples in mV, by result entry × 3 + current index (R185). -/
  | emitterSelftestRun (vf : List (Nat × Nat))
  /-- PULSE_REPORT. A per-pulse report reaches Tussock, and the pulse is charged to its cells and compared with the budgets (R249). -/
  | pulseReport (segment : Nat)
  /-- PULSE_REPORT_TIMEOUT. A fired pulse has no report within 1 us, so it is charged at worst case, and eight in a frame trip
  PULSE_REPORT (R249). -/
  | pulseReportTimeout (segment : Nat)
  /-- ACCUMULATOR_SUBINTERVAL. An accumulator's sub-interval ends, its oldest sub-interval ages out and a new one starts (R251). -/
  | accumulatorSubinterval (base : Nat)
  /-- CLOCK_CROSS_CHECK. A 1 ms clock-ratio window ends, and two consecutive windows out of bounds trip CLOCK (R242). -/
  | clockCrossCheck (ratios : List Nat)
  /-- TUSSOCK_INTERNAL_FAULT. A lockstep mismatch, uncorrectable SRAM error, watchdog expiry or core-supply fault opens all switches and
  halts the device (R239). -/
  | tussockInternalFault (kind : Nat)
  /-- TUSSOCK_SCRUB_BLOCK. Hook B completes scrub block `block` of Tussock SRAM, read at block `readAt` with the bytes `flips` wrong by offset
  and exclusive or, and compares its check (R285). -/
  | tussockScrubBlock (block : Nat) (readAt : Nat) (flips : List (Nat × Nat)) (corrected : Bool) (uncorrectable : Bool)
  /-- SAFETY_INPUT_SAMPLE. The safety inputs are sampled and filtered, and test-pulse readings, discrepancies and faults are judged
  (R265). -/
  | safetyInputSample (levels : Nat)
  /-- TEST_PULSE. A test-pulse output drops low for 400 us in its place of the 20 ms cycle and reads back its level (R265). -/
  | testPulse (output : Nat) (readback : Nat)
  /-- RESTART_DELAY_EXPIRY. An automatic-restart output energises once its conditions have held for the restart delay (R268). -/
  | restartDelayExpiry (output : Nat)
  /-- VSAFE_JUDGEMENT_CHANGE. The VSAFE monitor's judgement changes, the outputs follow and source 543 is raised (R474). -/
  | vsafeJudgementChange (ok : Bool) (mv : Nat)
  /-- SUPPLY_OUT_OF_RANGE. A supervisor finds VIN or an internal rail out of range, causing BIND_OFF or a halt during cast-on (R473). -/
  | supplyOutOfRange (vin : Bool)
  /-- UNRECOVERABLE_FAULT. An unrecoverable fault moves the device to HALTED at once (R31). -/
  | unrecoverableFault
  /-- DRIVE_STAGE_TRIP. The mirror drive stage trips on overcurrent, short, temperature or rail fault, turning off and sending L0 to OFF
  (R192). -/
  | driveStageTrip (cause : Nat)
  /-- BIND_OFF_COMPLETE. The event queues drain or 15 ms pass, the rails and PHYs go down and the device enters HALTED (R385). -/
  | bindOffComplete
  /-- ARM_LOCK_TIMEOUT. L0 has not locked 2 s after ARM was accepted, so ARM ends HW_FAULT and the device stays in READY (R31). -/
  | armLockTimeout
  /-- AGEING_SLEW_COMPLETE. The PLL slew reaches the written ageing adjustment and TIME_AGEING completes (R104). -/
  | ageingSlewComplete
  /-- COMMIT_POINT. Shadow loading of a committed set ends, and the commit's final OK and frame of application are committed (R402). -/
  | commitPoint
  /-- LEASE_EXPIRY. A session reaches its deadline, and the staged set, freeze, readout and pending safety blob are released (R403). -/
  | leaseExpiry
  /-- SAFE_PENDING_EXPIRY. A pending safety blob is discarded 10 s after its load (R274). -/
  | safePendingExpiry
  /-- HOOK_A_JOB_COMPLETE. A Hook A job folds its last word of `data`, and its result is written and its final status committed (R284). -/
  | hookAJobComplete (corrected : Nat) (uncorrectable : Bool) (data : Bytes)
  /-- FIRMWARE_SCRUB_BLOCK. Hook A checks block `block` of firmware code, read at block `readAt` with the bytes `flips` wrong; `last` where it
  ends the pass. A mismatch halts the device (R285). -/
  | firmwareScrubBlock (last : Bool) (block : Nat) (readAt : Nat) (flips : List (Nat × Nat))
  /-- PATROL_SCRUB. A patrol scrub reads and corrects an ECC word of Carr SRAM, the egress buffer or the Peat store (R470). -/
  | patrolScrub (region : Nat) (addr : Nat) (correctable : Bool)
  /-- GRANT_ISSUE. The users arbiter grants the next requester whose transmit path can accept its unit or message (R308). -/
  | grantIssue (port : Nat)
  /-- GRANT_COMPLETE. A port accepts the last byte of a grant, freeing cells and publishing ring entries or datagrams (R308). -/
  | grantComplete (port : Nat)
  /-- GRANT_HOLD_WATCHDOG. A grant exceeds the watchdog, so the port cancels it, counts the loss and resumes arbitration (R311). -/
  | grantHoldWatchdog (port : Nat)
  /-- RING_MODERATION_TIMER. MOD's time elapses since the first unannounced entry, and the ring vector fires (R342). -/
  | ringModerationTimer (ring : Nat)
  /-- PEAT_TRIGGER_ACCEPT. A trigger is accepted, a marker is written, Peat enters FILLING and the trigger may be forwarded (R321). -/
  | peatTriggerAccept
  /-- PEAT_REARM. After a close in repeat mode, Peat re-arms into the lowest free segment or enters FULL (R320). -/
  | peatRearm
  /-- TRIG_IN_EDGE. A deglitched TRIG_IN edge is stamped and accepted, or counted as an overrun (R354). -/
  | trigInEdge (rising : Bool) (t : Nat)
  /-- TRIG_OUT_PULSE_END. The TRIG_OUT pulse width elapses and the output returns to inactive (R355). -/
  | trigOutPulseEnd
  /-- LINK_STATE_CHANGE. A 10GBASE-T1 link goes up or down, and port 0's transmit readiness follows (R329). -/
  | linkStateChange (link : Nat) (up : Bool)
  /-- PRP_FRAME_RECEIVE. A frame of `len` bytes arrives on a link from the source address `src` with a redundancy tag of `seq` and `lan`;
  secured, with SC `sc`, association `an`, packet number `pn` and an integrity value that holds where `valid`. Duplicates are discarded
  per source node (R329). -/
  | prpFrameReceive (link : Nat) (src : Nat) (seq : Nat) (lan : Nat) (sc : Nat) (an : Nat) (pn : Nat) (len : Nat) (secured : Bool)
      (valid : Bool)
  /-- PRP_SUPERVISION_SEND. A PRP supervision frame is sent on both links every 2 s (R329). -/
  | prpSupervisionSend
  /-- GPTP_MESSAGE_RECEIVE. An 802.1AS message of a domain is timestamped and drives the servo, which may step device time or change state;
  `interval` its logMessageInterval (R106). -/
  | gptpMessageReceive (link : Nat) (domain : Nat) (kind : Nat) (gm : Nat) (interval : Int) (value : Int) (rate : Int)
  /-- SERVO_LOCK_ACHIEVED. The offset stays within 1 us for 10 s, and the servo enters LOCKED (R106). -/
  | servoLockAchieved
  /-- SYNC_LOSS_HOLDOVER. No valid sync for 3 s, so the servo enters HOLDOVER (R106). -/
  | syncLossHoldover
  /-- SLAVE_PORT_RESELECT. The selected port misses three Syncs, and the other asCapable port is reselected (R334). -/
  | slavePortReselect
  /-- ARP_ND_RECEIVE. An ARP, neighbour discovery or echo request is answered, and an address conflict raises source 105 (R330). -/
  | arpNdReceive (link : Nat) (kind : Nat) (target : Bytes) (sender : Bytes) (mac : Nat)
  /-- KMP_DATAGRAM_RECEIVE. A KMP datagram is validated, reassembled into its command and taken, or discarded as a repeat, a malformed or an
  IP-fragmented datagram (R406). -/
  | kmpDatagramReceive (sc : Nat) (isProtected : Bool) (addr : Bytes) (port : Nat) (data : Bytes) (fragmented : Bool)
  /-- KMP_REASSEMBLY_TIMEOUT. A partial UDP command is not complete within 100 ms and is discarded (R406). -/
  | kmpReassemblyTimeout (mb : Nat)
  /-- HST_DATAGRAM_ARRIVAL. An HST datagram arrives and its Hook B receive job is queued, unless IP fragmented it (R291). -/
  | hstDatagramArrival (conn : Nat) (addr : Bytes) (port : Nat) (data : Bytes) (fragmented : Bool)
  /-- HST_RECEIVE_CHECK. The Hook B receive job ends, and the receive tests accept, discard or fault the message (R291). -/
  | hstReceiveCheck
  /-- HST_CYCLE_SEND. A connection's cycle period elapses, and it sends a SYNC in START or a DATA in RUN (R290). -/
  | hstCycleSend (conn : Nat)
  /-- HST_CHANGE_SEND. An extra DATA is sent within 1 ms of a change to the state, output, set or violation bytes (R290). -/
  | hstChangeSend (conn : Nat)
  /-- HST_WATCHDOG_EXPIRY. No message is accepted for one watchdog interval, so the connection enters FAULT with TIMEOUT (R292). -/
  | hstWatchdogExpiry (conn : Nat)
  /-- HST_AUTO_RESTART. An automatic-restart connection returns from FAULT to START one watchdog interval after entry (R289). -/
  | hstAutoRestart (conn : Nat)
  /-- SYNC_CYCLE_START. The master opens a 100 us cycle with a beacon and sends its pending window messages (R351). -/
  | syncCycleStart
  /-- SYNC_FOLLOWER_SLOT. A follower's slot arrives, and it sends its pending answer or cross-trigger (R351). -/
  | syncFollowerSlot
  /-- SYNC_BEACON_MSG. A beacon is received, the master frame offset is recorded and any master conflict is resolved (R350). -/
  | syncBeaconMsg (data : Bytes)
  /-- SYNC_PREPARE_MSG. A follower receives PREPARE and prepares a READY or REFUSE answer for its held set (R55). -/
  | syncPrepareMsg (data : Bytes)
  /-- SYNC_READY_MSG. The master records a follower's READY (R55). -/
  | syncReadyMsg (data : Bytes)
  /-- SYNC_REFUSE_MSG. The master records a follower's REFUSE, which leads to CANCEL (R55). -/
  | syncRefuseMsg (data : Bytes)
  /-- SYNC_GO_MSG. A follower accepts GO and binds its held set to frame n (R55). -/
  | syncGoMsg (data : Bytes)
  /-- SYNC_CANCEL_MSG. A follower receives CANCEL and discards its held set (R55). -/
  | syncCancelMsg (data : Bytes)
  /-- SYNC_CODE_MSG. A SYNC-source follower takes its code assignment to apply at frame n (R126). -/
  | syncCodeMsg (data : Bytes)
  /-- SYNC_XTRIG_MSG. A cross-trigger from a peer is received and offered to Peat and the trace units (R352). -/
  | syncXtrigMsg (data : Bytes)
  /-- SYNC_DEADLINE. A follower with a prepared set and neither GO nor CANCEL by the deadline discards it and raises plan divergence
  (R56). -/
  | syncDeadline
  /-- SYNC_BEACON_LOSS. Three consecutive beacons are missed, and beacon-lost is raised (R350). -/
  | syncBeaconLoss
  /-- DOORBELL. A write of CMD_PI rings the doorbell, and the device takes the posted commands in order (R391). -/
  | doorbell (mb : Nat) (value : Nat)
  /-- RSP_CI_WRITE. Advancing RSP_CI frees response slots, and waiting responses are posted (R393). -/
  | rspCiWrite (mb : Nat) (value : Nat)
  /-- BULK_RELEASE. Writing RELEASE frees the bulk window of response data, or is transport error 0x03 (R395). -/
  | bulkRelease (mb : Nat)
  /-- IRQ_STATUS_CLEAR. A write of 1 clears interrupt causes in IRQ_STATUS (R389). -/
  | irqStatusClear (mb : Nat) (value : Nat)
  /-- ERR_INFO_READ. A read of ERR_INFO returns the latest transport error and clears it (R389). -/
  | errInfoRead (mb : Nat)
  /-- ERR_COUNT_READ. A read of ERR_COUNT returns the transport error count and clears it (R389). -/
  | errCountRead (mb : Nat)
  /-- DEV_TIME_READ. A read of the low DEV_TIME word latches the high word for the next read (R389). -/
  | devTimeRead (mb : Nat)
  /-- RPTR_WRITE. The host advances a ring's RPTR, or sets ERR and disables the ring on a bad value (R341). -/
  | rptrWrite (ring : Nat) (value : Nat)
  /-- REGISTER_WRITE. A write of bytes to the BAR0 space of a port (1 PCIe) (R10). -/
  | registerWrite (port : Nat) (addr : Nat) (data : Bytes)
  /-- PCIE_FUNCTION_RESET. An FLR, hot reset, link drop, D3hot entry or PERST_N low clears the rings and vectors and expires the PCIe
  sessions (R344). -/
  | pcieFunctionReset (cause : Nat)
  /-- SPI_WRITE. An SPI WRITE transaction writes data to the BAR0 address space (R346). -/
  | spiWrite (addr : Nat) (data : Bytes) (cut : Bool)
  /-- SPI_READ. An SPI READ transaction returns data from the BAR0 address space (R346). -/
  | spiRead (addr : Nat) (len : Nat) (cut : Bool)
  /-- SPI_STATUS. An SPI STATUS transaction returns the status word and clears FRAMING_ERR (R347). -/
  | spiStatus (cut : Bool)
  /-- SPI_STREAM. An SPI STREAM transaction reads the egress FIFO as a byte stream (R347). -/
  | spiStream (len : Nat) (cut : Bool)
  /-- SPI_STRAP_RESET. Eight 0xFF bytes re-initialise the SPI target, clear the FIFO and expire the SPI sessions (R348). -/
  | spiStrapReset
  /-- SYS_INFO. Returns the device ID, versions, boot stage, state, halt cause and device time (R413). -/
  | sysInfo (mb : Nat)
  /-- SYS_HEALTH. Returns the health report with its recommended restore values (R465). -/
  | sysHealth (mb : Nat)
  /-- SYS_RESET. Resets the device as NRESET low for 100 us after its response is delivered (R358). -/
  | sysReset (mb : Nat)
  /-- ARM. Requests ARMED, running the switch tests and starting the scanner, and completes at L0 lock (R31). -/
  | arm (mb : Nat)
  /-- START. Requests RUNNING from the next frame tick (R31). -/
  | start (mb : Nat)
  /-- STOP. Returns to ARMED at the next frame tick after the current frame completes (R31). -/
  | stop (mb : Nat)
  /-- DISARM. Returns to READY at the next frame tick, opening the rail (R31). -/
  | disarm (mb : Nat)
  /-- BIND_OFF. Enters BIND_OFF and starts the orderly stop (R385). -/
  | bindOff (mb : Nat)
  /-- EVENT_ROUTE. Sets the route of a run of event sources (R416). -/
  | eventRoute (mb : Nat)
  /-- ABORT. Resolves a target command as aborted or too late (R405). -/
  | abort (mb : Nat)
  /-- GET_STATUS. Reports the progress and final status of a target command (R405). -/
  | getStatus (mb : Nat)
  /-- SESSION_OPEN. Opens the single session with a lease (R400). -/
  | sessionOpen (mb : Nat)
  /-- SESSION_CLOSE. Closes the session and releases its freeze, readout and pending safety blob (R401). -/
  | sessionClose (mb : Nat)
  /-- SESSION_COMMIT. Checks the staged set and loads it into the shadow registers, or holds it as a synchronised set (R402). -/
  | sessionCommit (mb : Nat)
  /-- SESSION_ROLLBACK. Discards the staged set (R402). -/
  | sessionRollback (mb : Nat)
  /-- SESSION_RENEW. Renews the lease and returns the time left (R401). -/
  | sessionRenew (mb : Nat)
  /-- PLAN_WRITE. Stages a plan descriptor after form checks (R419). -/
  | planWrite (mb : Nat)
  /-- PLAN_READ. Returns the plan in force, committed, held or staged (R419). -/
  | planRead (mb : Nat)
  /-- PLAN_CHECK. Runs every feasibility check on a descriptor and returns the check report (R420). -/
  | planCheck (mb : Nat)
  /-- PLAN_COLUMNS. Returns entries of a plan's column table (R36). -/
  | planColumns (mb : Nat)
  /-- SYNC_START. The master starts a synchronised change by PREPARE and ends it with GO or CANCEL (R421). -/
  | syncStart (mb : Nat)
  /-- SYNC_CANCEL. Discards this head's held synchronised set (R422). -/
  | syncCancel (mb : Nat)
  /-- SYNC_STATUS. Reports the state and latest outcome of synchronised sets (R422). -/
  | syncStatus (mb : Nat)
  /-- RECV_SET. Stages receive-group parameters (R423). -/
  | recvSet (mb : Nat)
  /-- RECV_GET. Returns receive-group parameters in force or staged (R423). -/
  | recvGet (mb : Nat)
  /-- ALIGN_WRITE. Stages the segment-to-row alignment table (R424). -/
  | alignWrite (mb : Nat)
  /-- ALIGN_READ. Returns the host-written or refined alignment table (R85). -/
  | alignRead (mb : Nat)
  /-- GAUGE_READ. Returns Gauge lane records in force or in shadow (R98). -/
  | gaugeRead (mb : Nat)
  /-- LANE_STATS. Returns latched lane and bank frame statistics (R131). -/
  | laneStats (mb : Nat)
  /-- LANE_STATUS. Returns lane status words from one dwell tick (R132). -/
  | laneStatus (mb : Nat)
  /-- LANE_CLEAR. Clears the sticky SAT bit of a run of lanes (R132). -/
  | laneClear (mb : Nat)
  /-- TIME_SET. Stages time-group parameters (R423). -/
  | timeSet (mb : Nat)
  /-- TIME_GET. Returns time-group parameters (R423). -/
  | timeGet (mb : Nat)
  /-- TIME_AGEING. Writes the ageing adjustment and slews the PLLs toward it (R425). -/
  | timeAgeing (mb : Nat)
  /-- TIME_STATUS. Returns device time, servo, alignment and ageing status (R106). -/
  | timeStatus (mb : Nat)
  /-- POINT_SET. Stages point-formation parameters (R156). -/
  | pointSet (mb : Nat)
  /-- POINT_GET. Returns point-formation parameters (R423). -/
  | pointGet (mb : Nat)
  /-- INTENSITY_WRITE. Stages the intensity calibration table (R143). -/
  | intensityWrite (mb : Nat)
  /-- INTENSITY_READ. Returns the intensity calibration table in force (R143). -/
  | intensityRead (mb : Nat)
  /-- ATTEST_MEASURE. Returns the measurement registers and attestation resources (R376). -/
  | attestMeasure (mb : Nat)
  /-- ATTEST_EXTEND. Extends M6 or M7 with a host value (R376). -/
  | attestExtend (mb : Nat)
  /-- ATTEST_PATH. Checks and holds the top-tree authentication path of this cast-on's leaf (R379). -/
  | attestPath (mb : Nat)
  /-- ATTEST_REPORT. Produces a signed attestation report for a nonce (R418). -/
  | attestReport (mb : Nat)
  /-- DEBUG_CHALLENGE. Issues a debug unlock challenge with a fresh nonce (R382). -/
  | debugChallenge (mb : Nat)
  /-- DEBUG_UNLOCK. Verifies a debug token and unlocks its scope (R382). -/
  | debugUnlock (mb : Nat)
  /-- MAP_READ. Returns bytes of one version of the repair map (R426). -/
  | mapRead (mb : Nat)
  /-- MASK_FORCE. Stages host-forced SPAD or macropixel masks (R427). -/
  | maskForce (mb : Nat)
  /-- RETIRE. Stages the retirement of an emitter segment (R428). -/
  | retire (mb : Nat)
  /-- EMITTER_SET. Stages emitter-group parameters (R430). -/
  | emitterSet (mb : Nat)
  /-- EMITTER_GET. Returns emitter-group parameters (R430). -/
  | emitterGet (mb : Nat)
  /-- SCANNER_SET. Stages scanner-group parameters, some only in READY (R431). -/
  | scannerSet (mb : Nat)
  /-- SCANNER_GET. Returns scanner-group parameters (R430). -/
  | scannerGet (mb : Nat)
  /-- SENSE_SET. Stages sense-group parameters (R430). -/
  | senseSet (mb : Nat)
  /-- SENSE_GET. Returns sense-group parameters (R430). -/
  | senseGet (mb : Nat)
  /-- LOOP_SET. Stages loop-group parameters, the Tension tick period among them (R218). -/
  | loopSet (mb : Nat)
  /-- LOOP_GET. Returns loop-group parameters (R430). -/
  | loopGet (mb : Nat)
  /-- STREAM_SET. Stages stream-group parameters (R430). -/
  | streamSet (mb : Nat)
  /-- STREAM_GET. Returns stream-group parameters (R430). -/
  | streamGet (mb : Nat)
  /-- NET_SET. Sets network parameters, taking effect at completion (R451). -/
  | netSet (mb : Nat)
  /-- NET_GET. Returns network parameters (R430). -/
  | netGet (mb : Nat)
  /-- DRIVE_READ. Returns the drive words in force or staged (R432). -/
  | driveRead (mb : Nat)
  /-- EMIT_STATUS. Returns segment and bank status words (R432). -/
  | emitStatus (mb : Nat)
  /-- EMIT_COUNTERS. Returns the latched segment frame counters (R432). -/
  | emitCounters (mb : Nat)
  /-- SCAN_STATS. Returns the drive status word and scanner statistics (R432). -/
  | scanStats (mb : Nat)
  /-- ENTRY_READ. Returns the Sedge entry words (R432). -/
  | entryRead (mb : Nat)
  /-- SENSE_VALUES. Returns each member's latest output of a Sedge entry (R432). -/
  | senseValues (mb : Nat)
  /-- LOOP_READ. Returns a slot configuration record (R432). -/
  | loopRead (mb : Nat)
  /-- LOOP_STATUS. Returns the slot status words (R432). -/
  | loopStatus (mb : Nat)
  /-- SUBS_READ. Returns subscription weights, targets and credits (R432). -/
  | subsRead (mb : Nat)
  /-- PORT_STATUS. Returns Sluice port status, drop counters, classes and pool use (R432). -/
  | portStatus (mb : Nat)
  /-- PORT_STATS. Returns the latched port frame counter blocks (R432). -/
  | portStats (mb : Nat)
  /-- PEAT_CONFIG_READ. Returns the Peat configuration (R432). -/
  | peatConfigRead (mb : Nat)
  /-- PEAT_DESCRIPTORS. Returns the Peat state and capture descriptors (R432). -/
  | peatDescriptors (mb : Nat)
  /-- HOOK_RESULT. Returns the Hook A host result record (R432). -/
  | hookResult (mb : Nat)
  /-- SAFE_READ. Returns the committed or pending safety blob (R432). -/
  | safeRead (mb : Nat)
  /-- SAFE_STATUS. Returns the trip words, outputs, fields, inputs and configuration status (R432). -/
  | safeStatus (mb : Nat)
  /-- HST_STATUS. Returns the HST connection status words and counters (R432). -/
  | hstStatus (mb : Nat)
  /-- IP_GET. Returns the IPv4 and IPv6 settings (R432). -/
  | ipGet (mb : Nat)
  /-- MACSEC_STATUS. Returns the MACsec transmit and receive status (R432). -/
  | macsecStatus (mb : Nat)
  /-- NET_STATUS. Returns link, SYNC and network counter status (R432). -/
  | netStatus (mb : Nat)
  /-- EMIT_CLEAR. Clears BAD_SEEN of segments and RES_LOW of banks (R433). -/
  | emitClear (mb : Nat)
  /-- SCAN_CLEAR. Clears the TRIP bit of the drive status word (R433). -/
  | scanClear (mb : Nat)
  /-- LOOP_CLEAR. Clears sticky bits of slot status words (R433). -/
  | loopClear (mb : Nat)
  /-- PORT_CLEAR. Clears WD_BITE or DROP_SEEN of ports (R433). -/
  | portClear (mb : Nat)
  /-- SAFE_CLEAR. Clears FAULT_SEEN of HST connections (R433). -/
  | safeClear (mb : Nat)
  /-- DRIVE_WRITE. Stages drive words for a run of segments (R434). -/
  | driveWrite (mb : Nat)
  /-- EMIT_SELFTEST. Schedules the emitter self-test and returns its result (R435). -/
  | emitSelftest (mb : Nat)
  /-- SCAN_START. Starts the scanner at the next frame tick by requesting L0 into AUTO (R436). -/
  | scanStart (mb : Nat)
  /-- SCAN_STOP. Stops the scanner at the next frame tick and ends a stage trip (R436). -/
  | scanStop (mb : Nat)
  /-- ENTRY_WRITE. Stages Sedge entry words (R437). -/
  | entryWrite (mb : Nat)
  /-- RING_READ. Returns Sedge result records from a record number (R437). -/
  | ringRead (mb : Nat)
  /-- LOOP_WRITE. Stages a slot configuration record (R438). -/
  | loopWrite (mb : Nat)
  /-- LOOP_MODE. Requests a slot mode change (R439). -/
  | loopMode (mb : Nat)
  /-- TRACE_ARM. Programs and arms a trace unit, and completes when its capture stops (R441). -/
  | traceArm (mb : Nat)
  /-- TRACE_TRIGGER. Triggers the named trace units whose trigger source is the command (R441). -/
  | traceTrigger (mb : Nat)
  /-- TRACE_READ. Delivers a trace descriptor and samples as diagnostic entries (R441). -/
  | traceRead (mb : Nat)
  /-- SUBSCRIBE. Stages subscriptions of one port (R442). -/
  | subscribe (mb : Nat)
  /-- POOL_SET. Stages the egress buffer pool sizes in READY (R443). -/
  | poolSet (mb : Nat)
  /-- CLASS_SET. Sets a requester's class on a port (R308). -/
  | classSet (mb : Nat)
  /-- FREEZE. Sets or clears a port's freeze bit for the session (R310). -/
  | freeze (mb : Nat)
  /-- WATCHDOG_SET. Sets a port's grant-hold watchdog (R443). -/
  | watchdogSet (mb : Nat)
  /-- PEAT_CONFIG. Writes the Peat configuration in IDLE (R444). -/
  | peatConfig (mb : Nat)
  /-- PEAT_ARM. Arms Peat and completes at the close of the first capture (R445). -/
  | peatArm (mb : Nat)
  /-- PEAT_TRIGGER. The command trigger of Peat (R445). -/
  | peatTrigger (mb : Nat)
  /-- PEAT_READ. Reads out a closed capture in sealed blocks (R324). -/
  | peatRead (mb : Nat)
  /-- PEAT_RELEASE. Frees a closed capture's segment (R325). -/
  | peatRelease (mb : Nat)
  /-- PEAT_DISARM. Ends recording, aborting any open capture, and returns Peat to IDLE (R445). -/
  | peatDisarm (mb : Nat)
  /-- HOOK_START. Starts a Hook A host job (R446). -/
  | hookStart (mb : Nat)
  /-- SAFE_LOAD. Checks a safety blob and holds it as pending, returning its check (R448). -/
  | safeLoad (mb : Nat)
  /-- SAFE_CONFIRM. Commits the pending safety configuration when its check and identifier match (R449). -/
  | safeConfirm (mb : Nat)
  /-- SAFE_RESUME. Leaves SAFE_STOP for READY and clears the latched trip word (R271). -/
  | safeResume (mb : Nat)
  /-- SAFE_STOP. Latches HOST and trips to SAFE_STOP (R450). -/
  | safeStop (mb : Nat)
  /-- OUTPUT_ACK. Ends the lockout of outputs that have passed their de-energised test (R450). -/
  | outputAck (mb : Nat)
  /-- HST_RESTART. Moves manual-restart connections from FAULT to START (R450). -/
  | hstRestart (mb : Nat)
  /-- IP_SET. Sets or clears an IPv4 or IPv6 address, prefix and gateway (R451). -/
  | ipSet (mb : Nat)
  /-- SA_INSTALL. Installs a MACsec SA, creating a receive channel and mailbox where needed (R452). -/
  | saInstall (mb : Nat)
  /-- SA_DELETE. Deletes a MACsec SA or receive secure channel (R452). -/
  | saDelete (mb : Nat)
  /-- SA_SWITCH. Switches the transmit SA at a frame boundary (R452). -/
  | saSwitch (mb : Nat)
  /-- DEST_SET. Sets or unsets a port-0 stream destination (R453). -/
  | destSet (mb : Nat)
  /-- HST_PEER. Sets an HST connection's peer address and port (R453). -/
  | hstPeer (mb : Nat)
  /-- SYNC_CODE. The master assigns code spacings, dither spans and seeds for frame n (R454). -/
  | syncCode (mb : Nat)
  /-- TRIG_PULSE. Pulses TRIG_OUT (R454). -/
  | trigPulse (mb : Nat)
  /-- DIAG_STAMP. Gathers a stamp statistic of one lane over a gate and a number of frames (R455). -/
  | diagStamp (mb : Nat)
  /-- DIAG_HIST. Copies one lane's coarse histogram at one column and delivers it (R456). -/
  | diagHist (mb : Nat)
  /-- PCIE_LINK_TRAINED. The PCIe link trains up to L0 after reset or PERST_N release, and the link-state-change event (source 106) is
  raised (R357). -/
  | pcieLinkTrained
  /-- PRP_SUPERVISION_LOSS. Supervision frames from a PRP partner stop arriving, and source 98 is raised for the lost supervision (R357). -/
  | prpSupervisionLoss
  /-- COMMIT_CHECK_FAILURE. The check pass of an accepted SESSION_COMMIT ends at its first failed check, so the commit ends with that
  failure's status and the set stays staged (R402). -/
  | commitCheckFailure
  deriving DecidableEq, Repr

end Sys2Proof
end

