-- ==== Sys2Proof/Decode.lean ====
section
/-!
DEFINITION. The command a word of the table spells. Every row of the table has an empty list of bit fields, so no word spells a
command: commands reach this block as themselves (DESIGN CHOICE, assumption log, entry 2).
-/
namespace Sys2Proof

/-- No row of the table gives bits. -/
def decodeTableWord (_nbits _w : Nat) : Option Instr := none

end Sys2Proof
end

