-- ==== Sys2Proof/Machine/Bits.lean ====
section
/-!
DEFINITION. Byte order, bit fields, two's complement, saturation, rounding, sparse tables,
the CRC-32C and the serial-number comparison: what every chapter of the spec uses.
-/
namespace Sys2Proof.Machine

/-- Reduce to an unsigned number of `w` bits (a counter that wraps). -/
def wrapU (w n : Nat) : Nat := n % 2 ^ w

/-- Saturate at full scale of `w` bits (a counter that sticks, R28, R464). -/
def satU (w n : Nat) : Nat := min n (2 ^ w - 1)

/-- A `w`-bit counter has reached full scale. -/
def atFull (w n : Nat) : Bool := decide (2 ^ w - 1 ≤ n)

/-- Saturating increment of a `w`-bit counter. -/
def incSat (w n : Nat) : Nat := satU w (n + 1)

/-- Add to a `w`-bit counter that sticks at full scale: its value, and bit `i` where it has reached full scale (R28). -/
def stick (w i a k : Nat) : Nat × Nat := if a + k < 2 ^ w - 1 then (a + k, 0) else (2 ^ w - 1, 2 ^ i)

/-- Saturate an integer to signed `w` bits. -/
def satS (w : Nat) (x : Int) : Int :=
  if x < -(2 ^ (w - 1) : Int) then -(2 ^ (w - 1) : Int)
  else if x > (2 ^ (w - 1) : Int) - 1 then (2 ^ (w - 1) : Int) - 1 else x

/-- The signed value of a `w`-bit two's complement word. -/
def toS (w n : Nat) : Int :=
  let m := n % 2 ^ w
  if m < 2 ^ (w - 1) then (m : Int) else (m : Int) - (2 ^ w : Nat)

/-- The `w`-bit two's complement word of an integer. -/
def ofS (w : Nat) (x : Int) : Nat := (x % (2 ^ w : Nat)).toNat

/-- The field of `w` bits of `n` from bit `lo`. -/
def field (n lo w : Nat) : Nat := n / 2 ^ lo % 2 ^ w

/-- Bit `i` of `n`. -/
def bit (n i : Nat) : Bool := n / 2 ^ i % 2 == 1

/-- A Bool as a one-bit number at position `lo`. -/
def flag (b : Bool) (lo : Nat) : Nat := if b then 2 ^ lo else 0

/-- `n` with bit `i` set or cleared. -/
def putBit (n i : Nat) (b : Bool) : Nat :=
  if bit n i == b then n else if b then n + 2 ^ i else n - 2 ^ i

/-- How many of the low `w` bits of `n` are set. -/
def popcount (w n : Nat) : Nat := ((List.range w).filter (bit n)).length

/-- The positions below `w` of the set bits of `n`, ascending. -/
def bitList (w n : Nat) : List Nat := (List.range w).filter (bit n)

/-- A bit mask with the listed positions set. -/
def maskOf (l : List Nat) : Nat := l.foldl (fun m i => putBit m i true) 0

/-- Bitwise AND of two numbers of at most `w` bits. -/
def andBits (w a b : Nat) : Nat := maskOf ((List.range w).filter (fun i => bit a i && bit b i))

/-- Bitwise OR of two numbers of at most `w` bits. -/
def orBits (w a b : Nat) : Nat := maskOf ((List.range w).filter (fun i => bit a i || bit b i))

/-- `a` with the bits of `b` cleared, `w` bits. -/
def clrBits (w a b : Nat) : Nat := maskOf ((List.range w).filter (fun i => bit a i && !bit b i))

/-- A number as `k` bytes, least significant first (R7). -/
def le : Nat → Nat → Bytes
  | 0, _ => []
  | k + 1, n => BitVec.ofNat 8 n :: le k (n / 256)

/-- A number as `k` bytes, most significant first. -/
def be (k n : Nat) : Bytes := (le k n).reverse

/-- A signed number as `k` little-endian bytes. -/
def leS (k : Nat) (x : Int) : Bytes := le k (ofS (8 * k) x)

/-- `k` zero bytes. -/
def zeros (k : Nat) : Bytes := List.replicate k 0#8

/-- The little-endian value of a run of bytes. -/
def ofLe : Bytes → Nat
  | [] => 0
  | b :: bs => b.toNat + 256 * ofLe bs

/-- The big-endian value of a run of bytes. -/
def ofBe (bs : Bytes) : Nat := bs.foldl (fun n b => 256 * n + b.toNat) 0

/-- The `k` bytes of `bs` from `off` (short where `bs` ends). -/
def slice (bs : Bytes) (off k : Nat) : Bytes := (bs.drop off).take k

/-- The little-endian unsigned field of `k` bytes at `off`. -/
def rdU (bs : Bytes) (off k : Nat) : Nat := ofLe (slice bs off k)

/-- The little-endian signed field of `k` bytes at `off`. -/
def rdS (bs : Bytes) (off k : Nat) : Int := toS (8 * k) (rdU bs off k)

/-- The big-endian unsigned field of `k` bytes at `off`. -/
def rdB (bs : Bytes) (off k : Nat) : Nat := ofBe (slice bs off k)

/-- All the bytes from `off`, `k` of them, are zero. -/
def zeroAt (bs : Bytes) (off k : Nat) : Bool := (slice bs off k).all (· == 0#8)

/-- `bs` padded with zeros to, or cut at, `k` bytes. -/
def fitTo (k : Nat) (bs : Bytes) : Bytes := (bs ++ zeros (k - bs.length)).take k

/-- `n / d` to the nearest integer, ties away from zero (R14). -/
def roundDiv (n : Int) (d : Nat) : Int :=
  if d = 0 then 0
  else if n < 0 then -((-n * 2 + d) / (2 * d)) else (n * 2 + d) / (2 * d)

/-- `n / d` rounded toward zero. -/
def truncDiv (n : Int) (d : Nat) : Int := if n < 0 then -((-n) / d) else n / d

/-- `n / d` rounded up. -/
def ceilDiv (n d : Nat) : Nat := (n + d - 1) / d

/-- An integer held between bounds. -/
def clampI (lo hi x : Int) : Int := if x < lo then lo else if x > hi then hi else x

/-- A natural number held between bounds. -/
def clampN (lo hi x : Nat) : Nat := if x < lo then lo else if x > hi then hi else x

/-- One bit of the integer square root, from the top: `r` grows by `2^k` while its square fits. -/
def isqrtBits (n : Nat) : Nat → Nat → Nat
  | 0, r => r
  | k + 1, r => if (r + 2 ^ k) * (r + 2 ^ k) ≤ n then isqrtBits n k (r + 2 ^ k) else isqrtBits n k r

/-- The floor of the square root of a number below 2^256. -/
def isqrt (n : Nat) : Nat := isqrtBits n 128 0

/-- The square root to the nearest integer. -/
def isqrtRound (n : Nat) : Nat := let r := isqrt n; if n > r * r + r then r + 1 else r

/-- The entry of a sparse table, or its default. -/
def tabGet {α : Type} (d : α) : Tab α → Nat → α
  | [], _ => d
  | (k, v) :: t, i => if k = i then v else if i < k then d else tabGet d t i

/-- Put an entry at its place in the order. -/
def tabPut {α : Type} (k : Nat) (v : α) : Tab α → Tab α
  | [] => [(k, v)]
  | (j, w) :: t => if j < k then (j, w) :: tabPut k v t else if j = k then (k, v) :: t else (k, v) :: (j, w) :: t

/-- Remove an entry. -/
def tabDel {α : Type} (k : Nat) : Tab α → Tab α
  | [] => []
  | (j, w) :: t => if j = k then t else (j, w) :: tabDel k t

/-- Write an entry; the default is never listed. -/
def tabSet {α : Type} [DecidableEq α] (d : α) (t : Tab α) (k : Nat) (v : α) : Tab α :=
  if v = d then tabDel k t else tabPut k v t

/-- Change an entry by a function. -/
def tabMod {α : Type} [DecidableEq α] (d : α) (t : Tab α) (k : Nat) (f : α → α) : Tab α :=
  tabSet d t k (f (tabGet d t k))

/-- The table of `f` over `0 … n − 1`, without the defaults. -/
def tabOf {α : Type} [DecidableEq α] (d : α) (n : Nat) (f : Nat → α) : Tab α :=
  (List.range n).filterMap (fun i => if f i = d then none else some (i, f i))

/-- A sparse table lists its keys strictly rising and never its default. -/
def tabWf {α : Type} [DecidableEq α] (d : α) : Tab α → Bool
  | [] => true
  | [(_, v)] => !decide (v = d)
  | (k, v) :: (j, w) :: t => decide (k < j) && !decide (v = d) && tabWf d ((j, w) :: t)

/-- Change the element at a place of a list (nothing where there is none). -/
def listMod {α : Type} (l : List α) (i : Nat) (f : α → α) : List α := l.modify i f

/-- The element of a list, or a default. -/
def listGet {α : Type} (d : α) (l : List α) (i : Nat) : α := l.getD i d

/-- `k` serially later than `h` in `w` bits (R13): the difference modulo `2^w` lies in `1 … 2^(w−1) − 1`. -/
def laterThan (w k h : Nat) : Bool :=
  let d := (k + 2 ^ w - h % 2 ^ w) % 2 ^ w
  decide (1 ≤ d ∧ d < 2 ^ (w - 1))

/-- One bit of the reflected CRC-32C register. -/
def crcBit (c : BitVec 32) : BitVec 32 :=
  if c.getLsbD 0 then (c >>> 1) ^^^ 0x82F63B78#32 else c >>> 1

/-- One byte into the reflected CRC-32C register. -/
def crcByte (c : BitVec 32) (b : Byte) : BitVec 32 :=
  crcBit (crcBit (crcBit (crcBit (crcBit (crcBit (crcBit (crcBit (c ^^^ b.setWidth 32))))))))

/-- The CRC-32C of a message: register all ones before, complemented after. -/
def crc32c (bs : Bytes) : Nat := ((bs.foldl crcByte 0xFFFFFFFF#32) ^^^ 0xFFFFFFFF#32).toNat

/-! ### The Hook check (R278) -/

/-- The register's start: the complement of a XOR s rotated left by 16. -/
def hookInit (a s : Nat) : BitVec 32 := ~~~ (BitVec.ofNat 32 a ^^^ (BitVec.ofNat 32 s).rotateLeft 16)

/-- H(a, s, M). -/
def hookCheck (a s : Nat) (m : Bytes) : Nat := (m.foldl crcByte (hookInit a s) ^^^ 0xFFFFFFFF#32).toNat

/-- What differs between a block as it was checked and as it is read: bytes of XOR at their offsets, zero elsewhere. -/
def diffBytes (len : Nat) (flips : List (Nat × Nat)) : Bytes :=
  (List.range len).map (fun i => ((flips.filter (fun f => f.1 == i)).foldl (fun x f => x ^^^ BitVec.ofNat 8 f.2) 0#8))

/-- The check of a block read at fold a', where M reads as M XOR D, differs by other than `x` from the reference H(a, s, M). The check is
linear over XOR, so H(a', s, M XOR D) XOR H(a, s, M) = H(a', s, D) XOR H(a, s, 0): the contents themselves drop out. -/
def hookDiffers (a a' s len : Nat) (flips : List (Nat × Nat)) (x : Nat) : Bool :=
  !(a == a' && flips.isEmpty && x == 0) &&
    (hookCheck a' s (diffBytes len flips) ^^^ hookCheck a s (List.replicate len 0#8)) != x

end Sys2Proof.Machine
end

