-- ==== Sys2Proof/Machine/Crypto.lean ====
section
/-!
DEFINITION. The published algorithms the spec names for images, measurements and tokens: SHA-256 and SHA-384
(FIPS 180-4), ECDSA P-384 verification (FIPS 186-5) and LMS verification (RFC 8554, SP 800-208), used by R374 to R379.
All of them are big-endian (R375).
-/
namespace Sys2Proof.Machine

/-! ### SHA-2 -/

/-- The first fractional bits of the cube roots of the primes, 64 bits. -/
def sha512K : List (BitVec 64) :=
  ([0x428a2f98d728ae22, 0x7137449123ef65cd, 0xb5c0fbcfec4d3b2f, 0xe9b5dba58189dbbc] ++
   [0x3956c25bf348b538, 0x59f111f1b605d019, 0x923f82a4af194f9b, 0xab1c5ed5da6d8118] ++
   [0xd807aa98a3030242, 0x12835b0145706fbe, 0x243185be4ee4b28c, 0x550c7dc3d5ffb4e2] ++
   [0x72be5d74f27b896f, 0x80deb1fe3b1696b1, 0x9bdc06a725c71235, 0xc19bf174cf692694] ++
   [0xe49b69c19ef14ad2, 0xefbe4786384f25e3, 0x0fc19dc68b8cd5b5, 0x240ca1cc77ac9c65] ++
   [0x2de92c6f592b0275, 0x4a7484aa6ea6e483, 0x5cb0a9dcbd41fbd4, 0x76f988da831153b5] ++
   [0x983e5152ee66dfab, 0xa831c66d2db43210, 0xb00327c898fb213f, 0xbf597fc7beef0ee4] ++
   [0xc6e00bf33da88fc2, 0xd5a79147930aa725, 0x06ca6351e003826f, 0x142929670a0e6e70] ++
   [0x27b70a8546d22ffc, 0x2e1b21385c26c926, 0x4d2c6dfc5ac42aed, 0x53380d139d95b3df] ++
   [0x650a73548baf63de, 0x766a0abb3c77b2a8, 0x81c2c92e47edaee6, 0x92722c851482353b] ++
   [0xa2bfe8a14cf10364, 0xa81a664bbc423001, 0xc24b8b70d0f89791, 0xc76c51a30654be30] ++
   [0xd192e819d6ef5218, 0xd69906245565a910, 0xf40e35855771202a, 0x106aa07032bbd1b8] ++
   [0x19a4c116b8d2d0c8, 0x1e376c085141ab53, 0x2748774cdf8eeb99, 0x34b0bcb5e19b48a8] ++
   [0x391c0cb3c5c95a63, 0x4ed8aa4ae3418acb, 0x5b9cca4f7763e373, 0x682e6ff3d6b2b8a3] ++
   [0x748f82ee5defb2fc, 0x78a5636f43172f60, 0x84c87814a1f0ab72, 0x8cc702081a6439ec] ++
   [0x90befffa23631e28, 0xa4506cebde82bde9, 0xbef9a3f7b2c67915, 0xc67178f2e372532b] ++
   [0xca273eceea26619c, 0xd186b8c721c0c207, 0xeada7dd6cde0eb1e, 0xf57d4f7fee6ed178] ++
   [0x06f067aa72176fba, 0x0a637dc5a2c898a6, 0x113f9804bef90dae, 0x1b710b35131c471b] ++
   [0x28db77f523047d84, 0x32caab7b40c72493, 0x3c9ebe0a15c9bebc, 0x431d67c49c100d4c] ++
   [0x4cc5d4becb3e42b6, 0x597f299cfc657e2a, 0x5fcb6fab3ad6faec, 0x6c44198c4a475817] : List Nat).map (BitVec.ofNat 64)

/-- Likewise, 32 bits. -/
def sha256K : List (BitVec 32) :=
  ([0x428a2f98, 0x71374491, 0xb5c0fbcf, 0xe9b5dba5, 0x3956c25b, 0x59f111f1, 0x923f82a4, 0xab1c5ed5] ++
   [0xd807aa98, 0x12835b01, 0x243185be, 0x550c7dc3, 0x72be5d74, 0x80deb1fe, 0x9bdc06a7, 0xc19bf174] ++
   [0xe49b69c1, 0xefbe4786, 0x0fc19dc6, 0x240ca1cc, 0x2de92c6f, 0x4a7484aa, 0x5cb0a9dc, 0x76f988da] ++
   [0x983e5152, 0xa831c66d, 0xb00327c8, 0xbf597fc7, 0xc6e00bf3, 0xd5a79147, 0x06ca6351, 0x14292967] ++
   [0x27b70a85, 0x2e1b2138, 0x4d2c6dfc, 0x53380d13, 0x650a7354, 0x766a0abb, 0x81c2c92e, 0x92722c85] ++
   [0xa2bfe8a1, 0xa81a664b, 0xc24b8b70, 0xc76c51a3, 0xd192e819, 0xd6990624, 0xf40e3585, 0x106aa070] ++
   [0x19a4c116, 0x1e376c08, 0x2748774c, 0x34b0bcb5, 0x391c0cb3, 0x4ed8aa4a, 0x5b9cca4f, 0x682e6ff3] ++
   [0x748f82ee, 0x78a5636f, 0x84c87814, 0x8cc70208, 0x90befffa, 0xa4506ceb, 0xbef9a3f7, 0xc67178f2] : List Nat).map (BitVec.ofNat 32)

/-- Initial words of SHA-384. -/
def sha384Init : List (BitVec 64) :=
  ([0xcbbb9d5dc1059ed8, 0x629a292a367cd507, 0x9159015a3070dd17, 0x152fecd8f70e5939] ++
   [0x67332667ffc00b31, 0x8eb44a8768581511, 0xdb0c2e0d64f98fa7, 0x47b5481dbefa4fa4] : List Nat).map (BitVec.ofNat 64)

/-- Initial words of SHA-256. -/
def sha256Init : List (BitVec 32) :=
  ([0x6a09e667, 0xbb67ae85, 0x3c6ef372, 0xa54ff53a, 0x510e527f, 0x9b05688c, 0x1f83d9ab, 0x5be0cd19] : List Nat).map (BitVec.ofNat 32)

/-- Rotations and shifts of a SHA-2 variant: Σ0, Σ1 (three rotations each), σ0, σ1 (two rotations and a shift). -/
structure ShaShape where
  a0 : List Nat
  a1 : List Nat
  s0 : List Nat
  s1 : List Nat

def shape512 : ShaShape := ⟨[28, 34, 39], [14, 18, 41], [1, 8, 7], [19, 61, 6]⟩
def shape256 : ShaShape := ⟨[2, 13, 22], [6, 11, 25], [7, 18, 3], [17, 19, 10]⟩

variable {w : Nat}

def shaSum (rs : List Nat) (x : BitVec w) : BitVec w :=
  x.rotateRight (rs.getD 0 0) ^^^ x.rotateRight (rs.getD 1 0) ^^^ x.rotateRight (rs.getD 2 0)

def shaMix (rs : List Nat) (x : BitVec w) : BitVec w :=
  x.rotateRight (rs.getD 0 0) ^^^ x.rotateRight (rs.getD 1 0) ^^^ (x >>> (rs.getD 2 0))

/-- The next words of the message schedule, newest first. -/
def shaSchedule (h : ShaShape) : Nat → List (BitVec w) → List (BitVec w)
  | 0, ws => ws
  | n + 1, ws =>
    let g (i : Nat) := ws.getD i 0#w
    shaSchedule h n ((shaMix h.s1 (g 1) + g 6 + shaMix h.s0 (g 14) + g 15) :: ws)

/-- One round on the eight working words. -/
def shaRound (h : ShaShape) (v : List (BitVec w)) (kw : BitVec w × BitVec w) : List (BitVec w) :=
  match v with
  | [a, b, c, d, e, f, g, x] =>
    let t1 := x + shaSum h.a1 e + ((e &&& f) ^^^ (~~~e &&& g)) + kw.1 + kw.2
    let t2 := shaSum h.a0 a + ((a &&& b) ^^^ (a &&& c) ^^^ (b &&& c))
    [t1 + t2, a, b, c, d + t1, e, f, g]
  | _ => v

/-- One block into the chaining words. -/
def shaBlock (h : ShaShape) (ks : List (BitVec w)) (st : List (BitVec w)) (block : Bytes) : List (BitVec w) :=
  let k := w / 8
  let m := (List.range 16).map (fun i => BitVec.ofNat w (rdB block (k * i) k))
  let ws := (shaSchedule h (ks.length - 16) m.reverse).reverse
  List.zipWith (· + ·) st ((ks.zip ws).foldl (shaRound h) st)

/-- Padding to whole blocks of 16 words. -/
def shaPad (k : Nat) (m : Bytes) : Bytes :=
  let b := 16 * k
  m ++ 0x80#8 :: zeros ((2 * b - 1 - 2 * k - m.length % b) % b) ++ be (2 * k) (8 * m.length)

/-- A run of bytes cut into blocks. -/
def blocksOf (k : Nat) : Nat → Bytes → List Bytes
  | 0, _ => []
  | n + 1, m => m.take k :: blocksOf k n (m.drop k)

def shaBytes (h : ShaShape) (ks st : List (BitVec w)) (m : Bytes) : Bytes :=
  let k := w / 8
  let p := shaPad k m
  (((blocksOf (16 * k) (p.length / (16 * k)) p).foldl (shaBlock h ks) st).map (fun x => be k x.toNat)).flatten

def sha256 (m : Bytes) : Bytes := shaBytes shape256 sha256K sha256Init m
def sha384 (m : Bytes) : Bytes := (shaBytes shape512 sha512K sha384Init m).take 48

/-! ### ECDSA P-384 -/

def p384P : Nat := 2 ^ 384 - 2 ^ 128 - 2 ^ 96 + 2 ^ 32 - 1
def p384N : Nat := 0xffffffffffffffffffffffffffffffffffffffffffffffffc7634d81f4372ddf581a0db248b0a77aecec196accc52973
def p384B : Nat := 0xb3312fa7e23ee7e4988e056be3f82d19181d9c6efe8141120314088f5013875ac656398d8a2ed19d2a85c8edd3ec2aef
def p384G : Nat × Nat :=
  (0xaa87ca22be8b05378eb1c71ef320ad746e1d3b628ba79b9859f741e082542a385502f25dbf55296c3a545e3872760ab7,
   0x3617de4a96262c6f5d9e98bf9292dc29f8f41dbd289a147ce9da3113b5f0b8c00a60b1ce1d7e819d7a431d7c90ea0e5f)

/-- `a^e mod m` over the low `k` bits of `e`. -/
def powMod (m : Nat) : Nat → Nat → Nat → Nat
  | 0, _, _ => 1 % m
  | k + 1, a, e => (if e % 2 = 1 then a else 1) * powMod m k (a * a % m) (e / 2) % m

/-- The inverse modulo a prime of 384 bits. -/
def invMod (m a : Nat) : Nat := powMod m 384 (a % m) (m - 2)

/-- Difference in the field. -/
def fieldSub (a b : Nat) : Nat := (a + p384P - b % p384P) % p384P

/-- Addition on the curve; `none` the point at infinity. -/
def curveAdd (a b : Option (Nat × Nat)) : Option (Nat × Nat) :=
  match a, b with
  | none, q => q
  | p, none => p
  | some p, some q =>
    if p.1 = q.1 ∧ (p.2 + q.2) % p384P = 0 then none
    else
      let l := if p.1 = q.1 then (fieldSub (3 * p.1 * p.1) 3 * invMod p384P (2 * p.2)) % p384P
        else (fieldSub q.2 p.2 * invMod p384P (fieldSub q.1 p.1)) % p384P
      let x := fieldSub (l * l) (p.1 + q.1)
      some (x, fieldSub (l * fieldSub p.1 x) p.2)

/-- A multiple, over the low `k` bits of the factor. -/
def curveMul : Nat → Nat → Option (Nat × Nat) → Option (Nat × Nat)
  | 0, _, _ => none
  | k + 1, e, p => curveAdd (if e % 2 = 1 then p else none) (curveMul k (e / 2) (curveAdd p p))

/-- An ECDSA P-384 signature (r then s) over a SHA-384 digest verifies under a public key (x then y). -/
def ecdsaOk (key digest sig : Bytes) : Bool :=
  let x := rdB key 0 48
  let y := rdB key 48 48
  let r := rdB sig 0 48
  let s := rdB sig 48 48
  let onCurve := decide (x < p384P ∧ y < p384P ∧ (y * y) % p384P = fieldSub (x * x * x + p384B) (3 * x))
  let v := invMod p384N s
  let u1 := ofBe digest * v % p384N
  let u2 := r * v % p384N
  decide (0 < r ∧ r < p384N ∧ 0 < s ∧ s < p384N) && onCurve &&
    (match curveAdd (curveMul 384 u1 (some p384G)) (curveMul 384 u2 (some (x, y))) with
      | some q => q.1 % p384N == r
      | none => false)

/-! ### LMS -/

/-- The tree height of an LMS_SHA256_M32 type: 10, 15 or 20. -/
def lmsHeight (t : Nat) : Option Nat := if t = 6 then some 10 else if t = 7 then some 15 else if t = 8 then some 20 else none

/-- Bits per digit, digits and checksum shift of LMOTS_SHA256_N32_W4 and W8. -/
def otsShape (t : Nat) : Option (Nat × Nat × Nat) := if t = 3 then some (4, 67, 4) else if t = 4 then some (8, 34, 0) else none

/-- Digit `i` of a byte string in base `2^w`. -/
def otsDigit (m : Bytes) (w i : Nat) : Nat := if w = 8 then rdB m i 1 else rdB m (i / 2) 1 / (if i % 2 = 0 then 16 else 1) % 16

/-- Climb a hash chain `n` steps from step `j`. -/
def otsChain (pre : Bytes) : Nat → Nat → Bytes → Bytes
  | 0, _, x => x
  | n + 1, j, x => otsChain pre n (j + 1) (sha256 (pre ++ be 1 j ++ x))

/-- The one-time public key a signature leads to. -/
def otsKey (ident : Bytes) (q : Nat) (sh : Nat × Nat × Nat) (sig m : Bytes) : Bytes :=
  let w := sh.1
  let d := sha256 (ident ++ be 4 q ++ be 2 0x8181 ++ slice sig 4 32 ++ m)
  let sum := ((List.range (256 / w)).map (fun i => 2 ^ w - 1 - otsDigit d w i)).sum
  let dc := d ++ be 2 (sum * 2 ^ sh.2.2)
  let z := (List.range sh.2.1).map (fun i =>
    let a := otsDigit dc w i
    otsChain (ident ++ be 4 q ++ be 2 i) (2 ^ w - 1 - a) a (slice sig (36 + 32 * i) 32))
  sha256 (ident ++ be 4 q ++ be 2 0x8080 ++ z.flatten)

/-- Climb a tree from a node with its authentication path. -/
def treeClimb (ident : Bytes) : Nat → Bytes → List Bytes → Bytes
  | _, x, [] => x
  | r, x, p :: ps =>
    treeClimb ident (r / 2) (sha256 (ident ++ be 4 (r / 2) ++ be 2 0x8383 ++ (if r % 2 = 1 then p ++ x else x ++ p))) ps

/-- An LMS signature over a message verifies under a 56-byte public key. -/
def lmsOk (key m sig : Bytes) : Bool :=
  match lmsHeight (rdB key 0 4), otsShape (rdB key 4 4) with
  | some h, some sh =>
    let ident := slice key 8 16
    let q := rdB sig 0 4
    let ots := 4 + 32 * sh.2.1 + 32
    let path := (List.range h).map (fun i => slice sig (4 + ots + 4 + 32 * i) 32)
    sig.length == 4 + ots + 4 + 32 * h && rdB sig 4 4 == rdB key 4 4 && rdB sig (4 + ots) 4 == rdB key 0 4 && decide (q < 2 ^ h) &&
      treeClimb ident (2 ^ h + q) (sha256 (ident ++ be 4 (2 ^ h + q) ++ be 2 0x8282 ++ otsKey ident q sh (slice sig 4 ots) m)) path ==
        slice key 24 32
  | _, _ => false

end Sys2Proof.Machine
end

