-- ==== Sys2Proof/Config.lean ====
section
/-!
DEFINITION. What one manufactured device fixes and what the spec leaves open: opaque constants with
no value in the model. A statement about any of them holds for every value.
-/
namespace Sys2Proof.Config

/-- The factory device ID, 16 bytes (R371, R413). DESIGN CHOICE: open, entry 5, like every constant below. -/
opaque deviceIdByte : Nat → BitVec 8

/-- The boot ROM version (R371). -/
opaque romVersion : Nat

/-- A byte of the OTP digests (R374, R379): of Elvah's ECDSA key (0), of Elvah's LMS key (1), of this device's top-tree
public key (2); 48 bytes each. -/
opaque otpDigestByte : Nat → Nat → BitVec 8

/-- Free values: the `n`-th open value the machine meets (DESIGN CHOICE, assumption log, entry 5). -/
opaque free : Nat → Nat

/-- Free byte strings (signatures and other outputs of keys the device keeps): byte `i` of the `n`-th. -/
opaque freeByte : Nat → Nat → BitVec 8

/-- The `n`-th draw from the device's jitter source, reduced where it is used (R400). -/
opaque jitter : Nat → Nat

/-- The evaluation error of the reed bed's fixed-point arithmetic (R70), in 1/10 000, by dwell number,
lane and quantity; used only within its 1 % bound (DESIGN CHOICE, entry 42). -/
opaque bedError : Nat → Nat → Nat → Int

/-- The contents of loop records the vendor programs at cast-on (R224): byte `i` of slot `n`. -/
opaque loopByte : Nat → Nat → BitVec 8

/-- Byte `i` of leaf `q` of this device's top LMS tree, and of the tree's identifier (R377): derived in the device from
its PUF. -/
opaque topLeafByte : Nat → Nat → BitVec 8
opaque topIdentByte : Nat → BitVec 8

/-- Whether a reservation fuse reads burned after an attempt (R378), by fuse and by the draw of the attempt. -/
opaque fuseReads : Nat → Nat → Bool

/-- How a debug token stands against a challenge's digest (R382), whose layout Elvah keeps: 0 valid, 1 malformed, 2 a key
unlike its digest, otherwise a digest or signature that fails (DESIGN CHOICE, entry 57). -/
opaque tokenVerdict : List (BitVec 8) → List (BitVec 8) → Nat

/-- The firmware-defined event source, reduced to 768 to 1 023, of the event that R51 names without a number (DESIGN CHOICE, entry
62). -/
opaque fitEvent : Nat

/-- The scaling of a Sedge source whose front end the spec does not give: the value in the source's unit of µV at the converter's input
(R203; DESIGN CHOICE, entry 31). -/
opaque sedgeUnit : Nat → Int → Int

/-- The gain code of the bridge outputs' conversions, reduced modulo 4 (R203; DESIGN CHOICE, entry 31). -/
opaque bridgeGain : Nat

/-- What a block of Tussock's SRAM holds: 0 safety code, 1 the committed configuration, any other value data. The spec gives no layout
(R285; DESIGN CHOICE, entry 76). -/
opaque tussockBlock : Nat → Nat

/-- The priority, reduced modulo 8, of port-0 frames that belong to no requester class: supervision, ARP, neighbour discovery and echo
(R330; DESIGN CHOICE, entry 78). -/
opaque otherPcp : Nat

/-- What the destination of loop slot L10 or L11 holds while the slot is OFF (R226), reduced to its range: 18.00 V to 34.00 V in
10 mV, 25 % to 100 % in 0.01 % (DESIGN CHOICE, entry 53). -/
opaque idleOutput : Nat → Nat

end Sys2Proof.Config
end

