-- ==== Sys2Proof/Machine/Params.lean ====
section
/-!
DEFINITION. The parameter tables of R423 and R430: identifiers, ranges and defaults, one row per run
of identifiers.
-/
namespace Sys2Proof.Machine

/-- The device ID as 16 bytes. -/
def deviceId : Bytes := (List.range 16).map Config.deviceIdByte

/-- CRC-32C of the device ID (R123, R330). -/
def deviceCrc : Nat := crc32c deviceId

/-- A run of `count` parameters from `first` with one range and one default. -/
structure ParamRow where
  first : Nat
  count : Nat
  lo : Int
  hi : Int
  signed : Bool
  dflt : Nat
  deriving DecidableEq, Repr

/-- Receive, time and point groups (R423). The per-device defaults of 0x0420 and 0x0422 stand in `paramDefault`. -/
def paramRowsA : List ParamRow :=
  [⟨0x0401, 1, 4, 24, false, 8⟩, ⟨0x0402, 1, 0, 1, false, 0⟩, ⟨0x0403, 1, 1, 4, false, 2⟩,
   ⟨0x0404, 1, 1, 4, false, 1⟩, ⟨0x0405, 1, 1, 4, false, 4⟩, ⟨0x0406, 1, 1, 4, false, 2⟩,
   ⟨0x0407, 1, 1, 128, false, 32⟩, ⟨0x0408, 1, 16, 255, false, 80⟩, ⟨0x0409, 1, 1, 1023, false, 2⟩,
   ⟨0x040A, 1, 8, 24, false, 12⟩, ⟨0x0410, 1, 8, 4095, false, 32⟩, ⟨0x0411, 1, 2, 16, false, 4⟩,
   ⟨0x0418, 1, 150, 500, false, 300⟩, ⟨0x0419, 2, 0, 1, false, 1⟩]

def paramRowsB : List ParamRow :=
  [⟨0x0420, 1, 8, 40, false, 0⟩, ⟨0x0422, 1, 1, 0x7FFFFFFF, false, 0⟩, ⟨0x0423, 1, 0, 1, false, 0⟩,
   ⟨0x0428, 1, 1, 255, false, 4⟩, ⟨0x0429, 1, 15, 255, false, 16⟩, ⟨0x042A, 1, 0, 60, false, 8⟩,
   ⟨0x042B, 1, 4, 64, false, 20⟩, ⟨0x042C, 1, -16383, 16383, true, 0⟩, ⟨0x0501, 1, 0, 1, false, 0⟩,
   ⟨0x0502, 1, 0, 199999999, false, 0⟩, ⟨0x0601, 1, 32, 1024, false, 256⟩, ⟨0x0602, 1, 1, 100, false, 10⟩,
   ⟨0x0603, 1, 0, 255, false, 64⟩, ⟨0x0604, 1, 1, 15, false, 4⟩, ⟨0x0605, 1, 2, 240, false, 80⟩,
   ⟨0x0606, 1, 16, 64, false, 40⟩, ⟨0x0607, 1, 5, 32, false, 8⟩, ⟨0x0610, 16, 0, 2, false, 1⟩]

/-- Emitter, scanner, sense and loop groups (R430). -/
def paramRowsC : List ParamRow :=
  [⟨0x0701, 1, 0, 100, false, 45⟩, ⟨0x0702, 1, -2000, 6000, true, 1500⟩, ⟨0x0801, 1, 0, 2, false, 0⟩,
   ⟨0x0802, 1, 10, 400, false, 400⟩, ⟨0x0803, 1, 1000, 60000, false, 60000⟩, ⟨0x0804, 1, 0, 4, false, 0⟩,
   ⟨0x0805, 1, 100, 20000, false, 3000⟩, ⟨0x0806, 1, 10, 10000, false, 1500⟩,
   ⟨0x0807, 1, 10000, 90000, false, 65000⟩, ⟨0x0808, 1, 5, 500, false, 20⟩, ⟨0x0809, 1, 1, 16, false, 1⟩,
   ⟨0x080A, 1, 5, 25, false, 20⟩, ⟨0x080B, 1, 0, 3, false, 2⟩,
   ⟨0x080C, 1, -2147483648, 2147483647, true, 0⟩, ⟨0x0810, 16, 0, 0xFFFFFFFF, false, 0⟩,
   ⟨0x0901, 1, 1, 1000, false, 10⟩, ⟨0x0902, 1, 1, 50, false, 4⟩, ⟨0x0903, 1, 5, 500, false, 20⟩,
   ⟨0x0904, 1, 0, 1, false, 1⟩, ⟨0x0910, 4, 100, 1000000, false, 10000⟩, ⟨0x0914, 4, 2000, 6000, false, 3435⟩,
   ⟨0x0A01, 1, 1000, 10000, false, 2000⟩]

/-- Stream and network groups (R430). 0x0B23 and 0x0F03 have rules of their own in `paramOk`. -/
def paramRowsD : List ParamRow :=
  [⟨0x0B01, 6, 8, 4096, false, 512⟩, ⟨0x0B07, 1, 80, 4096, false, 512⟩, ⟨0x0B10, 16, 0, 63, false, 0⟩,
   ⟨0x0B20, 3, 0, 7, false, 7⟩, ⟨0x0B23, 1, 0, 255, false, 0xFF⟩, ⟨0x0F01, 2, 0, 1, false, 0⟩,
   ⟨0x0F03, 1, 0, 0xFFFFFFFF, false, 0⟩, ⟨0x0F04, 1, 0, 0xFFFF, false, 0⟩, ⟨0x0F05, 1, 0, 4094, false, 0⟩,
   ⟨0x0F06, 1, 0, 0xFFF, false, 0x32E⟩, ⟨0x0F07, 1, 1280, 2000, false, 1500⟩, ⟨0x0F08, 1, 0, 1, false, 0⟩,
   ⟨0x0F09, 1, 0, 1024, false, 64⟩, ⟨0x0F0A, 1, 0, 2, false, 0⟩, ⟨0x0F0B, 1, 0, 7, false, 0⟩,
   ⟨0x0F0C, 1, 0, 1, false, 0⟩, ⟨0x0F0D, 1, 0, 0xFF, false, 0⟩, ⟨0x0F10, 1, 0, 1, false, 0⟩,
   ⟨0x0F11, 1, 0, 3, false, 2⟩, ⟨0x0F12, 1, 1, 1000, false, 10⟩, ⟨0x0F13, 2, 0, 1, false, 0⟩]

/-- The dither span (0x0421) takes one of four values (R423). -/
def ditherSpans : List Nat := [8, 16, 24, 32]

/-- The row that holds an identifier. -/
def paramRow (id : Nat) : Option ParamRow :=
  (paramRowsA ++ paramRowsB ++ paramRowsC ++ paramRowsD).find?
    (fun r => decide (r.first ≤ id ∧ id < r.first + r.count))

/-- The identifier is one of the tables'. -/
def paramKnown (id : Nat) : Bool := id == 0x0421 || (paramRow id).isSome

/-- Default code spacing and seed of R123, and the MAC address of R330, from the device ID; every
other default from its row. -/
def paramDefault (id : Nat) : Nat :=
  if id = 0x0420 then 8 + deviceCrc / 2 ^ 24 % 13
  else if id = 0x0421 then 24
  else if id = 0x0422 then (let k := deviceCrc % 2 ^ 31; if k = 0 then 1 else k)
  else if id = 0x0F03 then 0x02 + 0xE1 * 2 ^ 8 + field deviceCrc 24 8 * 2 ^ 16 + field deviceCrc 16 8 * 2 ^ 24
  else if id = 0x0F04 then field deviceCrc 8 8 + field deviceCrc 0 8 * 2 ^ 8
  else match paramRow id with
    | some r => r.dflt
    | none => 0

/-- The value of a parameter word, signed where its row says so. -/
def paramValue (id raw : Nat) : Int :=
  match paramRow id with
  | some r => if r.signed then toS 32 raw else (raw : Int)
  | none => (raw : Int)

/-- The range test of one entry (R423, R430); the first byte of a unicast address has bit 0 clear. -/
def paramOk (id raw : Nat) : Bool :=
  if id = 0x0421 then ditherSpans.contains raw
  else if id = 0x0B23 then decide (raw ≤ 7 ∨ raw = 0xFF)
  else if id = 0x0F03 then decide (raw < 2 ^ 32 ∧ raw % 2 = 0)
  else match paramRow id with
    | some r => decide (r.lo ≤ paramValue id raw ∧ paramValue id raw ≤ r.hi)
    | none => false

/-- Parameters accepted only in READY (R190, R431). -/
def paramReadyOnly (id : Nat) : Bool := decide (0x0801 ≤ id ∧ id ≤ 0x0804)

/-- The value in force in a table of written values. -/
def paramIn (vals : Tab Nat) (id : Nat) : Nat :=
  match vals.find? (fun e => e.1 == id) with
  | some e => e.2
  | none => paramDefault id

/-- The signed value in force. -/
def paramInS (vals : Tab Nat) (id : Nat) : Int := paramValue id (paramIn vals id)

end Sys2Proof.Machine
end

