-- ==== Sys2Proof/Machine/Frac.lean ====
section
/-!
DEFINITION. Exact fractions for the firmware's kinematics and energies: plain numerator over
denominator, reduced after every operation, so that a comparison in a rule is exact.
-/
namespace Sys2Proof.Machine

/-- A fraction `num / den` with `den ≥ 1`. -/
structure Frac where
  num : Int
  den : Nat
  deriving DecidableEq, Repr

/-- Lowest terms of `n / d`; a zero denominator gives 0. -/
def fracMk (n : Int) (d : Nat) : Frac :=
  if d = 0 then ⟨0, 1⟩
  else let g := Nat.gcd n.natAbs d; ⟨n / (g : Int), d / g⟩

/-- An integer as a fraction. -/
def fracI (n : Int) : Frac := ⟨n, 1⟩

/-- A natural number as a fraction. -/
def fracN (n : Nat) : Frac := ⟨(n : Int), 1⟩

def fracAdd (a b : Frac) : Frac := fracMk (a.num * b.den + b.num * a.den) (a.den * b.den)
def fracNeg (a : Frac) : Frac := ⟨-a.num, a.den⟩
def fracSub (a b : Frac) : Frac := fracAdd a (fracNeg b)
def fracMul (a b : Frac) : Frac := fracMk (a.num * b.num) (a.den * b.den)

/-- The quotient; dividing by zero gives 0. -/
def fracDiv (a b : Frac) : Frac :=
  if b.num = 0 then fracI 0
  else if b.num < 0 then fracMk (-a.num * b.den) (a.den * b.num.natAbs)
  else fracMk (a.num * b.den) (a.den * b.num.natAbs)

def fracLe (a b : Frac) : Bool := decide (a.num * b.den ≤ b.num * a.den)
def fracLt (a b : Frac) : Bool := decide (a.num * b.den < b.num * a.den)
def fracEq (a b : Frac) : Bool := decide (a.num * b.den = b.num * a.den)
def fracAbs (a : Frac) : Frac := ⟨(a.num.natAbs : Int), a.den⟩
def fracMax (a b : Frac) : Frac := if fracLe a b then b else a
def fracMin (a b : Frac) : Frac := if fracLe a b then a else b
def fracSq (a : Frac) : Frac := fracMul a a

/-- The nearest integer, ties away from zero. -/
def fracRound (a : Frac) : Int := roundDiv a.num a.den
def fracFloor (a : Frac) : Int := a.num / (a.den : Int)
def fracCeil (a : Frac) : Int := -((-a.num) / (a.den : Int))

/-- `√a + b ≤ c`, decided exactly (for `a ≥ 0`). -/
def sqrtPlusLe (a b c : Frac) : Bool :=
  let r := fracSub c b
  decide (0 ≤ r.num) && fracLe a (fracSq r)

/-- The square root of a fraction, within `2^-64` below. -/
def fracSqrt (a : Frac) : Frac := fracMk (isqrt (a.num.toNat * 2 ^ 128 / a.den)) (2 ^ 64)

end Sys2Proof.Machine
end

