-- ==== Sys2Proof/Machine/State.lean ====
section
/-!
DEFINITION. The machine's state: every register, memory, queue, counter, mode and pin level the
spec gives the TU-1024A, as plain data, grouped by chapter; the reasons a step can stop; and the
state right after reset.

Every command of the table runs to a next state in this model (DESIGN CHOICE, assumption log, entry 1), so no
meaning raises one of the reasons below; they are the closed types the interface asks for.
Reset values that no rule states (DESIGN CHOICE, assumption log, entry 7) and fields of the model's own (DESIGN CHOICE,
assumption log, entry 11) are named one by one in INVENTORY.md.
-/
namespace Sys2Proof.Machine

/-- Reasons to stop with a fault. No meaning raises any: the device's own errors (statuses, trips,
HALTED) are states of the model. -/
inductive Fault where
  /-- An access to an address the spec says does not exist. Raised by nothing: R340 and R346 give
  reserved ranges a meaning (reads of zero, ignored writes). Safe. -/
  | noSuchAddress
  deriving DecidableEq, Repr

/-- Reasons to refuse. -/
inductive Refusal where
  /-- A command of the table that has no meaning yet, by its mnemonic. Raised by refused arms of
  `exec` only. Safe. -/
  | notModelled (mnemonic : String)
  deriving DecidableEq, Repr

/-! ### Plans and staged settings (R38, R402) -/

/-- A zone record of a plan descriptor (R38); `mode` is the whole mode byte. -/
structure Zone where
  columns : Nat
  pitch : Nat
  shots : Nat
  coarse : Nat
  period : Nat
  span : Nat
  mode : Nat
  scale : Nat
  deriving DecidableEq, Repr

/-- A frame plan (R38). `rows` is the 128-bit row enable. -/
structure Plan where
  planId : Nat
  period : Nat
  centre : Int
  rows : Nat
  zones : List Zone
  deriving DecidableEq, Repr

/-- The default plan (R40). -/
def Plan.default : Plan :=
  { planId := 0, period := 50000000, centre := 0, rows := 2 ^ 128 - 1,
    zones := [⟨2048, 15000, 9, 3, 2500, 2400, 0, 128⟩] }

/-- One staged host mask entry (R427). -/
structure MaskOp where
  row : Nat
  op : Nat
  col : Nat
  spads : Nat
  deriving DecidableEq, Repr

/-- One entry of the segment-to-row alignment table (R81). -/
structure AlignEntry where
  rowPos : Nat
  colOffset : Int
  bandHeight : Nat
  deriving DecidableEq, Repr

/-- A set of frame-coupled settings: a session's staged set, or one committed and waiting for its
frame (R402, R412). -/
structure ConfigSet where
  params : Tab Nat
  plan : Option Plan
  drive : Tab Nat
  align : Option (List AlignEntry)
  intensity : Option (List Nat)
  entries : Tab Nat
  loops : Tab Bytes
  subs : Tab (Nat × Nat)
  pools : Option (List Nat)
  masks : List MaskOp
  retire : List Nat
  deriving DecidableEq, Repr

/-- The set with nothing in it. -/
def ConfigSet.empty : ConfigSet :=
  ⟨[], none, [], none, none, [], [], [], none, [], []⟩

/-- A committed set and the frame whose tick applies it (R412, R52). -/
structure PendingSet where
  set : ConfigSet
  frame : Nat
  deriving DecidableEq, Repr

/-! ### The frame sequencer (R21 to R28, R41) -/

/-- Where the frame stands. -/
inductive FramePhase where
  | idle | sweep | turnaround
  deriving DecidableEq, Repr

/-- The sequencer. `frame` is the number of the frame in progress; `started` is set by frame 0's
tick; `prior` is the frame before: its tick, its plan and the a_max its trajectory was formed with (parameter 0x0806). Times are
device time in ns. -/
structure Seq where
  started : Bool
  frame : Nat
  frameTime : Nat
  nextFrame : Nat
  phase : FramePhase
  dwell : Nat
  dwellOpen : Bool
  dwellTime : Nat
  dwellNo : Nat
  shot : Nat
  flushes : Nat
  turnarounds : Nat
  plan : Plan
  planNew : Bool
  prior : Option (Nat × Plan × Nat)
  tickNo : Nat
  tickTime : Nat
  deriving DecidableEq, Repr

/-! ### System state (R30, R105, R358 to R365) -/

/-- Operating states (R30), and cast-on before them. -/
inductive OpState where
  | castOn | ready | armed | running | safeStop | bindOff | halted
  deriving DecidableEq, Repr

structure Sys where
  now : Nat
  stepSum : Int
  op : OpState
  boot : Nat
  haltCause : Nat
  inReset : Bool
  nresetLow : Bool
  porHeld : Bool
  bootReady : Bool
  resetAfter : Option (Nat × Nat)
  bindOffAt : Nat
  strapSpiv : Bool
  strapRefclk : Bool
  strapPcie : Bool
  vinOk : Bool
  firmware : Bool
  deriving DecidableEq, Repr

/-- Parameters in force and sets waiting for their frame (R423, R430, R402). -/
structure Prm where
  vals : Tab Nat
  pending : List PendingSet
  intensity : List Nat
  intCal : Bool
  deriving DecidableEq, Repr

/-! ### Mailboxes and sessions (chapter 16) -/

/-- A command taken from a mailbox. `t` is when it was taken or accepted, `src` and `srcPort` where it came from on the
backbone. -/
structure Cmd where
  mb : Nat
  tag : Nat
  op : Nat
  session : Nat
  flags : Nat
  payload : Bytes
  t : Nat
  src : Bytes
  srcPort : Nat
  deriving DecidableEq, Repr

/-- A response produced and not yet posted: header bytes, payload and whether it needs the bulk window. -/
structure Rsp where
  tag : Nat
  header : Bytes
  payload : Bytes
  bulk : Bool
  final : Bool
  deriving DecidableEq, Repr

/-- A command whose final status is decided, remembered for ABORT and GET_STATUS (R405). -/
structure FinalCmd where
  tag : Nat
  op : Nat
  status : Nat
  deriving DecidableEq, Repr

/-- A tag taken on a UDP mailbox with the latest response to it (R407). -/
structure RecentTag where
  tag : Nat
  response : Bytes
  deriving DecidableEq, Repr

/-- A partially reassembled UDP command (R406). -/
structure Partial where
  tag : Nat
  total : Nat
  count : Nat
  frags : Tab Bytes
  since : Nat
  deriving DecidableEq, Repr

/-- A mailbox (R387 to R407). Mailboxes 0 and 1 use the page and the slots; 2 to 9 the UDP fields. -/
structure Mailbox where
  present : Bool
  rom : Bool
  cmdPi : Nat
  cmdCi : Nat
  rspPi : Nat
  rspCi : Nat
  irqStatus : Nat
  irqEnable : Nat
  bulkBusy : Bool
  bulkRsp : Bool
  bulkOwner : Nat
  errInfo : Nat
  errCount : Nat
  devTimeHi : Nat
  waiting : List Cmd
  running : List Cmd
  finals : List FinalCmd
  rspQueue : List Rsp
  sci : Nat
  highTag : Option Nat
  recent : List RecentTag
  assembling : Option Partial
  srcAddr : Bytes
  srcPort : Nat
  deriving DecidableEq, Repr

/-- The session (R400). -/
structure Session where
  ident : Nat
  mb : Nat
  lease : Nat
  deadline : Nat
  deriving DecidableEq, Repr

/-- A SESSION_COMMIT after ACCEPTED and before its commit point, with the outcome of its check pass:
the status, the failed opcode, the reason and the zone (R402, R417). -/
structure Commit where
  mb : Nat
  tag : Nat
  sync : Bool
  setId : Nat
  status : Nat
  failed : Nat
  reason : Nat
  zone : Nat
  deriving DecidableEq, Repr

structure Kmp where
  mbs : List Mailbox
  session : Option Session
  lastIds : List Nat
  staged : ConfigSet
  commit : Option Commit
  deriving DecidableEq, Repr

/-! ### Events (chapter 19) -/

/-- A queued event record (R462); its LOST flag is formed when it is delivered. -/
structure EvRec where
  source : Nat
  cond : Nat
  frame : Nat
  time : Nat
  detail : Bytes
  deriving DecidableEq, Repr

/-- An event queue of one port (R463). -/
structure EvQueue where
  recs : List EvRec
  lost : Bool
  lostCount : Nat
  deriving DecidableEq, Repr

structure Ev where
  routes : Tab Nat
  raised : List (Nat × Nat)
  fresh : List (Nat × Nat × Nat)
  queues : List EvQueue
  eccCorrected : Nat
  fwRounds : Nat
  tussockRounds : Nat
  alignSamples : Nat
  ageingRaised : Option Int
  alignRaised : List Nat
  saturatedOnce : List Nat
  deriving DecidableEq, Repr

/-- What port 0 puts around a frame (R329 to R332): the VLAN tag's VID, 0 without one, and priority, the sequence number of the PRP
trailer, and the association and packet number where MACsec protects it. -/
structure Framing where
  vid : Nat
  pcp : Nat
  rct : Nat
  sa : Option (Nat × Nat)
  deriving DecidableEq, Repr

/-- Something that leaves the device in this step. -/
inductive Out where
  /-- A message interrupt on PCIe (R343). -/
  | msix (vector : Nat)
  /-- IRQ_N driven on SPI (R347). -/
  | irqN (low : Bool)
  /-- The value a bus read or SPI transaction returned on a port. -/
  | read (port : Nat) (data : Bytes)
  /-- A write into host memory over PCIe (R341, R342). -/
  | dma (addr : Nat) (data : Bytes)
  /-- A UDP datagram from a local port to a destination, in a frame on both links. -/
  | udp (src : Nat) (dst : Bytes) (dstPort : Nat) (data : Bytes) (framing : Framing)
  /-- A link-layer message on a link (0 A, 1 B). -/
  | link (link : Nat) (data : Bytes) (framing : Framing)
  /-- A message on the SYNC bus. -/
  | sync (data : Bytes)
  /-- A pulse fired by a segment in a shot, with the dither in ns. -/
  | fire (segment : Nat) (dither : Nat)
  /-- Bytes handed to a port's transmit path by a Sluice grant. -/
  | entry (port : Nat) (requester : Nat) (data : Bytes)
  deriving DecidableEq, Repr

/-! ### Reset values of the groups above -/

def Seq.reset : Seq :=
  { started := false, frame := 0, frameTime := 0, nextFrame := 0, phase := .idle, dwell := 0, dwellOpen := false,
    dwellTime := 0, dwellNo := 0, shot := 0, flushes := 0, turnarounds := 0, plan := Plan.default,
    planNew := false, prior := none, tickNo := 0, tickTime := 0 }

/-- In reset, BOOT_STAGE 0x00, SPIV as sampled low (R359, R362). -/
def Sys.reset : Sys :=
  { now := 0, stepSum := 0, op := .castOn, boot := 0, haltCause := 0, inReset := true, nresetLow := false,
    porHeld := true, bootReady := false, resetAfter := none, bindOffAt := 0, strapSpiv := false,
    strapRefclk := false, strapPcie := false, vinOk := true, firmware := false }

def Prm.reset : Prm :=
  { vals := [], pending := [], intensity := List.replicate 136 0, intCal := false }

def Mailbox.reset : Mailbox :=
  { present := false, rom := true, cmdPi := 0, cmdCi := 0, rspPi := 0, rspCi := 0, irqStatus := 0,
    irqEnable := 0, bulkBusy := false, bulkRsp := false, bulkOwner := 0, errInfo := 0, errCount := 0,
    devTimeHi := 0, waiting := [], running := [], finals := [], rspQueue := [], sci := 0,
    highTag := none, recent := [], assembling := none, srcAddr := [], srcPort := 0 }

def Kmp.reset : Kmp :=
  { mbs := List.replicate 10 Mailbox.reset, session := none, lastIds := [],
    staged := ConfigSet.empty, commit := none }

/-- Routes after cast-on stand in `evRoute`; the table lists only sources set otherwise (R463). -/
def Ev.reset : Ev :=
  { routes := [], raised := [], fresh := [], queues := List.replicate 3 ⟨[], false, 0⟩,
    eccCorrected := 0, fwRounds := 0, tussockRounds := 0, alignSamples := 0, ageingRaised := none,
    alignRaised := [], saturatedOnce := [] }


/-! ### Receiver, reed bed and Weave (chapter 3) -/

/-- The masks of a macropixel: SPADs masked as hot, as dead and by the host, and the whole macropixel
masked by the host (R73 to R77). -/
structure Mask where
  hot : Nat
  dead : Nat
  forced : Nat
  whole : Bool
  deriving DecidableEq, Repr

def Mask.none : Mask := ⟨0, 0, 0, false⟩

/-- Consecutive mapping counts of a SPAD toward unmasking and toward the dead test (R73, R74). -/
structure SpadRun where
  quiet : Nat
  zero : Nat
  deriving DecidableEq, Repr

/-- A candidate slot of the tracker (R114). -/
structure Slot where
  pos : Nat
  p : Nat
  valid : Bool
  deriving DecidableEq, Repr

def Slot.none : Slot := ⟨0, 0, false⟩

/-- A physical lane's reed bed, counters and skein (R65 to R71, R91, R113 to R117). `fires` are recent SPAD firings as
time, SPAD (macropixel × 4 + number) and raw stamp; `hold` ends the hold-off; all counted from the start of elapsed time, in ps
and taps, so that a shot or dwell tick ends neither. `timed` marks SPADs whose recharge was timed in this shot. `fresh` lanes use the
initial settings.
`coarse`, `fine0` and `fine1` are the skein's banks (R117): a word is its count with its tag bit above it (2^10, 2^14). -/
structure Lane where
  k : Nat
  t : Nat
  fresh : Bool
  live : Nat
  subst : Bool
  dark : Bool
  raw : List Nat
  det : Nat
  fires : List (Nat × Nat × Nat)
  hold : Nat
  timed : Nat
  prestart : Nat
  near : Nat
  coarse : Tab Nat
  slots : List Slot
  cands : List Slot
  fine0 : Tab Nat
  fine1 : Tab Nat
  fineHits : Nat
  refs : Nat
  sat : Bool
  deriving DecidableEq, Repr

/-- A lane at a dwell tick before anything fires; `fresh` until its first adaptation. -/
def Lane.idle : Lane :=
  { k := 2, t := 2, fresh := true, live := 15, subst := false, dark := false, raw := [0, 0, 0, 0],
    det := 0, fires := [], hold := 0, timed := 0, prestart := 0, near := 0, coarse := [],
    slots := [Slot.none, Slot.none, Slot.none], cands := [], fine0 := [], fine1 := [], fineHits := 0, refs := 0,
    sat := false }

/-- The powered window: the plan's column, its first receive column and its width (R43, R61). -/
structure Window where
  col : Nat
  deriving DecidableEq, Repr

/-- Receiver-wide state. `lanes` by physical lane; `laneMap` lists channels not served by the lane of
their own index (R64); `lanesFailed` lanes out of service; `lanesJudged` lanes judged failed and
waiting for the frame tick with their cause; `gated` slices off and `slicePend` those to gate at the frame tick with their
cause (R17); `align` the table in force with `estimate` and `rowUse` per segment (R81 to R85); `blind` the end of a fired
SPAD's dead time in ps of elapsed time, by macropixel × 4 + number (R60). -/
structure Recv where
  lanes : Tab Lane
  masks : Tab Mask
  runs : Tab SpadRun
  maskPend : Tab Mask
  laneMap : Tab Nat
  lanesFailed : List Nat
  lanesJudged : List (Nat × Nat)
  gated : Nat
  gatedAtTick : Nat
  slicePend : List (Nat × Nat)
  window : Option Window
  align : List AlignEntry
  estimate : Tab Int
  rowUse : Tab Nat
  atLimit : List Nat
  alignHits : Tab Nat
  darkCounts : Tab Nat
  mapPos : Nat
  temps : List Int
  tempTick : Int
  hotTemp : Bool
  vbd0 : Nat
  t0 : Int
  blind : Tab Nat
  deriving DecidableEq, Repr

/-! ### Gauge and time (chapter 4) -/

/-- A Gauge lane record (R98). -/
structure GaugeRec where
  widths : List Nat
  valid : Bool
  boundFail : Bool
  starved : Bool
  failBound : Nat
  hits : Nat
  frame : Nat
  deriving DecidableEq, Repr

/-- Before any table: the nominal widths of R86, no table applied. -/
def GaugeRec.none : GaugeRec :=
  { widths := List.replicate 64 15625, valid := false, boundFail := false, starved := false,
    failBound := 0, hits := 0, frame := 0 }

/-- A lane's refresh bookkeeping: hit counts, the frame its refresh period counts from, the frame whose turnaround completed
a refresh that waits to be derived, and consecutive bound failures. -/
structure GaugeAcc where
  hits : Tab Nat
  since : Nat
  ready : Option Nat
  fails : Nat
  starvedRaised : Bool
  deriving DecidableEq, Repr

def GaugeAcc.none : GaugeAcc := ⟨[], 0, Option.none, 0, false⟩

/-- Gauge. `startsJudged` are start lanes that fail from the next frame tick, `closed` the end of this turnaround's
collection. -/
structure Gauge where
  tables : Tab GaugeRec
  shadow : Tab GaugeRec
  acc : Tab GaugeAcc
  startsFailed : List Nat
  startsJudged : List Nat
  closed : Bool
  deriving DecidableEq, Repr

/-- A stamp statistic (R99). -/
structure Stat where
  n : Nat
  s1 : Nat
  s2 : Nat
  lo : Nat
  hi : Nat
  deriving DecidableEq, Repr

def Stat.none : Stat := ⟨0, 0, 0, 0xFFFFFFFF, 0xFFFFFFFF⟩

/-- A lane's reference statistics and zero offset (R100, R101), and its recharge samples (R121): `tauM` in force,
`tauLatched` as the latest frame tick latched it for the frame that ended. -/
structure LaneCal where
  ref : Stat
  refLatched : Stat
  castOn : Stat
  castOnShots : Nat
  zq16 : Int
  oobCount : Nat
  oobRun : Nat
  tauM : Nat
  tauLatched : Nat
  tauSum : Nat
  tauN : Nat
  deriving DecidableEq, Repr

def LaneCal.none : LaneCal := ⟨Stat.none, Stat.none, Stat.none, 0, 0, 0, 0, 96, 0, 0, 0⟩

/-- A bank's start lane in the shot in progress and its histories (R87, R88, R112). -/
structure StartLane where
  fired : Bool
  first : Option Nat
  second : Option Nat
  delays : List Int
  errors : List Int
  deriving DecidableEq, Repr

def StartLane.idle : StartLane := ⟨false, none, none, [], []⟩

/-- Servo states (R106). -/
inductive Servo where
  | free | locking | locked | holdover
  deriving DecidableEq, Repr

/-- Time. `rateSamples` are the servo's rate offsets with their times and receiver temperatures (R107). -/
structure Tim where
  lanes : Tab LaneCal
  starts : List StartLane
  servo : Servo
  offset : Int
  rate : Int
  stepUsed : Bool
  stepFlag : Bool
  stepTick : Bool
  lockSince : Nat
  inBandSince : Option Nat
  bigOffsets : Nat
  codeBanks : Nat
  lastSync : Nat
  rateSamples : List (Nat × Int × Int)
  grandmaster : Nat
  ageing : Int
  ageingTarget : Int
  ageingSince : Nat
  ageingFrom : Int
  slewing : Bool
  phaseErr : Int
  alignLocked : Bool
  deriving DecidableEq, Repr

/-! ### Histogram engine (chapter 5) -/

/-- Counters of a lane's frame statistics block (R131); the frame tag stands in `Histo`, τ_m in `LaneCal`. -/
structure LaneStat where
  detections : Nat
  raw : Nat
  windowHits : Nat
  prestart : Nat
  near : Nat
  satDwells : Nat
  nocand : Nat
  intf : Nat
  kDwells : List Nat
  intfMax : Nat
  thetaMax : Nat
  live : Nat
  overflow : Nat
  deriving DecidableEq, Repr

def LaneStat.none : LaneStat := ⟨0, 0, 0, 0, 0, 0, 0, 0, [0, 0, 0, 0], 0, 0, 0, 0⟩

/-- Counters of a bank's frame statistics block (R131), with the sum and number behind spacing_err. -/
structure BankStat where
  startMiss : Nat
  extra : Nat
  codeErr : Nat
  errSum : Int
  errN : Nat
  overflow : Nat
  deriving DecidableEq, Repr

def BankStat.none : BankStat := ⟨0, 0, 0, 0, 0, 0⟩

/-- A lane dwell record (R128) with its fine bank. -/
structure LaneRec where
  lane : Nat
  cands : List Slot
  sigma : Nat
  fineShots : Nat
  k : Nat
  live : Nat
  t : Nat
  bFine : List Nat
  theta : Nat
  tauM : Nat
  score : Nat
  detections : Nat
  prestart : Nat
  near : Nat
  sat : Bool
  code : Bool
  subst : Bool
  dark : Bool
  refs : Nat
  rate : Frac
  fine : Tab Nat
  deriving DecidableEq, Repr

/-- The sticky and last-dwell fields of a lane status word (R132). -/
structure LaneStatus where
  sat : Bool
  code : Bool
  k : Nat
  live : Nat
  t : Nat
  score : Nat
  theta : Nat
  deriving DecidableEq, Repr

def LaneStatus.none : LaneStatus := ⟨false, false, 0, 0, 0, 0, 0⟩

/-- A code assignment of the SYNC master waiting for its frame (R126). -/
structure CodeAssign where
  spacing : Nat
  span : Nat
  seed : Nat
  frame : Nat
  deriving DecidableEq, Repr

/-- Codes, dither and frame statistics. `spacing`, `span` and `seed` are those in force, `shots` the shots
fired in the frame, `assigned` that an assignment has applied since the code source became SYNC (R126). -/
structure Histo where
  spacing : Nat
  span : Nat
  seed : Nat
  lfsr : Nat
  dither : Nat
  assigned : Bool
  assign : Option CodeAssign
  phaseClosed : Bool
  shots : Nat
  latchedShots : Nat
  lanes : Tab LaneStat
  banks : Tab BankStat
  latched : Tab LaneStat
  latchedBanks : Tab BankStat
  latchedFrame : Nat
  status : Tab LaneStatus
  satPrev : List Nat
  satNow : List Nat
  deriving DecidableEq, Repr

/-- The default alignment table (R83). -/
def alignDefault : List AlignEntry :=
  (List.range 136).map (fun n =>
    if n % 17 = 16 then ⟨0xFFFF, 0, 256⟩ else ⟨(16 + 16 * (n / 17) + n % 17) * 256 + 128, 0, 256⟩)

def Recv.reset : Recv :=
  { lanes := [], masks := [], runs := [], maskPend := [], laneMap := [], lanesFailed := [],
    lanesJudged := [], gated := 0, gatedAtTick := 0, slicePend := [], window := none, align := alignDefault,
    estimate := [], rowUse := [], atLimit := [], alignHits := [], darkCounts := [], mapPos := 0,
    temps := [2500, 2500, 2500, 2500], tempTick := 2500,
    hotTemp := false, vbd0 := 0, t0 := 0, blind := [] }

def Gauge.reset : Gauge := { tables := [], shadow := [], acc := [], startsFailed := [], startsJudged := [], closed := false }

def Tim.reset : Tim :=
  { lanes := [], starts := List.replicate 8 StartLane.idle, servo := .free, offset := 0, rate := 0,
    stepUsed := false, stepFlag := false, stepTick := false, lockSince := 0, inBandSince := none, bigOffsets := 0, codeBanks := 0,
    lastSync := 0, rateSamples := [], grandmaster := 0, ageing := 0,
    ageingTarget := 0, ageingSince := 0, ageingFrom := 0, slewing := false, phaseErr := 0,
    alignLocked := false }

/-- Code spacing and seed take the device's defaults at the end of cast-on (R123, R124). -/
def Histo.reset : Histo :=
  { spacing := 8, span := 24, seed := 1, lfsr := 1, dither := 0, assigned := false, assign := none, phaseClosed := false,
    shots := 0, latchedShots := 0, lanes := [], banks := [], latched := [], latchedBanks := [], latchedFrame := 0, status := [],
    satPrev := [], satNow := [] }


/-! ### Points (chapter 6) -/

/-- What the formatter must know of a row of a dwell beside its lane records (R150, R151): a segment
judged failed and not substituted, emitter-degraded marks, and lanes excluded as failed in service. -/
structure RowMark where
  lost : Bool
  degraded : Bool
  excluded : Bool
  deriving DecidableEq, Repr

def RowMark.none : RowMark := ⟨false, false, false⟩

/-- A dwell on its way through reduction and formatting. `stalled` lists groups whose processing lane was
overrun, with how many of their channels it had reduced (R134). -/
structure Work where
  dwellNo : Nat
  frame : Nat
  col : Nat
  zone : Nat
  z : Zone
  gated : Nat
  recs : List LaneRec
  chans : Tab Nat
  marks : Tab RowMark
  stalled : List (Nat × Nat)
  deriving DecidableEq, Repr

/-- A queue's header counts (R154). -/
structure QCount where
  points : Nat
  records : Nat
  invalid : Nat
  overrun : Nat
  empty : Nat
  veil : Nat
  scoreMax : Nat
  bgSum : Nat
  bgN : Nat
  deriving DecidableEq, Repr

def QCount.none : QCount := ⟨0, 0, 0, 0, 0, 0, 0, 0, 0⟩

/-- A return as formed: range in 0.5 mm, the record's other fields, and its signal scaled by 2^40. -/
structure Ret where
  range : Nat
  limited : Bool
  sig : Int
  intensity : Nat
  precision : Nat
  width : Nat
  conf : Nat
  pile : Bool
  veil : Bool
  deriving DecidableEq, Repr

/-- A point as formed, before it is laid out as records: what Tussock evaluates too (R257, R260). -/
structure Pt where
  row : Nat
  invalid : Bool
  score : Nat
  bg : Nat
  flags : Nat
  gatedVeil : Bool
  veils : Nat
  rets : List Ret
  deriving DecidableEq, Repr

/-- The pipeline (R26, R133 to R135): `reduce` the dwell being reduced, `format` the one being formatted.
`counts` are per queue of the frame in progress, `prev` of the frame `lastFrame`, the last that was streamed; `headed` the queues whose
header of this frame is written;
`streamed` says that RUNNING held at this frame's tick; `overruns` count the overruns of a group in this frame and
`overrunsLatched` those of the latched one (R28, R134);
`evalDwells` are formatted dwells whose tag Hook B still has to check: number, column, zone and points. -/
structure Pts where
  reduce : Option Work
  format : Option Work
  counts : Tab QCount
  prev : Tab QCount
  lastFrame : Option Nat
  headed : List Nat
  overruns : Tab Nat
  overrunsLatched : Tab Nat
  streamed : Bool
  evalDwells : List (Nat × Nat × List Pt)
  deriving DecidableEq, Repr

def Pts.reset : Pts :=
  { reduce := none, format := none, counts := [], prev := [], lastFrame := none, headed := [], overruns := [],
    overrunsLatched := [], streamed := false, evalDwells := [] }


/-! ### Emitter (chapter 7) -/

/-- A segment (R172, R175, R182). `hist` holds the last 8 checked pulses, bit set where bad; `cause` 1
open, 2 short, 3 charge or retirement. `judgedAt` is the time of a judgement waiting for its frame
tick; `degraded` marks the dwell in progress (R181). -/
structure Seg where
  failed : Bool
  lockout : Bool
  cause : Nat
  retired : Bool
  drift : Bool
  badSeen : Bool
  vf : Nat
  hist : Nat
  judgedAt : Option Nat
  degraded : Bool
  deriving DecidableEq, Repr

/-- A pulse report on its way to Tussock (R171, R249): segment, drive word and applied current (12.5 mA) of the pulse, charge in
1/64 nC, the class of the check, whether the inhibit blocked it, and whether it was calibration firing (R253). -/
structure PulseRep where
  seg : Nat
  word : Nat
  cur : Nat
  charge : Nat
  cls : Nat
  inhibited : Bool
  still : Bool
  deriving DecidableEq, Repr

def Seg.none : Seg := ⟨false, false, 0, false, false, false, 0, 0, Option.none, false⟩

/-- A segment's frame counters (R183); `chargeSum` is behind charge_mean. -/
structure SegStat where
  pulses : Nat
  bad : Nat
  skipped : Nat
  chargeSum : Nat
  probeVf : Nat
  overflow : Nat
  deriving DecidableEq, Repr

def SegStat.none : SegStat := ⟨0, 0, 0, 0, 0, 0⟩

/-- A bank: sticky RES_LOW, SPARE_BAD, the connected sub-stripe, current trim and the trim sampled at
the dwell tick, filtered temperature, heater output in µW (R168 to R170, R182). -/
structure Bank where
  resLow : Bool
  spareBad : Nat
  sub : Nat
  trim : Int
  trimDwell : Int
  temp : Int
  heater : Nat
  fallback : Bool
  deriving DecidableEq, Repr

def Bank.none : Bank := ⟨false, 0, 0, 0, 0, 2500, 0, false⟩

/-- A self-test (R185): its command and, once it ran, its results as V_f by target × 3 + current; `due` once
a turnaround has begun. -/
structure SelfTest where
  mb : Nat
  tag : Nat
  due : Bool
  ran : Bool
  vf : Tab Nat
  deriving DecidableEq, Repr

/-- The emitter. `drive` lists drive words other than at reset; `rowSeg` rows not served by their own
segment (0xFF none); `baseline` V_f at cast-on by probe target; `probeFails` failures of the turnaround
awaiting confirmation as bank, segment index or 16 + sub-stripe and class; `unconfirmed` counts those a repeat probe did not
confirm (R174); `reports` the pulses whose report has not reached Tussock yet, oldest first (R249); `closedAt` the elapsed instant
the series switches last closed, none while one is open (R165, R167); `testEnd` the elapsed end of the latest test opening (R246);
`calAt` and `calShots` the elapsed start of calibration firing and the shots of it so far (R176). -/
structure Emi where
  drive : Tab Nat
  segs : Tab Seg
  banks : Tab Bank
  rowSeg : Tab Nat
  baseline : Tab Nat
  probeFails : List (Nat × Nat × Nat)
  confirmed : Tab Nat
  stats : Tab SegStat
  latched : Tab SegStat
  latchedFrame : Nat
  selfTest : Option SelfTest
  calCharge : Tab Nat
  reports : List PulseRep
  inhibit : Bool
  closedAt : Option Nat
  testEnd : Nat
  unconfirmed : Nat
  calAt : Nat
  calShots : Nat
  deriving DecidableEq, Repr

def Emi.reset : Emi :=
  { drive := [], segs := [], banks := [], rowSeg := [], baseline := [], probeFails := [], confirmed := [],
    stats := [], latched := [], latchedFrame := 0, selfTest := none, calCharge := [], reports := [], inhibit := true,
    closedAt := none, testEnd := 0, unconfirmed := 0, calAt := 0, calShots := 0 }

/-! ### Scanner drive and angle sensing (chapter 8) -/

/-- An angle sample in 1/256 mdeg with its validity (R198). -/
structure Angle where
  valid : Bool
  value : Int
  deriving DecidableEq, Repr

/-- A charge channel (R196, R197): its seed angle, its output after the reset in µV once converted, overload, and the end of its
last reset. -/
structure Charge where
  seed : Int
  vReset : Option Int
  ovr : Bool
  resetEnd : Nat
  deriving DecidableEq, Repr

def Charge.reset : Charge := ⟨0, none, false, 0⟩

/-- A lead group of the test tone (R200, R202): baselines in Ω of its leads once measured, runs of failing and passing
checks, a confirmed fault. -/
structure Tone where
  base : List Nat
  fails : Nat
  passes : Nat
  bad : Bool
  deriving DecidableEq, Repr

/-- The scanner statistics of a frame (R214); `sumSq` and `n` are behind e_rms. -/
structure ScanStat where
  eMax : Nat
  sumSq : Nat
  n : Nat
  apexPos : Int
  apexNeg : Int
  invPri : Nat
  invSec : Nat
  hold : Nat
  limit : Nat
  iPeak : Nat
  vPeak : Nat
  lock : Bool
  tone : Nat
  deriving DecidableEq, Repr

def ScanStat.none : ScanStat := ⟨0, 0, 0, -2147483648, 2147483647, 0, 0, 0, 0, 0, 0, false, 0⟩

/-- The drive stage, angle samples and lead checks. `requests` are SCAN_START (true) and SCAN_STOP waiting for
the frame tick; `tripped` is the trip itself, `tripSeen` the sticky bit; `holdFrom` and `holdAt` the ramp of
the Tussock hold (elapsed time); `lockGood` and `lockBad` the lock judgement of R199; `apexDone` the charge channels that this
turnaround's apex reset. -/
structure Scan where
  started : Bool
  startFrame : Nat
  requests : List (Nat × Nat × Bool)
  tripped : Bool
  tripSeen : Bool
  tripCause : Nat
  held : Bool
  holdFrom : Int
  holdAt : Nat
  out : Int
  limit : Bool
  lock : Bool
  lockGood : Bool
  lockSeen : Bool
  lockBad : Nat
  pri : Angle
  sec : Angle
  chargeA : Charge
  chargeB : Charge
  apexDone : Nat
  tones : List Tone
  tonePhase : Nat
  stat : ScanStat
  latched : ScanStat
  latchedFrame : Nat
  deriving DecidableEq, Repr

def Scan.reset : Scan :=
  { started := false, startFrame := 0, requests := [], tripped := false, tripSeen := false, tripCause := 0, held := false, holdFrom := 0,
    holdAt := 0, out := 0, limit := false, lock := false, lockGood := false, lockSeen := false, lockBad := 0,
    pri := ⟨false, 0⟩, sec := ⟨false, 0⟩, chargeA := Charge.reset, chargeB := Charge.reset, apexDone := 0,
    tones := List.replicate 5 ⟨[], 0, 0, false⟩, tonePhase := 0, stat := ScanStat.none,
    latched := ScanStat.none, latchedFrame := 0 }

/-! ### Sedge (R203 to R213) -/

/-- A member of an entry: visits since its reset, gain, sinc stages (integrators and combs), samples in the
window, outputs since the reset, latest output with flags and time, greatest code of the window, the previous
sample and whether it was at full scale. -/
structure Member where
  gain : Nat
  integ : List Int
  comb : List Int
  count : Nat
  outputs : Nat
  value : Int
  flags : Nat
  time : Nat
  winMax : Nat
  winOver : Bool
  last : Int
  lastOver : Bool
  deriving DecidableEq, Repr

def Member.none : Member := ⟨0, [], [], 0, 0, 0, 0, 0, 0, false, 0, false⟩

/-- An urgent conversion of the tick at hand (R206): source, place in a pair, converter code, value in the source's unit, whether a
test current disturbed it (R213), and the elapsed instant it was sampled. -/
structure Conv where
  source : Nat
  place : Nat
  code : Int
  value : Int
  bad : Bool
  at_ : Nat
  deriving DecidableEq, Repr

/-- An open-wire test under way (R212): source and pin, its conversions in µV at the pin, whether the test conversion reached full
scale; `phase` 0 baseline due, 1 current applied, 2 test taken, 3 judged; `since` the elapsed instant of the last change; void. -/
structure WireTest where
  source : Nat
  pin : Nat
  base : Int
  test : Int
  full : Bool
  phase : Nat
  since : Nat
  void : Bool
  deriving DecidableEq, Repr

/-- A record of the result ring (R210). -/
structure SedgeRec where
  number : Nat
  time : Nat
  value : Int
  entry : Nat
  source : Nat
  flags : Nat
  deriving DecidableEq, Repr

/-- Open-wire bookkeeping of a source (R213): runs, OPEN, time of the last passing test. -/
structure Wire where
  fails : Nat
  passes : Nat
  opened : Bool
  lastPass : Nat
  deriving DecidableEq, Repr

def Wire.none : Wire := ⟨0, 0, false, 0⟩

/-- Sedge. `words` lists entry words other than the default sequence's; `members` by entry × 8 + member;
`next` the entry to visit; `visits` per entry; `urgent` the urgent conversions still to make in this tick as
source and place in a pair, `done` their results; `polarity` that of the
next pairs; `wires` by 2 × source + pin; `diag` the open-wire test under way, `diagQueue` the inputs the diagnostic period that began
at the elapsed instant `diagAt` has still to test. -/
structure Sense where
  words : Tab Nat
  members : Tab Member
  next : Nat
  visits : Tab Nat
  ring : List SedgeRec
  ringNext : Nat
  overwritten : Nat
  wires : Tab Wire
  urgent : List (Nat × Nat)
  done : List Conv
  polarity : Bool
  diag : Option WireTest
  diagQueue : List (Nat × Nat)
  diagAt : Nat
  deriving DecidableEq, Repr

def Sense.reset : Sense :=
  { words := [], members := [], next := 0, visits := [], ring := [], ringNext := 0, overwritten := 0, wires := [],
    urgent := [], done := [], polarity := true, diag := none, diagQueue := [], diagAt := 0 }

/-! ### Tension (chapter 9) -/

/-- Slot modes (R226). -/
inductive SlotMode where
  | off | manual | auto | fallback | held
  deriving DecidableEq, Repr

/-- A loop slot: its mode and the mantissas of its stages' states (R221, R223), run counters (R230), status
bits (R234), its latest raw input, the nodes of its last computation,
whether its next one begins with a bumpless transfer, and the instant it last fell back (R229). -/
structure Slot9 where
  mode : SlotMode
  y : Int
  sp : Int
  e : Int
  ePrev : Int
  d : Int
  i : Int
  bq1 : List Int
  bq2 : List Int
  out : Int
  applied : Int
  lim : Bool
  limHi : Bool
  limLo : Bool
  holding : Bool
  overrun : Bool
  ovrSeen : Bool
  ovrRun : Nat
  sat : Bool
  bump : Bool
  holdRun : Nat
  bandRun : Nat
  retRun : Nat
  cause : Nat
  manual : Int
  raw : Int
  nodes : List Int
  transfer : Bool
  fellAt : Option Nat
  deriving DecidableEq, Repr

def Slot9.reset : Slot9 :=
  { mode := .off, y := 0, sp := 0, e := 0, ePrev := 0, d := 0, i := 0, bq1 := [0, 0, 0, 0], bq2 := [0, 0, 0, 0], out := 0,
    applied := 0, lim := false, limHi := false, limLo := false, holding := false, overrun := false, ovrSeen := false,
    ovrRun := 0, sat := false, bump := false, holdRun := 0, bandRun := 0, retRun := 0, cause := 0, manual := 0, raw := 0,
    nodes := [], transfer := false, fellAt := none }

/-- A slot mode request waiting for the frame tick (R227, R439): mailbox, tag, slot, mode, manual value. -/
structure ModeReq where
  mb : Nat
  tag : Nat
  slot : Nat
  mode : Nat
  value : Option Int
  deriving DecidableEq, Repr

/-- Trace units (R236, R237): 0 idle, 1 armed from the next frame tick, 2 recording, 3 post-trigger, 4 stopped, 5 aborted;
`took` once its trigger has come, `read` once a stopped capture is read. -/
structure Trace where
  state : Nat
  mb : Nat
  tag : Nat
  slot : Nat
  node : Nat
  div : Nat
  phase : Nat
  post : Nat
  left : Nat
  source : Nat
  detail : Nat
  threshold : Int
  last : Option Int
  samples : List (Nat × Bytes)
  trigTime : Nat
  trigIndex : Nat
  trigPending : Option (Nat × Nat)
  missed : Nat
  took : Bool
  read : Bool
  deriving DecidableEq, Repr

def Trace.reset : Trace :=
  { state := 0, mb := 0, tag := 0, slot := 0, node := 0, div := 1, phase := 0, post := 0, left := 0, source := 0, detail := 0,
    threshold := 0, last := none, samples := [], trigTime := 0, trigIndex := 0, trigPending := none, missed := 0, took := false, read := false }

/-- The trajectory at a tick, evaluated for its angle samples (R199, R223): at the primary's reference instant as
planned and advanced by L1, at the secondary's advanced, the reference instant, speed in °/s and acceleration in
1 000 °/s² at the next tick, angle at the tick, and whether the tick lies in the active sweep. -/
structure TickRef where
  pri : Int
  priAdv : Int
  secAdv : Int
  at_ : Nat
  v : Int
  a : Int
  angle : Int
  sweep : Bool
  deriving DecidableEq, Repr

def TickRef.none : TickRef := ⟨0, 0, 0, 0, 0, 0, 0, false⟩

/-- Tension. `records` lists slot records other than after cast-on, by slot; `traj` the trajectory of the tick being
computed; `crossTraj`, `crossMir` the crossings of this sweep and `phase` the latest phase error (R232); `bias` the
SPAD bias in mV, `duty` the Carr clock duty in 0.01 %, `advance` L1's output in ns as applied. -/
structure Loops where
  records : Tab Bytes
  slots : List Slot9
  requests : List ModeReq
  traces : List Trace
  traj : TickRef
  crossTraj : Option Nat
  crossMir : Option Nat
  phase : Int
  lastPri : Option (Nat × Int)
  lastTraj : Option (Nat × Int)
  bias : Nat
  duty : Nat
  advance : Int
  deriving DecidableEq, Repr

def Loops.reset : Loops :=
  { records := [], slots := List.replicate 16 Slot9.reset, requests := [], traces := List.replicate 4 Trace.reset,
    traj := TickRef.none, crossTraj := none, crossMir := none, phase := 0, lastPri := none, lastTraj := none,
    bias := 18000, duty := 10000, advance := 0 }

/-! ### Repair map (R368) -/

/-- What the repair map holds beside the lanes, segments and masks themselves: its number, the frame of its
latest update, spare SRAM in use, the causes gathered at this frame tick, and slices gated since cast-on. -/
structure Rep where
  number : Nat
  frame : Nat
  sram : Nat
  causes : Nat
  gatedRun : Nat
  deriving DecidableEq, Repr

def Rep.reset : Rep := { number := 0, frame := 0xFFFFFFFF, sram := 0, causes := 0, gatedRun := 0 }

/-! ### Diagnostics (R440, R455, R456) -/

/-- A DIAG_STAMP in the device: gate, frames still to run, whether it has begun. -/
structure DiagStamp where
  mb : Nat
  tag : Nat
  lane : Nat
  start : Nat
  width : Nat
  frames : Nat
  begun : Bool
  capped : Bool
  stat : Stat
  deriving DecidableEq, Repr

/-- A DIAG_HIST waiting for its dwell; `begun` from the first frame that begins after it was taken. -/
structure DiagHist where
  mb : Nat
  tag : Nat
  lane : Nat
  column : Nat
  begun : Bool
  deriving DecidableEq, Repr

/-- The result of a TRACE_READ or DIAG_HIST on its way through requester 0x6 (R440): `part` of `parts`
is the next to grant. -/
structure BulkOut where
  mb : Nat
  tag : Nat
  op : Nat
  data : Bytes
  part : Nat
  parts : Nat
  deriving DecidableEq, Repr

structure Diag where
  stamp : Option DiagStamp
  hist : Option DiagHist
  bulk : Option BulkOut
  deriving DecidableEq, Repr

def Diag.reset : Diag := { stamp := none, hist := none, bulk := none }


/-! ### Sluice (chapter 12) -/

/-- A stored dwell unit (R300, R305). `need` is the mask of subscribing ports that have neither sent nor
dropped it, `flying` the mask of ports with it in a grant. -/
structure SUnit where
  frame : Nat
  bytes : Bytes
  cells : Nat
  need : Nat
  flying : Nat
  deriving DecidableEq, Repr

/-- A queue's frame header (R154, R305): stored or waiting for a cell, and the ports still to send it.
`drops` are the drops each port suffered in the frame before, filled in at the grant (R306). -/
structure SHead where
  frame : Nat
  bytes : Bytes
  stored : Bool
  need : Nat
  flying : Nat
  deriving DecidableEq, Repr

/-- A stream queue: units and headers in order, and the units dropped so far by frame and port (R305, R306). -/
structure Queue where
  units : List SUnit
  heads : List SHead
  drops : List (Nat × Nat × Nat)
  deriving DecidableEq, Repr

def Queue.none : Queue := ⟨[], [], []⟩

/-- A control message waiting for a grant: its requester, bytes, and where it goes (address, UDP port). -/
structure Msg where
  requester : Nat
  bytes : Bytes
  addr : Bytes
  udpPort : Nat
  srcPort : Nat
  mb : Nat
  tag : Nat
  deriving DecidableEq, Repr

/-- A grant in flight (R308): its requester, when it was issued, its watchdog in ms, the queue served, whether a header is
part of it, the cells it holds, and the entries it sends with their target (destination or ring), the MSI-X
vectors their event records name, and the control message it carries. -/
structure Grant where
  requester : Nat
  issued : Nat
  hold : Nat
  queue : Nat
  header : Bool
  hasUnit : Bool
  cells : Nat
  bytes : Nat
  target : Nat
  entries : List Bytes
  vectors : List Nat
  msg : Option Msg
  deriving DecidableEq, Repr

/-- A port's frame counters (R314). -/
structure PortStat where
  units : Nat
  bytes : Nat
  drops : Nat
  headers : Nat
  users : Nat
  bites : Nat
  peak : Nat
  overflow : Nat
  deriving DecidableEq, Repr

def PortStat.none : PortStat := ⟨0, 0, 0, 0, 0, 0, 0, 0⟩

/-- One egress port. `freezeBy` is the session that set the freeze bit. -/
structure Port where
  freezeBy : Option Nat
  wdBite : Bool
  dropSeen : Bool
  drained : Bool
  grant : Option Grant
  classes : List Nat
  lastServed : List Nat
  watchdog : Nat
  stat : PortStat
  latched : PortStat
  lifeDrops : Nat
  msgs : List Msg
  deriving DecidableEq, Repr

/-- Sluice. `subs` maps port × 8192 + queue to weight and target, `credit` likewise to credit. `pools`
are the four sizes in force (DATA, PEAT, CTRL, shared); `window` is the credit refill window's sectors. -/
structure Slu where
  subs : Tab (Nat × Nat)
  credit : Tab Int
  queues : Tab Queue
  pools : List Nat
  ports : List Port
  latchedFrame : Nat
  window : List Nat
  deriving DecidableEq, Repr

def Port.reset : Port :=
  { freezeBy := none, wdBite := false, dropSeen := false, drained := false, grant := none,
    classes := [2, 0, 0, 1, 1, 3, 2], lastServed := [6, 6, 6, 6], watchdog := 5, stat := PortStat.none,
    latched := PortStat.none, lifeDrops := 0, msgs := [] }

def Slu.reset : Slu :=
  { subs := [], credit := [], queues := [], pools := [40960, 8192, 2048, 14336],
    ports := List.replicate 3 Port.reset, latchedFrame := 0, window := [] }

/-! ### Peat (chapter 13) -/

/-- The recorder's states (R320). -/
inductive PeatState where
  | idle | arming | armed | filling | dead | full
  deriving DecidableEq, Repr

/-- A capture's descriptor (R323); `status` is 0xFFFF while open. -/
structure Capture where
  number : Nat
  status : Nat
  flags : Nat
  source : Nat
  post : Nat
  detail : Nat
  trigFrame : Nat
  trigTime : Nat
  closeTime : Nat
  deadUs : Nat
  missedFill : Nat
  missedDead : Nat
  lost : Nat
  deriving DecidableEq, Repr

/-- A segment of the store: its capture, if any, and the capture's entries, oldest first. -/
structure PeatSeg where
  desc : Option Capture
  entries : List Bytes
  deriving DecidableEq, Repr

def PeatSeg.free : PeatSeg := ⟨Option.none, []⟩

/-- A readout in progress (R324): the bytes from `next` to `stop` are still to grant, on the backbone to `addr`. -/
structure Readout where
  mb : Nat
  tag : Nat
  session : Nat
  capture : Nat
  seg : Nat
  next : Nat
  stop : Nat
  blocks : Nat
  addr : Bytes
  udpPort : Nat
  deriving DecidableEq, Repr

/-- A trace block being filled: device time of its first sample, the tap it is taken from (slot, node, divisor) and the samples. -/
structure TraceBlock where
  time : Nat
  slot : Nat
  node : Nat
  div : Nat
  samples : List Bytes
  deriving DecidableEq, Repr

/-- Peat. `config` is the configuration of R444 as written; `seg` the segment of the open or latest capture;
`arm` the PEAT_ARM that its first capture completes; `trigs` triggers waiting to be accepted as source,
detail and time; `closeFrame` the frame whose end closes the filling capture; `sedge` and `traces` the
blocks being filled; `counts`, `prev` the selection's header counts. -/
structure Peat where
  config : Bytes
  state : PeatState
  seg : Nat
  segs : List PeatSeg
  number : Nat
  arm : Option (Nat × Nat)
  trigs : List (Nat × Nat × Nat)
  closeFrame : Nat
  sedgeFirst : Nat
  sedge : List Bytes
  traces : Tab TraceBlock
  counts : QCount
  prev : QCount
  lastFrame : Option Nat
  readout : Option Readout
  badWords : List Nat
  deriving DecidableEq, Repr

/-- The empty selection with the defaults of R316, R320 and R323: one segment, single mode, two frames. -/
def Peat.configReset : Bytes := zeros 12 ++ [1#8, 0#8, 2#8] ++ zeros 49

def Peat.reset : Peat :=
  { config := Peat.configReset, state := .idle, seg := 0, segs := List.replicate 8 PeatSeg.free, number := 0,
    arm := Option.none, trigs := [], closeFrame := 0, sedgeFirst := 0, sedge := [], traces := [],
    counts := QCount.none, prev := QCount.none, lastFrame := Option.none, readout := Option.none, badWords := [] }


/-! ### External ports (chapter 14) -/

/-- A MACsec SA (R331): integrity-only, packet number (next to send, or lowest acceptable), key. -/
structure Sa where
  integrity : Bool
  pn : Nat
  key : Bytes
  deriving DecidableEq, Repr

/-- A receive secure channel. -/
structure RxSc where
  sci : Option Nat
  sas : List (Option Sa)
  failures : Nat
  deriving DecidableEq, Repr

/-- A PRP source node: its MAC address and the sequence numbers seen, with their times (R329). -/
structure PrpNode where
  mac : Nat
  seqs : List (Nat × Nat)
  deriving DecidableEq, Repr

/-- One gPTP port (R334). -/
structure Gptp where
  asCapable : Bool
  delay : Nat
  gm : Nat
  deriving DecidableEq, Repr

/-- A destination or peer (R336, R338): family 0 unset, 4 or 6. -/
structure Dest where
  family : Nat
  port : Nat
  addr : Bytes
  deriving DecidableEq, Repr

def Dest.unset : Dest := ⟨0, 0, zeros 16⟩

/-- An IP setting in the layout of IP_SET (R451). -/
structure IpCfg where
  prefixLen : Nat
  addr : Bytes
  gateway : Bytes
  deriving DecidableEq, Repr

def IpCfg.none : IpCfg := ⟨0, zeros 16, zeros 16⟩

/-- Port 0. `prpSeq` numbers supervision frames and `rctSeq` every frame sent on both links (R329); `supervisionAt` is when the next
supervision frame is due; `slave` the selected 802.1AS port (R334); `txStopped` the controlled port's stop (R332). -/
structure Net where
  linkUp : List Bool
  prp : List PrpNode
  prpSeq : Nat
  rctSeq : Nat
  supervisionAt : Nat
  dupDiscarded : Nat
  dupPassed : Nat
  wrongLan : Nat
  unprotected : Nat
  udpDiscarded : Nat
  ip4 : IpCfg
  ip6 : IpCfg
  txSas : List (Option Sa)
  txAn : Nat
  txStopped : Bool
  rxScs : List RxSc
  gptp : List Gptp
  slave : Option Nat
  dests : List Dest
  peers : List Dest
  destSeq : List Nat
  eventSeq : Nat
  diagSeq : Nat
  peatSeq : Nat
  deriving DecidableEq, Repr

/-- A host ring (R341, R342). -/
structure Ring where
  base : Nat
  wb : Nat
  en : Bool
  err : Bool
  size : Nat
  wptr : Nat
  rptr : Nat
  mod : Nat
  seq : Nat
  entries : Nat
  firstAt : Option Nat
  deriving DecidableEq, Repr

def Ring.reset : Ring := ⟨0, 0, false, false, 16, 0, 0, 0, 0, 0, none⟩

/-- An MSI-X table entry: address, data, mask bit. -/
structure Vec where
  addr : Nat
  data : Nat
  masked : Bool
  pend : Bool
  deriving DecidableEq, Repr

/-- The identifiers that every device presents on PCIe (R496). -/
structure PcieIds where
  vendor : Nat
  device : Nat
  subVendor : Nat
  subsystem : Nat
  revision : Nat
  classCode : Nat
  deriving DecidableEq, Repr

def PcieIds.fixed : PcieIds := ⟨0x1F3A, 0x1024, 0x1F3A, 0x0001, 0x01, 0x118000⟩

structure Pcie where
  ids : PcieIds
  linkUp : Bool
  busMaster : Bool
  rings : List Ring
  vecs : List Vec
  deriving DecidableEq, Repr

structure Spi where
  fifo : Bytes
  entries : List Nat
  seq : Nat
  threshold : Nat
  framingErr : Bool
  lostEntries : Nat
  deriving DecidableEq, Repr

/-- A set held for a synchronised change (R55, R187, R417). `state`: 1 held, 2 READY answered, 3 GO
accepted; `frame` is n in the master's numbering and `bound`, once GO is accepted, in this head's. -/
structure Held where
  set : ConfigSet
  kind : Nat
  planId : Nat
  setId : Nat
  state : Nat
  frame : Nat
  bound : Nat
  deriving DecidableEq, Repr

/-- A SYNC_START in progress on the master (R421). -/
structure SyncRun where
  mb : Nat
  tag : Nat
  kind : Nat
  ident : Nat
  frame : Nat
  prepareAt : Option Nat
  ready : Nat
  refused : Nat
  expect : Nat
  cancel : Bool
  deriving DecidableEq, Repr

/-- The SYNC bus (R349 to R353). `cycle` is the next cycle of the frame and `cycleAt` the start of the latest cycle; the
marker fields hold the master's frame number, the frame of this head and the time at the latest frame marker; `answer`
and `xtrig` wait for a slot or window, as type and payload; `codeLeft` counts the CODE copies still to send. -/
structure Sync where
  cycle : Nat
  cycleAt : Nat
  markerFrame : Option Nat
  markerLocal : Nat
  markerAt : Nat
  beaconLost : Bool
  beaconHeard : Bool
  yielded : Bool
  checkFails : Nat
  unknown : Nat
  heardNow : Nat
  heardLatched : Nat
  answer : Option Bytes
  answerAt : Nat
  xtrig : Option Bytes
  held : Option Held
  lastOutcome : Nat
  run : Option SyncRun
  codeFrame : Nat
  codeLeft : Nat
  codeCmd : Option (Nat × Nat)
  term : Bool
  deriving DecidableEq, Repr

structure Trig where
  lastIn : Option Nat
  overruns : Nat
  outActive : Bool
  outEnd : Nat
  deriving DecidableEq, Repr

def Net.reset : Net :=
  { linkUp := [false, false], prp := [], prpSeq := 0, rctSeq := 0, supervisionAt := 0, dupDiscarded := 0,
    dupPassed := 0, wrongLan := 0, unprotected := 0, udpDiscarded := 0, ip4 := IpCfg.none,
    ip6 := IpCfg.none, txSas := List.replicate 4 none, txAn := 0, txStopped := true,
    rxScs := List.replicate 8 ⟨none, List.replicate 4 none, 0⟩,
    gptp := List.replicate 2 ⟨false, 0, 0⟩, slave := none, dests := List.replicate 8 Dest.unset,
    peers := List.replicate 8 Dest.unset, destSeq := List.replicate 8 0, eventSeq := 0, diagSeq := 0,
    peatSeq := 0 }

def Pcie.reset : Pcie :=
  { ids := PcieIds.fixed, linkUp := false, busMaster := false, rings := List.replicate 8 Ring.reset,
    vecs := List.replicate 32 ⟨0, 0, true, false⟩ }

def Spi.reset : Spi :=
  { fifo := [], entries := [], seq := 0, threshold := 64, framingErr := false, lostEntries := 0 }

def Sync.reset : Sync :=
  { cycle := 0, cycleAt := 0, markerFrame := none, markerLocal := 0, markerAt := 0,
    beaconLost := false, beaconHeard := false, yielded := false, checkFails := 0, unknown := 0,
    heardNow := 0, heardLatched := 0, answer := none, answerAt := 0, xtrig := none, held := none, lastOutcome := 0,
    run := none, codeFrame := 0, codeLeft := 0, codeCmd := none, term := false }

def Trig.reset : Trig := { lastIn := none, overruns := 0, outActive := false, outEnd := 0 }

/-! ### Tussock (chapter 10) -/

/-- A safety input (R265, R266): filtered level, last sample, when it last agreed with the filtered level, missed
pulses in a row, its faults, and what it has read since: low, its pulses, high `again` with them seen, both of its pair low. -/
structure SafeIn where
  filt : Bool
  raw : Bool
  since : Nat
  missed : Nat
  judged : Bool
  fault : Bool
  pairFault : Bool
  sawLow : Bool
  pulseSeen : Bool
  again : Bool
  pairLow : Bool
  deriving DecidableEq, Repr

def SafeIn.reset : SafeIn := ⟨false, false, 0, 0, false, false, false, false, false, false, false⟩

/-- A safety output (R247, R267, R268): energised, locked out, switches passed de-energised since, since when its
other conditions hold, since when its restart input is high. -/
structure SafeOut where
  energised : Bool
  locked : Bool
  passed : Nat
  condSince : Option Nat
  rise : Option Nat
  deriving DecidableEq, Repr

def SafeOut.reset : SafeOut := ⟨false, false, 0, none, none⟩

/-- A field of the active set (R260, R261): violating points in this frame, whether they reached min_points, frames in
a row before, VIOLATED. -/
structure FieldRun where
  count : Nat
  hit : Bool
  runs : Nat
  violated : Bool
  deriving DecidableEq, Repr

def FieldRun.clear : FieldRun := ⟨0, false, 0, false⟩

/-- A row's sums in a reference block (R256): counts, expected counts, contributing lanes, lanes. -/
structure RowSum where
  refs : Nat
  expected : Frac
  lanes : Nat
  all : Nat
  deriving DecidableEq, Repr

def RowSum.none : RowSum := ⟨0, ⟨0, 1⟩, 0, 0⟩

/-- The reference block in progress: its elapsed start, first dwell, dwells so far and rows. -/
structure RefBlock where
  start : Nat
  first : Nat
  count : Nat
  rows : Tab RowSum
  deriving DecidableEq, Repr

/-- A dwell whose tag is checked and whose points wait for their block's verdict. -/
structure HeldDwell where
  dwellNo : Nat
  col : Nat
  blind : Bool
  points : List Pt
  deriving DecidableEq, Repr

/-- Tussock. `cells` are accumulators by time base × 256 + cell, newest sub-interval first, in fJ, and `fill` what every
cell of a base holds besides (R252, R253); `verdicts` blocks judged as first and last dwell and blind rows; `fields`
and `oldFields` the runs of the active set and, in the first frame after a change, the old one; times in Tussock's
time base. -/
structure Saf where
  tested : Bool
  latched : Nat
  clockPresent : Bool
  clockRatios : List Nat
  clockBad : Bool
  clockAt : Nat
  railClosed : Bool
  railFail : Nat
  armTests : Nat
  cells : Tab (List Nat)
  fill : List (List Nat)
  missing : Nat
  invSince : Option Nat
  devSince : Option Nat
  disSince : Option Nat
  frozen : List Int
  block : Option RefBlock
  verdicts : List (Nat × Nat × Nat)
  held : List HeldDwell
  tagBad : Nat
  lastDwell : Option Nat
  committed : Option Bytes
  committedCheck : Nat
  pending : Option (Bytes × Nat × Nat)
  set : Option Nat
  oldSet : Option Nat
  fields : List FieldRun
  oldFields : List FieldRun
  inputs : List SafeIn
  disc : List (Option Nat)
  sampleAt : Nat
  pulses : List (Option Nat)
  tpFault : Nat
  outs : List SafeOut
  vsafeOk : Bool
  vsafeMv : Nat
  deriving DecidableEq, Repr

def Saf.reset : Saf :=
  { tested := false, latched := 0, clockPresent := false, clockRatios := [], clockBad := false, clockAt := 0,
    railClosed := false, railFail := 0, armTests := 0, cells := [], fill := List.replicate 5 (List.replicate 17 0),
    missing := 0, invSince := none, devSince := none, disSince := none, frozen := [], block := none, verdicts := [],
    held := [], tagBad := 0, lastDwell := none, committed := none, committedCheck := 0, pending := none, set := none,
    oldSet := none, fields := List.replicate 4 FieldRun.clear, oldFields := [], inputs := List.replicate 8 SafeIn.reset,
    disc := List.replicate 4 none, sampleAt := 0, pulses := List.replicate 4 none, tpFault := 0,
    outs := List.replicate 2 SafeOut.reset, vsafeOk := false, vsafeMv := 0 }

/-! ### HST and Hook (chapter 11) -/

/-- HST connection states (R289). -/
inductive HstState where
  | closed | start | run | fault
  deriving DecidableEq, Repr

/-- A connection: status (R295), counters (R296: sent, accepted, check failures, repetitions, lost), sequence number
to send next, reference sequence number once known, stamp of the latest accepted message, stamps sent since START,
times of its last acceptance, of check failures in RUN, of its fault, of its next cyclic message and of its last extra one, the data
bytes last sent, and since when each restart bit is set. -/
structure Conn where
  state : HstState
  cause : Nat
  seen : Bool
  permit : Nat
  set : Nat
  counters : List Nat
  txSeq : Nat
  rxSeq : Option Nat
  echo : Nat
  stamps : List (Nat × Nat)
  acceptedAt : Nat
  fails : List Nat
  faultAt : Nat
  cycleAt : Nat
  extraAt : Nat
  sent : Bytes
  rise : List (Option Nat)
  deriving DecidableEq, Repr

def Conn.closed : Conn :=
  { state := .closed, cause := 0, seen := false, permit := 0, set := 0xFF, counters := [0, 0, 0, 0, 0], txSeq := 0,
    rxSeq := none, echo := 0, stamps := [], acceptedAt := 0, fails := [], faultAt := 0, cycleAt := 0, extraAt := 0,
    sent := [], rise := [none, none] }

/-- Hook A's host result record (R283) and the command that runs, if any. -/
structure HookRec where
  job : Nat
  check : Nat
  addr : Nat
  length : Nat
  a : Nat
  s : Nat
  status : Nat
  corrected : Nat
  tEnd : Nat
  run : Option (Nat × Nat)
  deriving DecidableEq, Repr

/-- Connections, datagrams whose Hook B job waits, and Hook A. -/
structure Hst where
  conns : List Conn
  jobs : List (Nat × Bytes)
  hook : HookRec
  deriving DecidableEq, Repr

def Hst.reset : Hst :=
  { conns := List.replicate 8 Conn.closed, jobs := [], hook := ⟨0, 0, 0, 0, 0, 0, 0, 0, 0, none⟩ }


/-! ### Cast-on and security (chapter 15) -/

/-- A component in the loader (R370): its announced length, its chunks as offset and bytes with the newest first,
and once verified its version and pair identifier. -/
structure Comp where
  total : Option Nat
  chunks : List (Nat × Bytes)
  verified : Bool
  version : Nat
  pairId : Nat
  deriving DecidableEq, Repr

def Comp.none : Comp := ⟨Option.none, [], false, 0, 0⟩

/-- Loader, measurements, fuses and debug port (R369 to R382). `owner` is the loader's port, `claimAt` the time of its
latest loader command; `measures` M0 to M7; `burned` the fuses that read burned, which outlive every reset; `q` the
leaf of this cast-on, `leaves` its bottom leaves spent, `path` the held authentication path; `challenge` an
outstanding scope and nonce; `scopes` the unlocked scopes. -/
structure Sec where
  owner : Nat
  claimAt : Nat
  app : Comp
  safety : Comp
  lastReason : Nat
  measures : List Bytes
  burned : List Nat
  q : Option Nat
  lmsOff : Bool
  leaves : Nat
  path : Option Bytes
  challenge : Option (Nat × Bytes)
  scopes : Nat
  deriving DecidableEq, Repr

def Sec.reset : Sec :=
  { owner := 0, claimAt := 0, app := Comp.none, safety := Comp.none, lastReason := 0,
    measures := List.replicate 8 (zeros 48), burned := [], q := none, lmsOff := false, leaves := 0, path := none,
    challenge := none, scopes := 0 }

/-! ### The whole device -/

/-- The device apart from the mailbox memories: one group per chapter. `writes` are bytes the device
puts into the mailbox memories in this step, `out` what left its pins in this step, `drawn` the number
of open values met so far (DESIGN CHOICE, assumption log, entry 5). -/
structure Dev where
  sys : Sys
  seq : Seq
  prm : Prm
  recv : Recv
  rep : Rep
  gauge : Gauge
  tim : Tim
  histo : Histo
  pts : Pts
  emi : Emi
  scan : Scan
  sense : Sense
  loops : Loops
  saf : Saf
  hst : Hst
  sec : Sec
  slu : Slu
  peat : Peat
  net : Net
  pcie : Pcie
  spi : Spi
  sync : Sync
  trig : Trig
  kmp : Kmp
  diag : Diag
  ev : Ev
  writes : List (Nat × Bytes)
  out : List Out
  drawn : Nat
  deriving DecidableEq, Repr

def Dev.reset : Dev :=
  { sys := Sys.reset,
    seq := Seq.reset,
    prm := Prm.reset,
    recv := Recv.reset,
    rep := Rep.reset,
    gauge := Gauge.reset,
    tim := Tim.reset,
    histo := Histo.reset,
    pts := Pts.reset,
    emi := Emi.reset,
    scan := Scan.reset,
    sense := Sense.reset,
    loops := Loops.reset,
    saf := Saf.reset,
    hst := Hst.reset,
    sec := Sec.reset,
    slu := Slu.reset,
    peat := Peat.reset,
    net := Net.reset,
    pcie := Pcie.reset,
    spi := Spi.reset,
    sync := Sync.reset,
    trig := Trig.reset,
    kmp := Kmp.reset,
    diag := Diag.reset,
    ev := Ev.reset,
    writes := [], out := [], drawn := 0 }

/-- The state: the commands waiting, first in first out; the memories of mailboxes 0 and 1 (R340),
unlisted bytes reading as zero; and the device. -/
structure State where
  pending : List Instr
  ram : List Host.Cell
  dev : Dev
  deriving DecidableEq, Repr

/-- Right after reset: nothing waiting, memories with nothing listed, every register at its reset value. -/
def State.reset : State :=
  { pending := [], ram := [], dev := Dev.reset }

end Sys2Proof.Machine
end

