-- ==== Sys2Proof/Machine/Update.lean ====
section
/-!
DEFINITION. One update per group of the device, so that every operation says which groups it
touches.
-/
namespace Sys2Proof.Machine

/-- Update the group `sys`. -/
def modSys (f : Sys → Sys) (d : Dev) : Dev := { d with sys := f d.sys }

/-- Update the group `seq`. -/
def modSeq (f : Seq → Seq) (d : Dev) : Dev := { d with seq := f d.seq }

/-- Update the group `prm`. -/
def modPrm (f : Prm → Prm) (d : Dev) : Dev := { d with prm := f d.prm }

/-- Update the group `recv`. -/
def modRecv (f : Recv → Recv) (d : Dev) : Dev := { d with recv := f d.recv }

/-- Update the group `rep`. -/
def modRep (f : Rep → Rep) (d : Dev) : Dev := { d with rep := f d.rep }

/-- Update the group `gauge`. -/
def modGauge (f : Gauge → Gauge) (d : Dev) : Dev := { d with gauge := f d.gauge }

/-- Update the group `tim`. -/
def modTim (f : Tim → Tim) (d : Dev) : Dev := { d with tim := f d.tim }

/-- Update the group `histo`. -/
def modHisto (f : Histo → Histo) (d : Dev) : Dev := { d with histo := f d.histo }

/-- Update the group `pts`. -/
def modPts (f : Pts → Pts) (d : Dev) : Dev := { d with pts := f d.pts }

/-- Update the group `emi`. -/
def modEmi (f : Emi → Emi) (d : Dev) : Dev := { d with emi := f d.emi }

/-- Update the group `scan`. -/
def modScan (f : Scan → Scan) (d : Dev) : Dev := { d with scan := f d.scan }

/-- Update the group `sense`. -/
def modSense (f : Sense → Sense) (d : Dev) : Dev := { d with sense := f d.sense }

/-- Update the group `loops`. -/
def modLoops (f : Loops → Loops) (d : Dev) : Dev := { d with loops := f d.loops }

/-- Update the group `saf`. -/
def modSaf (f : Saf → Saf) (d : Dev) : Dev := { d with saf := f d.saf }

/-- Update the group `hst`. -/
def modHst (f : Hst → Hst) (d : Dev) : Dev := { d with hst := f d.hst }

/-- Update the group `sec`. -/
def modSec (f : Sec → Sec) (d : Dev) : Dev := { d with sec := f d.sec }

/-- Update the group `slu`. -/
def modSlu (f : Slu → Slu) (d : Dev) : Dev := { d with slu := f d.slu }

/-- Update the group `peat`. -/
def modPeat (f : Peat → Peat) (d : Dev) : Dev := { d with peat := f d.peat }

/-- Update the group `net`. -/
def modNet (f : Net → Net) (d : Dev) : Dev := { d with net := f d.net }

/-- Update the group `pcie`. -/
def modPcie (f : Pcie → Pcie) (d : Dev) : Dev := { d with pcie := f d.pcie }

/-- Update the group `spi`. -/
def modSpi (f : Spi → Spi) (d : Dev) : Dev := { d with spi := f d.spi }

/-- Update the group `sync`. -/
def modSync (f : Sync → Sync) (d : Dev) : Dev := { d with sync := f d.sync }

/-- Update the group `trig`. -/
def modTrig (f : Trig → Trig) (d : Dev) : Dev := { d with trig := f d.trig }

/-- Update the group `kmp`. -/
def modKmp (f : Kmp → Kmp) (d : Dev) : Dev := { d with kmp := f d.kmp }

/-- Update the group `diag`. -/
def modDiag (f : Diag → Diag) (d : Dev) : Dev := { d with diag := f d.diag }

/-- Update the group `ev`. -/
def modEv (f : Ev → Ev) (d : Dev) : Dev := { d with ev := f d.ev }

/-- Record something leaving the device, newest first. DESIGN CHOICE (assumption log, entry 65). -/
def emit (o : Out) (d : Dev) : Dev := { d with out := o :: d.out }

/-- Put bytes into the mailbox memories at the end of this step. -/
def ramPut (addr : Nat) (bs : Bytes) (d : Dev) : Dev := { d with writes := d.writes ++ [(addr, bs)] }

/-- Meet one more open value. -/
def draw (d : Dev) : Dev := { d with drawn := d.drawn + 1 }

end Sys2Proof.Machine
end

