-- ==== Sys2Proof/Machine/Ops.lean ====
section
/-!
DEFINITION. The operations every chapter uses: the mailbox memories, parameters in force, free
values, events (R457 to R464), interrupts (R343, R389) and responses (R393, R394, R397, R407).
-/
namespace Sys2Proof.Machine

/-! ### Mailbox memories (R340, R346) -/

/-- The canonical form of the mailbox memories: addresses strictly rising, no zero byte listed. -/
def Memory.wf (m : List Host.Cell) : Bool := tabWf 0#8 m

/-- One byte; an unlisted byte reads as zero (DESIGN CHOICE, assumption log, entry 6). -/
def memGet (m : List Host.Cell) (a : Nat) : Byte := tabGet 0#8 m a

/-- Write one byte. -/
def memSet (m : List Host.Cell) (a : Nat) (b : Byte) : List Host.Cell := tabSet 0#8 m a b

/-- `k` bytes from an address. -/
def memRead (m : List Host.Cell) (a k : Nat) : Bytes := (List.range k).map (fun i => memGet m (a + i))

/-- Write bytes from an address. -/
def memWrite (m : List Host.Cell) : Nat → Bytes → List Host.Cell
  | _, [] => m
  | a, b :: bs => memWrite (memSet m a b) (a + 1) bs

/-- Carry out the writes of one step in order. -/
def memWrites (m : List Host.Cell) (ws : List (Nat × Bytes)) : List Host.Cell :=
  ws.foldl (fun m w => memWrite m w.1 w.2) m

/-- The memories of mailbox 0 and mailbox 1 are two copies of the BAR0 layout. -/
def ramBase (mb : Nat) : Nat := mb * 0x40000

def cmdSlotAddr (mb i : Nat) : Nat := ramBase mb + 0x1000 + 1024 * (i % 16)
def rspSlotAddr (mb i : Nat) : Nat := ramBase mb + 0x5000 + 1024 * (i % 16)
def bulkAddr (mb : Nat) : Nat := ramBase mb + 0x10000

/-- The offset lies in memory of the BAR0 layout: command slots, response slots or bulk window (R340). -/
def isRamOffset (off : Nat) : Bool :=
  decide (0x1000 ≤ off ∧ off < 0x9000) || decide (0x10000 ≤ off ∧ off < 0x20000)

/-! ### Parameters, states, free values -/

/-- The value of a parameter in force. -/
def prmGet (d : Dev) (id : Nat) : Nat := paramIn d.prm.vals id

/-- The signed value of a parameter in force. -/
def prmGetS (d : Dev) (id : Nat) : Int := paramInS d.prm.vals id

/-- The next open value, below `n` (DESIGN CHOICE, assumption log, entry 5). -/
def freeBelow (d : Dev) (n : Nat) : Nat := if n = 0 then 0 else Config.free d.drawn % n

/-- The operating state as DEV_STATE encodes it (R389). -/
def opCode (o : OpState) : Nat :=
  match o with
  | .ready => 0
  | .armed => 1
  | .running => 2
  | .safeStop => 3
  | .bindOff => 4
  | .halted => 5
  | .castOn => 0xFF

/-- The lanes, tables and ticks work: out of reset, after cast-on, not yet stopped (R23). -/
def ticking (d : Dev) : Bool :=
  match d.sys.op with
  | .ready => true
  | .armed => true
  | .running => true
  | .safeStop => true
  | _ => false

/-- Device time never runs back (R106 apart); a tick or deadline brings it forward. -/
def advanceTo (t : Nat) (d : Dev) : Dev := modSys (fun y => { y with now := max y.now t }) d

/-- Elapsed time, device time without the servo's steps: Tussock counts it (R287), and every duration runs in it, since a
step of device time makes no interval longer or shorter (DEDUCED from R105, assumption log, entry 48). -/
def tussNow (d : Dev) : Nat := ((d.sys.now : Int) - d.sys.stepSum).toNat

/-- Bring time forward to an instant of elapsed time. -/
def advanceTuss (t : Nat) (d : Dev) : Dev := advanceTo ((t : Int) + d.sys.stepSum).toNat d

/-! ### Events (chapter 19) -/

/-- A source's route: bits 5 to 7 set and vector 10, or 9 for 512 to 639, until EVENT_ROUTE sets it (R463). -/
def evRouteDefault (src : Nat) : Nat := 0xE0 + (if 512 ≤ src ∧ src ≤ 639 then 9 else 10)

def evRoute (d : Dev) (src : Nat) : Nat :=
  match d.ev.routes.find? (fun e => e.1 == src) with
  | some e => e.2
  | none => evRouteDefault src

/-- The MSI-X vector of a source's records: 9 for 512 to 639 whatever the route says (R416). -/
def evVector (d : Dev) (src : Nat) : Nat := if 512 ≤ src ∧ src ≤ 639 then 9 else evRoute d src % 32

def evIsSafety (r : EvRec) : Bool := decide (512 ≤ r.source ∧ r.source ≤ 639)

/-- A record comes after another of the same clock cycle: the greater source, then condition (R458). -/
def evAfter (r x : EvRec) : Bool := x.time == r.time && decide (r.source < x.source ∨ (r.source = x.source ∧ r.cond < x.cond))

/-- Put a record at the end of a queue, before those of its clock cycle that come after it. Records with one stamp are of one clock
cycle (DEDUCED from R458, assumption log, entry 79). -/
def evPlace (r : EvRec) (rs : List EvRec) : List EvRec :=
  let later := (rs.reverse.takeWhile (evAfter r)).length
  rs.take (rs.length - later) ++ r :: rs.drop (rs.length - later)

/-- Put a record into a port's queue, or count it lost (R463). -/
def evPush (r : EvRec) (q : EvQueue) : EvQueue :=
  let others := (q.recs.filter (fun x => !evIsSafety x)).length
  if decide (q.recs.length < 512) && (evIsSafety r || decide (others < 448)) then { q with recs := evPlace r q.recs }
  else { q with lost := true, lostCount := incSat 32 q.lostCount }

/-- The port takes records: port 0 queues nothing without a destination (R463). -/
def evPortOpen (d : Dev) (p : Nat) : Bool := p != 0 || prmGet d 0x0B23 != 0xFF

/-- The route bit of a port: 5 for PCIe, 6 for SPI, 7 for the backbone (R416). -/
def evRouteBit (p : Nat) : Nat := if p = 1 then 5 else if p = 2 then 6 else 7

/-- Queue a record on every port its route names. -/
def evDeliver (r : EvRec) (d : Dev) : Dev :=
  let route := evRoute d r.source
  modEv (fun e => { e with queues := (List.range 3).map (fun p =>
    let q := e.queues.getD p ⟨[], false, 0⟩
    if bit route (evRouteBit p) && evPortOpen d p then evPush r q else q) }) d

/-- The device produces records: from BOOT_STAGE 0x70 until HALTED, source 2 being the last after
bind-off began (R463). -/
def evOpen (d : Dev) (src : Nat) : Bool :=
  match d.sys.op with
  | .castOn => false
  | .halted => false
  | .bindOff => src == 2
  | _ => true

/-- Raise a condition of a source: at most once per frame (R458), one record (R462), queued by route. -/
def raise (src cond : Nat) (detail : Bytes) (d : Dev) : Dev :=
  if !evOpen d src || d.ev.raised.contains (src, cond) then d
  else
    let r : EvRec := ⟨src, cond, d.seq.frame, d.sys.now, fitTo 16 detail⟩
    evDeliver r (modEv (fun e => { e with raised := (src, cond) :: e.raised,
                                          fresh := e.fresh ++ [(src, cond, d.sys.now)] }) d)

/-- Raise an owner's event for a saturated lifetime counter, once since cast-on (R464). -/
def raiseSaturated (src key : Nat) (d : Dev) : Dev :=
  if d.ev.saturatedOnce.contains key then d
  else raise src 0 [] (modEv (fun e => { e with saturatedOnce := key :: e.saturatedOnce }) d)

/-! ### Interrupts (R343, R347, R389) -/

/-- Fire an MSI-X vector, or hold it pending while masked or while the bus is not mastered. -/
def fireVector (v : Nat) (d : Dev) : Dev :=
  let e := d.pcie.vecs.getD v ⟨0, 0, true, false⟩
  if e.masked || !d.pcie.busMaster then
    modPcie (fun p => { p with vecs := listMod p.vecs v (fun x => { x with pend := true }) }) d
  else emit (.msix v) (emit (.dma e.addr (le 4 e.data)) d)

/-- Change a mailbox. -/
def modMb (mb : Nat) (f : Mailbox → Mailbox) (d : Dev) : Dev :=
  modKmp (fun k => { k with mbs := listMod k.mbs mb f }) d

/-- A mailbox's fields. -/
def mbGet (d : Dev) (mb : Nat) : Mailbox := d.kmp.mbs.getD mb Mailbox.reset

/-- Set an interrupt cause of a mailbox page; an enabled cause fires vector 0 on mailbox 0 (R389). -/
def irqSet (mb cause : Nat) (d : Dev) : Dev :=
  let d1 := modMb mb (fun m => { m with irqStatus := putBit m.irqStatus cause true }) d
  if mb = 0 && bit (mbGet d 0).irqEnable cause then fireVector 0 d1 else d1

/-- A transport error (R392). -/
def transportError (mb code index : Nat) (d : Dev) : Dev :=
  raise (640 + 8 * mb) 0 []
    (irqSet mb 2 (modMb mb (fun m =>
      { m with errInfo := code + 0x10000 * (index % 65536), errCount := incSat 32 m.errCount }) d))

/-! ### Status codes (R408) -/

def stOk : Nat := 0x0000
def stAccepted : Nat := 0x0001
def stBadOpcode : Nat := 0x0010
def stBadLength : Nat := 0x0011
def stBadParam : Nat := 0x0012
def stNoSession : Nat := 0x0020
def stSessionHeld : Nat := 0x0021
def stLeaseExpired : Nat := 0x0022
def stBusy : Nat := 0x0030
def stAborted : Nat := 0x0031
def stAbortTooLate : Nat := 0x0032
def stInfeasible : Nat := 0x0040
def stBudget : Nat := 0x0041
def stNotPermitted : Nat := 0x0050
def stAuthFailed : Nat := 0x0060
def stSigFailed : Nat := 0x0061
def stHwFault : Nat := 0x0070
def stSyncRefused : Nat := 0x0301
def stSuperseded : Nat := 0x0501

/-! ### Responses (R393, R394) -/

/-- The response header (R394). -/
def rspHeader (c : Cmd) (status len : Nat) (final bulk : Bool) : Bytes :=
  le 2 c.tag ++ le 2 status ++ le 4 len ++ le 2 c.op ++ le 2 (flag final 0 + flag bulk 1) ++ le 4 c.session

/-- Free response slots on a page. -/
def rspRoom (m : Mailbox) : Bool := decide ((m.rspPi + 65536 - m.rspCi) % 65536 < 16)

/-- RSP_WAIT: a response waits for a free slot (R389, R393). -/
def rspWaiting (m : Mailbox) : Bool := !m.rspQueue.isEmpty && !rspRoom m

/-- The slot a page writes its next response to: slot 0 while the ROM serves it (R398). -/
def rspPlace (mb : Nat) (m : Mailbox) : Nat := rspSlotAddr mb (if m.rom then 0 else m.rspPi)

/-- Queue a message on a port for its grant. -/
def queueMsg (p : Nat) (m : Msg) (d : Dev) : Dev :=
  modSlu (fun s => { s with ports := listMod s.ports p (fun x => { x with msgs := x.msgs ++ [m] }) }) d

/-- Post one response: slot, bulk window, RSP_PI, RSP cause (R393, R395). Once the firmware serves the mailbox, the response waits in
its slot for a grant of requester 0x3 on its port (R298, R303). DEDUCED (assumption log, entry 22). -/
def postOne (mb : Nat) (r : Rsp) (d : Dev) : Dev :=
  let m := mbGet d mb
  let d1 := ramPut (rspPlace mb m) (r.header ++ (if r.bulk then [] else r.payload)) d
  let d2 := if r.bulk then ramPut (bulkAddr mb) r.payload d1 else d1
  let d3 := modMb mb (fun m => { m with
    rspPi := (m.rspPi + 1) % 65536, rspQueue := m.rspQueue.tail,
    bulkBusy := m.bulkBusy || r.bulk, bulkRsp := m.bulkRsp || r.bulk,
    bulkOwner := if r.bulk then r.tag else m.bulkOwner }) d2
  let msg : Msg := { requester := 3, bytes := r.header ++ r.payload, addr := [], udpPort := 0, srcPort := 0, mb := mb, tag := r.tag }
  irqSet mb 0 (if m.rom then d3 else queueMsg (mb + 1) msg d3)

/-- Post waiting responses in order while slots are free and the window serves them (R393). -/
def postLoop (mb : Nat) : Nat → Dev → Dev
  | 0, d => d
  | n + 1, d =>
    let m := mbGet d mb
    match m.rspQueue with
    | [] => d
    | r :: _ => if rspRoom m && !(r.bulk && m.bulkBusy) then postLoop mb n (postOne mb r d) else d

def postResponses (mb : Nat) (d : Dev) : Dev :=
  let d1 := postLoop mb (mbGet d mb).rspQueue.length d
  if rspWaiting (mbGet d1 mb) then raise (640 + 8 * mb + 6) 0 [] d1 else d1

/-- Remember the latest response to a tag of a UDP mailbox (R407). -/
def rememberTag (tag : Nat) (rsp : Bytes) (m : Mailbox) : Mailbox :=
  { m with recent := m.recent.map (fun r => if r.tag = tag then { r with response := rsp } else r) }

/-- A message from a UDP mailbox to where its command came from, through requester 0x3 (R336, R406). -/
def udpResponse (c : Cmd) (rsp : Bytes) (d : Dev) : Dev :=
  let msg : Msg := { requester := 3, bytes := rsp, addr := c.src, udpPort := c.srcPort, srcPort := 51100, mb := c.mb, tag := c.tag }
  queueMsg 0 msg (modMb c.mb (rememberTag c.tag rsp) d)

/-- Produce a response. A payload above 1 008 bytes on a page goes to the window when the command set
RSP_BULK, and otherwise turns the response into BAD_LENGTH (R395). -/
def respond (c : Cmd) (status : Nat) (payload : Bytes) (final : Bool) (d : Dev) : Dev :=
  if c.mb ≥ 2 then udpResponse c (rspHeader c status payload.length final false ++ payload) d
  else
    let big := decide (payload.length > 1008)
    let ok := !big || bit c.flags 1
    let st := if ok then status else stBadLength
    let pl := if ok then payload else []
    let r : Rsp := { tag := c.tag, header := rspHeader c st pl.length final (big && ok), payload := pl,
                     bulk := big && ok, final := final }
    postResponses c.mb (modMb c.mb (fun m => { m with rspQueue := m.rspQueue ++ [r] }) d)

/-- The status a response carries after R395. -/
def sentStatus (c : Cmd) (status : Nat) (payload : Bytes) : Nat :=
  if c.mb < 2 && decide (payload.length > 1008) && !bit c.flags 1 then stBadLength else status

/-- End a command: its final response, and its place among the 16 most recent final commands (R405). -/
def finish (c : Cmd) (status : Nat) (payload : Bytes) (d : Dev) : Dev :=
  respond c status payload true
    (modMb c.mb (fun m => { m with
      finals := (⟨c.tag, c.op, sentStatus c status payload⟩ :: m.finals).take 16 }) d)

/-- Accept an asynchronous command: ACCEPTED, and it runs on from now (R394). -/
def accept (c : Cmd) (d : Dev) : Dev :=
  respond c stAccepted [] false (modMb c.mb (fun m => { m with running := m.running ++ [{ c with t := tussNow d }] }) d)

/-- The same command of the same mailbox. -/
def sameCmd (a b : Cmd) : Bool := a.mb == b.mb && a.tag == b.tag && a.op == b.op

/-- Take a command off the running list. -/
def dropRunning (c : Cmd) (d : Dev) : Dev :=
  modMb c.mb (fun m => { m with running := m.running.filter (fun x => !sameCmd x c) }) d

/-- Every running command of the device. -/
def allRunning (d : Dev) : List Cmd := (d.kmp.mbs.map (·.running)).flatten

/-- The running command with an opcode, the first in mailbox order. -/
def findRunning (d : Dev) (op : Nat) : Option Cmd := (allRunning d).find? (fun c => c.op == op)

/-- The running command of a mailbox with a tag. -/
def findTag (d : Dev) (mb tag : Nat) : Option Cmd := (mbGet d mb).running.find? (fun c => c.tag == tag)

/-- Answer the ABORTs of a mailbox that wait for a command that has just ended (R405, no abort point). -/
def endWaitingAborts (c : Cmd) (status : Nat) (d : Dev) : Dev :=
  ((mbGet d c.mb).running.filter (fun a => a.op == 0x0110 && rdU a.payload 0 2 == c.tag)).foldl
    (fun d a => finish a stAbortTooLate (le 2 status ++ zeros 2) (dropRunning a d)) d

/-- End a running command. -/
def finishRunning (c : Cmd) (status : Nat) (payload : Bytes) (d : Dev) : Dev :=
  endWaitingAborts c (sentStatus c status payload) (finish c status payload (dropRunning c d))

/-- End every running command that a test picks. -/
def finishWhere (p : Cmd → Bool) (status : Nat) (payload : Bytes) (d : Dev) : Dev :=
  ((allRunning d).filter p).foldl (fun d c => finishRunning c status payload d) d

/-- ABORT and GET_STATUS overtake (R397). -/
def overtakes (op : Nat) : Bool := op == 0x0110 || op == 0x0111

/-- The command of an opcode that a mailbox starts next: the first taken one, if it is of this opcode; ABORT and GET_STATUS
overtake the commands that wait (R396, R397). -/
def nextCmd (op mb : Nat) (d : Dev) : Option Cmd :=
  if overtakes op then (mbGet d mb).waiting.find? (fun c => c.op == op)
  else ((mbGet d mb).waiting.filter (fun c => !overtakes c.op)).head?.filter (fun c => c.op == op)

/-- A command leaves those that wait. -/
def takeOff (c : Cmd) (mb : Nat) (d : Dev) : Dev :=
  modMb mb (fun m => { m with waiting := m.waiting.filter (fun x => !sameCmd x c) }) d

/-- Start the command of an opcode that a mailbox starts next. Nothing starts where none is there. -/
def startCmd (op mb : Nat) (body : Cmd → Dev → Dev) (d : Dev) : Dev :=
  match nextCmd op mb d with
  | none => d
  | some c => body c (takeOff c mb d)

end Sys2Proof.Machine
end

