-- ==== Sys2Proof/Machine/Plan.lean ====
section
/-!
DEFINITION. Frame plans: the descriptor and its form (R38, R39), column geometry and ramps (R36, R44,
R45), joins (R53), sectors (R37), windows (R47, R48) and the kinematic feasibility checks 1 to 9 of R50.

Angles are in 1/256 mdeg, times in ns, speeds in 1/256 mdeg per ns, all exact.
-/
namespace Sys2Proof.Machine

/-! ### The descriptor -/

def parseZone (bs : Bytes) (off : Nat) : Zone :=
  { columns := rdU bs off 2, pitch := rdU bs (off + 2) 4, shots := rdU bs (off + 6) 1,
    coarse := rdU bs (off + 7) 1, period := rdU bs (off + 8) 2, span := rdU bs (off + 10) 2,
    mode := rdU bs (off + 12) 1, scale := rdU bs (off + 13) 1 }

/-- The plan a descriptor spells. -/
def parsePlan (bs : Bytes) : Plan :=
  { planId := rdU bs 0 4, period := rdU bs 4 4, centre := rdS bs 8 4, rows := rdU bs 0x10 16,
    zones := (List.range (rdU bs 0x0C 1)).map (fun i => parseZone bs (32 + 16 * i)) }

def zoneBytes (z : Zone) : Bytes :=
  le 2 z.columns ++ le 4 z.pitch ++ le 1 z.shots ++ le 1 z.coarse ++ le 2 z.period ++ le 2 z.span ++
    le 1 z.mode ++ le 1 z.scale ++ zeros 2

/-- The descriptor of a plan (R38). -/
def planBytes (p : Plan) : Bytes :=
  le 4 p.planId ++ le 4 p.period ++ leS 4 p.centre ++ le 1 p.zones.length ++ zeros 3 ++ le 16 p.rows ++
    (p.zones.map zoneBytes).flatten

def planColumns (p : Plan) : Nat := (p.zones.map (·.columns)).sum

/-- The field ranges of a zone record (R38). -/
def zoneFormOk (z : Zone) : Bool :=
  decide (1 ≤ z.columns ∧ z.columns ≤ 4096) && decide (256 ≤ z.pitch ∧ z.pitch ≤ 48000) &&
  decide (2 ≤ z.shots ∧ z.shots ≤ 32) && decide (1 ≤ z.coarse ∧ z.coarse + 1 ≤ z.shots) &&
  decide (2500 ≤ z.period) && decide (64 ≤ z.span ∧ z.span ≤ 2400 ∧ z.span % 16 = 0) &&
  decide (z.mode % 4 ≠ 3 ∧ z.mode < 16) && decide (1 ≤ z.scale ∧ z.scale ≤ 128)

/-- The length is that of the zone count it names (R38). -/
def planLengthOk (bs : Bytes) : Bool :=
  decide (32 ≤ bs.length) && decide (bs.length = 32 + 16 * rdU bs 0x0C 1)

/-- Field ranges, reserved fields and the column total (R38, R39). -/
def planFormOk (bs : Bytes) : Bool :=
  let p := parsePlan bs
  decide (1 ≤ p.planId) && decide (40000000 ≤ p.period ∧ p.period ≤ 200000000) &&
  decide (-2560000 ≤ p.centre ∧ p.centre ≤ 2560000) && decide (1 ≤ p.zones.length ∧ p.zones.length ≤ 16) &&
  zeroAt bs 0x0D 3 && p.zones.all zoneFormOk &&
  (List.range p.zones.length).all (fun i => zeroAt bs (32 + 16 * i + 14) 2) &&
  decide (64 ≤ planColumns p ∧ planColumns p ≤ 4096)

/-! ### Dwells and columns -/

def zoneMode (z : Zone) : Nat := z.mode % 4
def zonePhase (z : Zone) : Nat := z.mode / 4 % 4
def dwellLen (z : Zone) : Nat := z.shots * z.period

def noZone : Zone := ⟨0, 0, 0, 0, 0, 0, 0, 0⟩

/-- The zone of a column. -/
def zoneOfCol : List Zone → Nat → Zone
  | [], _ => noZone
  | z :: zs, c => if c < z.columns then z else zoneOfCol zs (c - z.columns)

def zoneIdxOfCol : List Zone → Nat → Nat
  | [], _ => 0
  | z :: zs, c => if c < z.columns then 0 else 1 + zoneIdxOfCol zs (c - z.columns)

/-- The even-frame offset of a column's dwell tick (R36). -/
def colOffset : List Zone → Nat → Nat
  | [], _ => 0
  | z :: zs, c => if c < z.columns then c * dwellLen z else z.columns * dwellLen z + colOffset zs (c - z.columns)

/-- The active sweep length (R45). -/
def activeNs (p : Plan) : Nat := (p.zones.map (fun z => z.columns * dwellLen z)).sum

/-- The turnaround length; negative for a plan whose sweep exceeds its period. -/
def turnaroundNs (p : Plan) : Int := (p.period : Int) - activeNs p

/-- The column of the dwell at a place of the sweep order (R35): even frames sweep upward. -/
def colOfDwell (p : Plan) (frame dwell : Nat) : Nat :=
  if frame % 2 = 0 then dwell else planColumns p - 1 - dwell

/-- The offset of a column's dwell tick in a frame (R36). -/
def dwellOffset (p : Plan) (frame col : Nat) : Nat :=
  if frame % 2 = 0 then colOffset p.zones col
  else activeNs p - colOffset p.zones col - dwellLen (zoneOfCol p.zones col)

/-- The zone at the end of the sweep of a frame: the last zone after an even frame, zone 0 after an odd one (R45). -/
def endZone (p : Plan) (frame : Nat) : Zone :=
  if frame % 2 = 0 then p.zones.getLast?.getD noZone else p.zones.head?.getD noZone

/-! ### Speeds, ramps and the field (R44, R45) -/

/-- 1 °/s in 1/256 mdeg per ns. -/
def degPerS (v : Nat) : Frac := fracMk (v * 256000) 1000000000

/-- 1 °/s² in 1/256 mdeg per ns². -/
def degPerS2 (a : Nat) : Frac := fracMk (a * 256000) 1000000000000000000

def zoneSpeed (z : Zone) : Frac := fracMk z.pitch (dwellLen z)

/-- The ramp's length in dwells of the faster zone: the smallest whole number within `aMax` (R44). -/
def rampDwells (aMax : Frac) (fast slow : Zone) : Nat :=
  let dv := fracSub (zoneSpeed fast) (zoneSpeed slow)
  if dv.num ≤ 0 then 0
  else (fracCeil (fracDiv dv (fracMul aMax (fracN (dwellLen fast))))).toNat

/-- Ramps inside a zone next to its neighbours below and above. -/
def rampIn (aMax : Frac) (zs : List Zone) (i : Nat) : Nat :=
  if i = 0 then 0 else rampDwells aMax (zs.getD i noZone) (zs.getD (i - 1) noZone)

def rampOut (aMax : Frac) (zs : List Zone) (i : Nat) : Nat :=
  if i + 1 < zs.length then rampDwells aMax (zs.getD i noZone) (zs.getD (i + 1) noZone) else 0

/-- A run of dwells with one acceleration. -/
structure Piece where
  cols : Nat
  len : Nat
  v0 : Frac
  acc : Frac
  deriving DecidableEq, Repr

/-- The pieces of one zone: ramp in, steady part, ramp out. -/
def zonePieces (aMax : Frac) (zs : List Zone) (i : Nat) : List Piece :=
  let z := zs.getD i noZone
  let v := zoneSpeed z
  let ni := rampIn aMax zs i
  let no := rampOut aMax zs i
  let vl := zoneSpeed (zs.getD (i - 1) noZone)
  let vr := zoneSpeed (zs.getD (i + 1) noZone)
  let accI := fracDiv (fracSub v vl) (fracN (ni * dwellLen z))
  let accO := fracDiv (fracSub vr v) (fracN (no * dwellLen z))
  (if ni = 0 then [] else [⟨ni, dwellLen z, vl, accI⟩]) ++
  [⟨z.columns - ni - no, dwellLen z, v, fracI 0⟩] ++
  (if no = 0 then [] else [⟨no, dwellLen z, v, accO⟩])

def planPieces (aMax : Frac) (p : Plan) : List Piece :=
  ((List.range p.zones.length).map (zonePieces aMax p.zones)).flatten

/-- The distance covered in a piece after a time. -/
def pieceAt (c : Piece) (t : Frac) : Frac :=
  fracAdd (fracMul c.v0 t) (fracDiv (fracMul c.acc (fracSq t)) (fracI 2))

def pieceSpan (c : Piece) : Frac := pieceAt c (fracN (c.cols * c.len))

/-- The field span after ramps (R45). -/
def fieldSpan (aMax : Frac) (p : Plan) : Frac :=
  ((planPieces aMax p).map pieceSpan).foldl fracAdd (fracI 0)

def lowerEdge (aMax : Frac) (p : Plan) : Frac :=
  fracSub (fracI p.centre) (fracDiv (fieldSpan aMax p) (fracI 2))

def upperEdge (aMax : Frac) (p : Plan) : Frac :=
  fracAdd (fracI p.centre) (fracDiv (fieldSpan aMax p) (fracI 2))

/-- The angle, speed and acceleration in an even sweep `t` ns after its first dwell tick, from the pieces. -/
def sweepAt : List Piece → Frac → Frac → Frac × Frac × Frac
  | [], x, _ => (x, fracI 0, fracI 0)
  | c :: cs, x, t =>
    let d := fracN (c.cols * c.len)
    if fracLe t d || cs.isEmpty then (fracAdd x (pieceAt c t), fracAdd c.v0 (fracMul c.acc t), c.acc)
    else sweepAt cs (fracAdd x (pieceSpan c)) (fracSub t d)

/-- The trajectory inside the active sweep of a frame; an odd frame is the even one reversed (R36). -/
def trajSweep (aMax : Frac) (p : Plan) (frame : Nat) (t : Frac) : Frac × Frac × Frac :=
  let x0 := lowerEdge aMax p
  if frame % 2 = 0 then sweepAt (planPieces aMax p) x0 t
  else
    let r := sweepAt (planPieces aMax p) x0 (fracSub (fracN (activeNs p)) t)
    (r.1, fracNeg r.2.1, r.2.2)

/-- A column's nominal azimuth, at the middle of its dwell (R36). -/
def colAzimuth (aMax : Frac) (p : Plan) (col : Nat) : Int :=
  let t := fracAdd (fracN (colOffset p.zones col)) (fracMk (dwellLen (zoneOfCol p.zones col)) 2)
  fracRound (trajSweep aMax p 0 t).1

/-- The column table's entry (R36). -/
def columnEntry (aMax : Frac) (p : Plan) (col : Nat) : Bytes :=
  leS 4 (colAzimuth aMax p col) ++ le 4 (colOffset p.zones col)

/-- The stream sector of a column (R37): 1.875° each, from centre − 60°. -/
def sectorOfCol (aMax : Frac) (p : Plan) (col : Nat) : Nat :=
  let rel := colAzimuth aMax p col - (p.centre - 60 * 256000)
  (clampI 0 63 (rel / 480000)).toNat

/-! ### Turnarounds and joins (R45, R49, R53) -/

/-- The overtravel vT/4 at the edge of an end zone (R45). -/
def overtravel (p : Plan) (z : Zone) : Frac :=
  fracDiv (fracMul (zoneSpeed z) (fracI (turnaroundNs p))) (fracI 4)

/-- A join: outgoing speed `v0` outward at `x0`, incoming speed `v1` inward at `x1`, time `t`, seen from
the upper edge. The least peak acceleration is `(2|D| + √(4D² + t²·Δv²)) / t²` with
`D = (x1 − x0) − v0·t + (v0 + v1)·t/2` and `Δv = v0 + v1` (R53). -/
structure Join where
  x0 : Frac
  v0 : Frac
  x1 : Frac
  v1 : Frac
  t : Frac
  deriving DecidableEq, Repr

def joinD (j : Join) : Frac :=
  fracAdd (fracSub (fracSub j.x1 j.x0) (fracMul j.v0 j.t))
    (fracDiv (fracMul (fracAdd j.v0 j.v1) j.t) (fracI 2))

/-- `4D² + t²·Δv²`. -/
def joinS (j : Join) : Frac :=
  fracAdd (fracMul (fracI 4) (fracSq (joinD j))) (fracMul (fracSq j.t) (fracSq (fracAdd j.v0 j.v1)))

/-- The peak acceleration is at most `a` (exact). -/
def joinWithin (j : Join) (a : Frac) : Bool :=
  sqrtPlusLe (joinS j) (fracMul (fracI 2) (fracAbs (joinD j))) (fracMul a (fracSq j.t))

/-- The peak acceleration's value. -/
def joinPeak (j : Join) : Frac :=
  fracDiv (fracAdd (fracMul (fracI 2) (fracAbs (joinD j))) (fracSqrt (joinS j))) (fracSq j.t)

/-- The join's farthest travel stays at or below `r`: it reverses `v²/2a` beyond the outgoing edge when
it brakes first, and beyond the incoming edge when it accelerates first. -/
def joinTravelOk (j : Join) (r : Frac) : Bool :=
  let first := decide ((joinD j).num ≤ 0)
  let x := if first then j.x0 else j.x1
  let v := if first then j.v0 else j.v1
  let room := fracSub r x
  if decide (room.num ≤ 0) then decide (v.num = 0) && decide (room.num = 0)
  else
    let need := fracDiv (fracSq v) (fracMul (fracI 2) room)
    let rhs := fracSub (fracMul need (fracSq j.t)) (fracMul (fracI 2) (fracAbs (joinD j)))
    decide (rhs.num ≤ 0) || fracLe (fracSq rhs) (joinS j)

/-- A plan with the a_max its ramps are formed with (R44). -/
structure Course where
  aMax : Frac
  plan : Plan
  deriving DecidableEq, Repr

/-- The join from one plan to another in a turnaround of `turn` ns after a frame of the given parity (R53); the lower edge
mirrored. -/
def joinIn (old new : Course) (frame : Nat) (turn : Int) : Join :=
  if frame % 2 = 0 then
    { x0 := upperEdge old.aMax old.plan, v0 := zoneSpeed (endZone old.plan 0), x1 := upperEdge new.aMax new.plan,
      v1 := zoneSpeed (endZone new.plan 0), t := fracI turn }
  else
    { x0 := fracNeg (lowerEdge old.aMax old.plan), v0 := zoneSpeed (endZone old.plan 1),
      x1 := fracNeg (lowerEdge new.aMax new.plan), v1 := zoneSpeed (endZone new.plan 1), t := fracI turn }

/-- The join in the outgoing plan's own turnaround. -/
def joinOf (old new : Course) (frame : Nat) : Join := joinIn old new frame (turnaroundNs old.plan)

/-- The trajectory in a join, `t` ns after the active sweep's end: angle, speed, acceleration. -/
def joinAt (j : Join) (t : Frac) : Frac × Frac × Frac :=
  let a := joinPeak j
  let s := if (joinD j).num ≤ 0 then fracNeg a else a
  let t1 := fracDiv (fracSub j.t (fracDiv (fracAdd j.v0 j.v1) s)) (fracI 2)
  let at1 (u : Frac) := fracAdd j.x0 (fracAdd (fracMul j.v0 u) (fracDiv (fracMul s (fracSq u)) (fracI 2)))
  if fracLe t t1 then (at1 t, fracAdd j.v0 (fracMul s t), s)
  else
    let u := fracSub t t1
    let v := fracAdd j.v0 (fracMul s t1)
    (fracAdd (at1 t1) (fracSub (fracMul v u) (fracDiv (fracMul s (fracSq u)) (fracI 2))),
      fracSub v (fracMul s u), fracNeg s)

/-- The whole trajectory of a frame with one plan followed by another, its turnaround `turn` ns long, `t` ns after the frame
tick. -/
def trajAt (p next : Course) (frame : Nat) (turn : Int) (t : Nat) : Frac × Frac × Frac :=
  if t < activeNs p.plan then trajSweep p.aMax p.plan frame (fracN t)
  else
    let r := joinAt (joinIn p next frame turn) (fracN (t - activeNs p.plan))
    if frame % 2 = 0 then r else (fracNeg r.1, fracNeg r.2.1, fracNeg r.2.2)

/-! ### Feasibility (R50) -/

/-- Scanner limits (R46) and the Tension tick period. -/
structure PlanEnv where
  tick : Nat
  vMax : Nat
  aMax : Nat
  half : Nat
  deriving DecidableEq, Repr

/-- The limits in a table of parameter values (R46, R218). -/
def planEnv (vals : Tab Nat) : PlanEnv :=
  { tick := paramIn vals 0x0A01 * 10, vMax := paramIn vals 0x0805, aMax := paramIn vals 0x0806 * 1000,
    half := paramIn vals 0x0807 }

def aMaxOf (vals : Tab Nat) : Frac := degPerS2 (planEnv vals).aMax

/-- The first zone that fails a test. -/
def firstZone (p : Plan) (bad : Zone → Bool) : Option Nat := p.zones.findIdx? bad

/-- The diagnostic and mechanical minimum of a turnaround (R49). -/
def turnaroundOk (e : PlanEnv) (p : Plan) (z : Zone) : Bool :=
  decide ((2 * dwellLen z + 1952000 : Int) ≤ turnaroundNs p) &&
  fracLe (fracDiv (fracMul (fracI 2) (zoneSpeed z)) (degPerS2 e.aMax)) (fracI (turnaroundNs p))

/-- Checks 1 to 3 of R50: the reason code and the zone of the first failure. -/
def planChecksA (e : PlanEnv) (p : Plan) : Option (Nat × Nat) :=
  match firstZone p (fun z => decide (z.period < z.span + 100)) with
  | some i => some (1, i)
  | none =>
    match firstZone p (fun z => decide (dwellLen z < 12288)) with
    | some i => some (2, i)
    | none => if p.period % e.tick = 0 then none else some (3, 0xFF)

/-- Checks 4 and 5. -/
def planChecksB (e : PlanEnv) (p : Plan) : Option (Nat × Nat) :=
  match firstZone p (fun z => fracLt (degPerS e.vMax) (zoneSpeed z)) with
  | some i => some (4, i)
  | none =>
    let a := degPerS2 e.aMax
    match (List.range p.zones.length).find? (fun i =>
        decide ((p.zones.getD i noZone).columns < rampIn a p.zones i + rampOut a p.zones i)) with
    | some i => some (5, i)
    | none => none

/-- One edge of check 8. -/
def edgeOk (e : PlanEnv) (edge : Frac) (ovr : Frac) : Bool :=
  fracLe (fracAdd (fracAbs edge) ovr) (fracN (e.half * 256))

/-- A plan under the limits. -/
def PlanEnv.course (e : PlanEnv) (p : Plan) : Course := ⟨degPerS2 e.aMax, p⟩

/-- One join of check 9. -/
def joinOk (e : PlanEnv) (old : Course) (new : Plan) (frame : Nat) : Bool :=
  let j := joinOf old (e.course new) frame
  joinWithin j (degPerS2 e.aMax) && joinTravelOk j (fracN (e.half * 256))

/-- Checks 6 to 9, the join against the outgoing plan `old`. -/
def planChecksC (e : PlanEnv) (old : Course) (p : Plan) : Option (Nat × Nat) :=
  let a := degPerS2 e.aMax
  let last := p.zones.length - 1
  if fracLt (fracI (120 * 256000)) (fieldSpan a p) then some (6, 0xFF)
  else if !turnaroundOk e p (endZone p 0) then some (7, last)
  else if !turnaroundOk e p (endZone p 1) then some (7, 0)
  else if !edgeOk e (upperEdge a p) (overtravel p (endZone p 0)) then some (8, last)
  else if !edgeOk e (lowerEdge a p) (overtravel p (endZone p 1)) then some (8, 0)
  else if !joinOk e old p 0 then some (9, last)
  else if !joinOk e old p 1 then some (9, 0)
  else none

/-- Checks 4 to 9, as a change of scanner limits re-runs them (R431). -/
def planChecks49 (e : PlanEnv) (old : Course) (p : Plan) : Option (Nat × Nat) :=
  match planChecksB e p with
  | some r => some r
  | none => planChecksC e old p

/-- Checks 1 to 9 of R50 in order. -/
def planChecks19 (e : PlanEnv) (old : Course) (p : Plan) : Option (Nat × Nat) :=
  match planChecksA e p with
  | some r => some r
  | none => planChecks49 e old p

/-- The greatest acceleration of the trajectory with both joins (R420), in °/s², rounded. -/
def accelMax (e : PlanEnv) (old : Course) (p : Plan) : Nat :=
  let a := degPerS2 e.aMax
  let peaks := ((planPieces a p).map (fun c => fracAbs c.acc)) ++
    [0, 1].map (fun f => fracDiv (fracMul (fracI 2) (zoneSpeed (endZone p f))) (fracI (turnaroundNs p))) ++
    [0, 1].map (fun f => joinPeak (joinOf old (e.course p) f))
  let m := peaks.foldl fracMax (fracI 0)
  (fracRound (fracDiv m (degPerS2 1))).toNat

/-- Shots and points per frame (R420): a near-field dwell forms the points of its 32 rows (R48), rows
that row_enable clears form none. -/
def planShots (p : Plan) : Nat := (p.zones.map (fun z => z.columns * z.shots)).sum

/-- Whether a near-field or normal dwell of a zone receives a row at a column (R47, R48). -/
def rowReceived (z : Zone) (col row : Nat) : Bool :=
  if zoneMode z = 0 then true
  else
    let j := if zoneMode z = 1 then zonePhase z else col % 4
    row % 8 == j || row % 8 == j + 4

def rowEnabled (p : Plan) (row : Nat) : Bool := bit p.rows row

/-- The rows a dwell yields points for. -/
def dwellRows (p : Plan) (col : Nat) : List Nat :=
  (List.range 128).filter (fun r => rowEnabled p r && rowReceived (zoneOfCol p.zones col) col r)

def planPoints (p : Plan) : Nat := ((List.range (planColumns p)).map (fun c => (dwellRows p c).length)).sum

/-- How many receive columns a dwell's window spans past the first (R47, R48). -/
def windowCols (z : Zone) : Nat := if zoneMode z = 0 then 8 else 32

end Sys2Proof.Machine
end

