-- ==== Sys2Proof/Machine/Weave.lean ====
section
/-!
DEFINITION. The Weave's geometry: channels, lanes, rows, segments, the window and the macropixel that
feeds a channel (R18, R47, R48, R64, R75 to R78, R82, R85).
-/
namespace Sys2Proof.Machine

/-- The entry of a table, if listed. -/
def tabFind {α : Type} (t : Tab α) (k : Nat) : Option α := (t.find? (fun e => e.1 == k)).map (·.2)

/-! ### Lanes and channels (R18, R64) -/

def groupOfLane (p : Nat) : Nat := p / 68
def sliceOfGroup (g : Nat) : Nat := g / 4

/-- The physical lane that serves a channel. -/
def laneOfChan (d : Dev) (c : Nat) : Nat :=
  (c / 64) * 68 + (tabFind d.recv.laneMap c).getD (c % 64)

/-- The channel a lane serves. -/
def chanOfLane (d : Dev) (p : Nat) : Option Nat :=
  ((List.range 64).map (fun i => p / 68 * 64 + i)).find? (fun c => laneOfChan d c == p)

/-- The slice of a group works. -/
def sliceOn (d : Dev) (g : Nat) : Bool := !bit d.recv.gated (sliceOfGroup g)

/-- A channel's lane is in service. -/
def chanInService (d : Dev) (c : Nat) : Bool :=
  sliceOn d (c / 64) && !d.recv.lanesFailed.contains (laneOfChan d c)

/-- The row a channel belongs to in a dwell's window mode, and its window column (R18, R48). -/
def chanRow (z : Zone) (col c : Nat) : Nat :=
  if zoneMode z = 0 then c / 8
  else
    let j := if zoneMode z = 1 then zonePhase z else col % 4
    c / 64 * 8 + j + 4 * (c % 64 / 32)

def chanCol (z : Zone) (c : Nat) : Nat := if zoneMode z = 0 then c % 8 else c % 32

/-- The channels of a row in a dwell, none where the dwell does not receive it. -/
def chansOfRow (z : Zone) (col row : Nat) : List Nat :=
  if zoneMode z = 0 then (List.range 8).map (fun w => row * 8 + w)
  else
    let j := if zoneMode z = 1 then zonePhase z else col % 4
    if row % 8 = j then (List.range 32).map (fun w => row / 8 * 64 + w)
    else if row % 8 = j + 4 then (List.range 32).map (fun w => row / 8 * 64 + 32 + w)
    else []

/-! ### Rows, segments and alignment (R82, R85, R158) -/

/-- The service segment of a row. -/
def nominalSeg (row : Nat) : Nat := 17 * (row / 16) + row % 16

/-- The segment serving a row; 0xFF none. -/
def segOfRow (d : Dev) (row : Nat) : Nat := (tabFind d.emi.rowSeg row).getD (nominalSeg row)

/-- The row a segment serves; 0xFF none. -/
def rowOfSeg (d : Dev) (n : Nat) : Nat :=
  ((List.range 128).find? (fun r => segOfRow d r == n)).getD 0xFF

/-- The alignment entry of a segment; an unset spare takes that of the segment it replaces (R82). -/
def alignEntry (d : Dev) (n : Nat) : AlignEntry :=
  let e := d.recv.align.getD n ⟨0xFFFF, 0, 256⟩
  if e.rowPos = 0xFFFF ∧ n % 17 = 16 then
    let r := rowOfSeg d n
    if r = 0xFF then e else d.recv.align.getD (nominalSeg r) e
  else e

/-- The physical row a segment's band is received on: the row in use, moved only by auto-apply (R85) and kept when auto-apply
is switched off. Where no entry says a row (a row without a serving segment, an entry not set) it is 255, off the array, so that
the row's channels are dark (DESIGN CHOICE, assumption log, entry 68: R82 and R85 say neither). -/
def physRow (d : Dev) (n : Nat) : Nat := (tabFind d.recv.rowUse n).getD ((alignEntry d n).rowPos / 256)

/-- The refined row_pos (R85): the host's entry plus the running estimate, which is kept in 1/65536 row. -/
def refinedPos (d : Dev) (n : Nat) : Nat :=
  ((alignEntry d n).rowPos + clampI (-512) 512 (roundDiv (tabGet 0 d.recv.estimate n) 256)).toNat

/-- The zero-disparity column of a dwell with a segment's offset (R47, R82), in 1/12 288 000 receive column, column 0's
centre at 0: 0.1875° per column, azimuth 0 between columns 319 and 320 (DEDUCED, assumption log, entry 10). -/
def zeroColumn (d : Dev) (az : Int) (n : Nat) : Int :=
  (az + 60 * 256000) * 256 + ((alignEntry d n).colOffset - 128) * 48000

/-- The first receive column of a row's window (R47, R48): z + col_offset / 256 rounded once, less 2. -/
def windowStart (d : Dev) (az : Int) (n : Nat) : Int := roundDiv (zeroColumn d az n) 12288000 - 2

/-! ### Masks and the feed (R75 to R78) -/

/-- The SPAD mask of a macropixel: device-found and host-forced. -/
def spadMask (m : Mask) : Nat := orBits 4 (orBits 4 m.hot m.dead) m.forced

/-- Masked as a whole: by the host, or with fewer than 2 live SPADs (R75). -/
def macroMasked (m : Mask) : Bool := m.whole || decide (4 < 2 + popcount 4 (spadMask m))

def maskAt (d : Dev) (y x : Nat) : Mask := tabGet Mask.none d.recv.masks (y * 640 + x)

/-- The live SPADs of a macropixel. -/
def liveMask (m : Mask) : Nat := clrBits 4 15 (spadMask m)

/-- A macropixel exists and is unmasked. -/
def macroGood (d : Dev) (y : Nat) (x : Int) : Bool :=
  decide (0 ≤ x ∧ x < 640) && decide (y < 160) && !macroMasked (maskAt d y x.toNat)

/-- The macropixel column that feeds a window position: its own, the one above, the one below, or none (R78). A position off
the array (x below 0 or above 639) counts as masked (DESIGN CHOICE, assumption log, entry 68). -/
def feedCol (d : Dev) (y : Nat) (x : Int) : Option Int :=
  if macroGood d y x then some x
  else if macroGood d y (x + 1) then some (x + 1)
  else if macroGood d y (x - 1) then some (x - 1)
  else none

/-- The nominal azimuth and zone of the dwell in progress. -/
def dwellCol (d : Dev) : Nat := colOfDwell d.seq.plan d.seq.frame d.seq.dwell
def dwellZone (d : Dev) : Zone := zoneOfCol d.seq.plan.zones (dwellCol d)

def aMaxDev (d : Dev) : Frac := aMaxOf d.prm.vals

/-- The feed of a channel at a dwell of known zone, column and azimuth: physical row, window position
and feeding column. -/
def chanFeedAt (d : Dev) (z : Zone) (col : Nat) (az : Int) (c : Nat) : Nat × Int × Option Int :=
  let n := segOfRow d (chanRow z col c)
  let y := physRow d n
  let x := windowStart d az n + chanCol z c
  (y, x, feedCol d y x)

/-- The feed of a channel at a column of the plan in force. -/
def chanFeed (d : Dev) (col c : Nat) : Nat × Int × Option Int :=
  chanFeedAt d (zoneOfCol d.seq.plan.zones col) col (colAzimuth (aMaxDev d) d.seq.plan col) c

/-- The channels in service that a macropixel can feed in the dwell in progress (R63), those whose own window position it is
first. -/
def chansFed (d : Dev) (y x : Nat) : List Nat :=
  let z := dwellZone d
  let col := dwellCol d
  let az := colAzimuth (aMaxDev d) d.seq.plan col
  let all := ((List.range 1024).map (fun c => (c, chanFeedAt d z col az c))).filter (fun f =>
    f.2.1 == y && f.2.2.2 == some (x : Int) && chanInService d f.1)
  (all.filter (fun f => f.2.2.1 == (x : Int)) ++ all.filter (fun f => f.2.2.1 != (x : Int))).map (·.1)

/-- The spare lane that listens beside a channel while it serves none: its zero offset is kept up to date like that of a lane
in service (R101). That spare 64 + i listens beside its group's channel i is a DESIGN CHOICE (assumption log, entry 69). -/
def idleSpare (d : Dev) (c : Nat) : Option Nat :=
  let p := c / 64 * 68 + 64 + c % 64
  if 4 ≤ c % 64 ∨ d.recv.lanesFailed.contains p ∨ (chanOfLane d p).isSome then none else some p

/-- The lanes a macropixel feeds: at most four (R63), channels before spares (DESIGN CHOICE which of more, assumption log,
entry 69). -/
def lanesFed (d : Dev) (y x : Nat) : List Nat :=
  let cs := chansFed d y x
  (cs.map (laneOfChan d) ++ cs.filterMap (idleSpare d)).take 4

end Sys2Proof.Machine
end

