-- ==== Sys2Proof/Machine/Lanes.lean ====
section
/-!
DEFINITION. What a lane does: corrected stamps and intervals (R86 to R91), the reed bed (R65 to R71),
the two phases and the candidate tracker (R110 to R116), saturation (R120), dead time (R121, R122),
the interference score (R127) and the dwell record (R128, R129).
-/
namespace Sys2Proof.Machine

/-! ### Corrected times (R89) -/

/-- The Gauge record in force of a lane; start lanes are 1088 + bank. -/
def gaugeOf (d : Dev) (lane : Nat) : GaugeRec := tabGet GaugeRec.none d.gauge.tables lane

/-- `C_i`, the sum of the widths below a tap. -/
def tapBelow (ws : List Nat) (i : Nat) : Nat := (ws.take i).sum

/-- The corrected time of a raw stamp in 1/256 ns (R89): twice the tap's midpoint, rounded as written there. -/
def corrected (g : GaugeRec) (code : Nat) : Nat :=
  let n := code / 64
  let i := code % 64
  let mid2 := 2 * tapBelow g.widths i + g.widths.getD i 0
  n * 256 + (mid2 * 128 + 500000) / 1000000

/-! ### Starts (R87, R88, R112) -/

def startOf (d : Dev) (bank : Nat) : StartLane := d.tim.starts.getD bank StartLane.idle

/-- The mean of a history, rounded to nearest (DESIGN CHOICE, assumption log, entry 66: R88 names no rounding). -/
def meanI (l : List Int) : Int := if l.isEmpty then 0 else roundDiv l.sum l.length

/-- The other banks of a bank's driver die (R87). -/
def dieMates (bank : Nat) : List Nat :=
  ((List.range 4).map (fun i => bank / 4 * 4 + i)).filter (· != bank)

/-- A bank's figure from its own history, else the mean over the other banks of its die, else a default (R88). The mean over
the die is that of its banks' rounded means (DESIGN CHOICE, assumption log, entry 66). -/
def bankMean (d : Dev) (bank : Nat) (hist : StartLane → List Int) (dflt : Int) : Int :=
  let own := hist (startOf d bank)
  if !own.isEmpty then meanI own
  else
    let others := ((dieMates bank).map (fun b => hist (startOf d b))).filter (fun l => !l.isEmpty)
    if others.isEmpty then dflt else meanI (others.map meanI)

/-- The firing delay of a bank in 1/256 ns; 2.000 ns where nothing is known (R88). -/
def firingDelay (d : Dev) (bank : Nat) : Int := bankMean d bank (·.delays) 512

/-- The start of a shot for a bank's lanes in 1/256 ns: the stamped first edge, or the synthetic start. -/
def startTime (d : Dev) (bank : Nat) : Int :=
  match (startOf d bank).first with
  | some t => (t : Int)
  | none => (d.histo.dither * 64 : Nat) + firingDelay d bank

/-- A spacing is good when its second edge is present and within 256 of 256 × s (R112). -/
def goodSpacing (d : Dev) (s : StartLane) : Option Int :=
  match s.first, s.second with
  | some a, some b =>
    let e := (b : Int) - a - 256 * (d.histo.spacing : Int)
    if decide (-256 ≤ e ∧ e ≤ 256) then some e else none
  | _, _ => none

/-- The spacing a bank's lanes use in a shot (R112). -/
def sigmaOf (d : Dev) (bank : Nat) : Int :=
  256 * (d.histo.spacing : Int) +
    (match goodSpacing d (startOf d bank) with
     | some e => e
     | none => bankMean d bank (·.errors) 0)

/-- The bank of a lane: two groups to a bank (R18). -/
def bankOfLane (p : Nat) : Nat := p / 68 / 2

/-! ### Zero offset and lane data -/

def laneGet (d : Dev) (p : Nat) : Lane := tabGet Lane.idle d.recv.lanes p
def modLane (p : Nat) (f : Lane → Lane) (d : Dev) : Dev :=
  modRecv (fun r => { r with lanes := tabMod Lane.idle r.lanes p f }) d
def calGet (d : Dev) (p : Nat) : LaneCal := tabGet LaneCal.none d.tim.lanes p
def modCal (p : Nat) (f : LaneCal → LaneCal) (d : Dev) : Dev :=
  modTim (fun t => { t with lanes := tabMod LaneCal.none t.lanes p f }) d
def modStat (p : Nat) (f : LaneStat → LaneStat) (d : Dev) : Dev :=
  modHisto (fun h => { h with lanes := tabMod LaneStat.none h.lanes p f }) d
def modBankStat (b : Nat) (f : BankStat → BankStat) (d : Dev) : Dev :=
  modHisto (fun h => { h with banks := tabMod BankStat.none h.banks b f }) d

/-- The zero offset as applied, in 1/256 ns, rounded to nearest (R101 names no rounding: DESIGN CHOICE, assumption log,
entry 66). -/
def zeroOffset (d : Dev) (p : Nat) : Int := roundDiv (calGet d p).zq16 256

/-- Add a stamp to a statistic (R99). -/
def statAdd (x : Nat) (s : Stat) : Stat :=
  { n := s.n + 1, s1 := s.s1 + x, s2 := s.s2 + x * x, lo := min s.lo x, hi := if s.n = 0 then x else max s.hi x }

/-- The mean of a statistic; 0x7FFFFFFF where there is none (R99). -/
def statMean (s : Stat) : Nat := if s.n = 0 then 0x7FFFFFFF else (s.s1 + s.n / 2) / s.n

/-- The deviation of a statistic, rounded; 0 below two stamps (R99). -/
def statSigma (s : Stat) : Nat :=
  if s.n < 2 then 0
  else
    let num := s.n * s.s2 - s.s1 * s.s1
    let den := s.n * (s.n - 1)
    let r := isqrt (num / den)
    if (2 * r + 1) * (2 * r + 1) * den ≤ 4 * num then r + 1 else r

/-! ### The candidate tracker (R114) -/

/-- The pair sum at a bin, whether it is a pair, with partner beyond the span doubled. -/
def pairSum (h : Tab Nat) (span s i : Nat) : Nat × Bool :=
  let a := tabGet 0 h i
  if span ≤ i + s then (2 * a, true)
  else
    let b := tabGet 0 h (i + s)
    (a + b, decide (1 ≤ a ∧ 1 ≤ b))

def dist (a b : Nat) : Nat := if a ≤ b then b - a else a - b

/-- The valid slot nearest to a bin within 3, a tie to the lower position. -/
def nearestValid (S : List Slot) (i : Nat) : Option Nat :=
  ((List.range 3).filter (fun a =>
      let x := S.getD a Slot.none
      x.valid && decide (dist x.pos i ≤ 3))).foldl
    (fun best a =>
      match best with
      | none => some a
      | some b =>
        let x := S.getD a Slot.none
        let y := S.getD b Slot.none
        if dist x.pos i < dist y.pos i ∨ (dist x.pos i = dist y.pos i ∧ x.pos < y.pos) then some a else some b)
    none

/-- The first invalid slot; else the least pair sum, a tie to the higher position. -/
def victim (S : List Slot) : Nat :=
  match (List.range 3).find? (fun a => !(S.getD a Slot.none).valid) with
  | some a => a
  | none => (List.range 3).foldl (fun b a =>
      let x := S.getD a Slot.none
      let y := S.getD b Slot.none
      if x.p < y.p ∨ (x.p = y.p ∧ y.pos < x.pos) then a else b) 0

def invalidate (S : List Slot) (a : Nat) : List Slot := listMod S a (fun x => { x with valid := false })

/-- One step of `resolve` against slot `b`: the slots, and whether slot `a` has lost. -/
def resolveStep (s a b : Nat) (r : List Slot × Bool) : List Slot × Bool :=
  let S := r.1
  let x := S.getD a Slot.none
  let y := S.getD b Slot.none
  if r.2 || b == a || !y.valid || !x.valid then r
  else
    let d := dist y.pos x.pos
    if d ≤ 3 then
      if y.p > x.p ∨ (y.p = x.p ∧ y.pos < x.pos) then (invalidate S a, true) else (invalidate S b, false)
    else if dist d s ≤ 1 then
      if 4 * y.p < 3 * x.p then (invalidate S b, false)
      else if 4 * x.p < 3 * y.p then (invalidate S a, true)
      else r
    else r

def resolveSlots (s : Nat) (S : List Slot) (a : Nat) : List Slot :=
  (resolveStep s a 2 (resolveStep s a 1 (resolveStep s a 0 (S, false)))).1

/-- `consider` of R114. -/
def consider (h : Tab Nat) (span s t : Nat) (S : List Slot) (i : Nat) : List Slot :=
  let pp := pairSum h span s i
  if i < 2 ∨ pp.2 = false ∨ pp.1 < t then S
  else match nearestValid S i with
    | some a =>
      let x := S.getD a Slot.none
      if x.pos = i ∨ x.p < pp.1 then resolveSlots s (listMod S a (fun _ => ⟨i, pp.1, true⟩)) a else S
    | none =>
      let a := victim S
      let x := S.getD a Slot.none
      if x.valid = false ∨ x.p < pp.1 then resolveSlots s (listMod S a (fun _ => ⟨i, pp.1, true⟩)) a else S

/-- `on_coarse_increment` of R114, after the bin has been incremented. -/
def onCoarse (h : Tab Nat) (span s t : Nat) (S : List Slot) (j : Nat) : List Slot :=
  let S1 := consider h span s t S j
  if s + 2 ≤ j then consider h span s t S1 (j - s) else S1

/-- The candidates at the close: valid slots in ascending position (R115). -/
def candidates (S : List Slot) : List Slot :=
  (S.filter (·.valid)).foldl (fun acc x =>
    (acc.takeWhile (fun y => decide (y.pos ≤ x.pos))) ++ [x] ++ (acc.dropWhile (fun y => decide (y.pos ≤ x.pos)))) []

/-! ### The skein's banks (R117)

A word reads as its count where its tag is that of the dwell using its bank, and as zero otherwise; its first increment writes
count 1 and the tag. -/

/-- A word's count as a dwell with the tag reads it. -/
def skeinRead (size tag w : Nat) : Nat := if w / size % 2 = tag then w % size else 0

/-- The coarse tag of a dwell: the parity of its number. -/
def coarseTag (n : Nat) : Nat := n % 2

/-- The fine tag of a dwell: bit 1 of its number. -/
def fineTag (n : Nat) : Nat := n / 2 % 2

/-- A bank as a dwell with the tag reads it: its non-zero counts. -/
def skeinView (size tag : Nat) (h : Tab Nat) : Tab Nat :=
  h.filterMap (fun e => if skeinRead size tag e.2 = 0 then none else some (e.1, skeinRead size tag e.2))

/-- The coarse counts of the dwell in progress. -/
def coarseNow (d : Dev) (l : Lane) : Tab Nat := skeinView 1024 (coarseTag d.seq.dwellNo) l.coarse

/-- The fine bank a dwell accumulates in: its number modulo 2. -/
def fineBank (n : Nat) (l : Lane) : Tab Nat := if n % 2 = 0 then l.fine0 else l.fine1

/-- Change the fine bank a dwell accumulates in. -/
def modFineBank (n : Nat) (f : Tab Nat → Tab Nat) (l : Lane) : Lane :=
  if n % 2 = 0 then { l with fine0 := f l.fine0 } else { l with fine1 := f l.fine1 }

/-- The fine counts of a dwell, from its bank. -/
def fineOf (n : Nat) (l : Lane) : Tab Nat := skeinView 16384 (fineTag n) (fineBank n l)

/-- The words of a bank that its next dwell keeps: those the dwell before wrote, which the tag makes read as zero. A word older
than that would match the one-bit tag again; it reads as zero too, as R470 says of every word not written in its own dwell
(DESIGN CHOICE, assumption log, entry 67). -/
def skeinKeep (size tag : Nat) (h : Tab Nat) : Tab Nat := h.filter (fun e => e.2 / size % 2 != tag)

/-! ### Increments and saturation (R113, R117, R120) -/

/-- A bin at full scale: sticky SAT, the dwell's SAT, the group's event (R120). The dwell enters its frame count at its end. -/
def saturate (p : Nat) (d : Dev) : Dev :=
  let d1 := modLane p (fun l => { l with sat := true }) d
  let d2 := modHisto (fun h => { h with status := tabMod LaneStatus.none h.status p (fun w => { w with sat := true }) }) d1
  raise (128 + 8 * groupOfLane p + 2) 0 [] d2

/-- A coarse increment with its tracker update. -/
def coarseInc (p j : Nat) (d : Dev) : Dev :=
  let span := (dwellZone d).span
  let s := d.histo.spacing
  let tag := coarseTag d.seq.dwellNo
  let v := min 1023 (skeinRead 1024 tag (tabGet 0 (laneGet d p).coarse j) + 1)
  let d1 := modLane p (fun l =>
    let h := tabPut j (1024 * tag + v) l.coarse
    { l with coarse := h, slots := onCoarse (skeinView 1024 tag h) span s l.t l.slots j }) d
  if v = 1023 then saturate p d1 else d1

/-- The fine bin a reference falls in, over the valid windows (R113). -/
def fineBin (cands : List Slot) (r : Int) : Option Nat :=
  ((List.range cands.length).find? (fun i =>
      let a := 256 * ((cands.getD i Slot.none).pos : Int) - 384
      decide (a ≤ r ∧ r < a + 1024))).map (fun i =>
    64 * i + ((r - (256 * ((cands.getD i Slot.none).pos : Int) - 384)) / 16).toNat)

/-- One fine increment. -/
def fineInc (p : Nat) (r : Int) (d : Dev) : Dev :=
  match fineBin (laneGet d p).cands r with
  | none => d
  | some b =>
    let n := d.seq.dwellNo
    let v := min 16383 (skeinRead 16384 (fineTag n) (tabGet 0 (fineBank n (laneGet d p)) b) + 1)
    let d1 := modLane p (fun l => { modFineBank n (tabPut b (16384 * fineTag n + v)) l with fineHits := l.fineHits + 1 }) d
    if v = 16383 then saturate p d1 else d1

/-! ### A detection (R90, R91, R100) -/

/-- The background gate of R68 holds a time after the start. DEDUCED (assumption log, entry 43). -/
def inGate (z : Zone) (rel : Int) : Bool := decide (16 * 256 ≤ rel ∧ rel < (z.span : Int) * 256)

/-- The reference gate of R100 holds an interval, before the zero offset. -/
def inRefGate (d : Dev) (x : Int) : Bool :=
  let a := (prmGet d 0x042A : Int) * 64
  decide (a ≤ x ∧ x < a + (prmGet d 0x042B : Int) * 64)

/-- The shot in progress belongs to the coarse phase (R41). -/
def inCoarse (d : Dev) : Bool := decide (d.seq.shot ≤ (dwellZone d).coarse)

/-- The column whose dwell takes the frame's alignment sample (R84): the first at or after the frame
number modulo the columns in a normal zone with at least two fine shots. -/
def sampleCol (p : Plan) (frame : Nat) : Option Nat :=
  let n := planColumns p
  ((List.range n).filter (fun c => decide (frame % n ≤ c))).find? (fun c =>
    let z := zoneOfCol p.zones c
    zoneMode z == 0 && decide (z.coarse + 2 ≤ z.shots))

/-- The dwell in progress takes the alignment sample. -/
def sampleDwell (d : Dev) : Bool :=
  prmGet d 0x0419 == 1 && d.sys.op == .running && sampleCol d.seq.plan d.seq.frame == some (dwellCol d)

/-- The shot in progress is the sample's: the last of that dwell. -/
def sampleShot (d : Dev) : Bool := sampleDwell d && d.seq.shot == (dwellZone d).shots

/-- Count a reference-echo detection of the sample's shot by its lane's row. -/
def alignHit (p : Nat) (d : Dev) : Dev :=
  if !sampleShot d then d
  else match chanOfLane d p with
    | some c => modRecv (fun r => { r with alignHits := tabMod 0 r.alignHits (chanRow (dwellZone d) (dwellCol d) c) (· + 1) }) d
    | none => d

/-- A valid stamp enters a running DIAG_STAMP of its lane and gate, up to 2^24 − 1 stamps (R455). -/
def diagAdd (p : Nat) (v : Int) (d : Dev) : Dev :=
  match d.diag.stamp with
  | none => d
  | some g =>
    if g.begun && g.lane == p && decide ((g.start : Int) ≤ v ∧ v < g.start + g.width) then
      modDiag (fun y => { y with stamp := some (if g.stat.n = 2 ^ 24 - 1 then { g with capped := true }
        else { g with stat := statAdd v.toNat g.stat }) }) d
    else d

/-- A stamp of a lane becomes an interval and is classified (R90): pre-start, near, beyond, or valid; a
valid stamp enters the reference statistic and its phase's histogram. -/
def laneStamp (p code : Nat) (d : Dev) : Dev :=
  let bank := bankOfLane p
  let x := (corrected (gaugeOf d p) code : Int) - startTime d bank
  let dz := x - zeroOffset d p
  let z := dwellZone d
  if dz ≤ -2 then modLane p (fun l => { l with prestart := incSat 8 l.prestart }) d
  else if (z.span : Int) * 256 ≤ dz then d
  else
    let near := decide (dz < 2)
    let v : Int := if near then 0 else dz
    let d1 := if near then modLane p (fun l => { l with near := incSat 8 l.near }) d else d
    let d2 := if inRefGate d x then
        modLane p (fun l => { l with refs := l.refs + 1 }) (modCal p (fun c => { c with ref := statAdd x.toNat c.ref })
          (alignHit p d1))
      else d1
    let d3 := diagAdd p v d2
    if inCoarse d then
      (if d.histo.phaseClosed then d3 else coarseInc p (v.toNat / 256) d3)
    else fineInc p (v - sigmaOf d bank) (fineInc p v d3)

/-! ### The reed bed (R65, R66, R68, R121) -/

/-- Count a live firing in its raw counter, and time its recharge once per shot (R68, R121). -/
def rawCount (p spad : Nat) (rel : Int) (recharge : Nat) (d : Dev) : Dev :=
  let l := laneGet d p
  if !inGate (dwellZone d) rel then d
  else
    let d1 := modLane p (fun l => { l with raw := listMod l.raw spad (incSat 16) }) d
    if bit l.timed spad then d1
    else modLane p (fun l => { l with timed := putBit l.timed spad true })
      (modCal p (fun c => { c with tauSum := c.tauSum + 2 * recharge, tauN := c.tauN + 1 }) d1)

/-- The firings of a macropixel that may still be part of a coincidence at `t`: not older than the window, of live SPADs
(R65). -/
def recentFires (w t live key : Nat) (fs : List (Nat × Nat × Nat)) : List (Nat × Nat × Nat) :=
  fs.filter (fun f => decide (t ≤ f.1 + w) && f.2.1 / 4 == key && bit live (f.2.1 % 4))

/-- How many distinct SPADs fired. -/
def distinctSpads (fs : List (Nat × Nat × Nat)) : Nat := ((fs.map (·.2.1)).eraseDups).length

/-- The shot tick of the shot in progress, in ps of elapsed time. -/
def shotPs (d : Dev) : Nat :=
  ((d.seq.dwellTime + (d.seq.shot - 1) * (dwellZone d).period : Nat) - d.sys.stepSum).toNat * 1000

/-- A time in ps of elapsed time as an interval from the shot tick, in 1/256 ns. -/
def relShot (d : Dev) (t : Nat) : Int := ((t : Int) - shotPs d) * 256 / 1000

/-- A firing of SPAD `spad` (macropixel × 4 + number) that feeds a lane, at `t` ps with raw stamp `stamp`, both counted from the start of
elapsed time, since the coarse counter restarts at every shot tick (R86): a masked SPAD takes no part; in the hold-off it is only
counted; with `k` distinct SPADs within `w` the lane emits a detection at the first of them and holds off 2.0 ns from it, and a firing
at or after the hold-off's end may open the next coincidence (R65, R66). -/
def laneFire (p spad t stamp recharge : Nat) (d : Dev) : Dev :=
  let l := laneGet d p
  if !bit l.live (spad % 4) then d
  else
    let start := startTime d (bankOfLane p)
    let d1 := rawCount p (spad % 4) (relShot d t - start) recharge d
    if t < l.hold then d1
    else
      let fs := recentFires (prmGet d 0x0401 * 125) t l.live (spad / 4) l.fires ++ [(t, spad, stamp)]
      match fs with
      | [] => d1
      | f :: _ =>
        if distinctSpads fs < l.k then modLane p (fun l => { l with fires := fs }) d1
        else
          laneStamp p (f.2.2 - 64 * (shotPs d / 1000)) (modLane p (fun l => { l with
            fires := fs.filter (fun x => decide (f.1 + 2000 ≤ x.1)), hold := f.1 + 2000,
            det := if inGate (dwellZone d) (relShot d f.1 - start) then incSat 16 l.det else l.det }) d1)

/-! ### Depth, threshold, score (R70, R122, R127, R129) -/

def choose : Nat → Nat → Nat
  | _, 0 => 1
  | 0, _ + 1 => 0
  | n + 1, k + 1 => choose n k + choose n (k + 1)

def fracPow (a : Frac) : Nat → Frac
  | 0 => fracI 1
  | n + 1 => fracMul a (fracPow a n)

/-- The per-SPAD rate m of a dwell, per ns (R70). -/
def spadRate (d : Dev) (z : Zone) (l : Lane) : Frac :=
  let n := popcount 4 l.live
  if l.raw.any (· == 65535) then fracMk 2 (prmGet d 0x040A)
  else fracMk ((bitList 4 l.live).map (fun q => l.raw.getD q 0)).sum (n * (z.shots * (z.span - 16)))

/-- The predicted accidental rate at a depth, per ns: n·m·C(n−1, k−1)·(m·w)^(k−1) (R70). -/
def accRate (d : Dev) (n : Nat) (m : Frac) (k : Nat) : Frac :=
  fracMul (fracMul (fracN (n * choose (n - 1) (k - 1))) m)
    (fracPow (fracMul m (fracMk (prmGet d 0x0401) 8)) (k - 1))

/-- A value with the arithmetic's relative error of at most 1 % (R70). -/
def within1pc (a : Frac) (e : Int) : Frac := fracMul a (fracMk (10000 + clampI (-100) 100 e) 10000)

/-- The loop of R70 over the depth. -/
def depthLoop (d : Dev) (p n : Nat) (m target : Frac) (kmax : Nat) : Nat → Nat → Nat
  | 0, k => k
  | f + 1, k =>
    if fracLe (within1pc (accRate d n m k) (Config.bedError d.seq.dwellNo p k)) target || decide (kmax ≤ k) then k
    else depthLoop d p n m target kmax f (k + 1)

/-- The smallest whole number at least `b + q·√b`. -/
def ceilThreshold (b q : Frac) : Nat :=
  let a := fracMul (fracSq q) b
  let n := (fracCeil (fracAdd b (fracSqrt a))).toNat
  if sqrtPlusLe a b (fracN n) then n else n + 1

/-- Depth and threshold for a lane's next dwell (R70): `coarse` is that dwell's coarse_shots. -/
def adapt (d : Dev) (p : Nat) (z : Zone) (coarse : Nat) (l : Lane) : Nat × Nat :=
  let n := popcount 4 l.live
  let m := spadRate d z l
  let kmax := min (prmGet d 0x0405) n
  let k :=
    if prmGet d 0x0402 = 1 then min (prmGet d 0x0403) n
    else depthLoop d p n m (fracMk (prmGet d 0x0407) 4000) kmax 4 (min (prmGet d 0x0404) kmax)
  let b := within1pc (fracMul (accRate d n m k) (fracN coarse)) (Config.bedError d.seq.dwellNo p 8)
  (k, clampN (prmGet d 0x0409) 1023 (ceilThreshold b (fracMk (prmGet d 0x0408) 16)))

/-- The initial settings (R71): k_init, or k_fixed in fixed mode, and t_min. -/
def bedInitial (d : Dev) : Nat × Nat :=
  (if prmGet d 0x0402 = 1 then prmGet d 0x0403 else prmGet d 0x0406, prmGet d 0x0409)

/-- θ of R122, in 1/16 ns. -/
def thetaOf (k live tauM : Nat) : Nat :=
  if 2 * k ≤ popcount 4 live then 32 else max 32 tauM

/-- A bin lies at a candidate or its second echo (R127). -/
def ownBin (cands : List Slot) (s j : Nat) : Bool :=
  cands.any (fun c => decide (dist j c.pos ≤ 2) || decide (dist j (c.pos + s) ≤ 2))

/-- acc_d of R127, per ns: at the depth in force, at most 0.5. -/
def accDwell (d : Dev) (z : Zone) (l : Lane) : Frac :=
  fracMin (accRate d (popcount 4 l.live) (spadRate d z l) l.k) (fracMk 1 2)

/-- The interference score (R127). -/
def interference (d : Dev) (z : Zone) (l : Lane) : Nat :=
  if l.dark then 0
  else
    let s := d.histo.spacing
    let bins := ((List.range z.span).filter (fun j => decide (16 ≤ j) && !ownBin l.cands s j)).length
    let seen := (((coarseNow d l).filter (fun e => decide (16 ≤ e.1) && !ownBin l.cands s e.1)).map (·.2)).sum
    let e := fracMul (accDwell d z l) (fracN (z.coarse * bins))
    let ge (m : Nat) := sqrtPlusLe (fracMul (fracN (4 * m * m)) e) (fracAdd e (fracN (2 * m))) (fracN seen)
    if !ge 2 then 0 else ((List.range 14).map (· + 2)).foldl (fun best m => if ge m then m else best) 2

/-- b_fine of a window (R129), in 1/4096 count, saturating. -/
def bFine (d : Dev) (z : Zone) (l : Lane) (fineShots : Nat) (sigma : Int) (c : Slot) : Nat :=
  let f := if 256 * (c.pos : Int) - 384 + 1024 + sigma ≤ 256 * (z.span : Int) then 2 else 1
  satU 16 (fracRound (fracMul (accDwell d z l) (fracMk (fineShots * f * 4096) 16))).toNat

/-- The dwell record of a lane at the end of its dwell (R128). -/
def laneRecord (d : Dev) (p : Nat) (z : Zone) (fineShots : Nat) : LaneRec :=
  let l := laneGet d p
  let sg := sigmaOf d (bankOfLane p)
  let tauM := (calGet d p).tauM
  { lane := p, cands := l.cands, sigma := ofS 16 sg, fineShots := fineShots, k := l.k, live := l.live, t := l.t,
    bFine := l.cands.map (bFine d z l fineShots sg), theta := thetaOf l.k l.live tauM, tauM := tauM,
    score := interference d z l, detections := l.det, prestart := l.prestart, near := l.near, sat := l.sat,
    code := bit d.tim.codeBanks (bankOfLane p), subst := l.subst, dark := l.dark, refs := l.refs,
    rate := spadRate d z l, fine := fineOf d.seq.dwellNo l }

end Sys2Proof.Machine
end

