-- ==== Sys2Proof/Machine/Emitter.lean ====
section
/-!
DEFINITION. The emitter: drive words and applied currents (R160 to R162), pulse classes and judgement
(R171, R172), marks (R181), substitution (R177, R178) and the status words (R182).
-/
namespace Sys2Proof.Machine

/-! ### Drive (R160 to R163) -/

def driveDefault : Nat := 0x0078
def driveWord (d : Dev) (n : Nat) : Nat := tabGet driveDefault d.emi.drive n
def driveWidth (w : Nat) : Nat := field w 8 4
def driveCurrent (w : Nat) : Nat := w % 256

/-- The encodings of R160 that are not reserved; bits 15 to 12 are ignored (R8). -/
def driveWordOk (w : Nat) : Bool :=
  decide (driveWidth w ≤ 8 ∧ 0x0A ≤ driveCurrent w ∧ driveCurrent w ≤ 0xF0)

/-- Width in half ns. -/
def widthHalfNs (w : Nat) : Nat := 4 + driveWidth w

/-- E_pulse in pJ at a current of `ma` mA: 0.86 W/A × (I − 0.40 A) × w (R162). -/
def pulseEnergy (ma w : Nat) : Frac := fracMk ((86 * (ma - 400) * widthHalfNs w : Nat)) 200

/-- Q_nom in pC at a current of `ma`: (2.2 V + 0.2 Ω × I) × I × w / 30 V (R162). -/
def pulseCharge (ma : Frac) (w : Nat) : Frac :=
  fracDiv (fracMul (fracMul (fracAdd (fracI 2200) (fracMul (fracMk 1 5) ma)) ma) (fracN (widthHalfNs w)))
    (fracI 60000)

/-- The effective code of a segment in a zone, 50 mA units (R161). -/
def effectiveCode (w scale : Nat) : Nat := driveCurrent w * scale / 128

/-- The applied current in steps of 12.5 mA: trimmed, resolved, limited to 12 A (R161). DEDUCED (assumption log, entry 41). -/
def currentSteps (w scale : Nat) (trim : Int) : Nat :=
  min 960 (fracRound (fracMul (fracMul (fracN (50 * effectiveCode w scale)) (fracMk (1024 + trim) 1024)) (fracMk 2 25))).toNat

/-- A current of so many 12.5 mA steps, in mA. -/
def stepsMa (k : Nat) : Frac := fracMk (25 * k) 2

/-- The rail power of a plan with drive words, in mW: 30 V × 2 × ΣQ_nom / period, at the current `cur` gives a word and a zone. -/
def railPowerAt (cur : Nat → Zone → Frac) (drive : Nat → Nat) (seg : Nat → Nat) (p : Plan) : Frac :=
  let per (z : Zone) (row : Nat) : Frac :=
    let n := seg row
    if n = 0xFF then fracI 0
    else pulseCharge (cur n z) (drive n)
  let zoneSum (z : Zone) (first : Nat) : Frac :=
    let fixedRows := (List.range 128).filter (fun r => rowEnabled p r)
    if zoneMode z = 2 then
      (List.range 4).foldl (fun acc j =>
        let cols := ((List.range z.columns).filter (fun i => (first + i) % 4 == j)).length
        fracAdd acc (fracMul (fracN (cols * z.shots))
          (((fixedRows.filter (rowReceived z j)).map (per z)).foldl fracAdd (fracI 0)))) (fracI 0)
    else fracMul (fracN (z.columns * z.shots))
      (((fixedRows.filter (rowReceived z first)).map (per z)).foldl fracAdd (fracI 0))
  let tot := (List.range p.zones.length).foldl (fun acc i =>
    fracAdd acc (zoneSum (p.zones.getD i noZone) ((p.zones.take i).map (·.columns)).sum)) (fracI 0)
  fracDiv (fracMul (fracI 60) tot) (fracN p.period)

/-- The predicted rail power (R163), which leaves the trim out. -/
def railPower (drive : Nat → Nat) (seg : Nat → Nat) (p : Plan) : Frac :=
  railPowerAt (fun n z => fracN (50 * effectiveCode (drive n) z.scale)) drive seg p

/-! ### Segments and banks -/

def segGet (d : Dev) (n : Nat) : Seg := tabGet Seg.none d.emi.segs n
def modSeg (n : Nat) (f : Seg → Seg) (d : Dev) : Dev :=
  modEmi (fun e => { e with segs := tabMod Seg.none e.segs n f }) d
def bankGet (d : Dev) (b : Nat) : Bank := tabGet Bank.none d.emi.banks b
def modBank (b : Nat) (f : Bank → Bank) (d : Dev) : Dev :=
  modEmi (fun e => { e with banks := tabMod Bank.none e.banks b f }) d
def modSegStat (n : Nat) (f : SegStat → SegStat) (d : Dev) : Dev :=
  modEmi (fun e => { e with stats := tabMod SegStat.none e.stats n f }) d

/-- A frame counter of a segment moves by one, sticking at full scale with its overflow bit (R28, R183). -/
def segBump (w i : Nat) (get : SegStat → Nat) (set : SegStat → Nat → SegStat) (s : SegStat) : SegStat :=
  let v := stick w i (get s) 1
  { set s v.1 with overflow := orBits 8 s.overflow v.2 }

/-- An unsigned field of the committed safety configuration; zero where none is committed (R447). -/
def cfgU (d : Dev) (off k : Nat) : Nat :=
  match d.saf.committed with
  | some b => rdU b off k
  | none => 0

/-- The rail cap in mW (R165). -/
def railCap (d : Dev) : Nat := if cfgU d 0x24 2 = 0 then 4000 else cfgU d 0x24 2

/-- The plan in force draws more than the rail cap at the currents applied, or as predicted: the boost limits itself (R165). -/
def railOverdrawn (d : Dev) : Bool :=
  let p := d.seq.plan
  fracLt (fracN (railCap d)) (railPower (driveWord d) (segOfRow d) p) ||
    fracLt (fracN (railCap d)) (railPowerAt (fun n z => stepsMa (currentSteps (driveWord d n) z.scale (bankGet d (n / 17)).trimDwell))
      (driveWord d) (segOfRow d) p)

/-- The inhibit is asserted: the switches are open, or one is for a test (R167, R246). -/
def inhibited (d : Dev) : Bool := d.emi.inhibit || decide (tussNow d < d.emi.testEnd)

/-- A reservoir may lie below the fire threshold: within 8 ms of the switches' closing, or while the plan draws more than the rail
cap (R165, R166). Otherwise every reservoir is above it. -/
def railSoft (d : Dev) : Bool := d.emi.closedAt.any (fun t => decide (tussNow d < t + 8000000)) || railOverdrawn d

/-- The spare serves a row (R177). -/
def spareRow (d : Dev) (b : Nat) : Nat := rowOfSeg d (17 * b + 16)

/-- A bank's temperature lies outside 5 °C to 110 °C. -/
def outOfBand (b : Bank) : Bool := decide (b.temp < 500 ∨ 11000 < b.temp)

/-- Judge a segment failed in service: cause 1 open, 2 short, 3 charge or retirement (R172, R174, R179).
Its row is lost from this dwell (R180); the spare waits for the frame tick. A segment judged before is at most locked out. -/
def judgeSegment (n cause : Nat) (lock retired : Bool) (d : Dev) : Dev :=
  if (segGet d n).failed then modSeg n (fun s => { s with lockout := s.lockout || lock }) d
  else raise (256 + n) 0 (le 1 cause)
    (modSeg n (fun s => { s with failed := true, lockout := s.lockout || lock, cause := cause,
                                 retired := s.retired || retired, judgedAt := some (tussNow d) }) d)

/-- The class of a pulse from the voltage at mid-pulse (mV) and the charge (1/64 nC) (R172); 0 good. -/
def pulseClass (mv charge64 : Nat) (nominal : Frac) : Nat :=
  if 8000 ≤ mv then 1
  else if mv < 1000 then 2
  else
    let q := fracMk (charge64 * 1000) 64
    if fracLt q (fracMul nominal (fracMk 65 100)) || fracLt (fracMul nominal (fracMk 135 100)) q then 3 else 0

/-- One checked pulse of a segment with its class (R172, R181, R183). -/
def checkPulse (n cls charge64 : Nat) (d : Dev) : Dev :=
  let d1 := modSegStat n (fun s => segBump 32 0 (·.pulses) (fun t v => { t with pulses := v })
    { s with chargeSum := s.chargeSum + charge64 }) d
  let s := segGet d1 n
  let hist := s.hist * 2 % 256 + (if cls = 0 then 0 else 1)
  if cls = 0 then modSeg n (fun s => { s with hist := hist }) d1
  else
    let d2 := modSegStat n (segBump 16 1 (·.bad) (fun t v => { t with bad := v })) d1
    let d3 := raise (256 + n) 2 [] (modSeg n (fun s => { s with hist := hist, badSeen := true }) d2)
    if 4 ≤ popcount 8 hist then judgeSegment n cls true false d3
    else modSeg n (fun s => { s with degraded := true }) d3

/-- A shot skipped for a low reservoir (R166). -/
def skipShot (n : Nat) (d : Dev) : Dev :=
  let b := n / 17
  raise (392 + b) 0 []
    (modBank b (fun k => { k with resLow := true })
      (modSeg n (fun s => { s with degraded := true })
        (modSegStat n (segBump 16 2 (·.skipped) (fun t v => { t with skipped := v })) d)))

/-- Whether a spare may take over a row of its bank (R177). -/
def spareUsable (d : Dev) (b i : Nat) : Bool :=
  spareRow d b == 0xFF && !(segGet d (17 * b + 16)).failed && !bit (bankGet d b).spareBad i

/-- Substitute at the frame tick for the segments of a bank judged at least 10 µs before, the lowest
segment number first (R177, R178). A row without a usable spare has no segment. -/
def substituteOne (n : Nat) (d : Dev) : Dev :=
  let s := segGet d n
  match s.judgedAt with
  | none => d
  | some j =>
    if tussNow d < j + 10000 then d
    else
      let b := n / 17
      let i := n % 17
      let row := rowOfSeg d n
      let d1 := modSeg n (fun s => { s with judgedAt := none }) d
      if row = 0xFF then d1
      else if i < 16 && spareUsable d b i then
        modBank b (fun k => { k with sub := i })
          (modEmi (fun e => { e with rowSeg := tabPut row (17 * b + 16) e.rowSeg }) d1)
      else raise (392 + b) 1 [] (modEmi (fun e => { e with rowSeg := tabPut row 0xFF e.rowSeg }) d1)

def substituteSegments (d : Dev) : Dev :=
  (List.range 136).foldl (fun d n => if (segGet d n).judgedAt.isSome then substituteOne n d else d) d

/-! ### Status words (R182, R183) -/

def vfCode (mv : Nat) : Nat := min 0xFFF mv

/-- A segment's status word. -/
def segWord (d : Dev) (n : Nat) : Nat :=
  let s := segGet d n
  let row := rowOfSeg d n
  flag s.failed 31 + flag s.lockout 30 + flag (row != 0xFF) 29 + s.cause * 2 ^ 27 + flag s.retired 26 +
    flag s.drift 25 + flag s.badSeen 24 + row * 2 ^ 16 +
    (if n % 17 = 16 ∧ row ≠ 0xFF then (bankGet d (n / 17)).sub else 0) * 2 ^ 12 + vfCode s.vf

/-- A bank's status word. -/
def bankWord (d : Dev) (b : Nat) : Nat :=
  let k := bankGet d b
  flag k.fallback 31 + flag (decide (0 < k.heater)) 30 + flag k.resLow 29 + flag (outOfBand k) 28 +
    flag (spareRow d b != 0xFF) 27 + k.spareBad

/-- A segment's frame counter block (R183). -/
def segBlock (s : SegStat) : Bytes :=
  le 4 s.pulses ++ le 2 s.bad ++ le 2 s.skipped ++
    le 2 (satU 16 (if s.pulses = 0 then 0 else (roundDiv s.chargeSum s.pulses).toNat)) ++ le 2 (satU 16 s.probeVf) ++
    le 1 s.overflow ++ zeros 3

end Sys2Proof.Machine
end

