-- ==== Sys2Proof/Machine/Points.lean ====
section
/-!
DEFINITION. The peak engine's reduction of a fine window (R136, R137), merging and selection (R139,
R140), what a return reports (R141 to R146), points that cannot be measured (R148 to R150) and the point
record (R151).

Fractions are integers scaled by 2^40, one of the forms R138 admits (DESIGN CHOICE, assumption log, entry 12).
-/
namespace Sys2Proof.Machine

/-- The scale of a scaled number. -/
def fx : Int := 2 ^ 40

/-- `n / d`, scaled. -/
def fxOf (a : Frac) : Int := a.num * fx / a.den

def fxMul (a b : Int) : Int := a * b / fx
def fxDiv (a b : Int) : Int := if b = 0 then 0 else a * fx / b

/-- ln 2, scaled. -/
def fxLn2 : Int := 762123384786

/-- `2·(y + y³/3 + …)` by `n` more terms from the odd power `k`. -/
def artanhTerms (y2 : Int) : Nat → Nat → Int → Int
  | 0, _, _ => 0
  | n + 1, k, p => p / (k : Int) + artanhTerms y2 n (k + 2) (fxMul p y2)

/-- Halve a ratio `num / den` until it lies below 2, counting the halvings. -/
def lnReduce : Nat → Nat → Nat → Nat × Nat
  | 0, _, den => (0, den)
  | f + 1, num, den => if 2 * den ≤ num then (fun r => (r.1 + 1, r.2)) (lnReduce f num (2 * den)) else (0, den)

/-- ln of `num / den ≥ 1`, scaled. -/
def fxLn (num den : Nat) : Int :=
  let r := lnReduce 64 num den
  let y := fxDiv ((num : Int) - r.2) ((num : Int) + r.2)
  (r.1 : Int) * fxLn2 + 2 * artanhTerms (fxMul y y) 24 1 y

/-- A lane return (R137): position in 1/256 ns, signal, background and variance in bins² scaled, the
extremes' span, width, pile bit, whether it counts toward the veil test, and its signal per shot. -/
structure LaneRet where
  x : Int
  s : Int
  b : Int
  var : Option Int
  width : Nat
  pile : Bool
  veilish : Bool
  spf : Int
  deriving DecidableEq, Repr

/-- How many pulses' references reach a window (R129). -/
def refCount (z : Zone) (r : LaneRec) (c : Slot) : Nat :=
  if 256 * (c.pos : Int) - 384 + 1024 + toS 16 r.sigma ≤ 256 * (z.span : Int) then 2 else 1

/-- The sum of the counts of bins `lo … hi − 1`. -/
def sumBins (h : List Nat) (lo hi : Nat) : Nat := ((h.drop lo).take (hi - lo)).sum

/-- The pile-up corrected count of a bin (R136), scaled. -/
def pileCorrected (r : LaneRec) (h : List Nat) (N : Nat) (bf j : Nat) : Int :=
  let nl := popcount 4 r.live
  let D := fracAdd (fracMk ((bf * (r.theta - j) : Nat)) 4096) (fracN (sumBins h (j - r.theta) j))
  let P := if 2 * r.k ≤ nl then sumBins h (j - r.tauM) (j - r.theta) else 0
  let hj := h.getD j 0
  let A := fracMax (fracSub (fracSub (fracN N) D) (fracMk (r.k * P : Nat) nl)) (fracN (hj + 1))
  if hj = 0 then 0 else (N : Int) * fxLn A.num.toNat ((A.num - (hj * A.den : Nat)).toNat)

/-- The lowest place of the greatest entry. -/
def argmaxI (l : List Int) : Nat :=
  ((List.range l.length).foldl (fun m j => if l.getD m 0 < l.getD j 0 then j else m) 0)

/-- Extend downward over non-empty bins, bridging gaps of one (R136). -/
def extendLo (s : List Int) : Nat → Nat → Nat
  | 0, lo => lo
  | f + 1, lo =>
    if 1 ≤ lo ∧ 0 < s.getD (lo - 1) 0 then extendLo s f (lo - 1)
    else if 2 ≤ lo ∧ 0 < s.getD (lo - 2) 0 then extendLo s f (lo - 2) else lo

/-- Extend upward likewise. -/
def extendHi (s : List Int) : Nat → Nat → Nat
  | 0, hi => hi
  | f + 1, hi =>
    if hi ≤ 62 ∧ 0 < s.getD (hi + 1) 0 then extendHi s f (hi + 1)
    else if hi ≤ 61 ∧ 0 < s.getD (hi + 2) 0 then extendHi s f (hi + 2) else hi

/-- The lane return of window `i` of a record, or none (R136, R137). -/
def reduceWindow (d : Dev) (z : Zone) (r : LaneRec) (i : Nat) : Option LaneRet :=
  let c := r.cands.getD i Slot.none
  let bf := r.bFine.getD i 0
  let h := (List.range 64).map (fun j => tabGet 0 r.fine (64 * i + j))
  let N := refCount z r c * r.fineShots
  let cs := (List.range 64).map (pileCorrected r h N bf)
  let b := fxOf (fracMk bf 4096)
  let s := cs.map (fun v => max (v - b) 0)
  let m := argmaxI s
  let lo := extendLo s 64 m
  let hi := extendHi s 64 m
  let js := (List.range 64).filter (fun j => decide (lo ≤ j ∧ j ≤ hi))
  let S := (js.map (fun j => s.getD j 0)).sum
  let mean := fxDiv ((js.map (fun (j : Nat) => (j : Int) * s.getD j 0)).sum) S
  if s.getD m 0 ≤ 0 ∨ S * 2 < fx then none
  else
    let M2 := (js.map (fun (j : Nat) => fxMul (s.getD j 0) (fxMul ((j : Int) * fx - mean) ((j : Int) * fx - mean)))).sum
    let Ns := (roundDiv S (2 ^ 40)).toNat
    let var := if 2 ≤ Ns then some (fxDiv M2 S * (Ns : Int) / ((Ns : Int) - 1)) else none
    let half := js.filter (fun j => decide (s.getD m 0 ≤ 2 * s.getD j 0))
    let fh := half.foldl min m
    let lh := half.foldl max m
    let C := (js.map (fun j => cs.getD j 0)).sum
    let H := sumBins h lo (hi + 1)
    let span := hi - lo + 1
    some { x := (256 * (c.pos : Int) - 384 + 8) * fx + 16 * mean, s := S, b := b * (span : Int), var := var,
           width := min 63 ((lh - fh + 3) / 4),
           pile := decide ((100 + (prmGet d 0x0602 : Int)) * (H : Int) * fx < 100 * C),
           veilish := decide (prmGet d 0x0606 ≤ span) && decide (2 * s.getD m 0 * (span : Int) < 5 * S),
           spf := if r.fineShots = 0 then 0 else S / (r.fineShots : Int) }

/-! ### Clusters (R139) -/

/-- A row return. -/
structure RowRet where
  x : Int
  s : Int
  b : Int
  var : Option Int
  width : Nat
  pile : Bool
  spf : Int
  veilS : Int
  deriving DecidableEq, Repr

/-- Insert by position. -/
def insertByX (r : LaneRet) : List LaneRet → List LaneRet
  | [] => [r]
  | y :: ys => if r.x < y.x then r :: y :: ys else y :: insertByX r ys

def sortByX (l : List LaneRet) : List LaneRet := l.foldl (fun acc r => insertByX r acc) []

/-- Chain members within `gap` of their neighbour (in scaled 1/256 ns). -/
def chain (gap : Int) : List LaneRet → List (List LaneRet)
  | [] => []
  | r :: rs =>
    match chain gap rs with
    | [] => [[r]]
    | k :: ks =>
      match k with
      | [] => [r] :: ks
      | y :: _ => if y.x - r.x > gap then [r] :: k :: ks else (r :: k) :: ks

def clusterOf (k : List LaneRet) : RowRet :=
  let S := (k.map (·.s)).sum
  let x := if S = 0 then 0 else (k.map (fun r => r.s * r.x)).sum / S
  let var := if k.any (fun r => r.var.isNone) then none else
    some (if S = 0 then 0 else
      (k.map (fun r => r.s * (256 * r.var.getD 0 + fxMul (r.x - x) (r.x - x)))).sum / S)
  { x := x, s := S, b := (k.map (·.b)).sum, var := var, width := k.foldl (fun m r => max m r.width) 0,
    pile := k.any (·.pile), spf := (k.map (·.spf)).sum,
    veilS := ((k.filter (·.veilish)).map (·.s)).sum }

/-- Remove one return at a place. -/
def dropAt {α : Type} (l : List α) (i : Nat) : List α := l.take i ++ l.drop (i + 1)

/-- The place of the strongest, the lower position winning a tie. -/
def strongest (l : List RowRet) : Nat :=
  (List.range l.length).foldl (fun m j =>
    if (l.getD m ⟨0, 0, 0, none, 0, false, 0, 0⟩).s < (l.getD j ⟨0, 0, 0, none, 0, false, 0, 0⟩).s then j else m) 0

/-- At most three returns: first, last, and the strongest of the rest (R140). With more than three, the
strongest overall is either first, last, or the strongest of the rest. -/
def selectThree (l : List RowRet) : List RowRet :=
  if l.length ≤ 3 then l
  else
    let mid := (l.drop 1).dropLast
    l.take 1 ++ (mid.drop (strongest mid)).take 1 ++ l.drop (l.length - 1)

/-! ### Fields of a return (R141 to R146) -/

/-- The range in 0.5 mm before limiting (R141). -/
def rawRange (d : Dev) (x : Int) : Int :=
  roundDiv (x * 149896229) (2 ^ 40 * 128 * 1000000) - prmGetS d 0x042C

def rangeCode (r : Int) : Nat := (clampI 1 0xFFFFE r).toNat

/-- The precision field (R142). -/
def precisionOf (var : Option Int) (S : Int) : Nat :=
  match var with
  | none => 255
  | some v =>
    if S ≤ 0 then 255
    else
      let num := (149896229 * 149896229 * v).toNat
      let den := (S * (65536 * 1000000 * 1000000)).toNat
      let p := isqrt (num / den)
      clampN 1 255 (if num ≤ p * p * den then p else p + 1)

/-- The gain of a segment's intensity calibration (R143). -/
def intensityGain (d : Dev) (row n : Nat) : Nat :=
  let e := d.prm.intensity.getD n 0
  if e ≠ 0 then e
  else if n % 17 = 16 then
    let f := d.prm.intensity.getD (nominalSeg row) 0
    if f = 0 then 256 else f
  else 256

/-- Intensity (R143). -/
def intensityOf (d : Dev) (row : Nat) (z : Zone) (spf : Int) (range : Nat) : Nat :=
  let g := intensityGain d row (segOfRow d row)
  let num := spf * (range * range * g * 128 : Nat)
  let den := 20000 * 20000 * 256 * z.scale * 2 ^ 40
  min 4095 (roundDiv num den).toNat

/-- The background code of a rate per ns (R144): exact on sixteenth powers. -/
def bgCode (m : Frac) : Nat :=
  let r := fracMul m (fracN 1000000)
  if fracLt r (fracI 1) then 0
  else
    let a := (r.num.toNat) ^ 16
    let b := r.den ^ 16
    min 255 (((List.range 255).filter (fun e => decide (2 ^ e * b ≤ a))).length)

/-- Confidence (R145). -/
def confidenceOf (S B : Int) (score : Nat) : Nat :=
  if S + B ≤ 0 then 0
  else min 255 (isqrt ((1024 * S * S / ((S + B) * fx)).toNat)) - 8 * score

/-- The veil test of a row return (R146): range, half its signal in veil-like members. -/
def isVeil (d : Dev) (zone : Nat) (r : RowRet) : Bool :=
  prmGet d (0x0610 + zone) != 0 &&
  decide (rawRange d r.x ≤ (prmGet d 0x0605 : Int) * 1000) && decide (r.s ≤ 2 * r.veilS)

/-- The return a row return reports. -/
def retOf (d : Dev) (row : Nat) (w : Work) (score : Nat) (r : RowRet) : Ret :=
  let raw := rawRange d r.x
  let rc := rangeCode raw
  { range := rc, limited := decide (raw < 1), sig := r.s, intensity := intensityOf d row w.z r.spf rc,
    precision := precisionOf r.var r.s, width := r.width, conf := confidenceOf r.s r.b score, pile := r.pile,
    veil := isVeil d w.zone r }

/-- The returns of a row under the overrun fallback (R148). -/
def fallbackRet (d : Dev) (row : Nat) (w : Work) (r : RowRet) : Ret :=
  let raw := rawRange d r.x
  let rc := rangeCode raw
  { range := rc, limited := decide (raw < 1), sig := r.s, intensity := intensityOf d row w.z r.spf rc,
    precision := 43, width := 0, conf := 0, pile := false, veil := false }

/-- The coarse candidates of a record as lane returns (R148). -/
def coarseRets (z : Zone) (r : LaneRec) : List LaneRet :=
  r.cands.map (fun c =>
    { x := (256 * (c.pos : Int) + 128) * fx, s := (c.p : Int) * fx / 2, b := 0, var := none, width := 0,
      pile := false, veilish := false, spf := (c.p : Int) * fx / 2 / (z.coarse : Int) })

/-- The lane returns of a record. -/
def laneRets (d : Dev) (z : Zone) (r : LaneRec) : List LaneRet :=
  (List.range r.cands.length).filterMap (reduceWindow d z r)

/-! ### Points (R139, R147 to R151) -/

/-- The dwell records of a row's lanes, by channel. -/
def rowRecs (w : Work) (row : Nat) : List LaneRec :=
  (chansOfRow w.z w.col row).filterMap (fun c =>
    match tabFind w.chans c with
    | some p => w.recs.find? (fun r => r.lane == p)
    | none => none)

/-- The rate of reference detections per shot of a latched statistic against cast-on, for the
contamination test of R147; `shots` are the shots behind the latched one. Where either statistic has no shots or stamps to form
a rate there is no ratio, and no flag (DESIGN CHOICE, assumption log, entry 71: R147 does not say). -/
def contaminated (d : Dev) (shots : Nat) (r : LaneRec) : Bool :=
  let c := calGet d r.lane
  let f := prmGet d 0x0607
  let a := c.refLatched.n * c.castOnShots * 4
  let b := c.castOn.n * shots
  c.castOn.n != 0 && shots != 0 && (decide (b * f ≤ a) || decide (a * f ≤ b * 16))

/-- A row is formed from the candidates when its group's processing lane was overrun before it (R134). -/
def rowOverrun (w : Work) (row : Nat) : Bool :=
  w.stalled.any (fun e => e.1 == row / 8 &&
    (chansOfRow w.z w.col row).any (fun c => decide (e.2 ≤ c % 64)))

/-- The point of a row of a dwell. -/
def formPoint (d : Dev) (w : Work) (row : Nat) : Pt :=
  let all := rowRecs w row
  let use := all.filter (fun r => !r.dark)
  let mark := tabGet RowMark.none w.marks row
  let ovr := rowOverrun w row
  let score := use.foldl (fun m r => max m r.score) 0
  let rate := if use.isEmpty then fracI 0 else
    fracDiv ((use.map (·.rate)).foldl fracAdd (fracI 0)) (fracN use.length)
  let lrs := sortByX ((use.map (fun r => if ovr then coarseRets w.z r else laneRets d w.z r)).flatten)
  let rows := (chain ((prmGet d 0x0601 : Int) * fx) lrs).map clusterOf
  let gate := prmGet d (0x0610 + w.zone) == 2
  let kept := if ovr then rows else rows.filter (fun r => !(gate && isVeil d w.zone r))
  let sel := selectThree kept
  let rets := sel.map (fun r => if ovr then fallbackRet d row w r else retOf d row w score r)
  let flagBits :=
    flag (use.any (fun r => decide (prmGet d 0x0428 < r.prestart))) 10 +
    flag (use.any (·.code) || mark.degraded) 8 +
    flag (use.any (contaminated d d.histo.latchedShots)) 7 +
    flag (all.any (fun r => r.subst || r.dark) || mark.excluded) 5 +
    flag ovr 4 + flag (decide (prmGet d 0x0604 ≤ score)) 3 + flag (zoneMode w.z != 0) 2 +
    flag (use.any (·.sat)) 0
  { row := row, invalid := bit w.gated (row / 32) || mark.lost || use.isEmpty, score := score,
    bg := bgCode rate, flags := flagBits, gatedVeil := !rows.isEmpty && kept.isEmpty,
    veils := rows.length - kept.length, rets := rets }

/-- A point with what an invalid one reports (R149): no score, no background, no returns. -/
def sealPoint (p : Pt) : Pt :=
  if p.invalid then { p with score := 0, bg := 0, rets := [], gatedVeil := false, veils := 0 } else p

/-- Point-scope and return-scope flags of one record (R151): low confidence, veil, pile-up. -/
def retFlags (d : Dev) (p : Pt) (r : Ret) : Nat :=
  p.flags + flag (decide (r.conf < prmGet d 0x0603) || r.limited || bit p.flags 4) 9 + flag r.veil 6 + flag r.pile 1

/-- Lay out a record as its 128-bit value (R151). -/
def recordValue (score conf bg prec width toff flags ri row col inten range : Nat) : Nat :=
  range + inten * 2 ^ 20 + col * 2 ^ 32 + row * 2 ^ 44 + ri * 2 ^ 51 + flags * 2 ^ 53 + toff * 2 ^ 64 +
    width * 2 ^ 90 + prec * 2 ^ 96 + bg * 2 ^ 104 + conf * 2 ^ 112 + score * 2 ^ 120

/-- The records of a point: one per return, or one empty record (R149). -/
def pointRecords (d : Dev) (col toff : Nat) (p : Pt) : List Bytes :=
  if p.rets.isEmpty then
    [le 16 (recordValue p.score 0 p.bg 0 0 toff (p.flags + flag p.gatedVeil 6) 3 p.row col 0
      (if p.invalid then 0xFFFFF else 0))]
  else
    (List.range p.rets.length).map (fun i =>
      let r := p.rets.getD i ⟨0, false, 0, 0, 0, 0, 0, false, false⟩
      le 16 (recordValue p.score r.conf p.bg r.precision r.width toff (retFlags d p r) i p.row col r.intensity r.range))

/-- The record of greatest intensity, the lower index winning a tie (R152). -/
def brightest (l : List Ret) : Nat :=
  (List.range l.length).foldl (fun m j =>
    if (l.getD m ⟨0, false, 0, 0, 0, 0, 0, false, false⟩).intensity <
       (l.getD j ⟨0, false, 0, 0, 0, 0, 0, false, false⟩).intensity then j else m) 0

/-- The time shift of a plan's frames (R153). -/
def timeShift (p : Plan) : Nat :=
  if activeNs p < 2 ^ 26 then 0 else if activeNs p < 2 ^ 27 then 1 else 2

/-- The time offset of a dwell (R153). -/
def timeOffset (p : Plan) (frame col : Nat) : Nat :=
  (dwellOffset p frame col + dwellLen (zoneOfCol p.zones col) / 2) / 2 ^ timeShift p

end Sys2Proof.Machine
end

