-- ==== Sys2Proof/Machine/Recorder.lean ====
section
/-!
DEFINITION. Peat's store (R316 to R320, R323): the selection, entries, overwriting, and the close of a
capture.
-/
namespace Sys2Proof.Machine

/-! ### Configuration fields (R444) -/

def peatField (d : Dev) (off k : Nat) : Nat := rdU d.peat.config off k
def peatSegs (d : Dev) : Nat := peatField d 0x0C 1
def peatPost (d : Dev) : Nat := peatField d 0x0E 1
def peatRepeat (d : Dev) : Bool := peatField d 0x0D 1 == 1

/-- A trigger source is enabled: 0 TRIG_IN, 1 SYNC, 2 events, 3 command (R321). -/
def peatTrigOn (d : Dev) (i : Nat) : Bool := bit (peatField d 0x0F 1) i

/-- The configured event sources. -/
def peatEvents (d : Dev) : List Nat :=
  (List.range (peatField d 0x11 1)).map (fun i => peatField d (0x14 + 2 * i) 2)

/-- Peat's snapshot channel of a band. -/
def peatSnap (d : Dev) (band : Nat) : Nat := peatField d (0x24 + band) 1

/-- The selection takes a sector, a band and a type; type 7 is Peat's own snapshot (R316). -/
def peatTakes (d : Dev) (sector band type : Nat) : Bool :=
  bit (peatField d 0 8) sector && bit (peatField d 8 2) band && bit (peatField d 0x0A 1) type

/-- Nothing is selected: no queue, no trace unit, no Sedge records. -/
def peatEmpty (d : Dev) : Bool :=
  (peatField d 0 8 == 0 || peatField d 8 2 == 0 || peatField d 0x0A 1 == 0) && peatField d 0x0B 1 == 0

/-- The recorder writes entries. -/
def peatRecording (d : Dev) : Bool := d.peat.state == .armed || d.peat.state == .filling

/-! ### Entries (R318) -/

/-- Pad to a whole number of 16-byte words. -/
def pad16 (bs : Bytes) : Bytes := bs ++ zeros ((16 - bs.length % 16) % 16)

/-- An entry: header, by-kind detail of 8 bytes, body. -/
def peatEntry (kind frame : Nat) (detail body : Bytes) : Bytes :=
  let b := pad16 body
  le 1 kind ++ zeros 1 ++ le 2 (1 + b.length / 16) ++ le 4 frame ++ fitTo 8 detail ++ b

def modPeatSeg (i : Nat) (f : PeatSeg → PeatSeg) (d : Dev) : Dev :=
  modPeat (fun p => { p with segs := listMod p.segs i f }) d

def peatSegGet (d : Dev) (i : Nat) : PeatSeg := d.peat.segs.getD i PeatSeg.free

def modCapture (i : Nat) (f : Capture → Capture) (d : Dev) : Dev :=
  modPeatSeg i (fun s => { s with desc := s.desc.map f }) d

def bytesHeld (es : List Bytes) : Nat := (es.map (·.length)).sum

/-- The bytes of a segment: the 32 MiB store in equal parts (R320). -/
def peatSegSize (d : Dev) : Nat := 33554432 / (if peatSegs d = 0 then 1 else peatSegs d)

/-- The entry is a trigger marker. -/
def isMarker (e : Bytes) : Bool := rdU e 0 1 == 5

/-- Drop oldest entries until `need` bytes fit; reports whether any was dropped and whether the marker
stands in the way. -/
def peatRoom (size need : Nat) : List Bytes → Bool → List Bytes × Bool × Bool
  | [], w => ([], w, false)
  | e :: es, w =>
    if bytesHeld (e :: es) + need ≤ size then (e :: es, w, false)
    else if isMarker e then (e :: es, w, true)
    else peatRoom size need es true

/-- The byte offset of the trigger marker. -/
def markerOffset (es : List Bytes) : Nat := bytesHeld (es.takeWhile (fun e => !isMarker e))

/-- A descriptor as the host reads it (R323). -/
def captureBytes (seg : Nat) (s : PeatSeg) : Bytes :=
  match s.desc with
  | none => zeros 64
  | some c =>
    let trig := if s.entries.any isMarker then markerOffset s.entries else 0
    le 4 c.number ++ le 2 c.status ++ le 1 seg ++ le 1 c.flags ++ le 1 c.source ++ le 1 c.post ++ le 2 c.detail ++
      le 4 c.trigFrame ++ le 8 c.trigTime ++ le 8 c.closeTime ++
      le 4 (match s.entries with | e :: _ => rdU e 4 4 | [] => 0) ++ le 4 (bytesHeld s.entries) ++
      le 4 trig ++ le 4 (satU 32 c.deadUs) ++ le 2 c.missedFill ++ le 2 c.missedDead ++ le 2 c.lost ++ zeros 10

/-- The running PEAT_ARM ends. -/
def endPeatArm (status : Nat) (payload : Bytes) (d : Dev) : Dev :=
  match d.peat.arm with
  | none => d
  | some a =>
    let d1 := modPeat (fun p => { p with arm := none }) d
    match findTag d1 a.1 a.2 with
    | some c => finishRunning c status payload d1
    | none => d1

/-- One entry the recorder could not take in DEAD or FULL, or that closed the capture (R323, R327). -/
def peatLost (d : Dev) : Dev :=
  raise 467 0 [] (modCapture d.peat.seg (fun c => { c with lost := satU 16 (c.lost + 1) }) d)

/-- Put an entry into the open capture (R318, R320): it overwrites the oldest. None where it would overwrite the trigger marker. -/
def peatStore (e : Bytes) (d : Dev) : Option Dev :=
  let i := d.peat.seg
  let r := peatRoom (peatSegSize d) e.length (peatSegGet d i).entries false
  if r.2.2 then none
  else some (modCapture i (fun c => { c with flags := if r.2.1 then orBits 8 c.flags 1 else c.flags })
    (modPeatSeg i (fun s => { s with entries := r.1 ++ [e] }) d))

/-- The entry of the Sedge block being filled, and of a trace unit's. -/
def sedgeEntry (d : Dev) : Bytes :=
  peatEntry 4 d.seq.frame (le 4 d.peat.sedgeFirst ++ le 2 d.peat.sedge.length) d.peat.sedge.flatten

def traceEntry (d : Dev) (u : Nat) (b : TraceBlock) : Bytes :=
  peatEntry 3 d.seq.frame (le 1 u ++ le 1 b.slot ++ le 1 b.node ++ zeros 1 ++ le 2 b.div ++ le 2 b.samples.length)
    (le 8 b.time ++ zeros 8 ++ b.samples.flatten)

/-- The blocks being filled, as entries. -/
def openBlocks (d : Dev) : List Bytes :=
  (if d.peat.sedge.isEmpty then [] else [sedgeEntry d]) ++ d.peat.traces.map (fun e => traceEntry d e.1 e.2)

/-- Close the filling capture with a flag set (R323, R326, R327): the blocks being filled complete into it, or are lost where they
would overwrite the marker; status OK, event 464; single mode goes to IDLE, repeat mode waits in DEAD. -/
def peatClose (flags : Nat) (d : Dev) : Dev :=
  let i := d.peat.seg
  let d0 := (openBlocks d).foldl (fun d e => (peatStore e d).getD (peatLost d)) (modPeat (fun p => { p with sedge := [], traces := [] }) d)
  let d1 := modCapture i (fun c => { c with status := stOk, closeTime := d.sys.now, flags := orBits 8 c.flags flags }) d0
  let s := peatSegGet d1 i
  let c := s.desc.getD ⟨0, 0, 0, 0, 0, 0, 0, 0, 0, 0, 0, 0, 0⟩
  let d2 := raise 464 0 (le 4 c.number ++ le 1 c.flags) d1
  endPeatArm stOk (captureBytes i s) (modPeat (fun p => { p with state := if peatRepeat d then .dead else .idle }) d2)

/-- Write an entry (R318, R320, R323): in ARMED it overwrites the oldest; in FILLING an entry that would overwrite the trigger
marker closes the capture instead, and is lost. -/
def peatWrite (e : Bytes) (d : Dev) : Dev :=
  if d.peat.state == .dead || d.peat.state == .full then peatLost d
  else if !peatRecording d then d
  else (peatStore e d).getD (peatLost (peatClose 2 d))

/-- A segment holds a capture: an aborted one is freed, its descriptor kept until the segment is used again (R323, R326). -/
def segTaken (s : PeatSeg) : Bool := s.desc.any (fun c => c.status != stAborted)

/-- The segments without a capture, lowest first, among those configured. -/
def peatFree (d : Dev) : List Nat := (List.range (peatSegs d)).filter (fun i => !segTaken (peatSegGet d i))

/-- Start a capture in a free segment: ARMED (R320, R323). Words found bad there are written anew. -/
def peatBegin (i : Nat) (d : Dev) : Dev :=
  let n := wrapU 32 (d.peat.number + 1)
  modPeatSeg i (fun _ => ⟨some ⟨n, 0xFFFF, 0, 0, peatPost d, 0, 0, 0, 0, 0, 0, 0, 0⟩, []⟩)
    (modPeat (fun p => { p with
      state := .armed, seg := i, number := n,
      badWords := p.badWords.filter (fun a => a / peatSegSize d != i) }) d)

/-- Take the next free segment after a close: the dead time of the closed capture becomes final (R320, R323). -/
def peatNext (d : Dev) : Dev :=
  match peatFree d with
  | [] => if d.peat.state == .full then d else raise 466 0 [] (modPeat (fun p => { p with state := .full }) d)
  | i :: _ =>
    peatBegin i (modCapture d.peat.seg (fun c => { c with
      deadUs := satU 32 (ceilDiv (d.sys.now - c.closeTime) 1000), flags := orBits 8 c.flags 8 }) d)

/-- The open capture ends with ABORTED, its segment is freed, the waiting PEAT_ARM ends, and Peat is IDLE (R326, R445). -/
def peatAbort (d : Dev) : Dev :=
  let d1 := if peatRecording d then
      modPeatSeg d.peat.seg (fun s => ⟨s.desc.map (fun c => { c with status := stAborted, closeTime := d.sys.now }), []⟩) d
    else d
  endPeatArm stAborted [] (modPeat (fun p => { p with state := .idle, trigs := [], sedge := [], traces := [] }) d1)

/-! ### Blocks of records and samples -/

/-- Close the Sedge block being filled. -/
def peatSedgeClose (d : Dev) : Dev :=
  if d.peat.sedge.isEmpty then d else peatWrite (sedgeEntry d) (modPeat (fun p => { p with sedge := [] }) d)

/-- A Sedge result record reaches Peat: a block closes at 64 records (R316, R318). -/
def peatSedge (number : Nat) (rec_ : Bytes) (d : Dev) : Dev :=
  if !bit (peatField d 0x0B 1) 4 || d.peat.state == .idle || d.peat.state == .arming then d
  else
    let d1 := modPeat (fun p => { p with
      sedgeFirst := if p.sedge.isEmpty then number else p.sedgeFirst, sedge := p.sedge ++ [rec_] }) d
    if 64 ≤ d1.peat.sedge.length then peatSedgeClose d1 else d1

/-- Close a trace unit's block. -/
def peatTraceClose (u : Nat) (d : Dev) : Dev :=
  match tabFind d.peat.traces u with
  | none => d
  | some b => peatWrite (traceEntry d u b) (modPeat (fun p => { p with traces := tabDel u p.traces }) d)

/-- A trace sample reaches Peat: a block closes at 256 samples (R318). -/
def peatTrace (u slot node div : Nat) (s : Bytes) (d : Dev) : Dev :=
  if !bit (peatField d 0x0B 1) u || d.peat.state == .idle || d.peat.state == .arming then d
  else
    let b := (tabFind d.peat.traces u).getD ⟨d.sys.now, slot, node, div, []⟩
    let d1 := modPeat (fun p => { p with traces := tabPut u { b with samples := b.samples ++ [s] } p.traces }) d
    if 256 ≤ b.samples.length + 1 then peatTraceClose u d1 else d1

/-- A trigger with its stamp: ignored in IDLE and ARMING, waiting to be accepted in ARMED, missed in the other states
(R321, R323, R327). DEDUCED (assumption log, entry 47). -/
def peatTriggerAt (source detail t : Nat) (d : Dev) : Dev :=
  match d.peat.state with
  | .idle => d
  | .arming => d
  | .armed => modPeat (fun p => { p with trigs := p.trigs ++ [(source, detail, t)] }) d
  | .filling => raise 465 0 [] (modCapture d.peat.seg (fun c => { c with missedFill := satU 16 (c.missedFill + 1) }) d)
  | .dead => raise 465 0 [] (modCapture d.peat.seg (fun c => { c with missedDead := satU 16 (c.missedDead + 1) }) d)
  | .full => raise 465 0 [] (modCapture d.peat.seg (fun c => { c with missedDead := satU 16 (c.missedDead + 1) }) d)

/-- A trigger at the present instant. -/
def peatTrigger (source detail : Nat) (d : Dev) : Dev := peatTriggerAt source detail d.sys.now d

/-- The trigger to accept: the earliest, and of one instant the first by source (R321). -/
def firstTrig : List (Nat × Nat × Nat) → Option (Nat × Nat × Nat)
  | [] => none
  | t :: ts =>
    match firstTrig ts with
    | none => some t
    | some u => if u.2.2 < t.2.2 ∨ (u.2.2 = t.2.2 ∧ u.1 < t.1) then some u else some t

/-- Accept a trigger: marker, FILLING, and the close at once where no frame is to follow (R321, R323). -/
def peatAccept (t : Nat × Nat × Nat) (d : Dev) : Dev :=
  let i := d.peat.seg
  let n := (peatSegGet d i).desc.elim 0 (·.number)
  let extra := d.peat.trigs.length - 1
  let marker := peatEntry 5 d.seq.frame (le 1 t.1 ++ zeros 1 ++ le 2 t.2.1 ++ le 4 n) (le 8 t.2.2 ++ zeros 8)
  let d1 := peatWrite marker d
  let d2 := modCapture i (fun c => { c with source := t.1, detail := t.2.1, trigFrame := d.seq.frame, trigTime := t.2.2,
                                            missedFill := satU 16 extra, post := peatPost d })
    (modPeat (fun p => { p with state := .filling, trigs := [],
                                closeFrame := wrapU 32 (d.seq.frame + peatPost d - 1) }) d1)
  let d3 := if 0 < extra then raise 465 0 [] d2 else d2
  if peatPost d = 0 then peatClose 0 d3 else d3

end Sys2Proof.Machine
end

