-- ==== Sys2Proof/Machine/Sluice.lean ====
section
/-!
DEFINITION. Sluice's buffer: pools (R303, R304), the storing and dropping of units and frame headers
(R305), credit (R307) and the port status word (R313).
-/
namespace Sys2Proof.Machine

def cellsOf (n : Nat) : Nat := ceilDiv n 64

def queueTypeOf (q : Nat) : Nat := q % 8
def queueBand (q : Nat) : Nat := q / 8 % 16
def queueSector (q : Nat) : Nat := q / 128
def queueIndex (sector band type : Nat) : Nat := sector * 128 + band * 8 + type

def subKey (port q : Nat) : Nat := port * 8192 + q

/-- A port's weight for a queue; 0 not subscribed (R302). -/
def weightOf (s : Slu) (port q : Nat) : Nat := (tabGet (0, 0) s.subs (subKey port q)).1
def targetOf (s : Slu) (port q : Nat) : Nat := (tabGet (0, 0) s.subs (subKey port q)).2

/-- The mask of ports that subscribe a queue. -/
def subscribers (s : Slu) (q : Nat) : Nat :=
  maskOf ((List.range 3).filter (fun p => weightOf s p q != 0))

def queueGet (s : Slu) (q : Nat) : Queue := tabGet Queue.none s.queues q

def modQueue (q : Nat) (f : Queue → Queue) (s : Slu) : Slu :=
  { s with queues := tabMod Queue.none s.queues q f }

def modPort (p : Nat) (f : Port → Port) (s : Slu) : Slu := { s with ports := listMod s.ports p f }

def portGet (s : Slu) (p : Nat) : Port := s.ports.getD p Port.reset

/-! ### Cells (R300, R303, R304) -/

/-- Cells a queue holds: its units and its stored headers. -/
def queueCells (q : Queue) : Nat := (q.units.map (·.cells)).sum + (q.heads.filter (·.stored)).length

/-- Cells of DATA in use. -/
def dataUsed (s : Slu) : Nat := (s.queues.map (fun e => queueCells e.2)).sum

/-- Cells the grants in flight of some requesters hold (DEDUCED, assumption log, entry 20). -/
def grantCells (s : Slu) (rs : List Nat) : Nat :=
  (s.ports.map (fun p => match p.grant with
    | some g => if rs.contains g.requester then g.cells else 0
    | none => 0)).sum

def poolUsed (s : Slu) (i : Nat) : Nat :=
  if i = 0 then dataUsed s else if i = 1 then grantCells s [5] else grantCells s [1, 2, 3, 4, 6]

def poolSize (s : Slu) (i : Nat) : Nat := s.pools.getD i 0

/-- Cells a pool holds beyond its reservation. -/
def poolExcess (s : Slu) (i : Nat) : Nat := poolUsed s i - poolSize s i

def totalExcess (s : Slu) : Nat := poolExcess s 0 + poolExcess s 1 + poolExcess s 2

def sharedFree (s : Slu) : Nat := poolSize s 3 - totalExcess s

/-- Cells of a reservation lent to excess that the shared pool cannot hold: PEAT's first, then CTRL's,
DATA's last (R304). -/
def lent (s : Slu) (i : Nat) : Nat :=
  let rest := totalExcess s - poolSize s 3
  let free (j : Nat) := poolSize s j - poolUsed s j
  let a := min rest (free 1)
  let b := min (rest - a) (free 2)
  let c := min (rest - a - b) (free 0)
  if i = 1 then a else if i = 2 then b else c

/-- Cells a pool's requester may take. -/
def poolFree (s : Slu) (i : Nat) : Nat := (poolSize s i - poolUsed s i - lent s i) + sharedFree s

/-! ### Counting drops (R305, R306, R313, R314) -/

/-- A port's counter block with a count stuck at full scale marked in its overflow field (R28). -/
def bumpStat (w i by_ : Nat) (get : PortStat → Nat) (set : PortStat → Nat → PortStat) (s : PortStat) : PortStat :=
  let v := stick w i (get s) by_
  { set s v.1 with overflow := orBits 6 s.overflow v.2 }

/-- Count a drop of a frame on a port. -/
def addDrop (frame p : Nat) : List (Nat × Nat × Nat) → List (Nat × Nat × Nat)
  | [] => [(frame, p, 1)]
  | (f, q, n) :: t => if f = frame ∧ q = p then (f, q, n + 1) :: t else (f, q, n) :: addDrop frame p t

/-- A frame's drops on a port. -/
def dropsOf (frame p : Nat) (l : List (Nat × Nat × Nat)) : Nat :=
  (l.find? (fun e => e.1 == frame && e.2.1 == p)).elim 0 (·.2.2)

/-- The frame a header's counts describe. -/
def prevOfHead (h : SHead) : Nat := rdU h.bytes 0x1C 4

/-- The counts that a unit or a header of the queue, or the frame in progress, can still ask for. -/
def keepDrops (frame : Nat) (q : Queue) : List (Nat × Nat × Nat) :=
  q.drops.filter (fun e => e.1 == frame || q.units.any (fun u => u.frame == e.1) || q.heads.any (fun h => prevOfHead h == e.1))

/-- One unit dropped on one port. -/
def dropOnPort (q frame p : Nat) (d : Dev) : Dev :=
  let sat := (portGet d.slu p).lifeDrops + 1 == 0xFFFFFFFF
  let d1 := modSlu (fun s => modPort p (fun x => { x with
      dropSeen := true, lifeDrops := incSat 32 x.lifeDrops,
      stat := bumpStat 32 2 1 (·.drops) (fun t v => { t with drops := v }) x.stat })
    (modQueue q (fun x => { x with drops := addDrop frame p x.drops }) s)) d
  let d2 := raise (35 + p) 0 [] d1
  if sat then raise (35 + p) 1 [] d2 else d2

/-- A unit dropped: counted on every port that had not sent it. -/
def countDrop (q : Nat) (u : SUnit) (d : Dev) : Dev :=
  (bitList 3 u.need).foldl (fun d p => dropOnPort q u.frame p d) d

/-- Waiting headers take the first cells that are free, ahead of every unit (R305). -/
def storeWaiting (d : Dev) : Dev :=
  (d.slu.queues.filter (fun e => e.2.heads.any (fun h => !h.stored))).foldl (fun d e =>
    if 1 ≤ poolFree d.slu 0 then
      modSlu (modQueue e.1 (fun x => { x with heads := x.heads.map (fun h => { h with stored := true }) })) d
    else d) d

/-- The place of a queue's oldest unit that is not in flight. -/
def droppable (q : Queue) : Option Nat := q.units.findIdx? (fun u => u.flying == 0)

/-- Drop a queue's oldest unit not in flight; a waiting header takes a cell it frees. -/
def dropOldest (q : Nat) (d : Dev) : Dev :=
  match droppable (queueGet d.slu q) with
  | none => d
  | some i =>
    let u := (queueGet d.slu q).units.getD i ⟨0, [], 0, 0, 0⟩
    countDrop q u (storeWaiting (modSlu (modQueue q (fun x => { x with units := x.units.take i ++ x.units.drop (i + 1) })) d))

/-- Step 1 of R305. -/
def dropToDepth (q limit cells : Nat) : Nat → Dev → Dev
  | 0, d => d
  | n + 1, d =>
    if queueCells (queueGet d.slu q) + cells ≤ limit then d
    else match droppable (queueGet d.slu q) with
      | none => d
      | some _ => dropToDepth q limit cells n (dropOldest q d)

/-- The queue to drop from in step 2: its own, else the one holding most cells, the lower index first. -/
def dropVictim (s : Slu) (q : Nat) : Option Nat :=
  match droppable (queueGet s q) with
  | some _ => some q
  | none =>
    (s.queues.filter (fun e => (droppable e.2).isSome)).foldl
      (fun best e => match best with
        | none => some e.1
        | some b => if queueCells (queueGet s b) < queueCells e.2 then some e.1 else some b) none

/-- Step 2 of R305: whether room was made. DATA and the shared pool exhausted is event 44, whether a unit can be dropped or the
new one must be (R315). -/
def dropForRoom (q cells : Nat) : Nat → Dev → Dev × Bool
  | 0, d => if cells ≤ poolFree d.slu 0 then (d, true) else (raise 44 0 [] d, false)
  | n + 1, d =>
    if cells ≤ poolFree d.slu 0 then (d, true)
    else match dropVictim d.slu q with
      | none => (raise 44 0 [] d, false)
      | some v => dropForRoom q cells n (dropOldest v (raise 44 0 [] d))

/-- How many units the buffer holds. -/
def unitCount (s : Slu) : Nat := (s.queues.map (fun e => e.2.units.length)).sum

/-- The peak of DATA and shared cells in use, in units of 16 (R314). -/
def notePeak (d : Dev) : Dev :=
  let s := d.slu
  let v := satU 16 (ceilDiv (min (poolUsed s 0) (poolSize s 0) + min (totalExcess s) (poolSize s 3)) 16)
  modSlu (fun s => { s with ports := s.ports.map (fun p => { p with stat := { p.stat with peak := max p.stat.peak v } }) }) d

/-- Store a unit under the depth and pool rules (R305); a queue nobody subscribes stores nothing. -/
def enqueueUnit (q frame : Nat) (bytes : Bytes) (d : Dev) : Dev :=
  let need := subscribers d.slu q
  if need = 0 then d
  else
    let cells := cellsOf bytes.length
    let u : SUnit := ⟨frame, bytes, cells, need, 0⟩
    if (queueGet d.slu q).heads.any (fun h => !h.stored) then countDrop q u d
    else
      let limit := prmGet d (0x0B01 + queueTypeOf q)
      let d1 := dropToDepth q limit cells (queueGet d.slu q).units.length d
      let r := dropForRoom q cells (unitCount d1.slu) d1
      if r.2 then notePeak (modSlu (modQueue q (fun x => { x with units := x.units ++ [u] })) r.1)
      else countDrop q u r.1

/-- Store a frame header, or leave it waiting in the formatter (R154, R305). -/
def enqueueHeader (q frame : Nat) (bytes : Bytes) (d : Dev) : Dev :=
  let need := subscribers d.slu q
  if need = 0 then d
  else
    let d0 := modSlu (modQueue q (fun x => { x with heads := x.heads.filter (·.stored) })) d
    let r := dropForRoom q 1 (unitCount d0.slu) d0
    notePeak (modSlu (modQueue q (fun x =>
      let y : Queue := { x with heads := x.heads ++ [⟨frame, bytes, r.2, need, 0⟩] }
      { y with drops := keepDrops frame y })) r.1)

/-- Forget units and headers every port has sent or dropped. -/
def cleanQueue (q : Queue) : Queue :=
  { q with units := q.units.filter (fun u => u.need != 0 || u.flying != 0),
           heads := q.heads.filter (fun h => h.need != 0 || h.flying != 0) }

/-! ### Credit (R307) -/

def clampCredit (w : Nat) (c : Int) : Int := clampI (-(4 * w : Nat)) (4 * w : Nat) c

/-- Refill the subscriptions that a test picks. -/
def refill (pick : Nat → Bool) (s : Slu) : Slu :=
  { s with credit := s.subs.foldl (fun t e =>
      if pick (e.1 % 8192) then tabMod 0 t e.1 (fun c => clampCredit e.2.1 (c + e.2.1)) else t) s.credit }

/-- Refill at dwell and flush ticks: types 0 to 5 of the sectors in the window. -/
def refillDwell (s : Slu) : Slu :=
  refill (fun q => decide (queueTypeOf q ≤ 5) && s.window.contains (queueSector q)) s

/-- Refill at frame ticks: type 6. -/
def refillFrame (s : Slu) : Slu := refill (fun q => queueTypeOf q == 6) s

/-- Apply one subscription change: an ended one releases its unsent units on that port uncounted, a new
one starts with credit 0, a changed one keeps its credit within the new bound (R302, R442). -/
def applySub (key weight target : Nat) (s : Slu) : Slu :=
  let p := key / 8192
  let q := key % 8192
  let old := weightOf s p q
  if weight = 0 then
    { modQueue q (fun x => cleanQueue { x with
        units := x.units.map (fun u => if bit u.flying p then u else { u with need := putBit u.need p false }),
        heads := x.heads.map (fun h => if bit h.flying p then h else { h with need := putBit h.need p false }) }) s with
      subs := tabSet (0, 0) s.subs key (0, 0), credit := tabSet 0 s.credit key 0 }
  else { s with
      subs := tabSet (0, 0) s.subs key (weight, target),
      credit := if old = 0 then tabSet 0 s.credit key 0 else tabMod 0 s.credit key (clampCredit weight) }

/-! ### Status (R313) -/

/-- Cells of units not yet sent on a port. -/
def backlog (s : Slu) (p : Nat) : Nat :=
  (s.queues.map (fun e => ((e.2.units.filter (fun u => bit u.need p)).map (·.cells)).sum)).sum

def holderCode (p : Port) : Nat :=
  match p.grant with
  | some g => g.requester
  | none => 15

/-- The FIFO of port 2 can take an entry of a length (R347). -/
def fifoTakes (d : Dev) (len : Nat) : Bool := decide (d.spi.fifo.length + len ≤ 16384)

/-- The transmit path of a port can take data (R298, R329, R332, R344, R347); on port 2 the smallest data entry, 32 bytes. -/
def txReady (d : Dev) (p : Nat) : Bool :=
  if p = 0 then d.net.linkUp.any id && (prmGet d 0x0F08 == 0 || !d.net.txStopped)
  else if p = 1 then d.pcie.linkUp && d.pcie.busMaster
  else d.sys.bootReady && fifoTakes d 32

/-- The port status word. -/
def portWord (d : Dev) (p : Nat) : Nat :=
  let x := portGet d.slu p
  flag x.freezeBy.isSome 31 + flag x.drained 30 + flag x.wdBite 29 + flag x.dropSeen 28 + flag (txReady d p) 27 +
    holderCode x * 2 ^ 20 + satU 16 (backlog d.slu p)

/-- The port counter block (R314). -/
def portBlock (s : PortStat) (frame : Nat) : Bytes :=
  le 4 s.units ++ le 4 s.bytes ++ le 4 s.drops ++ le 4 s.headers ++ le 4 s.users ++ le 2 s.bites ++ le 2 s.peak ++
    le 4 s.overflow ++ le 4 frame

/-! ### Freeze (R310) -/

/-- DRAINED: frozen, and no grant in flight but of HST or 802.1AS. -/
def drainedNow (p : Port) : Bool :=
  p.freezeBy.isSome && (match p.grant with
    | none => true
    | some g => g.requester == 1 || g.requester == 2)

/-- Follow DRAINED, raising the port's event when it asserts. -/
def updateDrained (p : Nat) (d : Dev) : Dev :=
  let x := portGet d.slu p
  let now := drainedNow x
  let d1 := modSlu (modPort p (fun x => { x with drained := now })) d
  if now && !x.drained then raise (38 + p) 0 [] d1 else d1

/-- The end of a session clears its freezes (R310). -/
def clearFreezes (sess : Nat) (d : Dev) : Dev :=
  (List.range 3).foldl (fun d p =>
    if (portGet d.slu p).freezeBy == some sess then
      raise (41 + p) 0 [] (modSlu (modPort p (fun x => { x with freezeBy := none, drained := false })) d)
    else d) d

end Sys2Proof.Machine
end

