-- ==== Sys2Proof/Machine/Format.lean ====
section
/-!
DEFINITION. The point formatter: dwell units of every stream type (R152, R299 to R301), frame headers
(R154), statistics units (R131, R155) and what Peat takes of them (R317, R318).
-/
namespace Sys2Proof.Machine

/-! ### Frame headers (R154) -/

/-- The frame header's status bits. -/
def headerStatus (d : Dev) : Nat :=
  flag (d.recv.gatedAtTick != 0) 5 + flag d.seq.planNew 4 + flag d.prm.intCal 3 + flag d.tim.alignLocked 2 +
    flag (prmGet d 0x0501 == 1) 1 + flag d.tim.stepTick 0

def servoCode (s : Servo) : Nat :=
  match s with
  | .free => 0
  | .locking => 1
  | .locked => 2
  | .holdover => 3

/-- The overflow bits of the count fields from 0x20 on: those that reached full scale, where they stick (R28). -/
def countOverflow (c : QCount) (drops : Nat) : Nat :=
  flag (atFull 32 c.points) 0 + flag (atFull 32 c.records) 1 + flag (atFull 32 drops) 2 +
    flag (atFull 16 c.invalid) 3 + flag (atFull 16 c.overrun) 4 + flag (atFull 16 c.empty) 5 + flag (atFull 16 c.veil) 6

/-- The mean background code, rounded to nearest with ties upward. -/
def bgMean (c : QCount) : Nat := if c.bgN = 0 then 0 else (2 * c.bgSum + c.bgN) / (2 * c.bgN)

/-- A frame header of the frame in progress. -/
def frameHeader (d : Dev) (type queue prevFrame drops : Nat) (c : QCount) : Bytes :=
  le 1 1 ++ le 1 type ++ le 2 queue ++ le 4 d.seq.frame ++ le 8 d.seq.frameTime ++ le 4 d.seq.plan.planId ++
    le 4 d.seq.plan.period ++ le 2 (headerStatus d) ++ le 1 (servoCode d.tim.servo) ++
    le 1 (timeShift d.seq.plan) ++ le 4 prevFrame ++ le 4 (satU 32 c.points) ++ le 4 (satU 32 c.records) ++
    le 4 (satU 32 drops) ++ le 2 (satU 16 c.invalid) ++ le 2 (satU 16 c.overrun) ++ le 2 (satU 16 c.empty) ++
    le 2 (satU 16 c.veil) ++ le 1 c.scoreMax ++ le 1 (bgMean c) ++ leS 2 d.recv.tempTick ++
    le 4 (countOverflow c drops) ++ zeros 4

/-- The frame the counts describe: the last streamed frame. -/
def prevFrameOf (d : Dev) (last : Option Nat) : Nat := last.getD (wrapU 32 (d.seq.frame + 4294967295))

/-- The header of a queue; drops are filled in at its grant (R306). -/
def queueHeader (d : Dev) (q : Nat) : Bytes :=
  frameHeader d (queueTypeOf q) q (prevFrameOf d d.pts.lastFrame) 0 (tabGet QCount.none d.pts.prev q)

/-- Write a queue's header unless this frame's is written already. -/
def headQueue (q : Nat) (d : Dev) : Dev :=
  if d.pts.headed.contains q || subscribers d.slu q == 0 then d
  else enqueueHeader q d.seq.frame (queueHeader d q)
    (modPts (fun p => { p with headed := q :: p.headed }) d)

/-! ### Units (R152, R299, R301) -/

/-- The dwell preamble of types 3 to 5. -/
def preamble (d : Dev) (w : Work) (band type len : Nat) : Bytes :=
  le 2 w.col ++ le 1 band ++ le 1 type ++ le 4 (timeOffset d.seq.plan w.frame w.col) ++ le 2 len ++
    le 2 (flag (w.stalled.any (fun e => e.1 == band)) 0 + flag (zoneMode w.z != 0) 1 + flag (bit w.gated (band / 4)) 2) ++
    zeros 4

/-- The record of a channel in a dwell, if its lane was in service. -/
def recOfChan (w : Work) (c : Nat) : Option LaneRec :=
  match tabFind w.chans c with
  | some p => w.recs.find? (fun r => r.lane == p)
  | none => none

/-- Bit `i` set where channel `i` of the band was in service and not dark. -/
def validMap (w : Work) (band : Nat) : Nat :=
  maskOf ((List.range 64).filter (fun i => match recOfChan w (64 * band + i) with
    | some r => !r.dark
    | none => false))

/-- The background map payload. -/
def bgPayload (w : Work) (band : Nat) : Bytes :=
  le 8 (validMap w band) ++ ((List.range 64).map (fun i => match recOfChan w (64 * band + i) with
    | some r => le 1 (bgCode r.rate)
    | none => le 1 0)).flatten

/-- The interference score of a channel. -/
def scoreOf (w : Work) (c : Nat) : Nat :=
  match recOfChan w c with
  | some r => r.score
  | none => 0

/-- The interference map payload. -/
def intfPayload (w : Work) (band : Nat) : Bytes :=
  le 8 (validMap w band) ++ ((List.range 32).map (fun i =>
    le 1 (scoreOf w (64 * band + 2 * i) + 16 * scoreOf w (64 * band + 2 * i + 1)))).flatten

/-- The histogram snapshot payload of one channel. -/
def snapPayload (w : Work) (band ch : Nat) : Bytes :=
  match recOfChan w (64 * band + ch) with
  | none => le 1 ch ++ zeros 415
  | some r =>
    let slot (i : Nat) := r.cands.getD i Slot.none
    let n := r.cands.length
    le 1 ch ++ le 1 (2 ^ n - 1 + flag r.sat 3 + flag r.code 4 + flag r.subst 5 + flag r.dark 6) ++ le 1 (r.k + 8 * r.live) ++
      le 1 r.fineShots ++ le 2 r.t ++ le 2 r.sigma ++ le 1 r.theta ++ le 1 r.tauM ++ le 1 r.score ++ zeros 1 ++
      ((List.range 3).map (fun i => le 2 (slot i).pos)).flatten ++ ((List.range 3).map (fun i => le 2 (slot i).p)).flatten ++
      ((List.range 3).map (fun i => le 2 (r.bFine.getD i 0))).flatten ++ zeros 2 ++
      ((List.range 192).map (fun j => le 2 (if j / 64 < n then tabGet 0 r.fine j else 0))).flatten

/-- The records of a point in a return stream: first, strongest, last (R152). -/
def recordsFor (type : Nat) (p : Pt) (rs : List Bytes) : Bytes :=
  if p.rets.isEmpty then rs.flatten
  else if type = 0 then rs.getD 0 []
  else if type = 2 then rs.getD (rs.length - 1) []
  else rs.getD (brightest p.rets) []

/-- The return stream's unit of a band. -/
def returnUnit (d : Dev) (w : Work) (type : Nat) (pts : List Pt) : Bytes :=
  (pts.map (fun p => recordsFor type p (pointRecords d w.col (timeOffset d.seq.plan w.frame w.col) p))).flatten

/-- The unit of a band and stream type of a dwell; 7 is Peat's own snapshot (R316). `pts` are the band's
points. -/
def unitOf (d : Dev) (w : Work) (band type : Nat) (pts : List Pt) : Bytes :=
  if type ≤ 2 then returnUnit d w type pts
  else if type = 3 then preamble d w band 3 416 ++ snapPayload w band (prmGet d (0x0B10 + band))
  else if type = 4 then preamble d w band 4 72 ++ bgPayload w band
  else if type = 5 then preamble d w band 5 40 ++ intfPayload w band
  else preamble d w band 3 416 ++ snapPayload w band (peatSnap d band)

/-- The veil-flagged return a queue's record of a point carries. -/
def recordVeil (type : Nat) (p : Pt) : Nat :=
  let i := if type = 0 then 0 else if type = 2 then p.rets.length - 1 else brightest p.rets
  if (p.rets.getD i ⟨0, false, 0, 0, 0, 0, 0, false, false⟩).veil then 1 else 0

/-- Count a point into a queue's header counts (R154). -/
def countPoint (type : Nat) (c : QCount) (p : Pt) : QCount :=
  { points := c.points + 1, records := c.records + 1, invalid := c.invalid + (if p.invalid then 1 else 0),
    overrun := c.overrun + (if bit p.flags 4 then 1 else 0),
    empty := c.empty + (if p.rets.isEmpty && !p.invalid then 1 else 0), veil := c.veil + p.veils + recordVeil type p,
    scoreMax := max c.scoreMax p.score, bgSum := c.bgSum + (if p.invalid then 0 else p.bg),
    bgN := c.bgN + (if p.invalid then 0 else 1) }

/-- Count a unit into its queue's header counts. -/
def countUnit (type : Nat) (pts : List Pt) (c : QCount) : QCount :=
  if type ≤ 2 then pts.foldl (countPoint type) c else { c with records := c.records + 1 }

/-- Write one unit into its queue: header first, counts, store (R154, R305). -/
def writeUnit (d0 : Dev) (w : Work) (sector band type : Nat) (pts : List Pt) (d : Dev) : Dev :=
  let q := queueIndex sector band type
  if subscribers d.slu q = 0 then d
  else
    let bs := unitOf d0 w band type pts
    if bs.isEmpty then d
    else enqueueUnit q w.frame bs
      (modPts (fun p => { p with counts := tabMod QCount.none p.counts q (countUnit type pts) }) (headQueue q d))

/-! ### Peat's dwell block (R318) -/

/-- Lay out units as a present mask, their lengths and themselves. -/
def blockBody (us : List (Nat × Bytes)) : Bytes :=
  le 16 (maskOf (us.map (·.1))) ++ pad16 (us.map (fun u => le 2 u.2.length)).flatten ++ (us.map (fun u => pad16 u.2)).flatten

/-- The selected units of a dwell with their mask bits, in bit order. -/
def peatUnits (d : Dev) (w : Work) (sector : Nat) (pts : Nat → List Pt) : List (Nat × Bytes) :=
  ((List.range 128).filter (fun b => b % 8 != 6 && peatTakes d sector (b / 8) (b % 8))).filterMap (fun b =>
    let u := unitOf d w (b / 8) (b % 8) (pts (b / 8))
    if u.isEmpty then none else some (b, u))

/-- Peat's counts over its selection. -/
def peatCount (us : List (Nat × Bytes)) (pts : Nat → List Pt) (c : QCount) : QCount :=
  us.foldl (fun c u => countUnit (if u.1 % 8 = 7 then 3 else u.1 % 8) (pts (u.1 / 8)) c) c

/-- Write a dwell's block. -/
def peatDwell (w : Work) (dwell sector : Nat) (pts : Nat → List Pt) (d : Dev) : Dev :=
  let us := peatUnits d w sector pts
  if us.isEmpty then d
  else peatWrite (peatEntry 1 w.frame (le 2 w.col ++ le 2 dwell ++ le 1 us.length ++ le 1 (flag (zoneMode w.z != 0) 0))
      (blockBody us))
    (modPeat (fun p => { p with counts := peatCount us pts p.counts }) d)

/-! ### POINT_FORMAT (R135, R149, R152) -/

/-- The points of a dwell: every enabled row it receives, in row order. -/
def dwellPoints (d : Dev) (w : Work) : List Pt := (dwellRows d.seq.plan w.col).map (fun r => sealPoint (formPoint d w r))

/-- Form and write the dwell being formatted; nothing where there is none. -/
def pointFormat (d : Dev) : Dev :=
  match d.pts.format with
  | none => d
  | some w =>
    let pts := dwellPoints d w
    let bandPts (g : Nat) := pts.filter (fun p => p.row / 8 == g)
    let sector := sectorOfCol (aMaxDev d) d.seq.plan w.col
    let d1 := (List.range 96).foldl (fun x i => writeUnit d w sector (i / 6) (i % 6) (bandPts (i / 6)) x) d
    let dwell := if w.frame % 2 = 0 then w.col else planColumns d.seq.plan - 1 - w.col
    let d2 := peatDwell w dwell sector bandPts d1
    modPts (fun p => { p with format := none, evalDwells := p.evalDwells ++ [(w.dwellNo, w.col, pts)] }) d2

/-- A queue that carries the frame's statistics: type 6, sector 0 (R155). -/
def statsQueue (q : Nat) : Bool := queueTypeOf q == 6 && queueSector q == 0

/-- The subscribed queues that a test picks, each once. -/
def subQueues (pick : Nat → Bool) (d : Dev) : List Nat := ((d.slu.subs.map (fun e => e.1 % 8192)).filter pick).eraseDups

/-- The second flush tick heads the subscribed queues that the frame put no records into; the statistics come after its end
(R154, R155). -/
def headEmpty (d : Dev) : Dev := (subQueues (fun q => !statsQueue q) d).foldl (fun d q => headQueue q d) d

/-! ### Frame statistics (R131, R155) -/

/-- A lane's latched block. -/
def laneBlock (d : Dev) (p : Nat) : Bytes :=
  let s := tabGet LaneStat.none d.histo.latched p
  le 4 s.detections ++ le 4 s.raw ++ le 4 s.windowHits ++ le 4 s.prestart ++ le 4 s.near ++ le 2 s.satDwells ++
    le 2 s.nocand ++ le 2 s.intf ++ (s.kDwells.map (le 2)).flatten ++ le 1 s.intfMax ++ le 1 s.thetaMax ++
    le 1 (calGet d p).tauLatched ++ le 1 s.live ++ zeros 2 ++ le 4 s.overflow ++ le 4 d.histo.latchedFrame ++ zeros 16

/-- A bank's latched block. -/
def bankBlock (d : Dev) (b : Nat) : Bytes :=
  let s := tabGet BankStat.none d.histo.latchedBanks b
  le 4 s.startMiss ++ le 4 s.extra ++ le 4 s.codeErr ++
    leS 2 (satS 16 (if s.errN = 0 then 0 else roundDiv s.errSum s.errN)) ++ le 2 s.overflow

/-- The statistics unit of a band. -/
def statsUnit (d : Dev) (band : Nat) : Bytes :=
  ((List.range 68).map (fun k => laneBlock d (68 * band + k))).flatten ++
    (if band % 2 = 0 then bankBlock d (band / 2) else [])

/-- At the frame tick that ends a streamed frame: header and statistics unit of every subscribed statistics queue (R155). -/
def writeStats (d : Dev) : Dev :=
  (subQueues statsQueue d).foldl (fun d q =>
    enqueueUnit q d.seq.frame (statsUnit d (queueBand q))
      (modPts (fun p => { p with counts := tabMod QCount.none p.counts q (fun c => { c with records := c.records + 1 }) }) (headQueue q d))) d

/-- Peat's statistics block. -/
def peatStats (d : Dev) : Dev :=
  let us := ((List.range 16).filter (fun g => peatTakes d 0 g 6)).map (fun g => (g * 8 + 6, statsUnit d g))
  if us.isEmpty then d
  else peatWrite (peatEntry 1 d.seq.frame (le 2 0xFFFF ++ zeros 2 ++ le 1 us.length) (blockBody us))
    (modPeat (fun p => { p with counts := { p.counts with records := p.counts.records + us.length } }) d)

/-- Peat's frame entry of the frame that begins (R317). -/
def peatFrame (d : Dev) : Dev :=
  peatWrite (peatEntry 2 d.seq.frame [] (frameHeader d 0xFF 0xFFFF (prevFrameOf d d.peat.lastFrame) 0 d.peat.prev)) d

end Sys2Proof.Machine
end

