-- ==== Sys2Proof/Machine/Dwell.lean ====
section
/-!
DEFINITION. Shots and dwells: shot ticks and firing (R41, R124, R168), start edges (R87, R88, R112), SPAD
firings (R61 to R65), the close of the coarse phase (R111, R115), and what a dwell or flush tick does to
lanes and pipeline (R26, R27, R70, R71, R78, R84, R128, R133, R134).
-/
namespace Sys2Proof.Machine

/-! ### Lanes judged failed (R150, R467) -/

/-- The channel a lane serves as an event carries it. -/
def chanCode (d : Dev) (p : Nat) : Nat := (chanOfLane d p).getD 0xFFFF

/-- Judge a return lane failed in service: cause 0 Gauge bounds, 1 saturation, 2 lock lost. -/
def judgeLane (p cause : Nat) (d : Dev) : Dev :=
  if d.recv.lanesFailed.contains p || d.recv.lanesJudged.any (fun e => e.1 == p) || decide (1088 ≤ p) then d
  else raise (128 + 8 * groupOfLane p) 0 (le 2 p ++ le 2 (chanCode d p) ++ le 1 cause)
    (modRecv (fun r => { r with lanesJudged := r.lanesJudged ++ [(p, cause)] }) d)

/-! ### Shots -/

/-- Advance the dither generator by seven steps: the register and the dither in 0.25 ns (R124). -/
def lfsrStep (s : Nat) : Nat := if s % 2 = 1 then (BitVec.ofNat 32 (s / 2) ^^^ 0x48000000#32).toNat else s / 2

def ditherSteps : Nat → Nat → Nat → Nat × Nat
  | 0, s, u => (s, u)
  | n + 1, s, u => ditherSteps n (lfsrStep s) (2 * u + s % 2)

def ditherAdvance (h : Histo) : Histo :=
  let r := ditherSteps 7 h.lfsr 0
  { h with lfsr := r.1, dither := r.2 * h.span / 32 }

/-- A frame counter of a bank, sticking at full scale with its overflow bit (R28). -/
def bankBump (i : Nat) (get : BankStat → Nat) (set : BankStat → Nat → BankStat) (s : BankStat) : BankStat :=
  let v := stick 32 i (get s) 1
  { set s v.1 with overflow := orBits 3 s.overflow v.2 }

def modStart (b : Nat) (f : StartLane → StartLane) (d : Dev) : Dev :=
  modTim (fun t => { t with starts := listMod t.starts b f }) d

/-- A code error of a bank (R112). -/
def codeError (b : Nat) (d : Dev) : Dev :=
  modTim (fun t => { t with codeBanks := putBit t.codeBanks b true })
    (modBankStat b (bankBump 2 (·.codeErr) (fun s v => { s with codeErr := v })) d)

/-- End a bank's shot: a fired bank without a first edge has a start miss and a code error (R88, R112); a
good interval or spacing enters its history of 256. -/
def closeBankShot (d : Dev) (b : Nat) : Dev :=
  let s := startOf d b
  if !s.fired then d
  else
    let d0 := modStart b (fun s => { s with fired := false }) d
    match s.first with
    | none => codeError b (modBankStat b (bankBump 0 (·.startMiss) (fun s v => { s with startMiss := v })) d0)
    | some t =>
      let d1 := modStart b (fun s => { s with delays := (((t : Int) - (d.histo.dither * 64 : Nat)) :: s.delays).take 256 }) d0
      match goodSpacing d s with
      | some e => modBankStat b (fun s => { s with errSum := s.errSum + e, errN := s.errN + 1 })
          (modStart b (fun s => { s with errors := (e :: s.errors).take 256 }) d1)
      | none => codeError b d1

def closeShot (d : Dev) : Dev := (List.range 8).foldl closeBankShot d

/-- A new shot has begun: no edge stamped yet, nothing timed; open coincidences and hold-offs run on (R65, R66), and dead times
that have ended are forgotten. -/
def clearShot (d : Dev) : Dev :=
  modRecv (fun r => { r with
      lanes := r.lanes.map (fun e => (e.1, { e.2 with timed := 0 })), blind := r.blind.filter (fun e => decide (shotPs d < e.2)) })
    (modTim (fun t => { t with starts := t.starts.map (fun s => { s with fired := false, first := none, second := none }) }) d)

/-- The rows whose segments the plan fires in the shot in progress (R39, R48, R84). -/
def shotRows (d : Dev) : List Nat :=
  let z := dwellZone d
  ((List.range 128).filter (fun r => rowEnabled d.seq.plan r && rowReceived z (dwellCol d) r)).filter (fun r =>
    !sampleShot d || r % 2 == d.seq.frame % 2)

/-- One pulse of a segment with a drive word and an applied current: its report goes to Tussock, and the driver checks it (R171,
R172). `obs` gives the voltage at mid-pulse and the charge drawn by 2 × segment + pulse; a pulse it does not list is good. -/
def firePulse (still : Bool) (w cur n k : Nat) (obs : List (Nat × Nat × Nat)) (d : Dev) : Dev :=
  if (segGet d n).lockout then d
  else
    let nom := pulseCharge (stepsMa cur) w
    let seen := match obs.find? (fun o => o.1 == 2 * n + k) with
      | some o => (o.2.1, min 1023 o.2.2)
      | none => (3000, (fracRound (fracMul nom (fracMk 64 1000))).toNat)
    let cls := pulseClass seen.1 seen.2 nom
    checkPulse n cls seen.2 (modEmi (fun e => { e with reports := e.reports ++ [⟨n, w, cur, seen.2, cls, false, still⟩] }) d)

/-- A pulse the inhibit blocks: unchecked, and reported to Tussock as inhibited (R167). -/
def blockPulse (still : Bool) (w cur n : Nat) (d : Dev) : Dev :=
  if (segGet d n).lockout then d
  else modEmi (fun e => { e with reports := e.reports ++ [⟨n, w, cur, 0, 0, true, still⟩] }) d

/-- Fire a segment's pulse pair, skip the shot, or have it blocked (R166 to R168). An inhibit that comes between two shot ticks
blocks the pulses from the next one on (DESIGN CHOICE, assumption log, entry 74). -/
def fireSegment (still : Bool) (w cur : Nat) (low : List Nat) (obs : List (Nat × Nat × Nat)) (n : Nat) (d : Dev) : Dev :=
  if n = 0xFF ∨ (segGet d n).lockout then d
  else if inhibited d then blockPulse still w cur n (blockPulse still w cur n d)
  else if low.contains n && railSoft d then skipShot n d
  else
    firePulse still w cur n 1 obs (firePulse still w cur n 0 obs
      (modStart (n / 17) (fun s => { s with fired := true }) (emit (.fire n d.histo.dither) d)))

/-- The segments of a shot of the plan fire with their drive words, the zone's scale and the trims sampled at the dwell tick (R161,
R168). -/
def fireRow (scale : Nat) (low : List Nat) (obs : List (Nat × Nat × Nat)) (d : Dev) (r : Nat) : Dev :=
  let n := segOfRow d r
  let w := driveWord d n
  fireSegment false w (currentSteps w scale (bankGet d (n / 17)).trimDwell) low obs n d

/-- A shot of calibration firing (R176): every 10 µs the 16 service segments of one bank, at the reset drive word and full scale. -/
def calShot (low : List Nat) (obs : List (Nat × Nat × Nat)) (d : Dev) : Dev :=
  let k := d.emi.calShots
  let d1 := modEmi (fun e => { e with calShots := k + 1 })
    (advanceTuss (d.emi.calAt + 10000 * k) (modHisto ditherAdvance (closeShot d)))
  (List.range 16).foldl (fun d i => fireSegment true driveDefault (currentSteps driveDefault 128 0) low obs (17 * (k % 8) + i) d)
    (modTim (fun t => { t with starts := t.starts.map (fun s => { s with fired := false, first := none, second := none }) }) d1)

/-- Calibration firing runs (R176). -/
def calFiring (d : Dev) : Bool := !d.sys.inReset && d.sys.op == .castOn && d.sys.boot == 0x60 && d.gauge.closed

/-- SHOT_TICK: the next shot of the dwell in progress, or of calibration firing. -/
def shotTick (low : List Nat) (obs : List (Nat × Nat × Nat)) (d : Dev) : Dev :=
  let z := dwellZone d
  if calFiring d then (if d.emi.calShots < 20000 then calShot low obs d else d)
  else if !ticking d || !d.seq.dwellOpen || decide (z.shots ≤ d.seq.shot) then d
  else
    let d2 := clearShot (advanceTo (d.seq.dwellTime + d.seq.shot * z.period)
      (modHisto ditherAdvance (modSeq (fun s => { s with shot := s.shot + 1 }) (closeShot d))))
    if d2.sys.op == .running then
      (shotRows d2).foldl (fireRow z.scale low obs)
      (if inhibited d2 then d2 else modHisto (fun h => { h with shots := h.shots + 1 }) d2)
    else d2

/-- START_LANE_EDGE: the first edge is the start, the second the spacing, the rest are counted (R87). -/
def startLaneEdge (b coarse tap : Nat) (d : Dev) : Dev :=
  if !((calFiring d && d.emi.calShots != 0) || (ticking d && d.seq.dwellOpen && d.seq.shot != 0)) || decide (48 ≤ coarse) || decide (64 ≤ tap) ||
      decide (8 ≤ b) || d.gauge.startsFailed.contains b then d
  else
    let t := corrected (gaugeOf d (1088 + b)) (coarse * 64 + tap)
    let s := startOf d b
    if s.first.isNone then modStart b (fun s => { s with first := some t }) d
    else if s.second.isNone then modStart b (fun s => { s with second := some t }) d
    else modBankStat b (bankBump 1 (·.extra) (fun s v => { s with extra := v })) d

/-! ### SPAD firings -/

/-- A macropixel is powered while it lies in the powered window or feeds one of its channels (R43, R61). -/
def powered (d : Dev) (y x : Nat) : Bool :=
  match d.recv.window with
  | none => false
  | some w => (w.col == dwellCol d) ||
    (List.range 1024).any (fun c => let f := chanFeed d w.col c; f.1 == y && f.2.2 == some (x : Int))

/-- The raw stamp of an edge by nominal taps, through the reed bed's 3.5 ns (R67, R86). -/
def nominalCode (ps : Nat) : Nat := (ps + 3500) / 1000 * 64 + (ps + 3500) % 1000 * 64 / 1000

/-- The dead time τ_d in ps (R60). -/
def deadPs (d : Dev) : Nat := 500 * prmGet d 0x040A

/-- SPAD_AVALANCHE: the firing reaches every lane its macropixel feeds (R63). A SPAD that fired less than τ_d ago is blind and
does not fire (R60). -/
def spadAvalanche (y x spad ps recharge : Nat) (readings : List (Nat × Nat)) (d : Dev) : Dev :=
  let z := dwellZone d
  let key := (y * 640 + x) * 4 + spad
  let t := shotPs d + ps
  if !ticking d || !d.seq.dwellOpen || d.seq.shot == 0 || decide (4 ≤ spad) || decide (z.period * 1000 ≤ ps) ||
      !powered d y x || decide (t < tabGet 0 d.recv.blind key) then d
  else (lanesFed d y x).foldl (fun d p =>
    let code := match readings.find? (fun e => e.1 == p) with
      | some e => e.2 % 2 ^ 22
      | none => nominalCode ps
    laneFire p key t (code + 64 * (shotPs d / 1000)) recharge d)
    (modRecv (fun r => { r with blind := tabPut key (t + deadPs d) r.blind }) d)

/-- COARSE_PHASE_CLOSE: candidates final, fine windows set (R111, R115). -/
def coarseClose (d : Dev) : Dev :=
  if !ticking d || !d.seq.dwellOpen || d.histo.phaseClosed || decide (d.seq.shot < (dwellZone d).coarse) then d
  else modHisto (fun h => { h with phaseClosed := true })
    (modRecv (fun r => { r with lanes := r.lanes.map (fun e => (e.1, { e.2 with cands := candidates e.2.slots })) }) d)

/-! ### The end of a dwell -/

/-- The plan of the frame after this one (R52). -/
def planAfter (d : Dev) : Plan :=
  (d.prm.pending.filter (fun p => p.frame == wrapU 32 (d.seq.frame + 1))).foldl (fun acc p => p.set.plan.getD acc) d.seq.plan

/-- The parameters in force once the sets of the next frame have applied (R412). -/
def paramsNext (d : Dev) : Tab Nat :=
  (d.prm.pending.filter (fun p => p.frame == wrapU 32 (d.seq.frame + 1))).foldl
    (fun t p => p.set.params.foldl (fun t e => tabPut e.1 e.2 t) t) d.prm.vals

/-- The courses of this frame, of the next and of the one before (R53): each plan with the a_max of its own frame. -/
def courseNow (d : Dev) : Course := ⟨aMaxDev d, d.seq.plan⟩
def courseNext (d : Dev) : Course := ⟨aMaxOf (paramsNext d), planAfter d⟩

/-- The length of this frame's turnaround, the correction of R108 included. -/
def turnNow (d : Dev) : Int := (d.seq.nextFrame : Int) - d.seq.frameTime - activeNs d.seq.plan

/-- coarse_shots of the dwell after the one in progress (R70, R71). -/
def nextCoarse (d : Dev) : Nat :=
  if d.seq.dwell + 1 < planColumns d.seq.plan then
    (zoneOfCol d.seq.plan.zones (colOfDwell d.seq.plan d.seq.frame (d.seq.dwell + 1))).coarse
  else
    let p := planAfter d
    (zoneOfCol p.zones (colOfDwell p (wrapU 32 (d.seq.frame + 1)) 0)).coarse

/-- The fine shots of a row's lanes: one fewer for the rows unfired in the sample's shot (R84). -/
def fineShotsOf (d : Dev) (z : Zone) (row : Nat) : Nat :=
  if sampleDwell d && row % 2 != d.seq.frame % 2 then z.shots - z.coarse - 1 else z.shots - z.coarse

/-- Add a dwell to a lane's frame statistics: the dwell's counters, pre-start and near ones as their 8 bits hold them (R91), and
one to each count of dwells the dwell belongs to; `overflow` notes every counter at full scale (R28, R131). -/
def statDwell (l : Lane) (r : LaneRec) (s : LaneStat) : LaneStat :=
  let one (b : Bool) : Nat := if b then 1 else 0
  let det := stick 32 0 s.detections l.det
  let raw := stick 32 1 s.raw ((bitList 4 l.live).map (fun q => l.raw.getD q 0)).sum
  let fine := stick 32 2 s.windowHits l.fineHits
  let pre := stick 32 3 s.prestart l.prestart
  let near := stick 32 4 s.near l.near
  let sat := stick 16 5 s.satDwells (one l.sat)
  let noc := stick 16 6 s.nocand (one r.cands.isEmpty)
  let intf := stick 16 7 s.intf (one (decide (1 ≤ r.score)))
  let ks := (List.range 4).map (fun i => stick 16 (8 + i) (s.kDwells.getD i 0) (one (l.k == i + 1)))
  { detections := det.1, raw := raw.1, windowHits := fine.1, prestart := pre.1, near := near.1, satDwells := sat.1,
    nocand := noc.1, intf := intf.1, kDwells := ks.map (·.1), intfMax := max s.intfMax r.score,
    thetaMax := max s.thetaMax r.theta, live := l.live,
    overflow := orBits 12 s.overflow
      (([det, raw, fine, pre, near, sat, noc, intf] ++ ks).map (·.2)).sum }

/-- End the dwell of a lane that a channel's row is received on: record, statistics, status, and the next dwell's depth and
threshold. -/
def closeLane (z : Zone) (col next c : Nat) (p : Nat) (d : Dev) : LaneRec × Dev :=
  let l := laneGet d p
  let r := laneRecord d p z (fineShotsOf d z (chanRow z col c))
  let kt := adapt d p z next l
  let d1 := modLane p (fun l => if l.dark then { l with fresh := true } else { l with k := kt.1, t := kt.2 }) d
  let d2 := modHisto (fun h => { h with
      lanes := tabMod LaneStat.none h.lanes p (statDwell l r),
      status := tabMod LaneStatus.none h.status p (fun w => { w with code := r.code, score := r.score, theta := r.theta }) }) d1
  (r, d2)

/-- End the dwell on every channel in service, and on the spares that listen beside them, which hand over no record. -/
def closeLanes (z : Zone) (col next : Nat) (cs : List Nat) (d : Dev) : List LaneRec × Dev :=
  let r := cs.foldl (fun a c => let r := closeLane z col next c (laneOfChan d c) a.2; (a.1 ++ [r.1], r.2)) ([], d)
  (r.1, cs.foldl (fun e c => (idleSpare d c).elim e (fun p => (closeLane z col next c p e).2)) r.2)

/-- What the formatter must know of a row (R150, R180, R181). -/
def rowMark (d : Dev) (z : Zone) (col row : Nat) : RowMark :=
  let n := segOfRow d row
  { lost := n == 0xFF || (segGet d n).failed,
    degraded := n != 0xFF && ((segGet d n).degraded || (bankGet d (n / 17)).fallback),
    excluded := (chansOfRow z col row).any (fun c => d.recv.lanesJudged.any (fun e => e.1 == laneOfChan d c)) }

/-- Take the frame's alignment sample from the counts of its shot (R84, R85). A row whose three counts are all zero folds nothing
(DESIGN CHOICE, assumption log, entry 70: its δ has the denominator 0). -/
def foldSample (d : Dev) (row : Nat) : Dev :=
  let n := segOfRow d row
  let phys (r : Nat) : Nat := physRow d (segOfRow d r)
  let cnt (r : Nat) : Nat := tabGet 0 d.recv.alignHits r
  let tot := cnt (row - 1) + cnt row + cnt (row + 1)
  let ok := decide (1 ≤ row ∧ row ≤ 126) && n != 0xFF && segOfRow d (row - 1) != 0xFF && segOfRow d (row + 1) != 0xFF &&
    rowEnabled d.seq.plan (row - 1) && rowEnabled d.seq.plan (row + 1) &&
    phys (row - 1) + 1 == phys row && phys (row + 1) == phys row + 1 && tot != 0
  if !ok then d
  else
    let delta := roundDiv (65536 * ((cnt (row + 1) : Int) - cnt (row - 1))) tot
    let e := tabGet 0 d.recv.estimate n
    let e' := clampI (-131072) 131072 (e + roundDiv (delta - e) 64)
    let d1 := modRecv (fun r => { r with estimate := tabSet 0 r.estimate n e' }) d
    if (e' == 131072 || e' == -131072) then
      raise 10 0 (le 1 n) (modRecv (fun r => { r with atLimit := if r.atLimit.contains n then r.atLimit else n :: r.atLimit }) d1)
    else modRecv (fun r => { r with atLimit := r.atLimit.filter (· != n) }) d1

def takeSample (d : Dev) : Dev :=
  if !(sampleDwell d && d.seq.shot == (dwellZone d).shots) then d
  else
    let d1 := ((List.range 128).filter (fun r => r % 2 == d.seq.frame % 2 && rowEnabled d.seq.plan r)).foldl foldSample d
    modRecv (fun r => { r with alignHits := [] }) (modEv (fun e => { e with alignSamples := incSat 32 e.alignSamples }) d1)

/-- Lanes that handed over nothing: judged failed and still in their row (R150). -/
def judgedLane (d : Dev) (p : Nat) : Bool := d.recv.lanesJudged.any (fun e => e.1 == p)

/-- End the dwell in progress: the last shot's starts, the sample, every lane, and the work handed to the
peak engine while RUNNING. -/
def closeDwell (d : Dev) : Dev × Option Work :=
  let z := dwellZone d
  let col := dwellCol d
  let d1 := takeSample (closeShot d)
  let cs := (List.range 1024).filter (chanInService d1)
  let marks := tabOf RowMark.none 128 (rowMark d1 z col)
  let r := closeLanes z col (nextCoarse d1) cs d1
  let use := r.1.filter (fun x => !judgedLane d1 x.lane)
  let w : Work := { dwellNo := d.seq.dwellNo, frame := d.seq.frame, col := col, zone := zoneIdxOfCol d.seq.plan.zones col,
                    z := z, gated := d.recv.gated, recs := use, chans := cs.map (fun c => (c, laneOfChan d1 c)),
                    marks := marks, stalled := [] }
  (r.2, if d.sys.op == .running then some w else none)

/-- The groups that were overrun at a tick: counted and raised (R134). -/
def noteStalls (stalled : List (Nat × Nat)) (d : Dev) : Dev :=
  (stalled.filter (fun e => decide (e.1 < 16 ∧ e.2 < 64))).foldl (fun d e => raise (128 + 8 * e.1 + 3) 0 []
    (modPts (fun p => { p with overruns := tabMod 0 p.overruns e.1 (· + 1) }) d)) d

/-- Advance the pipeline by one tick: the dwell reduced is formatted next, the new one reduced next, and
the credit window is the sector now formatted (R26, R52, R307). A dwell still unformatted is finished first. -/
def advancePipe (new : Option Work) (stalled : List (Nat × Nat)) (d : Dev) : Dev :=
  let d0 := pointFormat d
  let d1 := if d0.pts.reduce.isSome then noteStalls stalled d0 else d0
  let fmt := d1.pts.reduce.map (fun w => { w with stalled := stalled.filter (fun e => decide (e.1 < 16 ∧ e.2 < 64)) })
  let d2 := modPts (fun p => { p with format := fmt, reduce := new }) d1
  let win := match fmt with
    | some w => [sectorOfCol (aMaxDev d) d.seq.plan w.col]
    | none => []
  modSlu (fun s => refillDwell { s with window := win }) d2

/-! ### The start of a dwell -/

/-- A lane at its dwell tick, with a channel's feed: the macropixel that feeds it, its live SPADs, and its settings (R71, R75,
R78). Open coincidences and hold-offs run on; the skein's banks keep the words of the dwell before them, which their tags make
read as zero (R117). -/
def openLane (d : Dev) (z : Zone) (col : Nat) (az : Int) (c p : Nat) : Lane :=
  let n := d.seq.dwellNo
  let l := laneGet d p
  let f := chanFeedAt d z col az c
  let kept := modFineBank n (skeinKeep 16384 (fineTag n)) { l with coarse := skeinKeep 1024 (coarseTag n) l.coarse }
  let base := { Lane.idle with fresh := l.fresh, fires := l.fires, hold := l.hold,
                               coarse := kept.coarse, fine0 := kept.fine0, fine1 := kept.fine1 }
  match f.2.2 with
  | none => { base with k := l.k, t := l.t, live := 0, dark := true, fresh := true }
  | some x =>
    let live := liveMask (maskAt d f.1 x.toNat)
    let kt := if l.fresh then bedInitial d else (l.k, l.t)
    { base with k := min kt.1 (popcount 4 live), t := kt.2, live := live, subst := x != f.2.1, fresh := false }

/-- The dark channels of a group changed: its event (R460). -/
def noteDark (d : Dev) (g n : Nat) : Dev :=
  if tabGet 0 d.recv.darkCounts g = n then d
  else raise (128 + 8 * g + 7) 0 [] (modRecv (fun r => { r with darkCounts := tabSet 0 r.darkCounts g n }) d)

/-- Open the dwell at hand: Weave, lanes, status words, trims, degraded marks. -/
def openDwell (d : Dev) : Dev :=
  let z := dwellZone d
  let col := dwellCol d
  let az := colAzimuth (aMaxDev d) d.seq.plan col
  let cs := (List.range 1024).filter (chanInService d)
  let new := cs.map (fun c => (laneOfChan d c, openLane d z col az c (laneOfChan d c)))
  let spares := cs.filterMap (fun c => (idleSpare d c).map (fun p => (p, openLane d z col az c p)))
  let d1 := modRecv (fun r => { r with
      lanes := (new ++ spares).foldl (fun t e => tabSet Lane.idle t e.1 e.2) r.lanes, window := some ⟨col⟩, alignHits := [] }) d
  let d2 := modHisto (fun h => { h with
      phaseClosed := false,
      status := new.foldl (fun t e => tabMod LaneStatus.none t e.1 (fun w => { w with k := e.2.k, live := e.2.live, t := e.2.t })) h.status }) d1
  let d3 := modTim (fun t => { t with codeBanks := 0, starts := t.starts.map (fun s => { s with fired := false, first := none, second := none }) }) d2
  let d4 := modEmi (fun e => { e with
      segs := e.segs.map (fun x => (x.1, { x.2 with degraded := false })),
      banks := e.banks.map (fun x => (x.1, { x.2 with trimDwell := x.2.trim })) }) d3
  let d5 := (List.range 136).foldl (fun d n =>
    if outOfBand (bankGet d (n / 17)) || (bankGet d (n / 17)).fallback then modSeg n (fun s => { s with degraded := true }) d else d) d4
  (List.range 16).foldl (fun d g => noteDark d g
    ((cs.zip new).filter (fun e => e.1 / 64 == g && e.2.2.dark)).length) d5

/-- The next dwell of the frame can start. -/
def dwellDue (d : Dev) : Bool :=
  ticking d && d.seq.started && d.seq.phase == .sweep && (!d.seq.dwellOpen || decide (d.seq.dwell + 1 < planColumns d.seq.plan))

/-- Judge the lanes that report loss of lock (R467). -/
def judgeLocks (ps : List Nat) (d : Dev) : Dev := ps.foldl (fun d p => judgeLane p 2 d) d

/-- DWELL_TICK for the receiver and the pipeline. -/
def dwellTick (lockLost : List Nat) (stalled : List (Nat × Nat)) (d : Dev) : Dev :=
  if !dwellDue d then d
  else if d.seq.dwellOpen then
    let t := d.seq.dwellTime + dwellLen (dwellZone d)
    let c := closeDwell d
    let d1 := advanceTo t (modSeq (fun s => { s with
      dwell := s.dwell + 1, dwellTime := t, shot := 0, dwellNo := wrapU 32 (s.dwellNo + 1) }) c.1)
    openDwell (judgeLocks lockLost (advancePipe c.2 stalled d1))
  else
    openDwell (judgeLocks lockLost (advancePipe none stalled (modSeq (fun s => { s with
      dwellOpen := true, dwell := 0, shot := 0, dwellTime := s.frameTime, dwellNo := wrapU 32 (s.dwellNo + 1) }) d)))

/-- FLUSH_TICK: the first ends the last dwell and begins the turnaround, the second follows by its length
(R27). -/
def flushTick (stalled : List (Nat × Nat)) (d : Dev) : Dev :=
  let z := dwellZone d
  if !ticking d then d
  else if d.seq.phase == .sweep && d.seq.dwellOpen && decide (planColumns d.seq.plan ≤ d.seq.dwell + 1) then
    let t := d.seq.dwellTime + dwellLen z
    let c := closeDwell d
    advancePipe c.2 stalled (advanceTo t (modRecv (fun r => { r with window := none }) (modSeq (fun s => { s with
      phase := .turnaround, dwellOpen := false, dwellTime := t, flushes := 1, shot := 0 }) c.1)))
  else if d.seq.phase == .turnaround && d.seq.flushes == 1 then
    let t := d.seq.dwellTime + dwellLen z
    let d1 := advancePipe none stalled (advanceTo t (modSeq (fun s => { s with flushes := 2, dwellTime := t }) d))
    if d1.pts.streamed then headEmpty d1 else d1
  else d

/-- WINDOW_BIAS: the window of the dwell to come is powered, the one before goes dark (R43). -/
def windowBias (d : Dev) : Dev :=
  if !ticking d then d
  else
    let w : Option Window :=
      match d.seq.phase with
      | .sweep =>
        if d.seq.dwell + 1 < planColumns d.seq.plan then
          some ⟨colOfDwell d.seq.plan d.seq.frame (if d.seq.dwellOpen then d.seq.dwell + 1 else 0)⟩
        else none
      | .turnaround => some ⟨colOfDwell (planAfter d) (wrapU 32 (d.seq.frame + 1)) 0⟩
      | .idle => some ⟨colOfDwell (planAfter d) 0 0⟩
    modRecv (fun r => { r with window := w }) d

end Sys2Proof.Machine
end

