-- ==== Sys2Proof/Machine/Clock.lean ====
section
/-!
DEFINITION. Gauge calibration (R92 to R98), zero offsets and dead times (R101, R121), device time, the
802.1AS servo and the ageing adjustment (R104 to R107), frame alignment (R108) and recommended restore
values (R466).
-/
namespace Sys2Proof.Machine

/-! ### Gauge (R92 to R97) -/

def accGet (d : Dev) (lane : Nat) : GaugeAcc := tabGet GaugeAcc.none d.gauge.acc lane
def modAcc (lane : Nat) (f : GaugeAcc → GaugeAcc) (d : Dev) : Dev :=
  modGauge (fun g => { g with acc := tabMod GaugeAcc.none g.acc lane f }) d
def modTable (lane : Nat) (f : GaugeRec → GaugeRec) (d : Dev) : Dev :=
  modGauge (fun g => { g with tables := tabMod GaugeRec.none g.tables lane f }) d

/-- A lane Gauge still refreshes: a start lane, or a return lane of a slice that is on (R468). -/
def gaugeRuns (d : Dev) (lane : Nat) : Bool :=
  decide (1088 ≤ lane ∧ lane < 1096) || (decide (lane < 1088) && sliceOn d (groupOfLane lane))

/-- The diagnostic blocks of a turnaround run: after its second flush tick (R49). -/
def inTurnaround (d : Dev) : Bool := ticking d && d.seq.phase == .turnaround && decide (2 ≤ d.seq.flushes)

/-- F of the turnaround schedule: 2L + 2 µs after the end of the active sweep. -/
def diagStart (d : Dev) : Nat := d.seq.frameTime + activeNs d.seq.plan + 2 * dwellLen (endZone d.seq.plan d.seq.frame) + 2000

/-- GAUGE_RANDOM_EDGE: one hit in the tap it falls in, 20 bits saturating (R92). -/
def gaugeEdge (lane code : Nat) (d : Dev) : Dev :=
  if !inTurnaround d || d.gauge.closed || !gaugeRuns d lane then d
  else modAcc lane (fun a => { a with hits := tabMod 0 a.hits (code % 64) (incSat 20) }) d

/-- Frames of a lane's refresh period that have passed at the end of the frame in progress, modulo 2^32 (R13, R93). -/
def gaugeAge (d : Dev) (lane : Nat) : Nat := wrapU 32 (d.seq.frame + 1 + 2 ^ 32 - (accGet d lane).since)

def totalHits (h : Tab Nat) : Nat := (h.map (·.2)).sum

/-- End a lane's collection: its refresh completes, or it starves (R93). A lane without hits keeps waiting.
DEDUCED (assumption log, entry 44). -/
def gaugeEndLane (d : Dev) (lane : Nat) : Dev :=
  let a := accGet d lane
  let age := gaugeAge d lane
  let period := prmGet d 0x0429
  if !gaugeRuns d lane || a.ready.isSome then d
  else if period ≤ age ∧ 65536 ≤ totalHits a.hits then
    modTable lane (fun t => { t with starved := false }) (modAcc lane (fun a => { a with ready := some d.seq.frame, starvedRaised := false }) d)
  else if period + 32 ≤ age ∧ !a.starvedRaised then
    let d1 := modTable lane (fun t => { t with starved := true }) (modAcc lane (fun a => { a with starvedRaised := true }) d)
    if lane < 1088 then raise (128 + 8 * groupOfLane lane + 5) 0 [] d1 else d1
  else d

/-- GAUGE_COLLECTION_END, at F + 1 850 µs. -/
def gaugeCollectionEnd (d : Dev) : Dev :=
  if !inTurnaround d || d.gauge.closed then d
  else (List.range 1096).foldl gaugeEndLane
    (modGauge (fun g => { g with closed := true }) (advanceTo (diagStart d + 1850000) d))

/-- The place of the widest tap, the lowest index of several (DESIGN CHOICE, assumption log, entry 30). -/
def widest (ws : List Nat) : Nat := (List.range ws.length).foldl (fun m j => if (ws.getD m 0) < (ws.getD j 0) then j else m) 0

/-- Widths from hit counts, their sum exactly one clock period (R94). -/
def deriveWidths (hits : List Nat) : List Nat :=
  let tot := hits.sum
  let ws := hits.map (fun h => (roundDiv (h * 1000000 : Nat) tot).toNat)
  listMod ws (widest ws) (fun w => w + 1000000 - ws.sum)

/-- Twice a tap's midpoint. -/
def mid2 (ws : List Nat) (i : Nat) : Nat := 2 * tapBelow ws i + ws.getD i 0

/-- The first bound a derived table fails (R95); 0 none. The change bound needs a table in force. -/
def gaugeBound (old : GaugeRec) (hits ws : List Nat) : Nat :=
  if hits.any (· == 0) then 1
  else if ws.any (fun w => decide (w < 3000 ∨ 40000 < w)) then 2
  else if old.valid && (List.range 64).any (fun i => decide (50000 < dist (mid2 ws i) (mid2 old.widths i))) then 3
  else if hits.sum < 65536 then 4
  else 0

/-- A lane's second consecutive bound failure takes it out of service (R95). -/
def gaugeFailed (lane : Nat) (d : Dev) : Dev :=
  if lane < 1088 then judgeLane lane 0 d
  else modGauge (fun g => { g with
    startsJudged := if g.startsJudged.contains (lane - 1088) then g.startsJudged else (lane - 1088) :: g.startsJudged }) d

/-- A lane's refresh waits to be derived: the turnaround before this frame completed it (R96). -/
def deriveDue (d : Dev) (lane : Nat) : Bool :=
  ticking d && (accGet d lane).ready.elim false (fun f => wrapU 32 (f + 1) == d.seq.frame)

/-- GAUGE_TABLE_DERIVE: the application domain's part. -/
def gaugeDerive (lane : Nat) (d : Dev) : Dev :=
  let a := accGet d lane
  if !deriveDue d lane then d
  else
    let hits := (List.range 64).map (tabGet 0 a.hits)
    let ws := deriveWidths hits
    let b := gaugeBound (gaugeOf d lane) hits ws
    let d1 := modAcc lane (fun a => { a with hits := [], ready := none, since := wrapU 32 (d.seq.frame + 1),
                                             fails := if b = 0 then 0 else a.fails + 1 }) d
    if b = 0 then
      modGauge (fun g => { g with
          shadow := tabPut lane ⟨ws, true, false, false, (gaugeOf d lane).failBound, satU 24 hits.sum, 0⟩ g.shadow })
        (modTable lane (fun t => { t with boundFail := false }) d1)
    else
      let d2 := modTable lane (fun t => { t with boundFail := true, failBound := b }) d1
      let d3 := if lane < 1088 then raise (128 + 8 * groupOfLane lane + 4) 0 [] d2 else d2
      if 2 ≤ a.fails + 1 then gaugeFailed lane d3 else d3

/-- A refresh whose frame of derivation has ended waits no more: the next collection's end completes it again (DESIGN CHOICE,
assumption log, entry 44). -/
def staleRefresh (frame : Nat) (a : GaugeAcc) : GaugeAcc :=
  { a with ready := a.ready.filter (fun f => wrapU 32 (f + 1) == frame) }

/-- The shadow tables come into force at the frame tick (R96); the record of the latest failure stays (R98). -/
def gaugeSwap (d : Dev) : Dev :=
  modGauge (fun g => { g with
    tables := g.shadow.foldl (fun t e =>
      let old := tabGet GaugeRec.none t e.1
      tabPut e.1 { e.2 with frame := d.seq.frame, starved := old.starved, failBound := old.failBound } t) g.tables,
    shadow := [], closed := false, acc := g.acc.map (fun e => (e.1, staleRefresh d.seq.frame e.2)),
    startsFailed := g.startsFailed ++ g.startsJudged.filter (fun b => !g.startsFailed.contains b),
    startsJudged := [] }) d

/-- A Gauge record as the host reads it (R98). -/
def gaugeBytes (lane : Nat) (g : GaugeRec) : Bytes :=
  (g.widths.map (le 2)).flatten ++
    le 4 (flag g.valid 31 + flag g.boundFail 30 + flag g.starved 29 + flag (decide (1088 ≤ lane)) 28 + g.failBound * 2 ^ 24 + g.hits) ++
    le 4 g.frame

/-! ### Zero offset and dead time (R101, R121) -/

/-- The shots bounds on a frame's reference statistic: N ≥ 64 and a rate from 0.02 to 0.6. -/
def refInBounds (s : Stat) (shots : Nat) : Bool :=
  decide (64 ≤ s.n ∧ shots ≤ 50 * s.n ∧ 10 * s.n ≤ 6 * shots)

/-- The target of a zero offset from a mean, in 1/65 536 ns. -/
def zeroTarget (mean : Nat) : Int := (mean * 256 : Nat) - 10486

/-- A lane at the frame tick: statistic latched, offset moved or the run counted, dead time latched.
DEDUCED (assumption log, entry 45). A mean recharge beyond the 8 bits of τ_m keeps its low 8 bits (DESIGN CHOICE, assumption log,
entry 72: R121 does not say). -/
def latchCal (shots : Nat) (c : LaneCal) : LaneCal :=
  let tau := if 16 ≤ c.tauN then (roundDiv c.tauSum c.tauN).toNat % 256 else c.tauM
  let c1 := { c with refLatched := c.ref, ref := Stat.none, tauM := tau, tauLatched := tau, tauSum := 0, tauN := 0 }
  if refInBounds c.ref shots then
    { c1 with zq16 := c.zq16 + truncDiv (zeroTarget (statMean c.ref) - c.zq16) 16, oobRun := 0 }
  else { c1 with oobCount := incSat 32 c.oobCount, oobRun := c.oobRun + 1 }

/-- Every lane at the frame tick; the fifth bad frame in a row raises its group's event (R101). -/
def latchCals (d : Dev) : Dev :=
  let shots := d.histo.shots
  let d1 := modTim (fun t => { t with lanes := tabOf LaneCal.none 1088 (fun p => latchCal shots (tabGet LaneCal.none t.lanes p)) }) d
  ((List.range 1088).filter (fun p => (calGet d1 p).oobRun == 5 && sliceOn d (groupOfLane p))).foldl
    (fun d p => raise (128 + 8 * groupOfLane p + 6) 0 [] d) d1

/-- After a change of τ_d every τ_m starts at it again (R121). -/
def resetTau (d : Dev) : Dev :=
  modTim (fun t => { t with lanes := tabOf LaneCal.none 1088 (fun p => { tabGet LaneCal.none t.lanes p with tauM := 8 * prmGet d 0x040A }) }) d

/-! ### The servo (R106) -/

/-- The receiver-die temperature: the highest of its four diodes. -/
def rxTemp (d : Dev) : Int := d.recv.temps.foldl max (d.recv.temps.getD 0 0)

/-- Change the servo's state, with its event. -/
def servoTo (s : Servo) (d : Dev) : Dev :=
  if d.tim.servo == s then d
  else raise 11 0 (le 1 (servoCode d.tim.servo) ++ le 1 (servoCode s)) (modTim (fun t => { t with servo := s }) d)

/-- Shift a time by a step, never below zero. -/
def shiftTime (k : Int) (t : Nat) : Nat := ((t : Int) + k).toNat

/-- The instants of the schedule that lie outside the sequencer shift with it: the SYNC cycle and crossings of the sweep. -/
def shiftInstants (k : Int) (d : Dev) : Dev :=
  let at_ (t : Nat) : Nat := shiftTime k t
  modSync (fun y => { y with
      cycleAt := at_ y.cycleAt, markerAt := at_ y.markerAt, answerAt := at_ y.answerAt,
      run := y.run.map (fun r => { r with prepareAt := r.prepareAt.map at_ }) })
    (modLoops (fun l => { l with
      crossTraj := l.crossTraj.map at_, crossMir := l.crossMir.map at_,
      lastPri := l.lastPri.map (fun x => (at_ x.1, x.2)), lastTraj := l.lastTraj.map (fun x => (at_ x.1, x.2)) }) d)

/-- Step device time; the tick schedule shifts with it, and every duration runs in elapsed time (R105). DEDUCED (assumption log,
entry 48). -/
def stepTime (k : Int) (d : Dev) : Dev :=
  let d1 := modSeq (fun s => { s with frameTime := shiftTime k s.frameTime, nextFrame := shiftTime k s.nextFrame,
                                      dwellTime := shiftTime k s.dwellTime, tickTime := shiftTime k s.tickTime,
                                      prior := s.prior.map (fun p => (shiftTime k p.1, p.2)) }) d
  let d3 := modTim (fun t => { t with stepFlag := true, stepUsed := true, inBandSince := none }) (shiftInstants k d1)
  raise 12 0 [] (modSys (fun y => { y with now := shiftTime k y.now, stepSum := y.stepSum + ((shiftTime k y.now : Int) - y.now) }) d3)

/-- A valid sync: `off` is device time minus grandmaster time in ns, `rate` the servo's rate offset in ppb. -/
def servoSync (off rate : Int) (d : Dev) : Dev :=
  let r := clampI (-200000) 200000 rate
  let d0 := modTim (fun t => { t with
      lastSync := tussNow d, offset := off, rate := r,
      bigOffsets := if off < -1000000 ∨ 1000000 < off then t.bigOffsets + 1 else 0 }) d
  let back := d0.tim.servo == .locked && decide (3 ≤ d0.tim.bigOffsets)
  let enter := d0.tim.servo == .free || d0.tim.servo == .holdover || back
  let d1 := if enter then
      modTim (fun t => { t with stepUsed := false, inBandSince := none, bigOffsets := 0, rateSamples := [] }) (servoTo .locking d0)
    else d0
  let d2 := if d1.tim.servo == .locking && !d1.tim.stepUsed && decide (off < -100000 ∨ 100000 < off) then stepTime (-off) d1 else d1
  let inBand := decide (-1000 ≤ off ∧ off ≤ 1000)
  let d3 := modTim (fun t => { t with inBandSince := if inBand then some (t.inBandSince.getD (tussNow d2)) else none }) d2
  if d3.tim.servo == .locked then
    modTim (fun t => { t with
      rateSamples := ((tussNow d3, r, rxTemp d3) :: t.rateSamples).filter (fun x => decide (tussNow d3 ≤ x.1 + 600000000000)) }) d3
  else d3

/-- SERVO_LOCK_ACHIEVED: ten seconds within ±1 µs. -/
def servoLock (d : Dev) : Dev :=
  match d.tim.servo, d.tim.inBandSince with
  | .locking, some t =>
    let d1 := advanceTuss (t + 10000000000) d
    modTim (fun x => { x with lockSince := tussNow d1, rateSamples := [], bigOffsets := 0 }) (servoTo .locked d1)
  | _, _ => d

/-- SYNC_LOSS_HOLDOVER: three seconds without a valid sync. -/
def servoHoldover (d : Dev) : Dev :=
  if d.tim.servo == .locked || d.tim.servo == .locking then servoTo .holdover (advanceTuss (d.tim.lastSync + 3000000000) d) else d

/-! ### Ageing (R104, R107, R466) -/

/-- The adjustment in force at an instant of a slew: 1 000 ppb per ms toward the target. -/
def ageingNow (d : Dev) : Int :=
  let t := d.tim
  if !t.slewing then t.ageing
  else
    let moved : Int := ((tussNow d - t.ageingSince) / 1000 : Nat)
    if t.ageingFrom ≤ t.ageingTarget then min t.ageingTarget (t.ageingFrom + moved)
    else max t.ageingTarget (t.ageingFrom - moved)

/-- When the slew reaches its target, in elapsed time. -/
def slewEnd (d : Dev) : Nat := d.tim.ageingSince + (d.tim.ageingTarget - d.tim.ageingFrom).natAbs * 1000

/-- The recommended adjustment, its averaging time in s, the mean temperature, and whether it is learned. The means are those of
the syncs received in the last 600 s, each counted alike, rounded to nearest (DESIGN CHOICE, assumption log, entry 73: R107 names
neither weight nor rounding). -/
def ageingRec (d : Dev) : Int × Nat × Int × Bool :=
  let rs := d.tim.rateSamples
  if d.tim.servo == .locked && decide (d.tim.lockSince + 600000000000 ≤ tussNow d) && !rs.isEmpty then
    (ageingNow d + roundDiv (rs.map (·.2.1)).sum rs.length, 600, roundDiv (rs.map (·.2.2)).sum rs.length, true)
  else (ageingNow d, 0, 0, false)

/-- The refined row_pos of every segment's entry, unset entries as they are (R85). -/
def refinedRows (d : Dev) : List Nat :=
  (List.range 136).map (fun n => if (alignEntry d n).rowPos = 0xFFFF then 0xFFFF else refinedPos d n)

/-- Raise source 16 where a recommended value moved far enough from its last raise (R466). -/
def noteRecommended (d : Dev) : Dev :=
  if d.ev.raised.contains (16, 0) then d
  else
    let r := ageingRec d
    let a := r.2.2.2 && (match d.ev.ageingRaised with
      | none => true
      | some v => decide (100 ≤ (r.1 - v).natAbs))
    let rows := refinedRows d
    let old := if d.ev.alignRaised.isEmpty then alignDefault.map (·.rowPos) else d.ev.alignRaised
    let b := (rows.zip old).any (fun e => decide (8 ≤ dist e.1 e.2))
    if !a && !b then d
    else raise 16 0 (le 1 (flag a 0 + flag b 1) ++ zeros 3 ++ leS 4 r.1)
      (modEv (fun e => { e with ageingRaised := if a then some r.1 else e.ageingRaised,
                                alignRaised := if b then rows else e.alignRaised }) d)

/-! ### Frame alignment (R108) -/

/-- The phase error of a frame tick at `t`, in (−P/2, P/2]. -/
def phaseError (d : Dev) (t : Nat) : Int :=
  let P : Int := d.seq.plan.period
  let e := ((t : Int) - prmGet d 0x0502) % P
  if P < 2 * e then e - P else e

/-- The shortest turnaround of a plan at an edge (R49), in ns. -/
def turnMin (d : Dev) (z : Zone) : Int :=
  max (2 * dwellLen z + 1952000 : Nat) (fracCeil (fracDiv (fracMul (fracI 2) (zoneSpeed z)) (aMaxDev d)))

/-- How far this frame's turnaround is changed. -/
def alignCorrection (d : Dev) : Int :=
  if prmGet d 0x0501 = 1 ∧ d.tim.servo = .locked then
    let lim : Int := (d.seq.plan.period / 1000 : Nat)
    let c := clampI (-lim) lim (-(phaseError d d.seq.frameTime))
    max c (turnMin d (endZone d.seq.plan d.seq.frame) - turnaroundNs d.seq.plan)
  else 0

/-- Set the next frame tick, follow the lock report (R108): after the frame tick has set its time. -/
def alignFrame (d : Dev) : Dev :=
  let en := prmGet d 0x0501 == 1
  let e := phaseError d d.seq.frameTime
  let lock := en && d.tim.servo == .locked && decide (-100 ≤ e ∧ e ≤ 100)
  let c := alignCorrection d
  let d1 := modSeq (fun s => { s with nextFrame := ((s.frameTime : Int) + s.plan.period + c).toNat }) d
  let d2 := modTim (fun t => { t with phaseErr := e, alignLocked := lock }) d1
  if lock && !d.tim.alignLocked then raise 13 0 [] d2
  else if !lock && d.tim.alignLocked then raise 13 1 [] d2
  else d2

end Sys2Proof.Machine
end

