-- ==== Sys2Proof/Machine/Repair.lean ====
section
/-!
DEFINITION. The turnaround's diagnostics and run-time repair: probe pulses and the emitter self-test (R173 to
R175, R185, R186), dark-count mapping and masks (R72 to R77), lane substitution and slice gating (R16, R17,
R468), alignment auto-apply (R85) and the repair map (R368).
-/
namespace Sys2Proof.Machine

/-! ### Probes (R173 to R175) -/

/-- The class of a probe voltage: 1 open, 2 short, 0 passing. -/
def probeClass (mv : Nat) : Nat := if 3500 ≤ mv then 1 else if mv ≤ 800 then 2 else 0

/-- Turnarounds counted from cast-on: the number of the one in progress, the first being number 0 (DESIGN CHOICE, assumption log,
entry 13: R72 does not say where j starts). -/
def turnaroundNo (d : Dev) : Nat := d.seq.turnarounds

/-- The sub-stripe round 16 probes in a bank. -/
def probedStripe (d : Dev) (b : Nat) : Nat :=
  if spareRow d b = 0xFF then turnaroundNo d % 16 else (bankGet d b).sub

/-- The baseline of a probe target: segments by number, sub-stripes from 136; 1.55 V where cast-on found a
healthy segment (R175). -/
def baselineOf (d : Dev) (target : Nat) : Nat := tabGet 1550 d.emi.baseline target

/-- What any probe of a bank's target leaves, the target a segment index or 16 + a sub-stripe: VF, and drift where it passes
(R175, R182). DESIGN CHOICE for the spare's sub-stripes (assumption log, entry 13). -/
def probeSeen (b idx mv : Nat) (d : Dev) : Dev :=
  let n := 17 * b + min 16 idx
  let target := if idx < 16 then n else 136 + 16 * b + (idx - 16)
  let d1 := modSeg n (fun s => { s with vf := mv }) d
  if probeClass mv = 0 ∧ 200 < dist mv (baselineOf d target) then
    raise (256 + n) 1 [] (modSeg n (fun s => { s with drift := true }) d1)
  else d1

/-- One probed target of a bank: VF and probe_vf, a failure awaiting confirmation, or drift. -/
def probeOne (round b mv : Nat) (d : Dev) : Dev :=
  let idx := if round < 16 then round else 16 + probedStripe d b
  let d1 := probeSeen b idx mv (modSegStat (17 * b + round) (fun s => { s with probeVf := mv }) d)
  let c := probeClass mv
  if c ≠ 0 then modEmi (fun e => { e with probeFails := e.probeFails ++ [(b, idx, c)] }) d1 else d1

/-- PROBE_ROUND: segment `round` of every bank at F + 2 µs × round; `vf` lists banks with other than 1.55 V. -/
def probeRound (round : Nat) (vf : List (Nat × Nat)) (d : Dev) : Dev :=
  if !inTurnaround d || decide (17 ≤ round) then d
  else (List.range 8).foldl (fun d b =>
    probeOne round b (match vf.find? (fun e => e.1 == b) with
      | some e => e.2
      | none => 1550) d) (advanceTo (diagStart d + 2000 * round) d)

/-- A confirmed failure: the segment or the spare's connected sub-stripe is judged, an idle one marked bad. -/
def confirmFail (b idx cls : Nat) (d : Dev) : Dev :=
  if idx < 16 then judgeSegment (17 * b + idx) cls false false d
  else if spareRow d b != 0xFF && (bankGet d b).sub == idx - 16 then judgeSegment (17 * b + 16) cls false false d
  else modBank b (fun k => { k with spareBad := putBit k.spareBad (idx - 16) true }) d

/-- PROBE_CONFIRM_SLOT: a bank's next failing target is probed again, seven slots to a bank; a failure not confirmed is counted (R174).
DEDUCED (assumption log, entry 46). -/
def probeConfirm (b mv : Nat) (d : Dev) : Dev :=
  let slot := tabGet 0 d.emi.confirmed b
  match d.emi.probeFails.find? (fun f => f.1 == b) with
  | none => d
  | some f =>
    if !inTurnaround d || decide (7 ≤ slot) then d
    else
      let t := diagStart d + 34000 + 2000 * slot
      let d1 := advanceTo t (modEmi (fun e => { e with
        probeFails := e.probeFails.erase f, confirmed := tabSet 0 e.confirmed b (slot + 1) }) d)
      let d2 := probeSeen b f.2.1 mv d1
      if probeClass mv ≠ 0 then confirmFail b f.2.1 f.2.2 d2
      else modEmi (fun e => { e with unconfirmed := incSat 32 e.unconfirmed }) d2

/-- PROBE_BLOCK_END: what found no slot counts as confirmed at F + 50 µs (R174). -/
def probeEnd (d : Dev) : Dev :=
  if !inTurnaround d then d
  else
    let t := diagStart d + 50000
    let d1 := advanceTo t d
    d1.emi.probeFails.foldl (fun d f => confirmFail f.1 f.2.1 f.2.2 d)
      (modEmi (fun e => { e with probeFails := [], confirmed := [] }) d1)

/-! ### Self-test (R185, R186) -/

/-- The idle time of a plan's turnarounds before the guard, in ns, at the edge with less. -/
def idleTime (p : Plan) : Int :=
  let one (z : Zone) : Int := turnaroundNs p - (2 * dwellLen z + 2000 + 1850000 + 100000 : Nat)
  min (one (endZone p 0)) (one (endZone p 1))

/-- A result entry. -/
def selfEntry (d : Dev) (s : SelfTest) (i : Nat) : Bytes :=
  let v (k : Nat) := tabGet 1550 s.vf (3 * i + k)
  let target := if i < 128 then 17 * (i / 16) + i % 16 else 136 + (i - 128)
  let c := probeClass (v 2)
  le 2 (v 0) ++ le 2 (v 1) ++ le 2 (v 2) ++
    le 1 (if c ≠ 0 then c else if 200 < dist (v 2) (baselineOf d target) then 3 else 0) ++ zeros 1

/-- EMITTER_SELFTEST_RUN: the samples are taken in the idle interval. -/
def selfTestRun (vf : List (Nat × Nat)) (d : Dev) : Dev :=
  match d.emi.selfTest with
  | none => d
  | some s =>
    if !inTurnaround d || !s.due || s.ran then d
    else
      let res := vf.foldl (fun t x => if x.1 < 768 then tabSet 1550 t x.1 x.2 else t) []
      modEmi (fun e => { e with selfTest := some { s with ran := true, vf := res } })
        (advanceTo (diagStart d + 1850000 + 192000) d)

/-- End the self-test's command. -/
def selfTestEnd (status : Nat) (payload : Bytes) (s : SelfTest) (d : Dev) : Dev :=
  let d1 := modEmi (fun e => { e with selfTest := none }) d
  match findTag d1 s.mb s.tag with
  | some c => finishRunning c status payload d1
  | none => d1

/-- At the frame tick: a test that ran is final; one whose idle time is gone ends PLAN_INFEASIBLE. -/
def selfTestTick (d : Dev) : Dev :=
  match d.emi.selfTest with
  | none => d
  | some s =>
    if s.ran then selfTestEnd stOk ((List.range 256).map (selfEntry d s)).flatten s d
    else if idleTime d.seq.plan < 200000 then selfTestEnd stInfeasible [] s d
    else d

/-! ### Dark-count mapping (R72 to R76) -/

/-- The physical rows assigned to logical rows. -/
def assignedRows (d : Dev) : List Nat := (List.range 128).map (fun r => physRow d (segOfRow d r))

/-- Twice the median of up to three counts; none of none. -/
def median2 (l : List Nat) : Option Nat :=
  match l with
  | [] => none
  | [a] => some (2 * a)
  | [a, b] => some (a + b)
  | a :: b :: c :: _ => some (2 * (max (min a b) (min (max a b) c)))

/-- Judge one SPAD of a macropixel by its count (R73, R74), masked or not: the runs and the mask bits. -/
def judgeSpad (d : Dev) (cnt : Nat → Nat) (m : Mask) (q : Nat) (run : SpadRun) (out : Mask) : SpadRun × Mask :=
  let others := (bitList 4 (liveMask m)).filter (· != q)
  let h := prmGet d 0x0410
  let rho := prmGet d 0x0411
  let c := cnt q
  let med := median2 (others.map cnt)
  let hot := decide (h < c) && (match med with
    | none => true
    | some v => decide (rho * v < 2 * c))
  let quiet := decide (2 * c ≤ h) || (match med with
    | none => false
    | some v => decide (4 * c ≤ rho * v))
  let zero := decide (c = 0) && others.all (fun o => decide (8 ≤ cnt o))
  let run' : SpadRun := ⟨if bit m.hot q && quiet then run.quiet + 1 else 0, if zero then run.zero + 1 else 0⟩
  let m1 := if hot then { out with hot := putBit out.hot q true } else out
  let m2 := if bit m.hot q && decide (3 ≤ run'.quiet) then { m1 with hot := putBit m1.hot q false } else m1
  (run', if decide (3 ≤ run'.zero) then { m2 with dead := putBit m2.dead q true } else m2)

/-- Judge a macropixel: runs at once, mask changes for the frame tick. -/
def judgeMacro (cnt : Nat → Nat) (d : Dev) (key : Nat) : Dev :=
  let m := tabGet Mask.none d.recv.masks key
  let r := (List.range 4).foldl (fun (a : Tab SpadRun × Mask) q =>
    let j := judgeSpad d cnt m q (tabGet ⟨0, 0⟩ a.1 (4 * key + q)) a.2
    (tabSet ⟨0, 0⟩ a.1 (4 * key + q) j.1, j.2)) (d.recv.runs, m)
  modRecv (fun x => { x with runs := r.1, maskPend := if r.2 = m then x.maskPend else tabPut key r.2 x.maskPend }) d

/-- DARK_COUNT_POSITION_END: the counts of one position's columns on the assigned rows. -/
def darkCountEnd (counts : List (Nat × Nat)) (d : Dev) : Dev :=
  let i := d.recv.mapPos
  if !inTurnaround d || decide (8 ≤ i) then d
  else
    let first := 64 * (turnaroundNo d % 10) + 8 * i
    let rows := assignedRows d
    let here (key : Nat) : Bool := decide (first ≤ key % 640 ∧ key % 640 < first + 8) && rows.contains (key / 640)
    let named : List Nat := counts.map (fun c => c.1 / 4)
    let known : List Nat := d.recv.masks.map (·.1)
    let running : List Nat := d.recv.runs.map (fun e => e.1 / 4)
    let keys := ((named ++ known ++ running).filter here).eraseDups
    keys.foldl (fun d key => judgeMacro (fun q => match counts.find? (fun c => c.1 == 4 * key + q) with
        | some c => c.2
        | none => 0) d key)
      (modRecv (fun r => { r with mapPos := i + 1 }) (advanceTo (diagStart d + 50000 + 100000 * (i + 1)) d))

/-- Note a kind of change of the repair map at this frame tick: 0 lane, 1 slice, 2 segment, 3 device mask,
4 host mask or retirement. -/
def mapCause (i : Nat) (d : Dev) : Dev := modRep (fun r => { r with causes := putBit r.causes i true }) d

/-- Mask changes found in the turnaround apply (R76). -/
def applyMasks (d : Dev) : Dev :=
  if d.recv.maskPend.isEmpty then d
  else mapCause 3 (modRecv (fun r => { r with
    masks := r.maskPend.foldl (fun t e =>
      let now := tabGet Mask.none t e.1
      tabSet Mask.none t e.1 { now with hot := e.2.hot, dead := e.2.dead }) r.masks,
    maskPend := [] }) d)

/-- A host-forced mask applies (R77, R427): `op` 1 sets and 0 clears; SPADs 0 names the whole macropixel.
DEDUCED (assumption log, entry 62). -/
def applyMaskOp (d : Dev) (o : MaskOp) : Dev :=
  modRecv (fun r => { r with
    masks := tabMod Mask.none r.masks (o.row * 640 + o.col) (fun m =>
      if o.spads = 0 then { m with whole := o.op == 1 }
      else { m with forced := if o.op = 1 then orBits 4 m.forced o.spads else clrBits 4 m.forced o.spads }) }) d

/-! ### Lanes and slices (R16, R17, R64, R467, R468) -/

/-- A spare lane index (64 to 67) of a group is free: working, unjudged and serving nothing. -/
def spareFree (d : Dev) (g k : Nat) : Bool :=
  let p := 68 * g + k
  !d.recv.lanesFailed.contains p && !judgedLane d p && (chanOfLane d p).isNone

def freeSpares (d : Dev) (g : Nat) : List Nat := [64, 65, 66, 67].filter (spareFree d g)

/-- Gate a slice off at a frame tick (R17, R468). -/
def gateSlice (s cause : Nat) (d : Dev) : Dev :=
  if bit d.recv.gated s then d
  else raise 9 0 (le 1 s ++ le 1 cause)
    (mapCause 1 (modRep (fun r => { r with gatedRun := putBit r.gatedRun s true })
      (modRecv (fun r => { r with gated := putBit r.gated s true, gatedAtTick := putBit r.gatedAtTick s true }) d)))

/-- The groups that run out of spares at this tick: more serving lanes judged than free spares. -/
def groupShort (d : Dev) (g : Nat) : Bool :=
  decide ((freeSpares d g).length < (d.recv.lanesJudged.filter (fun e => groupOfLane e.1 == g && (chanOfLane d e.1).isSome)).length)

/-- A peak-engine lane or the shared calibration of a group fails: its slice is gated at the next frame tick (R17). -/
def groupBroken (d : Dev) (g : Nat) : Dev :=
  if 16 ≤ g ∨ !sliceOn d g then d else modRecv (fun r => { r with slicePend := r.slicePend ++ [(g / 4, 1)] }) d

/-- Put the lowest free spare in a judged lane's place (R64). -/
def replaceLane (d : Dev) (e : Nat × Nat) : Dev :=
  let p := e.1
  let g := groupOfLane p
  match chanOfLane d p, freeSpares d g with
  | some c, k :: _ =>
    let d1 := modRecv (fun r => { r with
      laneMap := tabPut c k r.laneMap, lanesFailed := p :: r.lanesFailed, lanes := tabDel (68 * g + k) r.lanes }) d
    if (freeSpares d1 g).isEmpty then raise (128 + 8 * g + 1) 0 [] d1 else d1
  | _, _ => modRecv (fun r => { r with lanesFailed := p :: r.lanesFailed }) d

/-- Substitutions and gatings at the frame tick: gating wins over a substitution of its own slice (R468).
DEDUCED (assumption log, entry 60). -/
def repairLanes (d : Dev) : Dev :=
  let d0 := modRecv (fun r => { r with gatedAtTick := 0 }) d
  let short := (List.range 16).filter (groupShort d0)
  let d1 := short.foldl (fun d g => gateSlice (g / 4) 2 d) d0
  let d2 := d1.recv.slicePend.foldl (fun d e => gateSlice e.1 e.2 d) d1
  let d3 := d1.recv.lanesJudged.foldl (fun d e =>
    if sliceOn d2 (groupOfLane e.1) then replaceLane d e
    else modRecv (fun r => { r with lanesFailed := e.1 :: r.lanesFailed }) d) d2
  let d4 := modRecv (fun r => { r with lanesJudged := [], slicePend := [] }) d3
  if d1.recv.lanesJudged.isEmpty then d4 else mapCause 0 d4

/-- Lanes saturated in two consecutive frames are judged at the tick that ends the second (R120). -/
def judgeSaturated (d : Dev) : Dev :=
  let now := (d.histo.lanes.filter (fun e => e.2.satDwells != 0)).map (·.1)
  let d1 := (now.filter (fun p => d.histo.satPrev.contains p)).foldl (fun d p => judgeLane p 1 d) d
  modHisto (fun h => { h with satPrev := now, satNow := [] }) d1

/-- Segments judged at least 10 µs before the tick give way to their spares; the kinds of change are marked (R177, R368). -/
def repairSegments (d : Dev) : Dev :=
  let due := (List.range 136).filter (fun n => (segGet d n).judgedAt.elim false (fun j => decide (j + 10000 ≤ tussNow d)))
  let d1 := if due.any (fun n => !(segGet d n).retired || rowOfSeg d n != 0xFF) then mapCause 2 d else d
  let d2 := if due.any (fun n => (segGet d n).retired) then mapCause 4 d1 else d1
  substituteSegments d2

/-! ### Auto-apply (R85) -/

/-- The row in use of a segment after this tick: moved by more than 32/256 row beyond its edge, no further
once the estimate is at its limit. -/
def autoRow (d : Dev) (n : Nat) : Option Nat :=
  let use := physRow d n
  let pos := refinedPos d n
  if d.recv.atLimit.contains n || (alignEntry d n).rowPos == 0xFFFF then none
  else if 256 * (use + 1) + 32 < pos ∨ pos + 32 < 256 * use then some (pos / 256) else none

def autoApply (d : Dev) : Dev :=
  if prmGet d 0x041A != 1 then d
  else (List.range 136).foldl (fun d n => match autoRow d n with
    | some y => modRecv (fun r => { r with rowUse := tabPut n y r.rowUse }) d
    | none => d) d

/-! ### The map (R368) -/

/-- The map's number moves on where anything changed at this tick, with source 8. -/
def mapUpdate (d : Dev) : Dev :=
  if d.rep.causes = 0 then d
  else
    let n := wrapU 32 (d.rep.number + 1)
    raise 8 0 (le 4 n ++ le 1 d.rep.causes) (modRep (fun r => { r with number := n, frame := d.seq.frame, causes := 0 }) d)

/-- Slices in service. -/
def slicesOn (d : Dev) : Nat := clrBits 4 15 d.recv.gated

/-- A segment is failed in the map: a judgement reaches it at the frame tick that acts on it. -/
def mapFailed (d : Dev) (n : Nat) : Bool := (segGet d n).failed && (segGet d n).judgedAt.isNone

def segmentsFailed (d : Dev) : Nat := ((List.range 136).filter (mapFailed d)).length
def sparesUsed (d : Dev) : Nat := maskOf ((List.range 8).filter (fun b => spareRow d b != 0xFF))
def maskedSpads (d : Dev) : Nat := (d.recv.masks.map (fun e => if macroMasked e.2 then 4 else popcount 4 (spadMask e.2))).sum

/-- Where the feed of the channel that lands on a macropixel comes from: 0 its own, 1 from x − 1, 2 from
x + 1, 3 dark (R76). -/
def substCode (d : Dev) (y x : Nat) : Nat :=
  match feedCol d y x with
  | none => 3
  | some f => if f = x then 0 else if f < x then 1 else 2

/-- The mask word of a macropixel. -/
def maskWord (d : Dev) (key : Nat) : Nat :=
  let m := tabGet Mask.none d.recv.masks key
  if m = Mask.none then 0
  else substCode d (key / 640) (key % 640) * 64 + flag (m.forced != 0 || m.whole) 5 + flag (macroMasked m) 4 + spadMask m

/-- The first part of the map: 0x5B0 bytes. -/
def mapHead (d : Dev) : Bytes :=
  le 4 d.rep.number ++ le 4 d.rep.frame ++ le 1 (slicesOn d) ++ le 1 (maskOf d.gauge.startsFailed) ++
    le 2 d.recv.lanesFailed.length ++ le 1 (segmentsFailed d) ++ le 1 (sparesUsed d) ++ le 2 d.rep.sram ++
    le 4 (maskedSpads d) ++ zeros 12 ++
    ((List.range 1024).map (fun c => let k := laneOfChan d c % 68; le 1 (flag (decide (64 ≤ k)) 7 + k))).flatten ++
    ((List.range 136).map (fun i => le 1 (maskOf ((List.range 8).filter (fun b => d.recv.lanesFailed.contains (8 * i + b)))))).flatten ++
    ((List.range 128).map (fun r => le 1 (segOfRow d r))).flatten ++
    ((List.range 136).map (fun n => if mapFailed d n then le 1 ((segGet d n).cause + flag (segGet d n).retired 2) else [0#8])).flatten

/-- `len` bytes of the map from `off`. -/
def mapBytes (d : Dev) (off len : Nat) : Bytes :=
  let head := mapHead d
  (List.range len).map (fun i =>
    if off + i < 0x5B0 then head.getD (off + i) 0#8 else BitVec.ofNat 8 (maskWord d (off + i - 0x5B0)))

end Sys2Proof.Machine
end

