-- ==== Sys2Proof/Machine/Sedge.lean ====
section
/-!
DEFINITION. Sedge: entry words (R204, R208), sinc filters and auto-ranging (R205, R209), the result ring
(R210), thermistors (R211), open-wire diagnostics (R212, R213) and the order of slots (R206, R207).
-/
namespace Sys2Proof.Machine

/-! ### Entries (R203, R204, R208) -/

/-- An entry word from its fields. -/
def entryWordOf (gain order dec ring diag diagI members source : Nat) : Nat :=
  2 ^ 31 + gain * 2 ^ 28 + order * 2 ^ 26 + dec * 2 ^ 20 + ring * 2 ^ 16 + diag * 2 ^ 15 + diagI * 2 ^ 13 + members * 2 ^ 8 + source

/-- The default sequence. -/
def entryDefault (e : Nat) : Nat :=
  [entryWordOf 0 1 15 8 0 1 7 0x12, entryWordOf 0 1 15 9 0 1 3 0x1A, entryWordOf 0 1 15 9 0 1 3 0x1E,
   entryWordOf 0 2 63 7 1 1 3 0x0A, entryWordOf 3 1 31 8 0 1 3 0x04, entryWordOf 0 1 31 9 0 1 1 0x08,
   entryWordOf 0 0 7 12 0 1 0 0x22, entryWordOf 0 0 7 12 0 1 0 0x23, entryWordOf 0 1 15 9 0 1 3 0x24].getD e 0x0E

def entryWord (d : Dev) (e : Nat) : Nat := (tabFind d.sense.words e).getD (entryDefault e)
def entryOn (w : Nat) : Bool := bit w 31
def entryMembers (w : Nat) : Nat := field w 8 3 + 1
def entrySource (w : Nat) : Nat := field w 0 8

/-- The rows of the source table as first and last code. -/
def sourceRows : List (Nat × Nat) :=
  [(0x00, 0x01), (0x02, 0x03), (0x04, 0x07), (0x08, 0x09), (0x0A, 0x0D), (0x0E, 0x11), (0x12, 0x19), (0x1A, 0x1D),
   (0x1E, 0x21), (0x22, 0x22), (0x23, 0x23), (0x24, 0x27), (0x28, 0x28)]

/-- A source only urgent conversions may use. -/
def urgentOnly (s : Nat) : Bool := s == 0x02 || s == 0x03 || s == 0x28

/-- The members lie in one row of sources the sequence may use (R204). -/
def entryWordOk (w : Nat) : Bool :=
  let a := entrySource w
  let b := a + entryMembers w - 1
  sourceRows.any (fun r => decide (r.1 ≤ a ∧ b ≤ r.2)) && !urgentOnly a

/-! ### Members -/

def memberKey (e k : Nat) : Nat := 8 * e + k
def memberGet (d : Dev) (e k : Nat) : Member := tabGet Member.none d.sense.members (memberKey e k)

/-- The pins of a source that are tested one by one: both outputs of a bridge, else the input's own. -/
def pinsOf (s : Nat) : List Nat := if s = 2 ∨ s = 3 then [0, 1] else [0]

def wireGet (d : Dev) (s pin : Nat) : Wire := tabGet Wire.none d.sense.wires (2 * s + pin)

/-- An open wire is confirmed on a pin of a source. -/
def wireOpened (d : Dev) (s : Nat) : Bool := (pinsOf s).any (fun p => (wireGet d s p).opened)

/-- The gain code in use: the entry's, or what auto-ranging made of it. -/
def memberGain (w : Nat) (m : Member) : Nat :=
  if bit w 30 && !m.integ.isEmpty then m.gain else field w 28 2

/-- One input through a chain of integrators: the chain and its last sum. -/
def integrate : List Int → Int → List Int × Int
  | [], x => ([], x)
  | a :: as, x => let r := integrate as (a + x); ((a + x) :: r.1, r.2)

/-- One value through a chain of differentiators. -/
def difference : List Int → Int → List Int × Int
  | [], x => ([], x)
  | a :: as, x => let r := difference as (x - a); (x :: r.1, r.2)

/-- A thermistor's value in 0.01 °C from its resistance in Ω, and whether it was clamped (R211). -/
def thermistor (rt rn beta : Nat) : Int × Bool :=
  if rt = 0 then (20000, true)
  else
    let inv := fx * 100 / 29815 + fxLn rt rn / beta
    if inv ≤ 0 then (20000, true)
    else
      let t := roundDiv (fx * 100) inv.toNat - 27315
      if t < -5500 then (-5500, true) else if 20000 < t then (20000, true) else (t, false)

/-- µV at the converter's input of a code at a gain: full scale is ±2.5 V over the gain (R203). -/
def codeMicrovolts (gain : Nat) (code : Int) : Int := roundDiv (code * 2500000) (32768 * 2 ^ gain)

/-- A code at full scale. -/
def fullScale (code : Int) : Bool := decide (32767 ≤ code ∨ code ≤ -32768)

/-- The value of a conversion in its source's unit, and whether it had to be clamped (R203, R211): a thermistor's resistance against
10 kΩ to the reference; the sources whose front end the spec does not give by an open scaling (DESIGN CHOICE, assumption log,
entry 31). -/
def sourceValue (d : Dev) (s gain : Nat) (code : Int) : Int × Bool :=
  let uv := codeMicrovolts gain code
  if 0x0A ≤ s ∧ s ≤ 0x0D then
    thermistor (10000000 * code.toNat / (32768 * 2 ^ gain - code.toNat)) (1000 * prmGet d (0x0910 + (s - 0x0A))) (prmGet d (0x0914 + (s - 0x0A)))
  else if s ≤ 0x07 ∨ (0x0E ≤ s ∧ s ≤ 0x11) then (uv, false)
  else (satS 32 (Config.sedgeUnit s uv), false)

/-- The gain code of an urgent conversion: 1 for all but the bridges (R196). -/
def urgentGain (s : Nat) : Nat := if s = 2 ∨ s = 3 then Config.bridgeGain % 4 else 0

/-! ### Outputs -/

/-- The output of every member of a source. -/
def latestOf (d : Dev) (s : Nat) : Option Member :=
  ((List.range 16).filter (fun e => entryOn (entryWord d e) && decide (entrySource (entryWord d e) ≤ s ∧
      s < entrySource (entryWord d e) + entryMembers (entryWord d e)))).head?.map
    (fun e => memberGet d e (s - entrySource (entryWord d e)))

/-- The latest value of a source, 0 before its first output. -/
def sourceOut (d : Dev) (s : Nat) : Int := (latestOf d s).elim 0 (·.value)

/-- The greatest of a run of sources. -/
def hottest (d : Dev) (first n : Nat) : Int :=
  (List.range n).foldl (fun m i => max m (sourceOut d (first + i))) (sourceOut d first)

/-- An output is good: not settling, over or open (R210). -/
def goodFlags (f : Nat) : Bool := f / 2 ^ 12 % 8 == 0

/-- A bank's temperature as its loop takes it: member b of entry 0, the last good output (R170); out of band it is reported (R184). -/
def bankOutput (e k : Nat) (v : Int) (d : Dev) : Dev :=
  if e ≠ 0 ∨ 8 ≤ k then d
  else
    let d1 := modBank k (fun b => { b with temp := v }) d
    if outOfBand (bankGet d1 k) then raise (392 + k) 3 [] d1 else d1

/-- What the rest of the device takes from a good output: temperatures, their events, drive peaks (R79, R169, R214,
R459). `before` is the device before the output. -/
def useOutput (s : Nat) (v : Int) (before d : Dev) : Dev :=
  if 0x1A ≤ s ∧ s ≤ 0x1D then
    let d1 := modRecv (fun r => { r with temps := listMod r.temps (s - 0x1A) (fun _ => v) }) d
    let hot := d1.recv.temps.any (fun t => decide (9500 < t))
    let d2 := modRecv (fun r => { r with hotTemp := hot }) d1
    if hot && !d.recv.hotTemp then raise 4 0 [] d2 else if !hot && d.recv.hotTemp then raise 4 1 [] d2 else d2
  else if 0x1E ≤ s ∧ s ≤ 0x21 then
    let was := decide (10500 < hottest before 0x1E 4)
    let is := decide (10500 < hottest d 0x1E 4)
    if is && !was then raise 5 0 [] d else if was && !is then raise 5 1 [] d else d
  else if s = 0x22 then
    modScan (fun c => { c with stat := { c.stat with iPeak := max c.stat.iPeak (satU 16 (roundDiv v.natAbs 100).toNat) } }) d
  else if s = 0x23 then
    modScan (fun c => { c with stat := { c.stat with vPeak := max c.stat.vPeak (satU 16 (roundDiv v.natAbs 10).toNat) } }) d
  else d

/-- A result record as the host and Peat read it (R210). -/
def sedgeRecBytes (r : SedgeRec) : Bytes :=
  le 8 r.time ++ leS 4 r.value ++ le 1 r.entry ++ le 1 r.source ++ le 2 r.flags

/-- Record an output in the ring; a full ring overwrites its oldest. -/
def ringPut (e s : Nat) (m : Member) (d : Dev) : Dev :=
  let r : SedgeRec := ⟨d.sense.ringNext, m.time, m.value, e, s, m.flags⟩
  let full := decide (4096 ≤ d.sense.ring.length)
  let d1 := modSense (fun x => { x with
    ring := (if full then x.ring.tail else x.ring) ++ [r], ringNext := wrapU 32 (x.ringNext + 1),
    overwritten := if full then incSat 32 x.overwritten else x.overwritten }) d
  let d2 := peatSedge r.number (sedgeRecBytes r) d1
  if full then raise (432 + e) 3 [] d2 else d2

/-- Change of gain after a sample (R209): down at 90 % of full scale, up where a whole window stayed below 40 %. -/
def autoGain (w gain : Nat) (code : Int) (windowEnd : Bool) (winMax : Nat) : Nat :=
  if !bit w 30 then gain
  else if decide (9 * 32768 ≤ 10 * code.natAbs) && decide (0 < gain) then gain - 1
  else if windowEnd && decide (10 * winMax < 4 * 32768) && decide (gain < 3) then gain + 1
  else gain

/-- One sample of a member: its filter, an output every D samples, and auto-ranging. `ovr` says the sample is at full scale. -/
def memberSample (w : Nat) (now : Nat) (opened : Bool) (code v : Int) (ovr : Bool) (m : Member) : Member × Bool × Bool :=
  let order := field w 26 2 + 1
  let dec := field w 20 6 + 1
  let gain := memberGain w m
  let start := if m.integ.isEmpty then List.replicate order 0 else m.integ
  let comb0 := if m.comb.isEmpty then List.replicate order 0 else m.comb
  let i := integrate start v
  let done := decide (dec ≤ m.count + 1)
  let c := if done then difference comb0 i.2 else (comb0, 0)
  let winOver := m.winOver || ovr
  let winMax := max m.winMax code.natAbs
  let settling := decide (m.outputs + 1 < order)
  let m1 : Member := { m with
    gain := gain, integ := i.1, comb := c.1, count := if done then 0 else m.count + 1,
    outputs := if done then m.outputs + 1 else m.outputs,
    value := if done then roundDiv c.2 (dec ^ order) else m.value,
    flags := if done then flag opened 14 + flag settling 13 + flag winOver 12 + gain * 1024 else m.flags,
    time := if done then now else m.time,
    winMax := if done then 0 else winMax, winOver := if done then false else winOver, last := v, lastOver := ovr }
  let g := autoGain w gain code done winMax
  if g = gain then (m1, done, false)
  else ({ m1 with gain := g, integ := List.replicate order 0, comb := List.replicate order 0, count := 0, outputs := 0,
                  winMax := 0, winOver := false }, done, true)

/-- The next entry to visit: enabled, in ascending index, cyclic from `next`. -/
def nextEntry (d : Dev) : Option Nat :=
  ((List.range 16).map (fun i => (d.sense.next + i) % 16)).find? (fun e => entryOn (entryWord d e))

/-- The test current disturbs a source: from its application to the end of recovery (R212). -/
def disturbed (d : Dev) (s : Nat) : Bool := d.sense.diag.any (fun g => g.source == s && decide (1 ≤ g.phase))

/-- A sequence visit (R204, R205, R209, R210). While a test disturbs the member its previous sample is fed again (R212). -/
def sequenceVisit (code : Int) (d : Dev) : Dev :=
  match nextEntry d with
  | none => d
  | some e =>
    let w := entryWord d e
    let k := tabGet 0 d.sense.visits e % entryMembers w
    let s := entrySource w + k
    let old := memberGet d e k
    let v := sourceValue d s (memberGain w old) code
    let r := if disturbed d s then memberSample w d.sys.now (wireOpened d s) 0 old.last old.lastOver old
      else memberSample w d.sys.now (wireOpened d s) code v.1 (fullScale code || v.2) old
    let m := r.1
    let d1 := modSense (fun x => { x with
      next := (e + 1) % 16, visits := tabSet 0 x.visits e (tabGet 0 x.visits e + 1),
      members := tabSet Member.none x.members (memberKey e k) m }) d
    let ring := field w 16 4
    let d2 := if r.2.1 then
        let d3 := if goodFlags m.flags then bankOutput e k m.value (useOutput s m.value d d1) else d1
        let d4 := if bit m.flags 12 then raise (432 + e) 2 [] d3 else d3
        if ring != 0 && (old.outputs + 1) % 2 ^ (ring - 1) == 0 then ringPut e s m d4 else d4
      else d1
    if r.2.2 then raise (432 + e) 1 [] d2 else d2

/-! ### Slots (R194, R206, R207) -/

/-- The instant of the next Tension tick: each frame tick is one (R21), the last interval before it stretched or shortened by
at most half a period (R108). -/
def nextTick (d : Dev) : Nat :=
  let p := prmGet d 0x0A01 * 10
  let s := d.seq
  let u := s.tickTime + p
  if s.tickTime < s.frameTime then s.frameTime
  else if s.nextFrame ≤ s.tickTime then u
  else if s.nextFrame < u ∨ 2 * (s.nextFrame - u) < p then s.nextFrame
  else u

/-- The bridge excitation reverses at the end of the last first-of-pair conversion; a second of a pair is
sampled 2 µs later at the earliest. -/
def pairsFirst (d : Dev) : Nat :=
  let m := prmGet d 0x0804
  if m = 0 then 2 else if m = 1 ∨ m = 4 then 1 else 0

def secondAt (d : Dev) : Nat := d.seq.tickTime + 500 * pairsFirst d + 2000

/-- The urgent conversion the slot goes to, if one is due: a due second of a pair is the primary loop's and goes first (R206). -/
def urgentDue (d : Dev) : Option (Nat × Nat) :=
  (if secondAt d ≤ d.sys.now then d.sense.urgent.find? (fun u => u.2 == 1) else none).orElse
    (fun _ => d.sense.urgent.find? (fun u => u.2 == 0))

/-- An urgent conversion (R206). One of an input under test current is invalid, and voids the test (R213). -/
def urgentConversion (u : Nat × Nat) (code : Int) (d : Dev) : Dev :=
  let hit := disturbed d u.1
  modSense (fun x => { x with
    urgent := x.urgent.erase u,
    done := x.done ++ [⟨u.1, u.2, code, (sourceValue d u.1 (urgentGain u.1) code).1, hit, tussNow d⟩],
    diag := if hit then x.diag.map (fun g => { g with void := true }) else x.diag }) d

/-! ### Open-wire diagnostics (R212, R213) -/

/-- The bridge of a source's pins, if it is one: outputs and lead drops. -/
def bridgeOfSource (s : Nat) : Option Nat :=
  if s = 2 ∨ s = 4 ∨ s = 5 then some 0 else if s = 3 ∨ s = 6 ∨ s = 7 then some 1 else none

/-- The enabled entries a source is a member of. -/
def entriesOf (d : Dev) (s : Nat) : List Nat :=
  (List.range 16).filter (fun e => let w := entryWord d e
    entryOn w && decide (entrySource w ≤ s ∧ s < entrySource w + entryMembers w))

/-- The diagnostic tests this input. -/
def wireTested (d : Dev) (s : Nat) : Bool :=
  (entriesOf d s).any (fun e => bit (entryWord d e) 15) || ((bridgeOfSource s).isSome && prmGet d 0x0904 == 1)

/-- The inputs a diagnostic period tests, in ascending source code, pin by pin. -/
def diagInputs (d : Dev) : List (Nat × Nat) :=
  ((List.range 0x29).filter (wireTested d)).flatMap (fun s => (pinsOf s).map (fun p => (s, p)))

/-- The settle time t_s in ns. -/
def settleNs (d : Dev) : Nat := 1000 * prmGet d 0x0902

/-- The gain and the test current in µA of an input: its entry's; a pin no entry holds is tested at gain 1 with 10 µA (DEDUCED
from the entry word's reset values, assumption log, entry 31). -/
def diagGain (d : Dev) (s : Nat) : Nat :=
  match entriesOf d s with
  | e :: _ => memberGain (entryWord d e) (memberGet d e (s - entrySource (entryWord d e)))
  | [] => 0

def diagMicroamps (d : Dev) (s : Nat) : Nat :=
  match entriesOf d s with
  | e :: _ => if bit (entryWord d e) 13 then 10 else 1
  | [] => 10

/-- Diagnostic periods begin on their grid once the one before is done. -/
def diagPeriod (d : Dev) : Dev :=
  let p := 1000000 * prmGet d 0x0901
  let x := d.sense
  if x.diag.isSome || !x.diagQueue.isEmpty || decide (tussNow d < x.diagAt + p) || p == 0 then d
  else modSense (fun x => { x with diagQueue := diagInputs d, diagAt := x.diagAt + p * ((tussNow d - x.diagAt) / p) }) d

/-- A judged test ends with its recovery; the next input's starts where its window ends 1 µs before the next tick, at `next`. -/
def diagAdvance (next : Nat) (d : Dev) : Dev :=
  let d1 := match d.sense.diag with
    | some g => if g.phase = 3 ∧ g.since + settleNs d ≤ tussNow d then modSense (fun x => { x with diag := none }) d else d
    | none => d
  let d2 := diagPeriod d1
  match d2.sense.diag, d2.sense.diagQueue with
  | none, q :: rest =>
    if d2.sys.now + 2 * (500 + settleNs d2) + 1000 ≤ next then
      modSense (fun x => { x with diagQueue := rest, diag := some ⟨q.1, q.2, 0, 0, false, 0, tussNow d2, false⟩ }) d2
    else d2
  | _, _ => d2

/-- A diagnostic conversion is due: the baseline, or the test conversion once the current has settled. -/
def diagDue (d : Dev) : Option WireTest :=
  d.sense.diag.filter (fun g => g.phase == 0 || (g.phase == 1 && decide (g.since + settleNs d ≤ tussNow d)))

/-- A diagnostic conversion, which feeds no filter (R212). -/
def diagConversion (g : WireTest) (code : Int) (d : Dev) : Dev :=
  let v := codeMicrovolts (diagGain d g.source) code
  let t := tussNow d + 500
  modSense (fun x => { x with diag := some (if g.phase = 0 then { g with base := v, phase := 1, since := t }
    else { g with test := v, full := fullScale code, phase := 2, since := t }) }) d

/-- A test fails at full scale, or where the current moves the pin by I × R_open (R213). -/
def diagFails (d : Dev) (g : WireTest) : Bool :=
  g.full || decide (1000 * diagMicroamps d g.source * prmGet d 0x0903 ≤ (g.test - g.base).natAbs)

/-! ### The slot (R207) -/

/-- SEDGE_SLOT: a conversion sampled now, in a slot of 500 ns, with the converter's code: urgent, diagnostic or a sequence visit. One
begun less than 500 ns before the next Tension tick is aborted there and made again (R206). -/
def sedgeSlot (code : Int) (d : Dev) : Dev :=
  let next := nextTick d
  if !ticking d then d
  else if d.seq.tickNo ≠ 0 ∧ next < d.sys.now + 500 then advanceTo next d
  else
    let c := clampI (-32768) 32767 code
    let d0 := diagAdvance next d
    let d1 := match urgentDue d0, diagDue d0 with
      | some u, _ => urgentConversion u c d0
      | none, some g => diagConversion g c d0
      | none, none => sequenceVisit c d0
    advanceTo (d.sys.now + 500) d1

/-- Entry words apply at the frame tick: a changed entry starts afresh (R204), and a test under way is void (R213). -/
def applyEntry (e w : Nat) (d : Dev) : Dev :=
  if entryWord d e = w then d
  else modSense (fun x => { x with
    words := tabPut e w x.words, visits := tabSet 0 x.visits e 0, diag := x.diag.map (fun g => { g with void := true }),
    members := x.members.filter (fun m => m.1 / 8 != e) }) d

/-! ### The verdict (R213) -/

/-- The first record a broken wire makes suspect. -/
def firstSuspect (s since : Nat) (ring : List SedgeRec) : Option SedgeRec :=
  ring.find? (fun r => r.source == s && decide (since < r.time))

/-- Mark the records of a source after its last passing test. -/
def markSuspect (s since : Nat) (ring : List SedgeRec) : List SedgeRec :=
  ring.map (fun r => if r.source = s ∧ since < r.time then { r with flags := putBit r.flags 15 true } else r)

/-- Raise the open-wire events: of the entries the source belongs to, and of its bridge. -/
def raiseOpen (s since first : Nat) (d : Dev) : Dev :=
  let d1 := (entriesOf d s).foldl (fun d e => raise (432 + e) 0 (le 1 s ++ zeros 3 ++ le 4 first ++ le 8 since) d) d
  match bridgeOfSource s with
  | some b => raise (411 + b) 0 [] d1
  | none => d1

/-- OPEN_WIRE_TEST: the test whose conversions have been made is judged; two failures in a row confirm, two passes clear, a void
attempt says nothing. -/
def openWireTest (d : Dev) : Dev :=
  match d.sense.diag with
  | none => d
  | some g =>
    if !ticking d || g.phase != 2 then d
    else
      let s := g.source
      let key := 2 * s + g.pin
      let w := wireGet d s g.pin
      let d0 := modSense (fun x => { x with diag := some { g with phase := 3 } }) d
      if g.void then d0
      else if !diagFails d g then
        let w2 : Wire := ⟨0, w.passes + 1, w.opened && decide (w.passes + 1 < 2), d.sys.now⟩
        modSense (fun x => { x with wires := tabSet Wire.none x.wires key w2 }) d0
      else if w.opened || decide (w.fails + 1 < 2) then
        modSense (fun x => { x with wires := tabSet Wire.none x.wires key { w with fails := w.fails + 1, passes := 0 } }) d0
      else
        let first := (firstSuspect s w.lastPass d.sense.ring).elim d.sense.ringNext (·.number)
        raiseOpen s w.lastPass first (modSense (fun x => { x with
          ring := markSuspect s w.lastPass x.ring,
          wires := tabSet Wire.none x.wires key { w with fails := w.fails + 1, passes := 0, opened := true } }) d0)

end Sys2Proof.Machine
end

