-- ==== Sys2Proof/Machine/Angle.lean ====
section
/-!
DEFINITION. The drive stage and the mirror's angle: drive output and status (R189, R191, R192, R215), bridges
and charge channels (R193 to R198), lock (R199), the test-tone check (R200 to R202) and the scanner statistics
(R214).
-/
namespace Sys2Proof.Machine

/-! ### Sensors (R193) -/

/-- The value of an IEEE 754 single-precision word; infinities and NaNs have none. -/
def floatOf (w : Nat) : Option Frac :=
  let e := field w 23 8
  let m := field w 0 23
  let s : Int := if bit w 31 then -1 else 1
  if e = 255 then none
  else if e = 0 then some (fracMk (s * m) (2 ^ 149))
  else if 150 ≤ e then some (fracI (s * ((m + 2 ^ 23 : Nat) * 2 ^ (e - 150) : Nat)))
  else some (fracMk (s * (m + 2 ^ 23 : Nat)) (2 ^ (150 - e)))

/-- The angle mode in force. -/
def angleMode (d : Dev) : Nat := prmGet d 0x0804

/-- Sensors: 0 bridge A, 1 bridge B, 2 charge channel A, 3 charge channel B. -/
def priSensor (d : Dev) : Nat := if angleMode d = 2 ∨ angleMode d = 3 then 2 else 0
def secSensor (d : Dev) : Option Nat :=
  match angleMode d with
  | 0 => some 1
  | 2 => some 3
  | 4 => some 2
  | _ => none

/-- The test-tone group of a sensor. -/
def sensorGroup (s : Nat) : Nat := [3, 4, 1, 2].getD s 0

/-- The Sedge sources that stand for a sensor's pins. -/
def sensorPins (s : Nat) : List Nat := [[2, 4, 5], [3, 6, 7], [0], [1]].getD s []

/-- The polynomial of a sensor in x: its coefficients from c₁ on, after a first term. DEDUCED (assumption log, entry 54). -/
def sensorPoly (d : Dev) (s : Nat) (first : Option Frac) (x : Frac) : Option Int := do
  let a0 ← first
  let a1 ← floatOf (prmGet d (0x0810 + 4 * s + 1))
  let a2 ← floatOf (prmGet d (0x0810 + 4 * s + 2))
  let a3 ← floatOf (prmGet d (0x0810 + 4 * s + 3))
  some (satS 32 (fracRound (fracAdd a0 (fracMul x (fracAdd a1 (fracMul x (fracAdd a2 (fracMul x a3))))))))

/-- The free slots' urgent conversions (R206): input kind 0x03 of L12 to L15 while not OFF. -/
def loopUrgent (sel : Nat) : Option Nat := if field sel 24 8 = 3 then some (field sel 0 16) else none

/-- The urgent conversions of a tick in an angle mode, with those of the free slots (R193, R194, R206). -/
def urgentOf (mode : Nat) (extra : List Nat) : List (Nat × Nat) :=
  let firsts := if mode = 0 then [(2, 0), (3, 0)] else if mode = 1 ∨ mode = 4 then [(2, 0)] else []
  let charges := if mode = 2 then [(0, 0), (1, 0)] else if mode = 3 ∨ mode = 4 then [(0, 0)] else []
  firsts ++ charges ++ [(0x28, 0)] ++ extra.map (fun s => (s, 0)) ++ firsts.map (fun f => (f.1, 1))

/-- The instant a sensor's sample is referred to, in ns after the tick (R195). -/
def sensorInstant (d : Dev) (s : Nat) : Nat :=
  if s < 2 then (500 * s + (500 * pairsFirst d + 2000 + 500 * s)) / 2
  else 500 * (pairsFirst d + (s - 2))

def doneGet (d : Dev) (src place : Nat) : Option Conv := d.sense.done.find? (fun r => r.source == src && r.place == place)

/-! ### The test tone's slots (R200, R201) -/

/-- A test-tone check runs in this turnaround. -/
def toneDue (d : Dev) : Bool :=
  let n := prmGet d 0x0809
  inTurnaround d && turnaroundNo d % (if n = 0 then 1 else n) == 0

/-- The lead group under the test tone at an instant. -/
def toneAt (d : Dev) (t : Nat) : Option Nat :=
  let f := diagStart d + 850000
  if toneDue d ∧ f ≤ t ∧ t < f + 200000 then some ((t - f) / 40000) else none

/-! ### Charge channels (R196, R197) -/

def chargeGet (d : Dev) (c : Nat) : Charge := if c = 0 then d.scan.chargeA else d.scan.chargeB
def modCharge (c : Nat) (f : Charge → Charge) (d : Dev) : Dev :=
  modScan (fun s => if c = 0 then { s with chargeA := f s.chargeA } else { s with chargeB := f s.chargeB }) d

/-- A reset of 1.0 µs from an instant of elapsed time, with its seed. -/
def chargeReset (c : Nat) (seed : Int) (t : Nat) (d : Dev) : Dev :=
  modCharge c (fun _ => ⟨seed, none, false, t + 1000⟩) d

/-- Charge channels in use. -/
def chargesUsed (d : Dev) : List Nat := if angleMode d = 2 then [0, 1] else if angleMode d = 3 ∨ angleMode d = 4 then [0] else []

/-- Note what a channel's conversion showed: an overload (event 405), or the output after a reset, from the first conversion sampled
1.0 µs after its end (DEDUCED from R198, assumption log, entry 54). In MIXED mode an overload resets the channel at the primary
bridge angle. -/
def chargeNote (c : Nat) (d : Dev) : Dev :=
  match doneGet d c 0 with
  | none => d
  | some r =>
    let x := chargeGet d c
    if x.ovr || r.bad || decide (r.at_ < x.resetEnd + 1000) then d
    else if r.value < -2400000 ∨ 2400000 < r.value then
      let d1 := raise 405 0 [] (modCharge c (fun y => { y with ovr := true }) d)
      if angleMode d = 4 then chargeReset c d.scan.pri.value (tussNow d) d1 else d1
    else if x.vReset.isNone then modCharge c (fun y => { y with vReset := some r.value }) d
    else d

/-! ### Apex (R197) -/

/-- When a join's speed is zero, in ns after the sweep's end, and where. -/
def joinApex (j : Join) : Frac × Frac :=
  let a := joinPeak j
  if a.num = 0 then (fracI 0, j.x0)
  else if (joinD j).num ≤ 0 then
    let u := fracDiv j.v0 a
    (u, fracAdd j.x0 (fracDiv (fracMul j.v0 u) (fracI 2)))
  else
    let t1 := fracDiv (fracSub j.t (fracDiv (fracAdd j.v0 j.v1) a)) (fracI 2)
    let v := fracAdd j.v0 (fracMul a t1)
    let u := fracDiv v a
    (fracAdd t1 u, fracAdd j.x0 (fracAdd (fracMul (fracDiv (fracAdd j.v0 v) (fracI 2)) t1) (fracDiv (fracMul v u) (fracI 2))))

/-- The instant and the angle of this frame's apex. -/
def apexOf (d : Dev) : Nat × Int :=
  let r := joinApex (joinIn (courseNow d) (courseNext d) d.seq.frame (turnNow d))
  let x := fracRound r.2
  (d.seq.frameTime + activeNs d.seq.plan + (fracRound r.1).toNat, if d.seq.frame % 2 = 0 then x else -x)

/-- The angle, speed and acceleration of the trajectory at an instant, which L1's advance may carry into the frame before or
after. -/
def trajNow (d : Dev) (t : Int) : Frac × Frac × Frac :=
  let s := d.seq
  let here (u : Nat) := trajAt (courseNow d) (courseNext d) s.frame (turnNow d) u
  if (s.nextFrame : Int) ≤ t && s.started then
    let n := courseNext d
    trajAt n n (wrapU 32 (s.frame + 1)) (turnaroundNs n.plan) (t - s.nextFrame).toNat
  else if (s.frameTime : Int) ≤ t then here (t - s.frameTime).toNat
  else match s.prior with
    | none => here 0
    | some p =>
      trajAt ⟨degPerS2 (p.2.2 * 1000), p.2.1⟩ (courseNow d) (wrapU 32 (s.frame + 4294967295))
        ((s.frameTime : Int) - p.1 - activeNs p.2.1) (t - p.1).toNat

/-- The trajectory's angle at an instant. -/
def trajAngle (d : Dev) (t : Nat) : Int := fracRound (trajNow d t).1

/-- The instant and the seed of a channel's reset at the apex, after the end of its own test-tone slot (R197). -/
def apexDue (d : Dev) (c : Nat) : Nat × Int :=
  let a := apexOf d
  if toneAt d a.1 = some (1 + c) then
    let t := diagStart d + 850000 + 40000 * (2 + c)
    (t, trajAngle d t)
  else a

/-- A channel's reset of this turnaround is still to come. -/
def apexWaits (d : Dev) (c : Nat) : Bool :=
  d.seq.phase == .turnaround && (chargesUsed d).contains c && !bit d.scan.apexDone c

/-- Reset a charge channel at its apex, in MIXED mode at the primary bridge angle (R197). -/
def apexOne (d : Dev) (c : Nat) : Dev :=
  if !apexWaits d c then d
  else
    let a := apexDue d c
    if d.sys.now < a.1 then d
    else chargeReset c (if angleMode d = 4 then d.scan.pri.value else a.2) (tussNow d - (d.sys.now - a.1))
      (modScan (fun s => { s with apexDone := putBit s.apexDone c true }) d)

def apexReset (d : Dev) : Dev := [0, 1].foldl apexOne d

/-! ### Angle samples (R195, R196, R198) -/

/-- A bridge lead's resistance in Ω from its drop and the excitation current (R195); none where no current flows. -/
def leadOhm (d : Dev) (lead : Nat) : Frac :=
  let i := sourceOut d (8 + lead / 2)
  if i = 0 then fracI 0 else fracDiv (fracI (sourceOut d (4 + lead))) (fracI i)

/-- A bridge's own excitation in µV: V_exc less what its leads drop (R195). -/
def bridgeVolts (d : Dev) (s : Nat) : Frac :=
  fracSub (fracI ((prmGet d 0x080A : Int) * 100000))
    (fracMul (fracI (sourceOut d (8 + s))) (fracAdd (leadOhm d (2 * s)) (leadOhm d (2 * s + 1))))

/-- The value a sensor's conversions give: none where one is missing; its angle, and whether one reached full scale or was disturbed
by an open-wire test. -/
def sensorValue (d : Dev) (s : Nat) : Option (Option Int × Bool) :=
  if s < 2 then do
    let v1 ← doneGet d (2 + s) 0
    let v2 ← doneGet d (2 + s) 1
    let p : Int := if d.sense.polarity then 1 else -1
    let vbr := bridgeVolts d s
    let x := fracDiv (fracMk (p * (v1.value - v2.value)) 2) vbr
    some (if vbr.num = 0 then none else sensorPoly d s (floatOf (prmGet d (0x0810 + 4 * s))) x,
      fullScale v1.code || fullScale v2.code || v1.bad || v2.bad)
  else do
    let v ← doneGet d (s - 2) 0
    let c := chargeGet d (s - 2)
    let x := fracMk (v.value - c.vReset.getD v.value) 2500000
    some (sensorPoly d s (some (fracI c.seed)) x, fullScale v.code || v.bad)

/-- A charge channel's sample is no good: overload, its reset in progress or ended less than 1.0 µs before the conversion, or an
apex reset that has come since the last tick (R198). -/
def chargeBad (d : Dev) (c : Nat) : Bool :=
  let x := chargeGet d c
  let t := (doneGet d c 0).elim 0 (·.at_)
  x.ovr || x.vReset.isNone || decide (t < x.resetEnd + 1000) ||
    (apexWaits d c && decide ((apexDue d c).1 + tussNow d ≤ t + d.sys.now))

/-- The sample of a sensor and whether it is valid (R198). -/
def sensorSample (d : Dev) (s : Nat) : Option Angle :=
  (sensorValue d s).map (fun r =>
    let t := d.seq.tickTime + sensorInstant d s
    let bad := r.2 || r.1.isNone || (decide (2 ≤ s) && chargeBad d (s - 2)) || (sensorPins s).any (wireOpened d) ||
      (d.scan.tones.getD (sensorGroup s) ⟨[], 0, 0, false⟩).bad || toneAt d t == some (sensorGroup s)
    ⟨!bad, r.1.getD 0⟩)

/-- The primary sample of the tick, a missing conversion giving an invalid one. -/
def priNow (d : Dev) : Angle := (sensorSample d (priSensor d)).getD ⟨false, d.scan.pri.value⟩

/-- Take both samples of the tick, the channels' outputs noted first, in MIXED mode after the bridge angle that may seed one; count
and report invalid ones (R197, R198, R214, R216). -/
def takeAngles (d0 : Dev) : Dev :=
  let dm := if angleMode d0 = 4 then modScan (fun c => { c with pri := priNow d0 }) d0 else d0
  let d := (chargesUsed dm).foldl (fun d c => chargeNote c d) dm
  let pri := priNow d
  let sec := match secSensor d with
    | some s => (sensorSample d s).getD ⟨false, d.scan.sec.value⟩
    | none => ⟨false, 0⟩
  let secBad := (secSensor d).isSome && !sec.valid
  let d1 := modScan (fun c => { c with
    pri := pri, sec := sec,
    stat := { c.stat with
      invPri := c.stat.invPri + (if pri.valid then 0 else 1), invSec := c.stat.invSec + (if secBad then 1 else 0),
      apexPos := if pri.valid then max c.stat.apexPos pri.value else c.stat.apexPos,
      apexNeg := if pri.valid then min c.stat.apexNeg pri.value else c.stat.apexNeg } }) d
  let d2 := if pri.valid then d1 else raise 402 0 [] d1
  if secBad then raise 403 0 [] d2 else d2

/-! ### The drive stage (R189 to R192, R215) -/

def driveMode (d : Dev) : Nat := prmGet d 0x0801

/-- Full scale of the output code: 400 mA or 60 V. -/
def driveFull (mode : Nat) : Nat := if mode = 2 then 60 else 400

/-- The code of an output in mA or V. -/
def driveCode (mode : Nat) (v : Frac) : Int := satS 16 (fracRound (fracDiv (fracMul v (fracI 32767)) (fracN (driveFull mode))))

/-- The code of the limit parameter. -/
def driveLimit (d : Dev) : Int :=
  if driveMode d = 2 then driveCode 2 (fracMk (prmGet d 0x0803) 1000) else driveCode 1 (fracN (prmGet d 0x0802))

/-- The linear ramp to zero of 10 ms from the last value (R191). -/
def rampCode (d : Dev) : Int :=
  let e := tussNow d - d.scan.holdAt
  if 10000000 ≤ e then 0 else truncDiv (d.scan.holdFrom * (10000000 - e : Nat)) 10000000

/-- Start the ramp from the output in force. -/
def rampFrom (d : Dev) : Dev := modScan (fun s => { s with holdFrom := s.out, holdAt := tussNow d }) d

/-- The mode OFF of a slot, states cleared (R226). -/
def slotOff (x : Slot9) : Slot9 := { Slot9.reset with ovrSeen := x.ovrSeen, sat := x.sat, bump := x.bump }

def slotGet (d : Dev) (n : Nat) : Slot9 := d.loops.slots.getD n Slot9.reset
def modSlot (n : Nat) (f : Slot9 → Slot9) (d : Dev) : Dev :=
  modLoops (fun l => { l with slots := listMod l.slots n f }) d

/-- A slot leaves its fallback: event, and what its action held (R235). -/
def fallLeave (n : Nat) (d : Dev) : Dev :=
  let d1 := raise (448 + n) 1 [] (modSlot n (fun x => { x with cause := 0 }) d)
  if 2 ≤ n ∧ n ≤ 9 then modBank (n - 2) (fun b => { b with fallback := false }) d1 else d1

/-- L0 leaves the mode it is in: its fallback ends with the event, and L1 goes OFF with it from AUTO (R227, R231, R235). -/
def leaveL0 (d : Dev) : Dev :=
  let d1 := if (slotGet d 0).mode == .fallback then fallLeave 0 d else d
  modSlot 1 (fun x => if x.mode == .auto then slotOff x else x) (modScan (fun s => { s with lock := false }) d1)

/-- L0 to OFF. -/
def loopsOff (d : Dev) : Dev := modSlot 0 slotOff (leaveL0 d)

/-- The stage trips: output off, status, event 400, and L0 to OFF unless held (R192). -/
def tripStage (cause : Nat) (d : Dev) : Dev :=
  let d1 := raise 400 0 [] (modScan (fun s => { s with
    tripped := true, tripSeen := true, tripCause := cause % 4, out := 0, holdFrom := 0, started := false }) d)
  if (slotGet d1 0).mode == .held then d1 else loopsOff d1

/-- A cause can arise (R192): an overcurrent while the stage drives, a mirror rail off in VOLTAGE mode, a short or a temperature in
any mode. -/
def tripArises (cause : Nat) (d : Dev) : Bool :=
  if cause % 4 = 0 then driveMode d != 0 else if cause % 4 = 3 then driveMode d == 2 else true

/-- DRIVE_STAGE_TRIP: once, until the trip is ended. -/
def driveTrip (cause : Nat) (d : Dev) : Dev :=
  if d.sys.inReset || d.scan.tripped || !tripArises cause d then d else tripStage cause d

/-- Tussock holds the drive (R191): L0 HELD at once, the output ramping down, event 401. -/
def holdDrive (d : Dev) : Dev :=
  if d.scan.held then d
  else raise 401 0 [] (modSlot 0 (fun x => { x with mode := .held })
    (leaveL0 (modScan (fun s => { s with held := true }) (rampFrom d))))

/-- Tussock releases the hold; L0 leaves HELD at the next Tension tick. -/
def releaseDrive (d : Dev) : Dev :=
  if !d.scan.held then d else raise 401 0 [] (modScan (fun s => { s with held := false }) d)

/-- The drive status word (R215). -/
def driveWord215 (d : Dev) : Nat :=
  let s := d.scan
  let on := driveMode d != 0 && !s.tripped && (s.started || rampCode d != 0)
  let reset := decide (tussNow d < max s.chargeA.resetEnd s.chargeB.resetEnd)
  flag on 31 + driveMode d * 2 ^ 29 + flag s.tripSeen 28 + s.tripCause * 2 ^ 26 +
    flag (driveMode d == 2 && !(s.tripped && s.tripCause == 3)) 25 + flag s.held 24 + flag s.limit 23 + flag s.lock 22 +
    flag reset 21 + ofS 16 s.out

/-! ### Lock (R199) -/

/-- The tracking error in the sweep: statistics, lock lost after ten bad ticks in a row. -/
def trackError (e : Int) (d : Dev) : Dev :=
  let thr := prmGet d 0x0808 * 256
  let bad := if 2 * thr < e.natAbs then d.scan.lockBad + 1 else 0
  let lost := d.scan.lock && decide (10 ≤ bad)
  let d1 := modScan (fun s => { s with
    lockSeen := true, lockGood := s.lockGood && decide (e.natAbs ≤ thr), lockBad := bad, lock := s.lock && !lost,
    stat := { s.stat with eMax := max s.stat.eMax e.natAbs, sumSq := s.stat.sumSq + e.natAbs * e.natAbs, n := s.stat.n + 1 } }) d
  if lost then raise 404 0 [] d1 else d1

/-- The end of an active sweep: a sweep within the threshold throughout gains lock; `lock` of the statistics is
latched. DEDUCED (assumption log, entry 56). -/
def sweepEnd (d : Dev) : Dev :=
  let gain := d.scan.lockSeen && d.scan.lockGood && (slotGet d 0).mode == .auto
  modScan (fun s => { s with
    lock := s.lock || gain, lockSeen := false, lockGood := false,
    stat := { s.stat with lock := s.lock || gain } }) d

/-! ### The test tone (R200 to R202) -/

/-- A measured impedance is an open against its baseline, or a short (R202). -/
def toneOpen (base ohms : Nat) : Bool := decide (4 * base < ohms ∨ 1000000 < ohms)
def toneLow (base ohms : Nat) : Bool := decide (4 * ohms < base)

/-- The leads a group's check measures: four of a bridge, one of the others (R200). -/
def toneLeads (g : Nat) : Nat := if 3 ≤ g then 4 else 1

/-- TEST_TONE_SLOT: the groups in order, each at the end of its 40 µs, lead by lead. A confirmed fault of the drive pair that reads
short trips the stage (R202). -/
def testTone (g : Nat) (ohms : List Nat) (cross : Nat) (d : Dev) : Dev :=
  if !toneDue d || g != d.scan.tonePhase || decide (5 ≤ g) then d
  else
    let t := d.scan.tones.getD g ⟨[], 0, 0, false⟩
    let read := (List.range (toneLeads g)).map (ohms.getD · 0)
    let base := if t.base.isEmpty then read else t.base
    let short := decide (cross ≠ 0) || (base.zip read).any (fun p => toneLow p.1 p.2)
    let fault := short || (base.zip read).any (fun p => toneOpen p.1 p.2)
    let t1 : Tone := if fault then ⟨base, t.fails + 1, 0, t.bad || decide (2 ≤ t.fails + 1)⟩
      else ⟨base, 0, t.passes + 1, t.bad && decide (t.passes + 1 < 3)⟩
    let d1 := advanceTo (diagStart d + 850000 + 40000 * (g + 1))
      (modScan (fun s => { s with tones := listMod s.tones g (fun _ => t1), tonePhase := g + 1 }) d)
    let d2 := if t1.bad && !t.bad then raise (406 + g) 0 [] d1 else d1
    if g = 0 ∧ t1.bad ∧ short ∧ !d2.scan.tripped then tripStage 1 d2 else d2

/-! ### Statistics (R214) -/

/-- The groups with a confirmed fault. -/
def toneBits (d : Dev) : Nat := maskOf ((List.range 5).filter (fun g => (d.scan.tones.getD g ⟨[], 0, 0, false⟩).bad))

/-- The root of a mean square, rounded to nearest. -/
def rmsOf (sum n : Nat) : Nat :=
  if n = 0 then 0 else let r := isqrt (sum / n); if (2 * r + 1) * (2 * r + 1) * n ≤ 4 * sum then r + 1 else r

/-- The scanner statistics block as latched. -/
def scanBlock (d : Dev) : Bytes :=
  let s := d.scan.latched
  let full (n : Nat) : Bool := decide (65535 ≤ n)
  le 2 (satU 16 s.eMax) ++ le 2 (satU 16 (rmsOf s.sumSq s.n)) ++
    leS 4 s.apexPos ++ leS 4 s.apexNeg ++ le 2 (satU 16 s.invPri) ++ le 2 (satU 16 s.invSec) ++ le 2 (satU 16 s.hold) ++
    le 2 (satU 16 s.limit) ++ le 2 s.iPeak ++ le 2 s.vPeak ++ le 1 s.tone ++ le 1 (flag s.lock 0) ++
    le 2 (flag (full s.invPri) 0 + flag (full s.invSec) 1 + flag (full s.hold) 2 + flag (full s.limit) 3) ++ le 4 d.scan.latchedFrame

/-- Latch and restart the scanner statistics at the frame tick. -/
def scanLatch (frame : Nat) (d : Dev) : Dev :=
  modScan (fun s => { s with
    latched := { s.stat with tone := toneBits d }, latchedFrame := frame, stat := ScanStat.none, apexDone := 0, tonePhase := 0,
    lockGood := true, lockSeen := false }) d

end Sys2Proof.Machine
end

