-- ==== Sys2Proof/Machine/Tension.lean ====
section
/-!
DEFINITION. Tension: block floating point (R221), slot records (R224, R231), the stages of a slot (R222, R223),
modes and transfers (R226 to R229), overrun and fallback (R230), the tick (R218, R220), phase samples (R232),
destinations (R170, R231, R233) and the trace units (R236, R237).
-/
namespace Sys2Proof.Machine

/-! ### Block floating point (R221) -/

/-- `x · 2^k`, to nearest with ties away from zero. -/
def scaleBy (x k : Int) : Int := if 0 ≤ k then x * (2 ^ k.toNat : Nat) else roundDiv x (2 ^ (-k).toNat)

/-- `i + acc · 2^k`, rounded once. -/
def addScaled (i acc k : Int) : Int :=
  if 0 ≤ k then i + acc * (2 ^ k.toNat : Nat) else roundDiv (i * (2 ^ (-k).toNat : Nat) + acc) (2 ^ (-k).toNat)

/-- A 24-bit mantissa and whether it had to saturate. -/
def sat24 (x : Int) : Int × Bool := let y := satS 24 x; (y, y != x)

/-- Products of 48 bits, each shifted right by 3 before it is summed. -/
def macSum (ts : List (Int × Int)) : Int := (ts.map (fun t => t.1 * t.2 / 8)).sum

/-- Products with coefficients at `ce` added to a value of the stage's own signal exponent. -/
def mac (ce i : Int) (ts : List (Int × Int)) : Int × Bool := sat24 (addScaled i (macSum ts) (ce - 20))

/-- A mantissa moved from one exponent to another. -/
def realign (m e1 e2 : Int) : Int × Bool := sat24 (scaleBy m (e1 - e2))

/-- `2^k` as a fraction. -/
def fracPow2 (k : Int) : Frac := if 0 ≤ k then fracN (2 ^ k.toNat) else fracMk 1 (2 ^ (-k).toNat)

/-- The value of a mantissa at an exponent. -/
def bfpValue (m e : Int) : Frac := fracMul (fracI m) (fracPow2 (e - 23))

/-! ### Slot records (R224, R225, R231) -/

/-- The fixed selections of L0 to L11: input_sel and sp_sel. -/
def loopFixed (n : Nat) : Nat × Nat :=
  if n = 0 then (0x01000000, 0x01000000)
  else if n = 1 then (0x06000001, 0)
  else if n ≤ 9 then (0x04000000 + (n - 2), 0)
  else if n = 10 then (0x03000028, 0)
  else (0x040002FF, 0)

/-- Replace bytes of a record. -/
def patch (r : Bytes) (off : Nat) (bs : Bytes) : Bytes := r.take off ++ bs ++ r.drop (off + bs.length)

/-- Offsets of a record's coefficient and signal words, whose low bytes are reserved. -/
def loopWords : List Nat := [0x08] ++ (List.range 21).map (fun i => 0x10 + 4 * i) ++ [0x74, 0x7C]

/-- A record as it is kept: reserved bits read as zero (R8). -/
def loopKept (r : Bytes) : Bytes :=
  let r1 := loopWords.foldl (fun r o => patch r o [0#8]) r
  patch (patch (patch r1 2 [0#8]) 0x0E [0#8]) 0x7A (le 2 (rdU r 0x7A 2 % 16))

/-- A coefficient or signal word's mantissa. -/
def recM (r : Bytes) (off : Nat) : Int := toS 24 (rdU r off 4 / 256)

/-- Exponents by stage: 0 input, 1 PID, 2 and 3 biquads, 4 feed-forward, 5 limiter. -/
def recCe (r : Bytes) (i : Nat) : Int := rdS r (0x64 + 2 * i) 1
def recSe (r : Bytes) (i : Nat) : Int := rdS r (0x65 + 2 * i) 1
def recFlag (r : Bytes) (i : Nat) : Bool := bit (rdU r 0x7A 2) i

/-- An error of so many source units as a word at the PID stage's signal exponent. -/
def bandWord (r : Bytes) (units : Int) : Bytes :=
  leS 4 (256 * (realign (sat24 (scaleBy (recM r 8 * units) (recCe r 0 - recSe r 0))).1 (recSe r 0) (recSe r 1)).1)

/-- The records after cast-on: Elvah's for L2 to L11, within what R231 fixes of them. -/
def loopDefault (n : Nat) : Bytes :=
  if 12 ≤ n then zeros 128
  else
    let f := loopFixed n
    let sel (r : Bytes) := patch (patch r 0 (le 4 f.1)) 0x0C (le 4 f.2)
    if n = 0 then patch (sel (zeros 128)) 0x70 (le 2 250)
    else if n = 1 then patch (sel (zeros 128)) 0x70 (le 2 65535)
    else
      let own := (List.range 128).map (Config.loopByte n)
      let r := patch (patch (sel own) 0x70 (le 2 (if n = 10 then 50 else 500))) 0x7A (le 1 (1 + 2 * (rdU own 0x7A 1 / 2 % 8)) ++ zeros 1)
      if n = 10 then
        patch (patch (patch (patch r 0x72 (le 2 500)) 0x78 (le 2 5000)) 0x74 (bandWord r 500000)) 0x7C (bandWord r 200000)
      else r

def loopRec (d : Dev) (n : Nat) : Bytes := (tabFind d.loops.records n).getD (loopKept (loopDefault n))

/-- The input selections that R224 defines. -/
def inputOk (r : Bytes) : Bool :=
  let code := rdU r 0 2
  match rdU r 3 1 with
  | 0 | 1 | 2 => true
  | 3 => decide (code ≤ 0x28)
  | 4 => decide (code / 256 ≤ 15) && (decide (code % 256 ≤ 7) || code % 256 == 0xFF)
  | 5 => decide (code ≤ 15)
  | 6 => code == 1
  | _ => false

/-- The setpoint selections of a slot: a free slot has a constant or an earlier free slot's output, a bank loop's constant may name a
free slot as its offset (R231, R233). -/
def setpointOk (n : Nat) (r : Bytes) : Bool :=
  let k := rdU r 0x0C 2
  match rdU r 0x0F 1 with
  | 0 => decide (n < 2 ∨ 10 ≤ n ∨ k = 0 ∨ (12 ≤ k ∧ k ≤ 15))
  | 1 => decide (n < 12)
  | 5 => decide (n < 12 ∨ (12 ≤ k ∧ k < n))
  | _ => false

/-- The field ranges of R224. -/
def loopRecOk (n : Nat) (r : Bytes) : Bool := inputOk r && setpointOk n r && decide (1 ≤ rdU r 0x70 2) && decide (1 ≤ rdU r 0x78 2)

/-- A record keeps the input, the setpoint kind and the destination R231 fixes (R225). -/
def loopRecFixed (n : Nat) (r : Bytes) : Bool :=
  decide (12 ≤ n) || (rdU r 0 4 == (loopFixed n).1 && rdU r 0x0F 1 == (loopFixed n).2 / 2 ^ 24)

/-! ### Input and setpoint (R222, R232, R233) -/

/-- The output a slot computed in the tick before, in its destination's unit (R219, R220). -/
def slotBefore (d : Dev) (k : Nat) : Frac := bfpValue (slotGet d k).applied (recSe (loopRec d k) 5)

/-- The secondary angle as an input: none where its conversion is missing, invalid where there is no secondary. -/
def secInput (d : Dev) : Option (Int × Bool) :=
  match secSensor d with
  | none => some (d.scan.sec.value, false)
  | some s => (sensorValue d s).map (fun _ => (d.scan.sec.value, d.scan.sec.valid))

/-- The primary sensor's leads are under the test tone at its sample (R201). -/
def priToned (d : Dev) : Bool :=
  toneAt d (d.seq.tickTime + sensorInstant d (priSensor d)) == some (sensorGroup (priSensor d))

/-- A slot's raw input: none where its conversion is missing; its value and validity (R79, R222). -/
def slotInput (d : Dev) (n : Nat) (r : Bytes) : Option (Int × Bool) :=
  let kind := rdU r 3 1
  let code := rdU r 0 2
  match kind with
  | 1 => if n = 0 && priToned d then secInput d else (sensorValue d (priSensor d)).map (fun _ => (d.scan.pri.value, d.scan.pri.valid))
  | 2 => secInput d
  | 3 => (doneGet d code 0).map (fun v => (v.value, !v.bad && !(code == 0x28 && decide (v.code ≤ 0))))
  | 4 =>
    let e := code / 256 % 16
    let k := if code % 256 = 0xFF then
        (List.range (entryMembers (entryWord d e))).foldl
          (fun b i => if (memberGet d e b).value < (memberGet d e i).value then i else b) 0
      else code % 8
    let m := memberGet d e k
    some (m.value, m.outputs != 0 && goodFlags m.flags)
  | 5 => some (fracRound (slotBefore d (code % 16)), true)
  | 6 => some (d.loops.phase, true)
  | _ => some (0, true)

/-- Input scaling at the input stage's signal exponent. -/
def scaleInput (r : Bytes) (raw : Int) : Int × Bool :=
  sat24 (scaleBy (recM r 8 * (raw - rdS r 4 4)) (recCe r 0 - recSe r 0))

/-- The offset a free slot adds to a heater setpoint, in 0.01 °C (R233). -/
def heaterOffset (d : Dev) (r : Bytes) : Int :=
  let k := rdU r 0x0C 2
  if 12 ≤ k ∧ k ≤ 15 then clampI (-1000) 1000 (fracRound (slotBefore d k)) else 0

/-- The setpoint of a slot in source units, where it has one (R231). -/
def setpointUnits (d : Dev) (n : Nat) (r : Bytes) : Option Int :=
  if rdU r 0x0F 1 = 1 then
    some (if n = 0 && priToned d then d.loops.traj.secAdv else d.loops.traj.priAdv)
  else if 2 ≤ n ∧ n ≤ 9 then some (prmGetS d 0x0702 + heaterOffset d r)
  else if n = 10 then some (prmGet d 0x0418 * 10000)
  else if n = 11 then some 10500
  else none

/-- The setpoint at the PID stage's signal exponent. -/
def slotSetpoint (d : Dev) (n : Nat) (r : Bytes) : Int × Bool :=
  match setpointUnits d n r with
  | some v => let y := scaleInput r v; realign y.1 (recSe r 0) (recSe r 1)
  | none =>
    if rdU r 0x0F 1 = 5 then
      let k := rdU r 0x0C 2 % 16
      realign (slotGet d k).applied (recSe (loopRec d k) 5) (recSe r 1)
    else if n = 1 then (0, false)
    else (recM r 0x10, false)

/-! ### Stages (R223) -/

/-- A biquad at `off` with exponents of stage `i`: its output and states. -/
def biquad (r : Bytes) (off i : Nat) (st : List Int) (x : Int) : (Int × Bool) × List Int :=
  let s (k : Nat) := st.getD k 0
  let v := mac (recCe r i) 0 [(recM r off, x), (recM r (off + 4), s 0), (recM r (off + 8), s 1),
    (-(recM r (off + 12)), s 2), (-(recM r (off + 16)), s 3)]
  (v, [x, s 0, v.1, s 2])

/-- A value with its exponent through a biquad, or past it where it is disabled. -/
def biquadOr (on_ : Bool) (r : Bytes) (off i : Nat) (st : List Int) (x : Int × Int) : (Int × Int) × List Int × Bool :=
  if on_ then
    let a := realign x.1 x.2 (recSe r i)
    let b := biquad r off i st a.1
    ((b.1.1, recSe r i), b.2, a.2 || b.1.2)
  else (x, st, false)

/-- The feed-forward sum in units of a coefficient (R221, R223): both products shifted before they are summed, the bias beside
them. -/
def feedForward (r : Bytes) (v a : Int) : Int := 8 * macSum [(recM r 0x4C, v), (recM r 0x50, a)] + recM r 0x54

/-- The limiter's bounds at its signal exponent. -/
def limitLo (r : Bytes) : Int := scaleBy (recM r 0x58) (recCe r 5 - recSe r 5)
def limitHi (r : Bytes) : Int := scaleBy (recM r 0x5C) (recCe r 5 - recSe r 5)

/-- The limiter: its output of a sum, both at its signal exponent. -/
def limiter (r : Bytes) (prev u : Int) : Int :=
  let c := clampI (limitLo r) (limitHi r) u
  let s := scaleBy (recM r 0x60) (recCe r 5 - recSe r 5)
  if s = 0 then c else clampI (prev - s) (prev + s) c

/-- A trace word of a mantissa. -/
def bfpWord (m e : Int) : Int := toS 32 (ofS 24 m * 256 + ofS 8 e)

/-- One whole computation in AUTO. -/
def slotCalc (r : Bytes) (x : Slot9) (raw y : Int) (holding : Bool) (sp : Int × Bool) (v a : Int) : Slot9 :=
  let se := recSe r
  let ce := recCe r
  let yp := realign y (se 0) (se 1)
  let e := sat24 (sp.1 - yp.1)
  let one : Int := scaleBy 1 (23 - ce 1)
  let d1 := if holding then (x.d, false) else mac (ce 1) 0 [(recM r 0x20, x.d), (one - recM r 0x20, e.1 - x.ePrev)]
  let i1 := if holding || x.lim then (x.i, false) else mac (ce 1) x.i [(recM r 0x18, e.1)]
  let p := mac (ce 1) 0 [(recM r 0x14, e.1)]
  let dt := mac (ce 1) 0 [(recM r 0x1C, d1.1)]
  let u := mac (ce 1) i1.1 [(recM r 0x14, e.1), (recM r 0x1C, d1.1)]
  let b1 := biquadOr (recFlag r 1) r 0x24 2 x.bq1 (u.1, se 1)
  let b2 := biquadOr (recFlag r 2) r 0x38 3 x.bq2 b1.1
  let ff := if recFlag r 3 then sat24 (scaleBy (feedForward r v a) (ce 4 - se 4)) else (0, false)
  let w := if recFlag r 3 then
      let q := realign b2.1.1 b2.1.2 (se 4)
      let t := sat24 (addScaled q.1 (feedForward r v a) (ce 4 - se 4))
      ((t.1, se 4), q.2 || t.2)
    else (b2.1, false)
  let z := realign w.1.1 w.1.2 (se 5)
  let out := sat24 (limiter r x.out z.1)
  { x with
    y := y, sp := sp.1, e := e.1, ePrev := if holding then x.ePrev else e.1, d := d1.1, i := i1.1, bq1 := b1.2.1, bq2 := b2.2.1,
    out := out.1, lim := out.1 != z.1, limHi := decide (out.1 < z.1), limLo := decide (z.1 < out.1), holding := holding,
    sat := x.sat || sp.2 || yp.2 || e.2 || d1.2 || i1.2 || u.2 || b1.2.2 || b2.2.2 || w.2 || z.2 || out.2, raw := raw,
    nodes := [raw, bfpWord y (se 0), bfpWord sp.1 (se 1), bfpWord e.1 (se 1), bfpWord p.1 (se 1), bfpWord i1.1 (se 1),
      bfpWord dt.1 (se 1), bfpWord u.1 (se 1), bfpWord b1.1.1 b1.1.2, bfpWord b2.1.1 b2.1.2, bfpWord ff.1 (se 4),
      bfpWord z.1 (se 5), bfpWord out.1 (se 5)] }

/-- Input and error alone, states frozen (MANUAL, FALLBACK): `u` is what the mode gives and `out` what leaves the limiter. -/
def slotWatch (r : Bytes) (x : Slot9) (raw y : Int) (holding : Bool) (sp : Int × Bool) (u out : Int) : Slot9 :=
  let se := recSe r
  let yp := realign y (se 0) (se 1)
  let e := sat24 (sp.1 - yp.1)
  let o := sat24 out
  let none_ (i : Nat) : Int := bfpWord 0 (se i)
  { x with
    y := y, sp := sp.1, e := e.1, holding := holding, raw := raw, out := o.1,
    lim := o.1 != u, limHi := decide (o.1 < u), limLo := decide (u < o.1), sat := x.sat || sp.2 || yp.2 || e.2 || o.2,
    nodes := [raw, bfpWord y (se 0), bfpWord sp.1 (se 1), bfpWord e.1 (se 1), none_ 1, bfpWord x.i (se 1), none_ 1, none_ 1, none_ 2,
      none_ 3, none_ 4, bfpWord u (se 5), bfpWord o.1 (se 5)] }

/-! ### Bumpless transfer (R228) -/

/-- The DC gain of a biquad, 1 where it is disabled. -/
def dcGain (on_ : Bool) (r : Bytes) (off i : Nat) : Frac :=
  if on_ then
    let one := fracPow2 (23 - recCe r i)
    fracDiv (fracI (recM r off + recM r (off + 4) + recM r (off + 8)))
      (fracAdd one (fracI (recM r (off + 12) + recM r (off + 16))))
  else fracI 1

/-- A value as a mantissa at an exponent. -/
def toMant (v : Frac) (e : Int) : Int := satS 24 (fracRound (fracMul v (fracPow2 (23 - e))))

/-- Preset a slot so that its next output is `out`; with e and the reference values of the tick. The integrator stands still in that
one computation, so that the first output is the preset one (DEDUCED from R228, assumption log, entry 75). -/
def presetSlot (r : Bytes) (x : Slot9) (e v a : Int) : Slot9 :=
  let g1 := dcGain (recFlag r 1) r 0x24 2
  let g2 := dcGain (recFlag r 2) r 0x38 3
  let g := fracMul g1 g2
  let ff := if recFlag r 3 then fracMul (fracI (feedForward r v a)) (fracPow2 (recCe r 4 - 23)) else fracI 0
  let small := fracLt (fracAbs g) (fracMk 1 256)
  let u0 := if small then fracI 0 else fracDiv (fracSub (bfpValue x.out (recSe r 5)) ff) g
  let p := addScaled 0 (macSum [(recM r 0x14, e)]) (recCe r 1 - 20)
  let i0 := if small then 0 else satS 24 (toMant u0 (recSe r 1) - p)
  let b1 := if recFlag r 1 then let a1 := toMant u0 (recSe r 2); let c1 := toMant (fracMul u0 g1) (recSe r 2); [a1, a1, c1, c1] else x.bq1
  let b2 := if recFlag r 2 then
      let a2 := toMant (fracMul u0 g1) (recSe r 3); let c2 := toMant (fracMul u0 g) (recSe r 3); [a2, a2, c2, c2] else x.bq2
  { x with ePrev := e, d := 0, i := i0, bq1 := b1, bq2 := b2, bump := x.bump || small, transfer := false, lim := true }

/-! ### Modes (R226, R227, R230) -/

def modeCode (m : SlotMode) : Nat :=
  match m with
  | .off => 0
  | .manual => 1
  | .auto => 2
  | .fallback => 3
  | .held => 4

/-- What a slot's destination holds, in its unit (R231). -/
def appliedOut (d : Dev) (n : Nat) : Frac :=
  if n = 0 then fracMk (d.scan.out * driveFull (driveMode d)) 32767
  else if n = 1 then fracI d.loops.advance
  else if n ≤ 9 then fracMk (bankGet d (n - 2)).heater 1000
  else if n = 10 then fracI d.loops.bias
  else if n = 11 then fracMk d.loops.duty 100
  else slotBefore d n

/-- A slot into AUTO from an output, the next computation a bumpless transfer from it. -/
def slotAutoFrom (n : Nat) (out : Int) (d : Dev) : Dev :=
  modSlot n (fun x => { x with mode := .auto, out := out, transfer := true, holdRun := 0, bandRun := 0, retRun := 0, cause := 0 }) d

/-- A slot into AUTO from the output applied: its own in MANUAL, else what its destination holds (R228). L1 follows L0 (R231). -/
def slotAuto (n : Nat) (d : Dev) : Dev :=
  let x := slotGet d n
  let d1 := slotAutoFrom n (if x.mode == .manual then x.out else toMant (appliedOut d n) (recSe (loopRec d n) 5)) d
  if n = 0 ∧ (slotGet d 1).mode = .off then slotAutoFrom 1 (toMant (appliedOut d 1) (recSe (loopRec d 1) 5)) d1 else d1

/-- L1 goes OFF when L0 leaves AUTO. -/
def leaveAuto (n : Nat) (d : Dev) : Dev :=
  if n = 0 then modSlot 1 (fun x => if x.mode == .auto then slotOff x else x) (modScan (fun s => { s with lock := false }) d) else d

/-- A slot falls back (R230): its event, its bank's (R184), and what its action needs (R231). -/
def fallBack (n cause : Nat) (d : Dev) : Dev :=
  let d0 := modSlot n (fun x => { x with mode := .fallback, cause := cause, retRun := 0, fellAt := some d.sys.now }) (leaveAuto n d)
  if 2 ≤ n ∧ n ≤ 9 then raise (448 + n) 0 [] (raise (390 + n) 2 [] (modBank (n - 2) (fun b => { b with fallback := true }) d0))
  else
    let d1 := raise (448 + n) 0 [] d0
    if n = 0 then rampFrom d1 else d1

/-- The cause of a fallback still holds. -/
def causePresent (d : Dev) (n : Nat) : Bool :=
  let x := slotGet d n
  if x.cause = 1 then x.overrun else if x.cause = 2 then x.holding
  else if x.cause = 3 then decide (recM (loopRec d n) 0x74 < (x.e.natAbs : Int)) else false

/-- A slot that missed its tick (R230). -/
def slotOverrun (n : Nat) (d : Dev) : Dev :=
  let d1 := raise (448 + n) 2 [] (modSlot n (fun x => { x with
    overrun := true, ovrSeen := true, ovrRun := min 3 (x.ovrRun + 1), holdRun := 0, bandRun := 0, retRun := 0 }) d)
  let x := slotGet d1 n
  if x.mode == .auto && decide (3 ≤ x.ovrRun) then fallBack n 1 d1 else d1

/-- After a computation in AUTO: the runs behind the fallback conditions. -/
def judgeAuto (n : Nat) (r : Bytes) (d : Dev) : Dev :=
  let x := slotGet d n
  let hold := if x.holding then x.holdRun + 1 else 0
  let band := if recM r 0x74 < (x.e.natAbs : Int) then x.bandRun + 1 else 0
  let d1 := modSlot n (fun x => { x with holdRun := hold, bandRun := band }) d
  if rdU r 0x70 2 ≤ hold then fallBack n 2 d1
  else if rdU r 0x72 2 ≠ 0 ∧ rdU r 0x72 2 ≤ band then fallBack n 3 d1
  else d1

/-- After a computation in FALLBACK: the return condition. -/
def judgeReturn (n : Nat) (r : Bytes) (d : Dev) : Dev :=
  let x := slotGet d n
  let run := if !x.holding && decide ((x.e.natAbs : Int) ≤ recM r 0x7C) then x.retRun + 1 else 0
  let d1 := modSlot n (fun x => { x with retRun := run }) d
  if recFlag r 0 && decide (rdU r 0x78 2 ≤ run) then slotAuto n (fallLeave n d1) else d1

/-- Compute one slot of the tick. -/
def computeSlot (slow : List Nat) (d : Dev) (n : Nat) : Dev :=
  let x := slotGet d n
  let r := loopRec d n
  if x.mode == .off || x.mode == .held then d
  else match if slow.contains n then none else slotInput d n r with
    | none => slotOverrun n d
    | some inp =>
      let s := scaleInput r inp.1
      let y := if inp.2 then s.1 else x.y
      let sp := slotSetpoint d n r
      let t := d.loops.traj
      let x0 := { x with overrun := false, ovrRun := 0, sat := x.sat || (inp.2 && s.2) }
      match x.mode with
      | .auto =>
        let e := (sat24 (sp.1 - (realign y (recSe r 0) (recSe r 1)).1)).1
        let x1 := if x.transfer then presetSlot r x0 e t.v t.a else x0
        let d1 := modSlot n (fun _ => slotCalc r x1 inp.1 y (!inp.2) sp t.v t.a) d
        let d2 := if x1.bump && !x.bump then raise (448 + n) 3 [] d1 else d1
        let o := (slotGet d2 n).out
        let d3 := if 12 ≤ n ∧ (o ≤ limitLo r ∨ limitHi r ≤ o) then raise (448 + n) 4 [] d2 else d2
        judgeAuto n r d3
      | .manual => modSlot n (fun _ => slotWatch r x0 inp.1 y (!inp.2) sp x.manual (limiter r x.out x.manual)) d
      | .fallback => judgeReturn n r (modSlot n (fun _ => slotWatch r x0 inp.1 y (!inp.2) sp x.out x.out) d)
      | _ => d

/-! ### The trajectory of a tick (R199, R220, R223, R232) -/

/-- Evaluate the trajectory for the tick at `t`, the speed and the acceleration at the tick after it (R223). -/
def tickRef (d : Dev) (t : Nat) : TickRef :=
  let adv := d.loops.advance
  let ip := t + sensorInstant d (priSensor d)
  let is := t + sensorInstant d ((secSensor d).getD 0)
  let k := trajNow d (nextTick d + adv)
  { pri := fracRound (trajNow d ip).1, priAdv := fracRound (trajNow d (ip + adv)).1,
    secAdv := fracRound (trajNow d (is + adv)).1, at_ := ip,
    v := fracRound (fracDiv k.2.1 (degPerS 1)), a := fracRound (fracDiv k.2.2 (degPerS2 1000)),
    angle := fracRound (trajNow d t).1,
    sweep := d.seq.started && d.seq.phase == .sweep && decide (ip < d.seq.frameTime + activeNs d.seq.plan) }

/-- When a run between two samples crosses the centre, by linear interpolation. -/
def crossing (c : Int) (p q : Nat × Int) : Option Nat :=
  if (p.2 < c ∧ c ≤ q.2) ∨ (c < p.2 ∧ q.2 ≤ c) then
    some ((p.1 : Int) + roundDiv ((c - p.2) * ((q.1 : Int) - p.1) * (if q.2 < p.2 then -1 else 1)) (q.2 - p.2).natAbs).toNat
  else none

/-- The phase error sample of L1 (R232): once per sweep, when both crossings are known. -/
def phaseSample (d : Dev) : Dev :=
  let t := d.loops.traj
  if !t.sweep then d
  else
    let c := d.seq.plan.centre
    let tj := d.loops.crossTraj.orElse (fun _ => d.loops.lastTraj.bind (fun p => crossing c p (t.at_, t.pri)))
    let mi := d.loops.crossMir.orElse (fun _ =>
      if d.scan.pri.valid then d.loops.lastPri.bind (fun p => crossing c p (t.at_, d.scan.pri.value)) else none)
    let ready := tj.isSome && mi.isSome && !(d.loops.crossTraj.isSome && d.loops.crossMir.isSome)
    modLoops (fun l => { l with
      crossTraj := tj, crossMir := mi, lastTraj := some (t.at_, t.pri),
      lastPri := if d.scan.pri.valid then some (t.at_, d.scan.pri.value) else l.lastPri,
      phase := if ready then (mi.getD 0 : Int) - tj.getD 0 else l.phase }) d

/-- The tracking error of the tick (R199), and the ticks whose drive output was at its limit. -/
def trackTick (d : Dev) : Dev :=
  let d1 := if d.loops.traj.sweep then
      (if d.scan.pri.valid then trackError (d.loops.traj.pri - d.scan.pri.value) d else d)
    else if d.scan.lockSeen then sweepEnd d
    else d
  modScan (fun s => { s with
    stat := { s.stat with limit := s.stat.limit + (if s.limit then 1 else 0) } }) d1

/-! ### Destinations (R170, R231, R233) -/

/-- The open-loop bias in mV, at the highest receiver-die temperature (R80). -/
def openBias (d : Dev) : Int :=
  d.recv.vbd0 + roundDiv (21 * (rxTemp d - d.recv.t0)) 100 + prmGet d 0x0418 * 10

/-- A bank's trim (R170). -/
def bankTrim (d : Dev) (b : Bank) : Int :=
  if b.fallback then 0 else clampI (-128) 255 (roundDiv (1024 * prmGet d 0x0701 * (b.temp - 6000)) 1000000)

/-- The value a slot's last output has, in its destination's unit. -/
def outValue (d : Dev) (n : Nat) : Frac := bfpValue (slotGet d n).out (recSe (loopRec d n) 5)

/-- The drive output at a tick edge, and whether it is at its limit (R189, R191). -/
def driveOut (d : Dev) : Int × Bool :=
  let x := slotGet d 0
  let m := driveMode d
  if d.scan.tripped || m == 0 then (0, false)
  else if d.scan.held then (rampCode d, false)
  else match x.mode with
    | .auto | .manual =>
      if d.scan.started then
        let c := driveCode m (outValue d 0)
        let k := clampI (-(driveLimit d)) (driveLimit d) c
        (k, x.lim || k != c)
      else (0, false)
    | _ => (rampCode d, false)

/-- In BIND_OFF and HALTED the drive mode becomes OFF once the output has ramped to zero (R191). -/
def driveRest (d : Dev) : Dev :=
  if (d.sys.op == .bindOff || d.sys.op == .halted) && d.scan.out == 0 then modPrm (fun p => { p with vals := tabPut 0x0801 0 p.vals }) d
  else d

/-- All outputs of the previous tick reach their destinations at one edge (R220). -/
def applyOutputs (d : Dev) : Dev :=
  let o := driveOut d
  let d1 := driveRest (modScan (fun s => { s with out := o.1, limit := o.2 }) d)
  let mode (n : Nat) := (slotGet d n).mode
  let adv := if mode 1 == .off then 0 else clampI (-200000) 200000 (fracRound (outValue d 1))
  let bias : Nat := if mode 10 == .off then 18000 + 10 * (Config.idleOutput 10 % 1601)
    else (clampI 18000 34000 (if mode 10 == .fallback then roundDiv (openBias d) 10 * 10
      else fracRound (fracDiv (outValue d 10) (fracI 10)) * 10)).toNat
  let duty : Nat := if mode 11 == .off then 2500 + Config.idleOutput 11 % 7501
    else (clampI 2500 10000 (if mode 11 == .fallback then 5000 else fracRound (fracMul (outValue d 11) (fracI 100)))).toNat
  let heater (b : Nat) : Nat :=
    if mode (b + 2) == .off || mode (b + 2) == .fallback then 0
    else (clampI 0 200000 (fracRound (fracMul (outValue d (b + 2)) (fracI 1000)))).toNat
  let d2 := (List.range 8).foldl (fun d b => modBank b (fun k => { k with heater := heater b, trim := bankTrim d k }) d) d1
  modLoops (fun l => { l with
    slots := l.slots.map (fun x => { x with applied := x.out }),
    advance := if mode 1 == .fallback then l.advance else adv, bias := bias, duty := duty }) d2

/-- L0 leaves HELD at the tick after the release (R227): AUTO from zero, or OFF when the stage is tripped. -/
def leaveHeld (d : Dev) : Dev :=
  if (slotGet d 0).mode == .held && !d.scan.held then
    if d.scan.tripped then loopsOff d
    else
      let d1 := slotAutoFrom 0 0 d
      if (slotGet d 1).mode == .off then slotAutoFrom 1 (toMant (appliedOut d 1) (recSe (loopRec d 1) 5)) d1 else d1
  else d

/-- The urgent conversions of the free slots that run (R206). -/
def freeUrgents (d : Dev) : List Nat :=
  [12, 13, 14, 15].filterMap (fun n => if (slotGet d n).mode == .off then none else loopUrgent (rdU (loopRec d n) 0 4))

/-- Begin the tick at `t`: outputs applied, urgent conversions requested, the trajectory evaluated. -/
def beginTick (t : Nat) (d : Dev) : Dev :=
  let d1 := leaveHeld (applyOutputs (advanceTo t (modSeq (fun s => { s with tickNo := s.tickNo + 1, tickTime := t }) d)))
  modSense (fun x => { x with
      urgent := urgentOf (angleMode d1) (freeUrgents d1), done := [],
      polarity := if pairsFirst d1 = 0 then x.polarity else !x.polarity })
    (modLoops (fun l => { l with traj := tickRef d1 t }) d1)

/-! ### Trace units (R236, R237, R441) -/

def traceGet (d : Dev) (u : Nat) : Trace := d.loops.traces.getD u Trace.reset
def modTrace (u : Nat) (f : Trace → Trace) (d : Dev) : Dev :=
  modLoops (fun l => { l with traces := listMod l.traces u f }) d

/-- A slot's status word (R234). -/
def slotWord (x : Slot9) : Nat :=
  modeCode x.mode * 2 ^ 29 + flag x.holding 28 + flag x.overrun 27 + flag x.ovrSeen 26 + flag x.sat 25 + flag x.limHi 24 +
    flag x.limLo 23 + flag x.bump 22 + x.ovrRun * 2 ^ 20 + x.cause * 2 ^ 16

/-- The stored form of a tap. -/
def tapValue (d : Dev) (slot node : Nat) : Nat :=
  if node ≤ 0x0C then ofS 32 ((slotGet d slot).nodes.getD node 0)
  else if node = 0x0D then slotWord (slotGet d slot)
  else if node = 0x10 then ofS 32 d.loops.traj.angle
  else if node = 0x11 then ofS 32 d.loops.traj.v
  else if node = 0x12 then ofS 32 d.loops.traj.a
  else if node = 0x13 then ofS 32 (d.loops.traj.pri - d.scan.pri.value)
  else ofS 32 (match d.sense.done[node - 0x18]? with
    | some r => r.value
    | none => 0)

/-- The descriptor of a unit's capture; `status` 0xFFFF while recording. -/
def traceDesc (u status : Nat) (t : Trace) : Bytes :=
  le 1 u ++ le 1 (if t.took then t.source else 0) ++ le 2 t.div ++ le 2 t.trigIndex ++ le 2 t.missed ++ le 8 t.trigTime ++
    le 8 (t.samples.head?.elim 0 (·.1)) ++ le 2 t.samples.length ++ le 2 status ++ zeros 4

/-- A unit stops: its TRACE_ARM ends with the descriptor. -/
def traceStop (u : Nat) (d : Dev) : Dev :=
  let t := traceGet d u
  let t1 := { t with state := 4, trigIndex := t.samples.length - 1 - t.post }
  let d1 := modTrace u (fun _ => t1) d
  match findTag d1 t.mb t.tag with
  | some c => if c.op = 0x0A07 then finishRunning c stOk (traceDesc u stOk t1) d1 else d1
  | none => d1

/-- A recording ends with ABORTED: state 5, the samples kept (R237). -/
def traceAbort (t : Trace) : Trace :=
  { t with state := 5, trigIndex := if t.state = 3 then t.samples.length - 1 - (t.post - t.left) else 0 }

/-- A trigger that finds the capture stopped and unread is missed (R237). -/
def traceMiss (u : Nat) (d : Dev) : Dev :=
  modTrace u (fun x => if x.read then x else { x with missed := satU 16 (x.missed + 1) }) d

/-- A trigger reaches a unit from a source at an instant: missed while stopped, otherwise the next sample is the
trigger sample. -/
def traceTrigger (u source t : Nat) (d : Dev) : Dev :=
  let x := traceGet d u
  if x.source != source then d
  else if 4 ≤ x.state then traceMiss u d
  else if x.state = 2 && x.trigPending.isNone then modTrace u (fun x => { x with trigPending := some (source, t) }) d
  else d

def traceTriggers (source t : Nat) (d : Dev) : Dev := (List.range 4).foldl (fun d u => traceTrigger u source t d) d

/-- The tap crosses the threshold between two stored values. -/
def crosses (x : Trace) (v : Int) : Bool :=
  match x.last with
  | none => false
  | some p => if bit x.detail 0 then decide (x.threshold < p ∧ v ≤ x.threshold) else decide (p < x.threshold ∧ x.threshold ≤ v)

/-- A tap has a sample this tick: nodes of a slot when it completes (R236). -/
def tapReady (d : Dev) (slot node : Nat) : Bool :=
  let x := slotGet d slot
  decide (0x10 ≤ node) || (x.mode != .off && x.mode != .held && !x.overrun)

/-- A stopped unit still watches its threshold: crossings are missed triggers (R237). -/
def traceWatch (u : Nat) (d : Dev) : Dev :=
  let x := traceGet d u
  let v := toS 32 (tapValue d x.slot x.node)
  let d1 := if crosses x v then traceMiss u d else d
  modTrace u (fun x => { x with phase := 1 % x.div, last := some v }) d1

/-- One tick of a unit: a sample every D ticks, its trigger, and the count after it. -/
def traceTick (u : Nat) (d : Dev) : Dev :=
  let x := traceGet d u
  if x.state < 2 ∨ (4 ≤ x.state ∧ (x.source ≠ 5 ∨ x.read)) then d
  else if x.phase ≠ 0 then modTrace u (fun x => { x with phase := (x.phase + 1) % x.div }) d
  else if !tapReady d x.slot x.node then modTrace u (fun x => { x with phase := 1 % x.div }) d
  else if 4 ≤ x.state then traceWatch u d
  else
    let w := tapValue d x.slot x.node
    let all := x.samples ++ [(d.sys.now, le 4 w)]
    let kept := if 4096 < all.length then all.tail else all
    let hit := x.state == 2 && (x.trigPending.isSome || (x.source == 5 && crosses x (toS 32 w)))
    let x1 := { x with
      phase := 1 % x.div, samples := kept, last := some (toS 32 w), trigPending := none, took := x.took || hit,
      state := if hit then 3 else x.state, left := if hit then x.post else x.left - 1,
      trigTime := if hit then (x.trigPending.elim d.sys.now (·.2)) else x.trigTime }
    let d1 := peatTrace u x.slot x.node x.div (le 4 w) (modTrace u (fun _ => x1) d)
    if x1.state = 3 ∧ x1.left = 0 then traceStop u d1 else d1

/-! ### The end of a tick -/

/-- The samples of the tick: both angles, the tracking error and L1's sample. -/
def finishAngles (d : Dev) : Dev := phaseSample (trackTick (takeAngles d))

/-- L0 computed with its input held (R214). -/
def countHold (d : Dev) : Dev :=
  let x := slotGet d 0
  if x.holding && tapReady d 0 0 then modScan (fun s => { s with stat := { s.stat with hold := s.stat.hold + 1 } }) d else d

/-- Every slot of the tick in order, then the trace units. -/
def finishSlots (slow : List Nat) (d : Dev) : Dev :=
  (List.range 4).foldl (fun d u => traceTick u d) (countHold ((List.range 16).foldl (computeSlot slow) d))

/-! ### Frame tick (R227, R229, R436, R439) -/

/-- A request loses at the frame tick to what outranks it (R229): a hold, a trip of the stage, a fallback of the same tick, or one
whose cause is present. The stage stays off until its trip is ended, so L0 cannot leave OFF meanwhile (R192). -/
def requestLoses (q : ModeReq) (d : Dev) : Bool :=
  let x := slotGet d q.slot
  x.mode == .held || (q.slot == 0 && d.scan.tripped && q.mode != 0) ||
    (x.mode == .fallback && (x.fellAt == some d.sys.now || (q.mode != 0 && (causePresent d q.slot || q.mode != 2))))

/-- Carry out one mode request at the frame tick, unless it loses. -/
def requestMode (q : ModeReq) (d : Dev) : Dev :=
  let x := slotGet d q.slot
  if requestLoses q d then d
  else if q.mode = 0 then
    let d1 := if x.mode == .fallback then fallLeave q.slot d else d
    let d2 := modSlot q.slot slotOff (leaveAuto q.slot d1)
    if q.slot = 0 then modScan (fun s => { s with holdFrom := 0 }) d2 else d2
  else if q.mode = 1 then
    let r := loopRec d q.slot
    let v := match q.value with
      | some c => satS 24 (scaleBy c (recCe r 5 - recSe r 5))
      | none => x.out
    modSlot q.slot (fun x => { x with mode := .manual, manual := v, transfer := false }) (leaveAuto q.slot d)
  else if x.mode == .auto then d
  else slotAuto q.slot (if x.mode == .fallback then fallLeave q.slot d else d)

/-- Every mode request: done, and answered with the mode in force. -/
def requestModes (d : Dev) : Dev :=
  d.loops.requests.foldl (fun d q =>
    let d1 := requestMode q d
    match findTag d1 q.mb q.tag with
    | some c => finishRunning c stOk (le 1 (modeCode (slotGet d1 q.slot).mode) ++ zeros 3) d1
    | none => d1) (modLoops (fun l => { l with requests := [] }) d)

/-- Start the scanner, unless it runs: the drive follows L0 into AUTO (R436). -/
def scanBegin (d : Dev) : Dev :=
  if d.scan.started then d
  else slotAuto 0 (modScan (fun s => { s with started := true, startFrame := d.seq.frame }) d)

/-- Stop the scanner: L0 OFF, the output ramping to zero; a trip ends (R192, R436). -/
def scanEnd (d : Dev) : Dev :=
  loopsOff (modScan (fun s => { s with started := false, tripped := false }) (rampFrom d))

/-- SCAN_START and SCAN_STOP at their frame tick; a hold wins over both, a tripped stage over a start (R229, R436). -/
def requestScan1 (d : Dev) (q : Nat × Nat × Bool) : Dev :=
  let lost := d.scan.held || (q.2.2 && d.scan.tripped)
  let d1 := if lost then d else if q.2.2 then scanBegin d else scanEnd d
  match findTag d1 q.1 q.2.1 with
  | some c =>
    if lost then finishRunning c stNotPermitted [] d1
    else finishRunning c stOk (le 4 (if q.2.2 then d1.scan.startFrame else d.seq.frame)) d1
  | none => d1

def requestScans (d : Dev) : Dev := d.scan.requests.foldl requestScan1 (modScan (fun s => { s with requests := [] }) d)

/-- Armed trace units begin at the frame tick; the sweep's crossings are forgotten. -/
def tensionFrame (d : Dev) : Dev :=
  modLoops (fun l => { l with
    traces := l.traces.map (fun t => if t.state = 1 then { t with state := 2 } else t),
    crossTraj := none, crossMir := none, lastPri := none, lastTraj := none }) (requestModes (requestScans d))

end Sys2Proof.Machine
end

