-- ==== Sys2Proof/Machine/Modes.lean ====
section
/-!
DEFINITION. Operating states (R30 to R33), the emitter rail (R244), trips to SAFE_STOP (R269, R270), halting (R31,
R239, R365), and the clock and switch diagnostics (R242, R245, R247).
-/
namespace Sys2Proof.Machine

/-! ### States (R31 to R33) -/

/-- The state with event 1: previous and new. Work in the pipeline is dropped where the point streams stop at once. -/
def toState (o : OpState) (d : Dev) : Dev :=
  if d.sys.op == o then d
  else
    let was := opCode d.sys.op
    let d1 := raise 1 0 (le 1 was ++ le 1 (opCode o)) (modSys (fun y => { y with op := o }) d)
    if o == .safeStop || o == .bindOff || o == .halted then modPts (fun p => { p with reduce := none, format := none }) d1 else d1

/-- ARM, START, STOP and DISARM (R415). -/
def isStateCmd (c : Cmd) : Bool := decide (0x0103 ≤ c.op ∧ c.op ≤ 0x0106)

/-- A trip, an unrecoverable fault or bind-off cancels the waiting state command (R33). -/
def cancelStateCmds (d : Dev) : Dev := finishWhere isStateCmd stAborted [] d

/-! ### The rail (R167, R244) -/

/-- Both switches open: the inhibit is asserted with the command. -/
def openRail (d : Dev) : Dev :=
  modEmi (fun e => { e with inhibit := true, closedAt := none }) (modSaf (fun s => { s with
    railClosed := false, invSince := none, devSince := none, disSince := none, frozen := [] }) d)

/-- Both switches close: the reservoirs charge from here (R165). -/
def closeRail (d : Dev) : Dev :=
  modEmi (fun e => { e with inhibit := false, closedAt := some (tussNow d) }) (modSaf (fun s => { s with railClosed := true }) d)

/-! ### Outputs (R244, R267) -/

def safeOut (d : Dev) (n : Nat) : SafeOut := d.saf.outs.getD n SafeOut.reset
def modOut (n : Nat) (f : SafeOut → SafeOut) (d : Dev) : Dev :=
  modSaf (fun s => { s with outs := listMod s.outs n f }) d

/-- De-energise an output; its event where it was energised. -/
def deEnergise (n : Nat) (d : Dev) : Dev :=
  let was := (safeOut d n).energised
  let d1 := modOut n (fun o => { o with energised := false }) d
  if was then raise (534 + n) 0 [] d1 else d1

def deEnergiseAll (d : Dev) : Dev := deEnergise 1 (deEnergise 0 d)

/-! ### Trips (R269, R270) -/

def cHost : Nat := 0
def cLimit : Nat := 1
def cSpan : Nat := 2
def cRail : Nat := 7
def cClock : Nat := 8
def cReport : Nat := 9
def cTag : Nat := 10
def cGauge : Nat := 11

/-- Latch trip causes. -/
def latchCauses (bits : List Nat) (d : Dev) : Dev :=
  modSaf (fun s => { s with latched := bits.foldl (fun w b => putBit w b true) s.latched }) d

/-- A trip: causes latched, rail open, and SAFE_STOP from READY, ARMED or RUNNING with outputs de-energised, the waiting
command ABORTED and event 512. -/
def trip (bits : List Nat) (d : Dev) : Dev :=
  let d1 := openRail (latchCauses bits d)
  match d1.sys.op with
  | .ready | .armed | .running =>
    raise 512 0 (le 4 d1.saf.latched) (deEnergiseAll (toState .safeStop (cancelStateCmds d1)))
  | _ => d1

/-! ### Halting (R31, R239, R365) -/

/-- HALTED at once: everything the host waits for with a state command ends, switches open, the drive ramps to zero within 10 ms and
its mode then becomes OFF (R191). -/
def halt (cause : Nat) (d : Dev) : Dev :=
  if d.sys.op == .halted then d
  else
    let d1 := deEnergiseAll (openRail (cancelStateCmds d))
    let d2 := toState .halted d1
    let d3 := modSys (fun y => { y with boot := 0xE0, haltCause := cause, bootReady := true }) d2
    driveRest (loopsOff (modScan (fun s => { s with started := false, held := false }) (rampFrom d3)))

/-- TUSSOCK_INTERNAL_FAULT (R239): HALTED with cause 3; in reset Tussock does not run. DEDUCED (assumption log, entry 64). -/
def tussockFault (d : Dev) : Dev := if d.sys.inReset then d else halt 3 d

/-- A block of Tussock's SRAM has a reference check: safety code since it was verified, the committed configuration since its commit. -/
def scrubHasRef (d : Dev) (block : Nat) : Bool :=
  Config.tussockBlock block == 0 || (Config.tussockBlock block == 1 && d.saf.committed.isSome)

/-- Hook B starts a job only when none of a higher rank waits (R286): first point tags, then HST receive, then HST send, configuration
check and scrub block. A job here takes the instant of the command that stands for it. DESIGN CHOICE (assumption log, entry 9). -/
def tagsWait (d : Dev) : Bool := !d.pts.evalDwells.isEmpty
def hookBWaits (d : Dev) : Bool := tagsWait d || !d.hst.jobs.isEmpty

/-- Do a job of a lower rank than HST receive, or leave it waiting. -/
def afterHookB (f : Dev → Dev) (d : Dev) : Dev := if hookBWaits d then d else f d

/-- TUSSOCK_SCRUB_BLOCK (R239, R285): a block of 4 KiB, read at `readAt`, with what differs in it from when its reference was fixed; the
check folds the block's address and 0. A mismatch or an uncorrectable error is an internal fault; a correction is counted and reported. -/
def scrubTussock (block readAt : Nat) (flips : List (Nat × Nat)) (corrected uncorrectable : Bool) (d : Dev) : Dev :=
  if d.sys.op == .halted || d.sys.inReset then d
  else if uncorrectable || (scrubHasRef d block && hookDiffers (4096 * block) (4096 * readAt) 0 4096 flips 0) then tussockFault d
  else
    let d1 := if corrected then raise 516 0 [] (modEv (fun e => { e with eccCorrected := incSat 32 e.eccCorrected }) d) else d
    if block = 127 then modEv (fun e => { e with tussockRounds := incSat 32 e.tussockRounds }) d1 else d1

/-! ### Clock cross-check (R242) -/

/-- A ratio differs by more than 2 % from its stored value. -/
def ratioBad (stored now : Nat) : Bool := decide (stored < 50 * dist stored now)

/-- CLOCK_CROSS_CHECK: the next 1 ms window ends. Tussock makes it at all times after cast-on (R29), until HALTED; CLOCK is
present while a ratio is out of bounds (R269). -/
def clockCheck (ratios : List Nat) (d : Dev) : Dev :=
  if !ticking d && d.sys.op != .bindOff then d
  else
    let bad := (List.range 3).any (fun i => ratioBad (d.saf.clockRatios.getD i 0) (ratios.getD i 0))
    let t := d.saf.clockAt + 1000000
    let two := bad && d.saf.clockBad
    let d1 := advanceTuss t (modSaf (fun s => { s with
      clockAt := t, clockBad := bad, clockPresent := bad }) d)
    if two then trip [cClock] d1 else d1

/-! ### Switch tests (R245, R247) -/

/-- An ARM waits. -/
def armWaiting (d : Dev) : Bool := (findRunning d 0x0103).isSome

/-- ARM takes effect (R31): lock reported and both switches tested since it was accepted. -/
def armNow (d : Dev) : Dev :=
  match findRunning d 0x0103 with
  | none => d
  | some c =>
    if d.sys.op == .ready && d.scan.lock && d.saf.armTests == 3 then
      finishRunning c stOk (le 4 d.seq.frame) (closeRail (toState .armed d))
    else d

/-- RAIL_SWITCH_TEST: 0 SW_EH, 1 SW_EL. With the rail closed one switch opens in a turnaround at F + 10 µs, SW_EH in even
frames, for 20 µs with the inhibit asserted (R167); otherwise each closes alone. A failure opens both and trips; both must then pass. -/
def railTest (s : Nat) (pass : Bool) (d : Dev) : Dev :=
  let due := !d.saf.railClosed || (inTurnaround d && s == d.seq.frame % 2)
  if !ticking d || decide (2 ≤ s) || !due then d
  else
    let d0 := if d.saf.railClosed then advanceTo (diagStart d + 10000) d else d
    if !pass then
      trip [cRail] (raise 515 0 [] (modSaf (fun x => { x with railFail := 3, armTests := putBit x.armTests s false }) d0))
    else if d0.saf.railClosed then modEmi (fun e => { e with testEnd := tussNow d0 + 20000 }) d0
    else armNow (modSaf (fun x => { x with railFail := putBit x.railFail s false,
                                           armTests := if armWaiting d0 then putBit x.armTests s true else x.armTests }) d0)

/-- An output locked out, both switches open (R247). -/
def lockOut (n : Nat) (d : Dev) : Dev :=
  let was := (safeOut d n).locked
  let d1 := deEnergise n (modOut n (fun o => { o with locked := true, passed := 0 }) d)
  if was then d1 else raise (532 + n) 0 [] d1

/-- OUTPUT_SWITCH_TEST: a failed switch or a shorted pin locks the output out; a pass while de-energised counts toward
the end of a lockout. -/
def outputTest (n s : Nat) (pass shorted : Bool) (d : Dev) : Dev :=
  if !ticking d || decide (2 ≤ n) || decide (2 ≤ s) then d
  else if !pass || shorted then lockOut n d
  else if (safeOut d n).energised then d
  else modOut n (fun o => { o with passed := if o.locked then putBit o.passed s true else o.passed }) d

/-- OUTPUT_OVERCURRENT. -/
def outputOver (n : Nat) (d : Dev) : Dev :=
  if decide (2 ≤ n) || !(safeOut d n).energised then d else lockOut n d

end Sys2Proof.Machine
end

