-- ==== Sys2Proof/Machine/Limiter.lean ====
section
/-!
DEFINITION. The emission limiter: cells, charges and budgets (R248 to R254), its prediction over a plan (R51), the
stall judgement (R255), and the Gauge re-check (R258).
-/
namespace Sys2Proof.Machine

/-! ### Cells and budgets (R248, R251) -/

/-- Built-in ceilings in nJ. -/
def ceilings : List Nat := [2000, 180000, 1000000, 58000000, 580000000]

/-- The budget of a time base in fJ: the lower of ceiling and configuration, 0 meaning the ceiling. -/
def budgetIn (cfg : Option Bytes) (base : Nat) : Nat :=
  let c := ceilings.getD base 0
  let b := match cfg with
    | some x => rdU x (0x10 + 4 * base) 4
    | none => 0
  (if b = 0 then c else min b c) * 1000000

def budgetOf (d : Dev) (base : Nat) : Nat := budgetIn d.saf.committed base

/-- The cell centre in 1/256 mdeg. -/
def cellCentre (cfg : Option Bytes) : Int :=
  match cfg with
  | some x => rdS x 0x28 4 * 256
  | none => 0

def halfSpan : Int := 60 * 256000
def cellWidth : Int := 960000

/-- The azimuth cell of an angle, the edge cell beyond the span. -/
def azimuthCell (cc x : Int) : Nat := (clampI 0 31 ((x - (cc - halfSpan)) / cellWidth)).toNat

/-- How far an angle lies outside the closed span. -/
def outsideSpan (cc x : Int) : Int := max 0 (max (x - (cc + halfSpan)) (cc - halfSpan - x))

/-- The azimuth cells a pulse is charged to (R250). -/
def cellsCharged (cc x m : Int) : List Nat :=
  let lo := azimuthCell cc (x - m)
  let hi := azimuthCell cc (x + m)
  (List.range (hi + 1 - lo)).map (· + lo)

def cellKey (base a b : Nat) : Nat := base * 256 + 8 * a + b

/-- An accumulator's sub-intervals, newest first. -/
def accumulator (d : Dev) (base cell : Nat) : List Nat := tabGet (List.replicate 17 0) d.saf.cells (base * 256 + cell)

/-- The sum over the window: the cell's own sub-intervals and what every cell of the base holds. -/
def accSum (d : Dev) (base cell : Nat) : Nat := (accumulator d base cell).sum + (d.saf.fill.getD base []).sum

def addNewest (e : Nat) (l : List Nat) : List Nat :=
  match l with
  | [] => [e]
  | x :: xs => (x + e) :: xs

/-- Charge an energy to azimuth cells of a bank, every base, and compare (R251). -/
def chargeCells (az : List Nat) (b e : Nat) (d : Dev) : Dev :=
  let keys := (List.range 5).flatMap (fun base => az.map (fun a => (base, 8 * a + b)))
  let d1 := modSaf (fun s => { s with cells := keys.foldl (fun t k =>
    tabMod (List.replicate 17 0) t (k.1 * 256 + k.2) (addNewest e)) s.cells }) d
  let ovr := keys.any (fun k => decide (budgetOf d1 k.1 < accSum d1 k.1 k.2))
  let near := keys.any (fun k => decide (9 * budgetOf d1 k.1 ≤ 10 * accSum d1 k.1 k.2))
  let d2 := if near then raise 514 0 [] d1 else d1
  if ovr then trip [cLimit] d2 else d2

/-- ACCUMULATOR_SUBINTERVAL: the oldest sub-interval of a base ages out in every cell. -/
def agePlace (l : List Nat) : List Nat := (0 :: l).take 17

def ageBase (base : Nat) (d : Dev) : Dev :=
  if d.sys.inReset || decide (5 ≤ base) then d
  else modSaf (fun s => { s with
    fill := listMod s.fill base agePlace,
    cells := (s.cells.map (fun e => if e.1 / 256 = base then (e.1, agePlace e.2) else e)).filter
      (fun e => e.2 != List.replicate 17 0) }) d

/-- Any accumulator above a share of its budget, in percent. -/
def anyAbove (d : Dev) (percent : Nat) : Bool :=
  (List.range 5).any (fun base => decide (percent * budgetOf d base < 100 * (d.saf.fill.getD base []).sum)) ||
    d.saf.cells.any (fun e => decide (percent * budgetOf d (e.1 / 256) < 100 * accSum d (e.1 / 256) (e.1 % 256)))

/-- The starting energy at cast-on: 1/34 of the ceiling in each of 17 sub-intervals of the long bases (R252), in fJ,
rounded up. -/
def startFill : List (List Nat) :=
  (List.range 5).map (fun base => List.replicate 17 (if 3 ≤ base then ceilDiv (ceilings.getD base 0 * 1000000) 34 else 0))

/-- The accounted energy of a bank's shot of calibration firing: 32 pulses of 9.632 nJ (R176), in fJ. -/
def calShotFj : Nat := 308224000

/-- An energy emitted evenly up to now, at most `rate` to a sub-interval, newest first. -/
def spread (rate : Nat) : Nat → Nat → List Nat
  | 0, _ => []
  | k + 1, e => min rate e :: spread rate k (e - min rate e)

/-- What `m` shots of each bank of calibration firing add to every cell (R253), the last of them now: 770.56 µJ in 200 ms where no
shot was commanded. DEDUCED (assumption log, entry 51). -/
def calFill (m : Nat) : List (List Nat) :=
  let tot := m * calShotFj
  let all := 2500 * calShotFj
  [List.replicate 17 0, spread (ceilDiv all 3200) 17 tot, spread (ceilDiv all 32) 17 tot, spread all 17 tot, spread all 17 tot]

def addFill (a b : List (List Nat)) : List (List Nat) := List.zipWith (List.zipWith (· + ·)) a b

/-- A new cell centre: every cell takes the largest value any cell of its base holds, sub-interval by sub-interval
(R253). -/
def mergeCells (d : Dev) : Dev :=
  let most (base : Nat) : List Nat := d.saf.cells.foldl (fun m e => if e.1 / 256 = base then List.zipWith max m e.2 else m)
    (List.replicate 17 0)
  modSaf (fun s => { s with fill := addFill s.fill ((List.range 5).map most), cells := [] }) d

/-! ### Pulses (R249, R250) -/

/-- E_pulse in fJ at an applied current in mA, rounded up. -/
def energyFj (ma : Frac) (w : Nat) : Frac :=
  fracMax (fracI 0) (fracMul (fracMul (fracMk 860 1) (fracSub ma (fracI 400))) (fracMk (widthHalfNs w) 2))

/-- The accounted energy of a reported pulse. DEDUCED (assumption log, entry 55). -/
def accountedFj (ma : Frac) (w charge64 : Nat) : Nat :=
  let q := fracMk (charge64 * 1000) 64
  let ratio := fracMax (fracI 1) (fracDiv q (pulseCharge ma w))
  (fracCeil (fracMul (energyFj ma w) ratio)).toNat

/-- The margin of a speed in °/s (R250), 1/256 mdeg, rounded up. -/
def marginOf (v : Int) (tick : Nat) : Int := 64000 + (ceilDiv (v.natAbs * 512000 * tick) 1000000000 : Nat)

/-- The angle and margin of a pulse. -/
def pulseAngle (d : Dev) : Int × Int :=
  let m := marginOf d.loops.traj.v (prmGet d 0x0A01 * 10)
  if d.scan.pri.valid then (d.scan.pri.value, m)
  else if d.scan.sec.valid then (d.scan.sec.value, m)
  else (trajAngle d d.sys.now, m + 256000)

/-- Charge one pulse of a segment (R250): to its cells, or OUT_OF_SPAN beyond 1.0°. -/
def chargePulse (n e : Nat) (d : Dev) : Dev :=
  let a := pulseAngle d
  let cc := cellCentre d.saf.committed
  if 256000 < outsideSpan cc a.1 then trip [cSpan] d
  else chargeCells (cellsCharged cc a.1 a.2) (n / 17) e d

/-- Charge a reported pulse: calibration firing to every azimuth cell of its bank (R253), every other pulse where it points (R250). -/
def chargeReport (r : PulseRep) (e : Nat) (d : Dev) : Dev :=
  if r.still then chargeCells (List.range 32) (r.seg / 17) e d else chargePulse r.seg e d

/-- The energy a report is accounted with (R249): a blocked pulse at its nominal E_pulse. DEDUCED (assumption log, entry 55). -/
def reportedFj (r : PulseRep) : Nat :=
  if r.inhibited then (fracCeil (energyFj (stepsMa r.cur) r.word)).toNat else accountedFj (stepsMa r.cur) r.word r.charge

/-- The oldest report of a segment on its way, and the state without it. -/
def takeReport (n : Nat) (d : Dev) : Option (PulseRep × Dev) :=
  (d.emi.reports.find? (fun r => r.seg == n)).map (fun r => (r, modEmi (fun e => { e with reports := e.reports.erase r }) d))

/-- PULSE_REPORT: the oldest report of a segment's pulse arrives, with its charge and the result of its check (R171). -/
def pulseReport (n : Nat) (d : Dev) : Dev :=
  match takeReport n d with
  | none => d
  | some x => chargeReport x.1 (reportedFj x.1) x.2

/-- PULSE_REPORT_TIMEOUT: the oldest report of a segment's pulse does not arrive: charged at E_pulse(12.00 A, 6.0 ns); eight in a
frame trip (R249). -/
def pulseTimeout (n : Nat) (d : Dev) : Dev :=
  match takeReport n d with
  | none => d
  | some x =>
    let d2 := raise 542 0 [] (modSaf (fun s => { s with missing := s.missing + 1 }) x.2)
    let d3 := chargeReport x.1 59856000 d2
    if d3.saf.missing = 8 then trip [cReport] d3 else d3

/-! ### The prediction (R51) -/

/-- Energies of a plan's shots by bank, per dwell: 2 × E_pulse × emission_scale / 128 of each fired segment, in fJ. -/
def shotEnergies (drive : Nat → Nat) (seg : Nat → Nat) (p : Plan) (z : Zone) (col : Nat) : List Nat :=
  let rows := (List.range 128).filter (fun r => rowEnabled p r && rowReceived z col r)
  (List.range 8).map (fun b => ((rows.map seg).filter (fun n => n != 0xFF && n / 17 == b)).foldl (fun acc n =>
    acc + (fracCeil (fracMul (fracMul (fracI 2) (energyFj (fracN (50 * driveCurrent (drive n))) (drive n)))
      (fracMk z.scale 128))).toNat) 0)

/-- The shots of a frame in the columns of zones below `upto`: time in ns, angle, speed in °/s and energy by bank. -/
def planShotsOf (aMax : Frac) (drive : Nat → Nat) (seg : Nat → Nat) (p : Plan) (upto frame : Nat) : List (Nat × Int × Int × List Nat) :=
  ((List.range (planColumns p)).filter (fun i => decide (zoneIdxOfCol p.zones (colOfDwell p frame i) < upto))).flatMap (fun i =>
    let col := colOfDwell p frame i
    let z := zoneOfCol p.zones col
    let t0 := dwellOffset p frame col
    let es := shotEnergies drive seg p z col
    (List.range z.shots).map (fun k =>
      let t := t0 + k * z.period
      let r := trajSweep aMax p frame (fracN t)
      (t, fracRound r.1, fracRound (fracDiv r.2.1 (degPerS 1)), es)))

/-- A shot with the angular cells it is charged to: cells, time and energy by bank. -/
def withCells (cc : Int) (tick : Nat) (s : Nat × Int × Int × List Nat) : List Nat × Nat × List Nat :=
  (cellsCharged cc s.2.1 (marginOf s.2.2.1 tick), s.1, s.2.2.2)

/-- The shots charged to one angular cell, time and energy by bank. -/
def shotsOfCell (a : Nat) (shots : List (List Nat × Nat × List Nat)) : List (Nat × List Nat) :=
  shots.filterMap (fun s => if s.1.contains a then some s.2 else none)

/-- The charges of one bank among them, in time order. -/
def bankCharges (b : Nat) (shots : List (Nat × List Nat)) : List (Nat × Nat) := shots.map (fun s => (s.1, s.2.getD b 0))

/-- The largest sum any window of a length holds: `open_` are the charges in the window, oldest first. -/
def windowMax (len : Nat) : List (Nat × Nat) → List (Nat × Nat) → Nat → Nat → Nat
  | [], _, _, best => best
  | (t, e) :: rest, open_, sum, best =>
    let old := open_.takeWhile (fun x => decide (x.1 + len ≤ t))
    let s := sum - (old.map (·.2)).sum + e
    windowMax len rest (open_.drop old.length ++ [(t, e)]) s (max best s)

/-- The window a base's accumulator covers: 17 sub-intervals of T/16, in ns. -/
def windowNs (base : Nat) : Nat := [5313, 1062500, 106250000, 10625000000, 106250000000].getD base 0

/-- The greatest predicted sum of a cell over a base: by direct windows over `reps` frames where the window spans few
frames, and as whole frames of the cell's energy where it spans many (R251's own count). -/
def predictCell (base period : Nat) (even odd : List (Nat × Nat)) : Nat :=
  let w := windowNs base
  let perFrame := max (even.map (·.2)).sum (odd.map (·.2)).sum
  if 3 ≤ base then ceilDiv (perFrame * w) period
  else
    let reps := w / period + 2
    let all := (List.range reps).flatMap (fun i => (if i % 2 = 0 then even else odd).map (fun c => (c.1 + i * period, c.2)))
    let alt := (List.range reps).flatMap (fun i => (if i % 2 = 0 then odd else even).map (fun c => (c.1 + i * period, c.2)))
    max (windowMax w all [] 0 0) (windowMax w alt [] 0 0)

/-- The prediction over every cell and base for the shots of the zones below `upto`. Returns the greatest share of a
budget used, in 1/100 % rounded down, and whether they fit; a shot outside the span exceeds every budget (R51). -/
def predictUpto (aMax : Frac) (tick : Nat) (cfg : Option Bytes) (drive : Nat → Nat) (seg : Nat → Nat) (p : Plan) (upto : Nat) : Nat × Bool :=
  let cc := cellCentre cfg
  let even := planShotsOf aMax drive seg p upto 0
  let odd := planShotsOf aMax drive seg p upto 1
  if (even ++ odd).any (fun s => decide (0 < outsideSpan cc s.2.1)) then (25500, false)
  else
    let evenC := even.map (withCells cc tick)
    let oddC := odd.map (withCells cc tick)
    let shares := (List.range 32).flatMap (fun a =>
      let e := shotsOfCell a evenC
      let o := shotsOfCell a oddC
      (List.range 8).flatMap (fun b =>
        let eb := bankCharges b e
        let ob := bankCharges b o
        (List.range 5).map (fun base =>
          let sum := predictCell base p.period eb ob
          let bud := budgetIn cfg base
          (sum * 10000 / (if bud = 0 then 1 else bud), decide (sum ≤ bud)))))
    (shares.foldl (fun m s => max m s.1) 0, shares.all (·.2))

/-- The prediction of a whole plan. -/
def predictPlan (aMax : Frac) (tick : Nat) (cfg : Option Bytes) (drive : Nat → Nat) (seg : Nat → Nat) (p : Plan) : Nat × Bool :=
  predictUpto aMax tick cfg drive seg p p.zones.length

/-- The zone of the first shot, in column order, that the prediction does not allow (R50, check 10). -/
def predictZone (aMax : Frac) (tick : Nat) (cfg : Option Bytes) (drive : Nat → Nat) (seg : Nat → Nat) (p : Plan) : Nat :=
  ((List.range p.zones.length).find? (fun i => !(predictUpto aMax tick cfg drive seg p (i + 1)).2)).getD 0xFF

/-- The prediction of R51 for the plan and drive words in force. -/
def planFitsNow (d : Dev) : Bool :=
  (predictPlan (aMaxDev d) (prmGet d 0x0A01 * 10) d.saf.committed (driveWord d) (segOfRow d) d.seq.plan).2

/-- A configuration allows less than one before it: a budget lowered, or the cell span moved. -/
def allowsLess (old new : Option Bytes) : Bool :=
  cellCentre old != cellCentre new || (List.range 5).any (fun b => decide (budgetIn new b < budgetIn old b))

/-- A safety configuration committed after `old` no longer allows the running plan: its event (R51), of a source the spec does not
number (DESIGN CHOICE, assumption log, entry 62). -/
def noteFit (old : Option Bytes) (d : Dev) : Dev :=
  if !allowsLess old d.saf.committed || planFitsNow d then d else raise (768 + Config.fitEvent % 256) 0 [] d

/-! ### Stall (R255) -/

/-- A condition's start, and whether it has lasted `ns`. -/
def lasted (since : Option Nat) (holds : Bool) (t ns : Nat) : Option Nat × Bool :=
  if holds then (let s := since.getD t; (some s, decide (s + ns ≤ t))) else (none, false)

/-- The eight latest valid samples moved by less than 1 mdeg. -/
def frozenRun (l : List Int) : Bool :=
  decide (8 ≤ l.length) && (match l with
    | [] => false
    | x :: xs => decide (xs.foldl max x - xs.foldl min x < 256))

/-- The stall judgement at a Tension tick while the rail is closed: cut emission, hold the drive. -/
def judgeStall (d : Dev) : Dev :=
  if !d.saf.railClosed || !(d.sys.op == .armed || d.sys.op == .running) then d
  else
    let p := d.scan.pri
    let s := d.scan.sec
    let t := tussNow d
    let dev := p.valid && decide ((cfgU d 0x2E 2 : Int) * 256 < (d.loops.traj.pri - p.value).natAbs)
    let dis := p.valid && s.valid && decide ((cfgU d 0x30 2 : Int) * 256 < (p.value - s.value).natAbs)
    let a := lasted d.saf.invSince (!p.valid) t (cfgU d 0x2C 2 * 1000)
    let b := lasted d.saf.devSince dev t 200000
    let c := lasted d.saf.disSince dis t 200000
    let fz := if !p.valid then d.saf.frozen else (p.value :: d.saf.frozen).take 8
    let frozen := decide (100 < d.loops.traj.v.natAbs) && p.valid && frozenRun fz
    let d1 := modSaf (fun x => { x with invSince := a.1, devSince := b.1, disSince := c.1, frozen := fz }) d
    let bits := (if a.2 then [3] else []) ++ (if b.2 then [4] else []) ++ (if c.2 then [5] else []) ++ (if frozen then [6] else [])
    if bits.isEmpty then d1 else holdDrive (trip bits d1)

/-! ### Gauge re-check (R258) -/

/-- GAUGE_TABLE_DERIVE: the table is derived, and a differing verdict of Tussock trips. -/
def gaugeDeriveChecked (lane : Nat) (differs : Bool) (d : Dev) : Dev :=
  if !deriveDue d lane then d
  else
    let d1 := gaugeDerive lane d
    if differs then trip [cGauge] d1 else d1

end Sys2Proof.Machine
end

