-- ==== Sys2Proof/Machine/Fields.lean ====
section
/-!
DEFINITION. Tussock's checks on the ranging path and protective fields: reference blocks (R256), point tags (R257),
field evaluation (R259 to R261) and the choice of the field set (R263).
-/
namespace Sys2Proof.Machine

/-! ### Reference blocks (R256) -/

/-- The rows a dwell contributes with, enabled and received. -/
def blockRows (p : Plan) (w : Work) : List Nat :=
  (List.range 128).filter (fun r => rowEnabled p r && rowReceived w.z w.col r)

/-- A row's sums grow by one dwell. -/
def addRow (d : Dev) (w : Work) (row : Nat) (s : RowSum) : RowSum :=
  let chans := chansOfRow w.z w.col row
  let recs := (chans.filterMap (recOfChan w)).filter (fun r => !r.dark)
  let rate (p : Nat) : Frac := let c := calGet d p; fracMk c.castOn.n c.castOnShots
  { refs := s.refs + (recs.map (·.refs)).sum,
    expected := recs.foldl (fun e r => fracAdd e (fracMul (fracN w.z.shots) (rate r.lane))) s.expected,
    lanes := s.lanes + recs.length, all := s.all + chans.length }

/-- Reference-blind: fewer than 1/8 of the expected counts, or fewer than half of the lanes. -/
def rowBlind (s : RowSum) : Bool := fracLt (fracN (8 * s.refs)) s.expected || decide (2 * s.lanes < s.all)

/-- Close the block in progress: its verdict over the dwells it held. -/
def closeBlock (d : Dev) : Dev :=
  match d.saf.block with
  | none => d
  | some b =>
    let blind := maskOf ((b.rows.filter (fun e => rowBlind e.2)).map (·.1))
    let d1 := modSaf (fun s => { s with
      block := none, verdicts := s.verdicts ++ [(b.first, b.first + b.count - 1, blind)] }) d
    if blind = 0 then d1 else raise 540 0 [] d1

/-- A dwell just ended while RUNNING joins its block; the block ends after 64 dwells, after 2 ms, or with the sweep. -/
def blockDwell (w : Work) (sweepEnds : Bool) (d : Dev) : Dev :=
  let b := d.saf.block.getD ⟨tussNow d - dwellLen w.z, w.dwellNo, 0, []⟩
  let b1 : RefBlock := { b with
    count := b.count + 1
    rows := (blockRows d.seq.plan w).foldl (fun t r => tabMod RowSum.none t r (addRow d w r)) b.rows }
  let d1 := modSaf (fun s => { s with block := some b1 }) d
  if sweepEnds || decide (64 ≤ b1.count) || decide (b1.start + 2000000 ≤ tussNow d) then closeBlock d1 else d1

/-! ### Polygons (R260) -/

/-- The vertices of a field record as azimuth in 1/256 mdeg and range in 0.5 mm. -/
def fieldVerts (f : Bytes) : List (Int × Int) :=
  (List.range (rdU f 7 1)).map (fun i => (rdS f (0x10 + 8 * i) 4 * 256, (rdU f (0x14 + 8 * i) 4 : Int) * 2))

/-- The edges of a closed polygon. -/
def edges (vs : List (Int × Int)) : List ((Int × Int) × (Int × Int)) :=
  match vs with
  | [] => []
  | v :: rest => vs.zip (rest ++ [v])

def cross (a b p : Int × Int) : Int := (b.1 - a.1) * (p.2 - a.2) - (b.2 - a.2) * (p.1 - a.1)

def onEdge (p : Int × Int) (e : (Int × Int) × (Int × Int)) : Bool :=
  decide (cross e.1 e.2 p = 0 ∧ min e.1.1 e.2.1 ≤ p.1 ∧ p.1 ≤ max e.1.1 e.2.1 ∧ min e.1.2 e.2.2 ≤ p.2 ∧ p.2 ≤ max e.1.2 e.2.2)

/-- An edge crosses the ray from a point toward greater azimuth. -/
def crossesRay (p : Int × Int) (e : (Int × Int) × (Int × Int)) : Bool :=
  (decide (p.2 < e.1.2) != decide (p.2 < e.2.2)) &&
    (if e.1.2 < e.2.2 then decide (0 < cross e.1 e.2 p) else decide (cross e.1 e.2 p < 0))

/-- Inside or on the boundary. -/
def inPolygon (vs : List (Int × Int)) (p : Int × Int) : Bool :=
  (edges vs).any (onEdge p) || ((edges vs).filter (crossesRay p)).length % 2 == 1

/-- Two edges meet. -/
def edgesMeet (a b : (Int × Int) × (Int × Int)) : Bool :=
  let s (x : Int) : Int := if x < 0 then -1 else if 0 < x then 1 else 0
  let p := s (cross a.1 a.2 b.1) * s (cross a.1 a.2 b.2)
  let q := s (cross b.1 b.2 a.1) * s (cross b.1 b.2 a.2)
  (decide (p < 0 ∧ q < 0)) || onEdge b.1 a || onEdge b.2 a || onEdge a.1 b || onEdge a.2 b

/-- Twice the signed area. -/
def area2 (vs : List (Int × Int)) : Int := ((edges vs).map (fun e => e.1.1 * e.2.2 - e.2.1 * e.1.2)).sum

/-- Simple: edges that are not neighbours do not meet, neighbours meet in their vertex alone; non-zero area. -/
def simplePolygon (vs : List (Int × Int)) : Bool :=
  let es := edges vs
  let n := es.length
  let e (i : Nat) := es.getD i ((0, 0), (0, 0))
  area2 vs != 0 && (List.range n).all (fun i => (e i).1 != (e i).2) &&
    (List.range n).all (fun i => (List.range n).all (fun j =>
      if i = j then true
      else if j = (i + 1) % n then !onEdge (e j).2 (e i) && !onEdge (e i).1 (e j)
      else if i = (j + 1) % n then true
      else !edgesMeet (e i) (e j)))

/-! ### Fields (R259 to R261) -/

/-- A field record of the committed configuration. -/
def fieldRec (d : Dev) (k : Nat) : Bytes :=
  match d.saf.committed with
  | some b => slice b (0x400 + 144 * k) 144
  | none => []

/-- The field index at a place of a set; 0xFF empty. -/
def setPlace (d : Dev) (set place : Nat) : Nat :=
  match d.saf.committed with
  | some b => rdU b (0x200 + 4 * set + place) 1
  | none => 0xFF

/-- A return violates a field. -/
def retViolates (f : Bytes) (az : Int) (row : Nat) (r : Ret) : Bool :=
  bit (rdU f 0 2) (row / 8) && decide (rdU f 5 1 ≤ r.conf) && (!r.veil || bit (rdU f 6 1) 0) &&
    inPolygon (fieldVerts f) (az, r.range)

/-- The azimuth lies within the polygon's extent. -/
def inExtent (f : Bytes) (az : Int) : Bool :=
  let xs := (fieldVerts f).map (·.1)
  xs.any (fun x => decide (x ≤ az)) && xs.any (fun x => decide (az ≤ x))

/-- A point violates a field as a blind point, an invalid record or one made blind, or by any of its returns. -/
def pointViolates (f : Bytes) (az : Int) (blind : Bool) (p : Pt) : Bool :=
  ((blind || p.invalid) && !bit (rdU f 6 1) 1 && bit (rdU f 0 2) (p.row / 8) && inExtent f az) ||
    p.rets.any (retViolates f az p.row)

/-- Count violating points into a field's run; entry at the moment min_points is reached in the N-th frame (R261). -/
def runAdd (f : Bytes) (n : Nat) (r : FieldRun) : FieldRun :=
  let c := r.count + n
  let hit := r.hit || decide (rdU f 4 1 ≤ c ∧ 0 < n)
  { r with count := c, hit := hit, violated := r.violated || (hit && decide (rdU f 3 1 ≤ r.runs + 1)) }

/-- Evaluate a dwell's points against one set's fields. -/
def evalSet (d : Dev) (set : Nat) (az : Int) (blind : Pt → Bool) (pts : List Pt) (runs : List FieldRun) : List FieldRun :=
  (List.range 4).map (fun i =>
    let r := runs.getD i FieldRun.clear
    let k := setPlace d set i
    if k = 0xFF then r
    else let f := fieldRec d k; runAdd f ((pts.filter (fun p => pointViolates f az (blind p) p)).length) r)

/-- Events of the active set's fields that changed VIOLATED. -/
def noteFields (before : List FieldRun) (d : Dev) : Dev :=
  (List.range 4).foldl (fun d i =>
    if (before.getD i FieldRun.clear).violated != (d.saf.fields.getD i FieldRun.clear).violated then raise (536 + i) 0 [] d else d) d

/-- The verdict over a dwell, once its block is judged. -/
def verdictOf (d : Dev) (n : Nat) : Option Nat :=
  (d.saf.verdicts.find? (fun v => decide (v.1 ≤ n ∧ n ≤ v.2.1))).map (fun v => v.2.2)

/-- Evaluate one held dwell with its blind rows. -/
def evalDwell (h : HeldDwell) (rows : Nat) (d : Dev) : Dev :=
  let az := colAzimuth (aMaxDev d) d.seq.plan h.col
  let blind (p : Pt) : Bool := h.blind || bit rows p.row
  let before := d.saf.fields
  let d1 := match d.saf.set with
    | some s => modSaf (fun x => { x with fields := evalSet d s az blind h.points x.fields }) d
    | none => d
  let d2 := match d.saf.oldSet with
    | some s => modSaf (fun x => { x with oldFields := evalSet d s az blind h.points x.oldFields }) d1
    | none => d1
  noteFields before d2

/-- Evaluate the held dwells whose block is judged, in order. -/
def evalHeld : Nat → Dev → Dev
  | 0, d => d
  | n + 1, d =>
    match d.saf.held with
    | [] => d
    | h :: hs =>
      match verdictOf d h.dwellNo with
      | none => d
      | some rows => evalHeld n (evalDwell h rows (modSaf (fun s => { s with
          held := hs, verdicts := s.verdicts.filter (fun v => decide (h.dwellNo ≤ v.2.1)) }) d))

def evalReady (d : Dev) : Dev := evalHeld d.saf.held.length d

/-- The bytes of a dwell's record block: 16 a record, one record at least a point. -/
def recordBlockLen (pts : List Pt) : Nat := 16 * (pts.map (fun p => max 1 p.rets.length)).sum

/-- POINT_TAG_CHECK: the oldest formatted dwell, with what differs in its record block and in its tag from what the formatter formed. The tag
is H(0, dwell number, records); a mismatch or a skipped number makes the dwell blind and is counted, four in a frame trip (R257, R285). -/
def tagCheck (flips : List (Nat × Nat)) (tagXor : Nat) (d : Dev) : Dev :=
  match d.pts.evalDwells with
  | [] => d
  | e :: rest =>
    let skip := match d.saf.lastDwell with
      | some n => wrapU 32 (n + 1) != e.1
      | none => false
    let bad := hookDiffers 0 0 e.1 (recordBlockLen e.2.2) flips tagXor || skip
    let d1 := modSaf (fun s => { s with
      lastDwell := some e.1, tagBad := s.tagBad + (if bad then 1 else 0), held := s.held ++ [⟨e.1, e.2.1, bad, e.2.2⟩] })
      (modPts (fun p => { p with evalDwells := rest }) d)
    let d2 := if bad then raise 541 0 [] d1 else d1
    let d3 := if bad && d2.saf.tagBad == 4 then trip [cTag] d2 else d2
    evalReady d3

/-! ### The frame tick (R261, R263) -/

/-- A field at the end of a frame. -/
def runFrame (r : FieldRun) : FieldRun :=
  { count := 0, hit := false, runs := if r.hit then r.runs + 1 else 0, violated := r.violated && r.hit }

/-- Fields that were not violated leave VIOLATED; the old set's evaluation ends. -/
def fieldsFrame (d : Dev) : Dev :=
  let before := d.saf.fields
  noteFields before (modSaf (fun s => { s with
    fields := s.fields.map runFrame, oldSet := none, oldFields := [], missing := 0, tagBad := 0 }) d)

/-- At each START every field begins VIOLATED. -/
def fieldsStart (d : Dev) : Dev :=
  noteFields d.saf.fields (modSaf (fun s => { s with
    fields := (List.range 4).map (fun i => { FieldRun.clear with
      violated := match s.set with
        | some k => setPlace d k i != 0xFF
        | none => false }), held := [], verdicts := [], block := none, lastDwell := none }) d)

/-- A safety input as configured: function and test source. -/
def inFunction (d : Dev) (i : Nat) : Nat := cfgU d (0x40 + 8 * i) 1
def inSource (d : Dev) (i : Nat) : Nat := cfgU d (0x41 + 8 * i) 1
def inPairing (d : Dev) (i : Nat) : Nat := cfgU d (0x42 + 8 * i) 1
def safeIn (d : Dev) (i : Nat) : SafeIn := d.saf.inputs.getD i SafeIn.reset
def inFaulty (d : Dev) (i : Nat) : Bool := (safeIn d i).fault || (safeIn d i).pairFault

/-- A filtered input; a faulty one reads low, the demand (R266). -/
def inLevel (d : Dev) (i : Nat) : Bool := (safeIn d i).filt && !inFaulty d i

/-- The function of an input is at demand: low, or high for the second of an antivalent pair. -/
def inDemand (d : Dev) (i : Nat) : Bool :=
  inFaulty d i || (if inPairing d i = 2 ∧ i % 2 = 1 then (safeIn d i).filt else !(safeIn d i).filt)

/-- The code taken at the frame tick: none where it is invalid. -/
def setCode (d : Dev) : Option Nat :=
  let code : Option Nat :=
    match cfgU d 0x34 1 with
    | 0 => some (cfgU d 0x35 1)
    | 1 =>
      let ins := (List.range 8).filter (fun i => decide (3 ≤ inFunction d i))
      if ins.any (inFaulty d) then none
      else some (maskOf ((ins.filter (inLevel d)).map (fun i => inFunction d i - 3)))
    | _ =>
      match (List.range 8).find? (fun c => cfgU d (0x100 + 32 * c + 0x0D) 1 == 1) with
      | none => none
      | some c =>
        let x := d.hst.conns.getD c Conn.closed
        if x.state == .run && x.set != 0xFF then some x.set else none
  match d.saf.committed, code with
  | some b, some k => if k < 16 ∧ bit (rdU b 0x36 2) k then some k else none
  | _, _ => none

/-- FIELD_SET_SELECT: the code applies; in the first frame after a change the old set is evaluated too. An invalid code raises
519 whenever one is taken, once a configuration says what is chosen (R275). -/
def selectSet (d : Dev) : Dev :=
  let k := setCode d
  if k = d.saf.set then (if k.isNone && d.saf.committed.isSome then raise 519 0 [] d else d)
  else raise 519 0 [] (modSaf (fun s => { s with
    set := k, oldSet := s.set, oldFields := if s.set.isSome then s.fields else [],
    fields := List.replicate 4 FieldRun.clear }) d)

/-- A field mapped to an output is VIOLATED, in the active set or the old one. -/
def outViolated (d : Dev) (n : Nat) : Bool :=
  let one (set : Option Nat) (runs : List FieldRun) : Bool :=
    match set with
    | none => false
    | some s => (List.range 4).any (fun i => (runs.getD i FieldRun.clear).violated &&
        setPlace d s i != 0xFF && bit (rdU (fieldRec d (setPlace d s i)) 2 1) n)
  one d.saf.set d.saf.fields || one d.saf.oldSet d.saf.oldFields

/-- Bits of the active set's fields that are VIOLATED. -/
def violatedBits (d : Dev) : Nat :=
  maskOf ((List.range 4).filter (fun i => (d.saf.fields.getD i FieldRun.clear).violated))

end Sys2Proof.Machine
end

