-- ==== Sys2Proof/Machine/Outputs.lean ====
section
/-!
DEFINITION. Safety inputs and test pulses (R264 to R266), safety outputs and restart (R267, R268), the VSAFE monitor
(R474) and Tussock's health (R269, R272).
-/
namespace Sys2Proof.Machine

/-! ### Outputs (R267, R268, R293) -/

/-- Every HST condition mapped to an output holds (R293). -/
def hstPermits (d : Dev) (n : Nat) : Bool :=
  (List.range 8).all (fun c =>
    let x := d.hst.conns.getD c Conn.closed
    x.state == .closed || !bit (cfgU d (0x100 + 32 * c + 0x0B) 1) n || (x.state == .run && bit x.permit n))

/-- The conditions of an output but for its restart; debug scope 0x02 holds every output off (R382). -/
def outConditions (d : Dev) (n : Nat) : Bool :=
  d.sys.op == .running && !bit d.sec.scopes 1 && d.saf.committed.isSome && d.saf.set.isSome && !outViolated d n &&
    (List.range 8).all (fun i => inFunction d i != 1 || !inDemand d i) && !(safeOut d n).locked && d.saf.vsafeOk && hstPermits d n

/-- Energise an output. -/
def energise (n : Nat) (d : Dev) : Dev :=
  if (safeOut d n).energised then d else raise (534 + n) 0 [] (modOut n (fun o => { o with energised := true }) d)

/-- Follow an output's conditions: de-energised as soon as one fails, the time they have held otherwise. -/
def followOut (n : Nat) (d : Dev) : Dev :=
  if outConditions d n then modOut n (fun o => { o with condSince := some (o.condSince.getD (tussNow d)) }) d
  else modOut n (fun o => { o with condSince := none, rise := none }) (deEnergise n d)

def followOuts (d : Dev) : Dev := followOut 1 (followOut 0 d)

/-- The restart delay of an automatic output, in ns. -/
def restartDelay (d : Dev) (n : Nat) : Nat := cfgU d (0x84 + 16 * n) 4 * 1000000
def restartAuto (d : Dev) (n : Nat) : Bool := cfgU d (0x80 + 16 * n) 1 == 1

/-- RESTART_DELAY_EXPIRY. -/
def restartExpiry (n : Nat) (d : Dev) : Dev :=
  if decide (2 ≤ n) || !restartAuto d n || (safeOut d n).energised || !outConditions d n then d
  else match (safeOut d n).condSince with
    | none => d
    | some t => energise n (advanceTuss (t + restartDelay d n) d)

/-- A restart input's edge for a manual output: high from 0.1 s to 5 s while the conditions held, then low. `since` is
when it went high. -/
def restartEdge (n : Nat) (since : Nat) (d : Dev) : Dev :=
  let t := tussNow d
  let held := match (safeOut d n).condSince with
    | some c => decide (c ≤ since)
    | none => false
  if !restartAuto d n && outConditions d n && held && decide (since + 100000000 ≤ t ∧ t ≤ since + 5000000000) then energise n d else d

/-- An output's restart input followed: its rise noted, its falling edge acted on. -/
def followRestart (n : Nat) (d : Dev) : Dev :=
  let i := cfgU d (0x81 + 16 * n) 1
  if 8 ≤ i || restartAuto d n || inFunction d i != 2 then d
  else if inLevel d i then modOut n (fun o => { o with rise := some (o.rise.getD (tussNow d)) }) d
  else match (safeOut d n).rise with
    | none => d
    | some t => modOut n (fun o => { o with rise := none }) (restartEdge n t d)

/-! ### Test pulses (R265) -/

/-- The next place of TPk in the 20 ms cycle. -/
def pulsePlace (t k : Nat) : Nat :=
  let into := (t + 20000000 - 5000000 * k) % 20000000
  if into = 0 then t else t + (20000000 - into)

/-- TEST_PULSE: TPk drops low; its own readback (0 low) judges it. -/
def testPulse (k readback : Nat) (d : Dev) : Dev :=
  if !ticking d || decide (4 ≤ k) then d
  else
    let t := pulsePlace (tussNow d) k
    let fault := decide (readback ≠ 0)
    let d1 := advanceTuss t (modSaf (fun s => { s with
      pulses := listMod s.pulses k (fun _ => some t), tpFault := putBit s.tpFault k fault,
      inputs := s.inputs.map (fun x => { x with judged := false }) }) d)
    if fault && !bit d.saf.tpFault k then raise (528 + k) 0 [] d1 else d1

/-! ### Inputs (R264 to R266) -/

/-- The start of the pulse in progress on an input's source, if a sample at `t` falls in it or up to 1 ms after it. -/
def ownPulse (d : Dev) (i t : Nat) : Option Nat :=
  let s := inSource d i
  if s = 0 then none
  else match d.saf.pulses.getD (s - 1) none with
    | some p => if p ≤ t ∧ t < p + 1400000 then some p else none
    | none => none

/-- One sample of an input: outside its own pulses it is filtered; at 300 µs into a pulse a high input must read low. -/
def sampleIn (d : Dev) (t i : Nat) (level : Bool) : SafeIn :=
  let x := safeIn d i
  match ownPulse d i t with
  | some p =>
    if x.judged || t < p + 300000 || p + 400000 ≤ t then x
    else if !x.filt then { x with judged := true }
    else if level then { x with judged := true, missed := x.missed + 1 }
    else { x with judged := true, missed := 0, pulseSeen := true }
  | none =>
    let since := if level = x.filt then t else x.since
    let flip := level != x.filt && decide (since + cfgU d (0x43 + 8 * i) 1 * 1000000 ≤ t)
    { x with raw := level, since := if flip then t else since, filt := if flip then level else x.filt }

/-- An input's own fault (R266): entered on two missed pulses or a fault of its source, left after low and then high
again with its pulses seen. An input in its pair's fault is followed in the same way. -/
def faultIn (d : Dev) (i : Nat) (x : SafeIn) : SafeIn :=
  let s := inSource d i
  let tp := s != 0 && bit d.saf.tpFault (s - 1)
  if decide (2 ≤ x.missed) || tp then
    { x with fault := true, sawLow := false, pulseSeen := false, again := false, missed := if tp then x.missed else 0 }
  else if x.fault || x.pairFault then
    if !x.filt then { x with sawLow := true, pulseSeen := false }
    else if x.sawLow && (s == 0 || x.pulseSeen) then { x with fault := false, again := true } else x
  else x

/-- A pair's relation holds. DEDUCED (assumption log, entry 49). -/
def pairOk (d : Dev) (k : Nat) : Bool :=
  let a := (safeIn d (2 * k)).filt
  let b := (safeIn d (2 * k + 1)).filt
  match inPairing d (2 * k) with
  | 1 => a == b
  | 2 => a != b
  | _ => true

/-- A pair's discrepancy (R266): a fault of both beyond its time, left when its relation holds, both have read low together and
each has read low and then high again with its pulses seen. -/
def pairStep (t : Nat) (d : Dev) (k : Nat) : Dev :=
  let ok := pairOk d k
  let since := d.saf.disc.getD k none
  let start := since.getD t
  let late := !ok && decide (start + cfgU d (0x44 + 16 * k) 2 * 1000000 < t)
  let a := safeIn d (2 * k)
  let b := safeIn d (2 * k + 1)
  let low := !a.filt && !b.filt
  let clear := ok && (a.pairLow || low) && a.again && b.again
  let put (x : SafeIn) : SafeIn :=
    if x.pairFault then { x with pairFault := !clear, pairLow := x.pairLow || low }
    else if late then { x with pairFault := true, pairLow := low, sawLow := !x.filt, pulseSeen := false, again := false }
    else x
  modSaf (fun s => { s with
    disc := listMod s.disc k (fun _ => if ok then none else some start),
    inputs := listMod (listMod s.inputs (2 * k) put) (2 * k + 1) put }) d

/-- Events of inputs whose fault changed. -/
def noteInputs (before d : Dev) : Dev :=
  (List.range 8).foldl (fun d i => if inFaulty before i != inFaulty d i then raise (520 + i) 0 [] d else d) d

/-- SAFETY_INPUT_SAMPLE: the levels of SIN0 to SIN7, 50 µs after the sample before. -/
def inputSample (levels : Nat) (d : Dev) : Dev :=
  if !ticking d then d
  else
    let t := max (tussNow d) (d.saf.sampleAt + 50000)
    let d0 := advanceTuss t (modSaf (fun s => { s with sampleAt := t }) d)
    let d1 := modSaf (fun s => { s with
      inputs := (List.range 8).map (fun i => faultIn d0 i (sampleIn d0 t i (bit levels i))) }) d0
    let d2 := (List.range 4).foldl (pairStep t) d1
    followRestart 1 (followRestart 0 (followOuts (noteInputs d d2)))

/-! ### VSAFE (R474) and health (R272) -/

/-- VSAFE_JUDGEMENT_CHANGE: the monitor's judgement, which the limits of R474 fix outside the two open bands. -/
def vsafeChange (ok : Bool) (mv : Nat) (d : Dev) : Dev :=
  let must := decide (17000 ≤ mv ∧ mv ≤ 29700)
  let never := decide (mv < 16800 ∨ 30000 < mv)
  let j := must || (ok && !never)
  let d1 := modSaf (fun s => { s with vsafeOk := j, vsafeMv := satU 16 mv }) d
  if d.sys.inReset || j == d.saf.vsafeOk then d1 else raise 543 0 [] d1

/-- The present trip-cause word (R269): the causes still true. -/
def presentWord (d : Dev) : Nat :=
  flag (d.saf.tagBad ≥ 4) cTag + flag (d.saf.missing ≥ 8) cReport + flag d.saf.clockPresent cClock +
    flag (d.saf.railFail != 0) cRail + flag (anyAbove d 100) cLimit

/-- Tussock is healthy (R272). -/
def healthy (d : Dev) : Bool :=
  d.saf.tested && presentWord d == 0 && d.saf.vsafeOk && d.saf.committed.isSome

end Sys2Proof.Machine
end

