-- ==== Sys2Proof/Machine/Hst.lean ====
section
/-!
DEFINITION. Hook A (R280 to R285) and Hahild Safe Transport: messages, connections, sending,
the receive tests, watchdogs, counters and events (R287 to R296).
-/
namespace Sys2Proof.Machine

/-! ### Hook A (R281 to R284) -/

/-- The scan regions: base and size. -/
def hookRegions : List (Nat × Nat) := [(0, 6291456), (0x10000000, 33554432), (0x20000000, 4194304)]

/-- A job is valid. -/
def hookJobOk (addr len : Nat) : Bool :=
  addr % 8 == 0 && len % 8 == 0 && decide (8 ≤ len ∧ len ≤ 67108864) &&
    hookRegions.any (fun r => decide (r.1 ≤ addr ∧ addr + len ≤ r.1 + r.2))

/-- The host result record as read (40 bytes). -/
def hookBytes (h : HookRec) : Bytes :=
  le 4 h.job ++ le 4 h.check ++ le 4 h.addr ++ le 4 h.length ++ le 4 h.a ++ le 4 h.s ++ le 2 h.status ++ le 2 h.corrected ++
    zeros 4 ++ le 8 h.tEnd

/-- End the job that runs: its record, then its command. -/
def hookEnd (status check corrected : Nat) (d : Dev) : Dev :=
  match d.hst.hook.run with
  | none => d
  | some r =>
    let h := { d.hst.hook with status := status, check := check, corrected := satU 16 corrected, tEnd := d.sys.now, run := none }
    let d1 := modHst (fun x => { x with hook := h }) d
    match findTag d1 r.1 r.2 with
    | some c => finishRunning c status (if status = stAborted then [] else hookBytes h) d1
    | none => d1

/-- The bytes of a store range from `off` on: what its segments hold, and `m` where they hold nothing. -/
def storeBytes (d : Dev) (off : Nat) (m : Bytes) : Bytes :=
  (List.range 8).foldl (fun m i =>
    let base := i * peatSegSize d
    let e := (((peatSegGet d i).entries.flatten).drop (off - base)).take (m.length - (base - off))
    if e.isEmpty then m else m.take (base - off) ++ e ++ m.drop (base - off + e.length)) m

/-- What a job reads of a range: the Peat store as the segments hold it, every other byte as it stands in memory. -/
def hookReads (d : Dev) (addr : Nat) (data : Bytes) : Bytes :=
  if 0x10000000 ≤ addr ∧ addr < 0x12000000 then storeBytes d (addr - 0x10000000) data else data

/-- A word of the range is known to be bad (R470). -/
def hookBadWord (d : Dev) (addr len : Nat) : Bool :=
  d.peat.badWords.any (fun w => decide (addr ≤ 0x10000000 + w ∧ 0x10000000 + w < addr + len))

/-- HOOK_A_JOB_COMPLETE: the range's bytes as the engine read them, exactly the job's length; an uncorrectable error ends the job
with HW_FAULT. Bytes of another length end no job. -/
def hookComplete (corrected : Nat) (bad : Bool) (data : Bytes) (d : Dev) : Dev :=
  let h := d.hst.hook
  if bad || hookBadWord d h.addr h.length then hookEnd stHwFault h.check corrected d
  else if data.length ≠ h.length then d
  else hookEnd stOk (hookCheck h.a h.s (hookReads d h.addr data)) corrected d

/-- FIRMWARE_SCRUB_BLOCK: a block of 4 KiB, read at `readAt`, with what differs in it from the image verified; its check folds the block's
address and the image version. A mismatch halts; the last block of a round counts the round. -/
def scrubFirmware (last : Bool) (block readAt : Nat) (flips : List (Nat × Nat)) (d : Dev) : Dev :=
  if !d.sys.firmware || d.sys.op == .halted then d
  else if hookDiffers (4096 * block) (4096 * readAt) d.sec.app.version 4096 flips 0 then halt 4 d
  else if last then modEv (fun e => { e with fwRounds := incSat 32 e.fwRounds }) d
  else d

/-! ### Connections (R288, R289) -/

def connGet (d : Dev) (c : Nat) : Conn := d.hst.conns.getD c Conn.closed
def modConn (c : Nat) (f : Conn → Conn) (d : Dev) : Dev :=
  modHst (fun h => { h with conns := listMod h.conns c f }) d

/-- A field of a connection's entry in the committed configuration. -/
def connCfg (d : Dev) (c off k : Nat) : Nat := cfgU d (0x100 + 32 * c + off) k
def connWd (d : Dev) (c : Nat) : Nat := connCfg d c 4 2 * 1000000

/-- HST runs: after cast-on, until HALTED (R30), unless debug scope 0x02 holds it closed (R382). -/
def hstServes (d : Dev) : Bool := d.sys.op != .castOn && d.sys.op != .halted && !bit d.sec.scopes 1

/-- A lifetime counter of a connection; its saturation raises the check-failure event once. -/
def connCount (c i k : Nat) (d : Dev) : Dev :=
  let v := (connGet d c).counters.getD i 0
  let d1 := modConn c (fun x => { x with counters := listMod x.counters i (fun v => satU 32 (v + k)) }) d
  if v < 2 ^ 32 - 1 ∧ 2 ^ 32 - 1 ≤ v + k then raiseSaturated (578 + 4 * c) (200 + 8 * c + i) d1 else d1

/-- Enter START: a fresh sequence number from the jitter source, nothing known of the partner, the first SYNC due at once. PERMIT and
SET stay those of the latest accepted data (R295). -/
def connStart (c : Nat) (d : Dev) : Dev :=
  let d1 := modConn c (fun x => { x with
    state := .start, txSeq := wrapU 32 (Config.jitter d.drawn), rxSeq := none, echo := 0, stamps := [],
    fails := [], cycleAt := tussNow d, sent := [], rise := [none, none] }) d
  followOuts (draw d1)

/-- Enter FAULT with a cause (R292). -/
def connFault (c cause : Nat) (d : Dev) : Dev :=
  followOuts (raise (577 + 4 * c) 0 (le 1 cause) (modConn c (fun x => { x with
    state := .fault, cause := cause, seen := true, faultAt := tussNow d, rise := [none, none] }) d))

/-- Every connection at a commit: omitted ones close, configured ones start; one in RUN goes through FAULT, cause
CONFIG. -/
def connCommit (c : Nat) (d : Dev) : Dev :=
  let d1 := if (connGet d c).state == .run then connFault c 6 d else d
  if connCfg d1 c 0 4 = 0 || bit d1.sec.scopes 1 then modConn c (fun x => { Conn.closed with
    cause := x.cause, seen := x.seen, permit := x.permit, set := x.set, counters := x.counters }) d1 else connStart c d1

/-! ### Sending (R287, R290) -/

/-- The stamp of Tussock's time base, µs. -/
def stampNow (d : Dev) : Nat := wrapU 32 (tussNow d / 1000)

/-- The device's safety data. -/
def hstData (d : Dev) : Bytes :=
  le 1 (opCode d.sys.op) ++ le 1 (maskOf ((List.range 2).filter (fun n => (safeOut d n).energised))) ++
    le 1 (d.saf.set.getD 0xFF) ++ le 1 (violatedBits d) ++
    le 1 (maskOf ((List.range 8).filter (fun i => (safeIn d i).filt))) ++ le 1 (maskOf ((List.range 8).filter (inFaulty d))) ++ zeros 2 ++
    le 4 d.saf.latched ++ le 4 d.seq.frame ++ le 4 (cfgU d 8 4) ++ le 4 d.saf.committedCheck ++ zeros 8

/-- An HST message. -/
def hstMessage (conn seq stamp echo type : Nat) (data : Bytes) : Bytes :=
  let m := le 4 conn ++ le 4 seq ++ le 4 stamp ++ le 4 echo ++ le 1 type ++ le 1 data.length ++ zeros 6 ++ fitTo 64 data
  m ++ le 4 (hookCheck conn seq m)

/-- The address bytes of a destination. -/
def destBytes (x : Dest) : Bytes := if x.family = 4 then x.addr.take 4 else x.addr

/-- Send one message on a connection: SYNC in START, DATA in RUN. -/
def connSend (c : Nat) (d : Dev) : Dev :=
  let x := connGet d c
  let sync := x.state == .start
  let data := if sync then [] else hstData d
  let t := stampNow d
  let m := hstMessage (connCfg d c 0 4) x.txSeq t (if sync then 0 else x.echo) (if sync then 2 else 1) data
  let d1 := connCount c 0 1 (modConn c (fun x => { x with
    txSeq := wrapU 32 (x.txSeq + 1), sent := data.take 4,
    stamps := (x.stamps ++ [(t, if sync then 2 else 1)]).filter (fun s => decide (wrapU 32 (t + 2 ^ 32 - s.1) ≤ connWd d c / 1000)) }) d)
  let peer := d.net.peers.getD c Dest.unset
  if peer.family = 0 then d1
  else queueMsg 0 ⟨1, m, destBytes peer, peer.port, 51200 + c, 0, 0⟩ d1

/-- HST_CYCLE_SEND. -/
def hstCycle (c : Nat) (d : Dev) : Dev :=
  let x := connGet d c
  if !hstServes d || !(x.state == .start || x.state == .run) || hookBWaits d then d
  else connSend c (modConn c (fun x => { x with cycleAt := x.cycleAt + connCfg d c 6 2 * 1000000 }) (advanceTuss x.cycleAt d))

/-- HST_CHANGE_SEND: in RUN, when the first four data bytes differ from those last sent, at most once per ms. -/
def hstChange (c : Nat) (d : Dev) : Dev :=
  let x := connGet d c
  if !hstServes d || x.state != .run || (hstData d).take 4 == x.sent || hookBWaits d then d
  else
    let d1 := advanceTuss (x.extraAt + 1000000) d
    connSend c (modConn c (fun x => { x with extraAt := tussNow d1 }) d1)

/-! ### Receiving (R291, R292) -/

/-- HST_DATAGRAM_ARRIVAL: the datagram's Hook B job is queued. -/
def hstArrival (c : Nat) (data : Bytes) (d : Dev) : Dev :=
  if !hstServes d || decide (8 ≤ c) then d else modHst (fun h => { h with jobs := h.jobs ++ [(c, data)] }) d

/-- Test 1: 92 bytes, a known type, a legal length, reserved and unused bytes zero. DEDUCED (assumption log, entry 50). -/
def hstForm (m : Bytes) : Bool :=
  let type := rdU m 0x10 1
  let len := rdU m 0x11 1
  m.length == 92 && (type == 1 || type == 2) && len == (if type = 1 then 8 else 0) && zeroAt m 0x12 6 &&
    zeroAt m (0x18 + len) (64 - len) && (type == 2 || zeroAt m 0x1B 5)

/-- A check failure: counted; in RUN a fault when crc_limit is reached within a watchdog interval. One in START causes no fault, then
or later. -/
def connCheckFail (c : Nat) (d : Dev) : Dev :=
  let t := tussNow d
  let d1 := raise (578 + 4 * c) 0 [] (connCount c 2 1 (modConn c (fun x => { x with
    fails := if x.state == .run then (t :: x.fails).filter (fun u => decide (t < u + connWd d c)) else [] }) d))
  let x := connGet d1 c
  if x.state == .run && decide (connCfg d1 c 9 1 ≤ x.fails.length) then connFault c 4 d1 else d1

/-- The restart bit of an output, sampled at an acceptance (R293). -/
def connRestart (c n : Nat) (on_ : Bool) (d : Dev) : Dev :=
  if !bit (connCfg d c 0x0C 1) n then d
  else
    let r := (connGet d c).rise.getD n none
    let put (v : Option Nat) : Dev → Dev := modConn c (fun x => { x with rise := listMod x.rise n (fun _ => v) })
    if on_ then put (some (r.getD (tussNow d))) d
    else match r with
      | none => d
      | some t => put none (restartEdge n t d)

/-- An accepted message (R291); on entering RUN the data's first four bytes count as sent (R290). -/
def connAccept (c : Nat) (m : Bytes) (lost : Nat) (d : Dev) : Dev :=
  let first := (connGet d c).state == .start
  let data := rdU m 0x10 1 == 1
  let d1 := connCount c 1 1 (modConn c (fun x => { x with
    state := .run, rxSeq := some (rdU m 4 4), echo := rdU m 8 4, acceptedAt := tussNow d,
    sent := if first then (hstData d).take 4 else x.sent,
    permit := if data then rdU m 0x18 1 % 4 else x.permit, set := if data then rdU m 0x19 1 else x.set }) d)
  let d2 := if first then raise (576 + 4 * c) 0 [] d1 else d1
  let d3 := if 0 < lost then raise (579 + 4 * c) 0 [] (connCount c 4 lost d2) else d2
  let d4 := followOuts d3
  if data then connRestart c 1 (bit (rdU m 0x1A 1) 1) (connRestart c 0 (bit (rdU m 0x1A 1) 0) d4) else d4

/-- The receive tests in order. At the watchdog's expiry the fault wins (R289). -/
def connReceive (c : Nat) (m : Bytes) (d : Dev) : Dev :=
  let x := connGet d c
  if !(x.state == .start || x.state == .run) then d
  else
    let run := x.state == .run
    let id := connCfg d c 0 4
    let seq := rdU m 4 4
    let echo := rdU m 0x0C 4
    let age := wrapU 32 (stampNow d + 2 ^ 32 - echo)
    let gap := wrapU 32 (seq + 2 ^ 33 - x.rxSeq.getD 0 - 1)
    let fresh := decide (age ≤ connWd d c / 1000) && x.stamps.any (fun s => s.1 == echo && (run || s.2 == 2))
    if run && decide (x.acceptedAt + connWd d c ≤ tussNow d) then connFault c 1 d
    else if !hstForm m then connCheckFail c d
    else if hookCheck id seq (m.take 88) ≠ rdU m 0x58 4 ∨ rdU m 0 4 ≠ id then connCheckFail c d
    else if run && !laterThan 32 seq (x.rxSeq.getD 0) then raise (579 + 4 * c) 0 [] (connCount c 3 1 d)
    else if run && decide (connCfg d c 8 1 < gap) then connFault c 3 d
    else if run && rdU m 0x10 1 == 2 then connFault c 5 d
    else if !fresh then (if run then connFault c 2 d else connCheckFail c d)
    else connAccept c m (if run then gap else 0) d

/-- HST_RECEIVE_CHECK: the oldest job ends; a waiting point tag goes before it (R286). -/
def hstReceive (d : Dev) : Dev :=
  match d.hst.jobs with
  | [] => d
  | j :: js =>
    if tagsWait d then d
    else
    let d1 := modHst (fun h => { h with jobs := js }) d
    if !hstServes d then d1 else connReceive j.1 j.2 d1

/-- HST_WATCHDOG_EXPIRY. -/
def hstWatchdog (c : Nat) (d : Dev) : Dev :=
  let x := connGet d c
  if !hstServes d || x.state != .run then d else connFault c 1 (advanceTuss (x.acceptedAt + connWd d c) d)

/-- HST_AUTO_RESTART. -/
def hstAuto (c : Nat) (d : Dev) : Dev :=
  let x := connGet d c
  if !hstServes d || x.state != .fault || connCfg d c 0x0A 1 != 1 then d
  else connStart c (advanceTuss (x.faultAt + connWd d c) d)

def hstStateCode (s : HstState) : Nat :=
  match s with
  | .closed => 0
  | .start => 1
  | .run => 2
  | .fault => 3

/-- A connection's status word (R295). -/
def connWord (x : Conn) : Nat :=
  hstStateCode x.state * 2 ^ 29 + x.cause * 2 ^ 26 + flag x.seen 25 + x.permit * 2 ^ 8 + x.set

end Sys2Proof.Machine
end

