-- ==== Sys2Proof/Machine/Cmds.lean ====
section
/-!
DEFINITION. The command cards: permission classes (R413, R364, R369), sessions (R399, R400, R401), lengths (R410), the
checks made when a command is taken (R404), and the shapes of a command's start: answered at once, staged, or accepted
and ended later (R394, R402, R411).
-/
namespace Sys2Proof.Machine

/-! ### Cards (R410 to R413, R429) -/

/-- A card: opcode, permission class (0 A, 1 B, 2 C), session (0 none, 1 required or staged, 2 as SYS_RESET) and the
fixed payload length; `none` where a formula gives it. -/
structure Card where
  op : Nat
  cls : Nat
  sess : Nat
  len : Option Nat
  deriving DecidableEq, Repr

/-- A get command's or another reader's card. -/
def cardRead (op len : Nat) : Card := ⟨op, 2, 0, some len⟩
def cardSess (op len : Nat) : Card := ⟨op, 2, 1, some len⟩

/-- System, session and attestation groups, ABORT and GET_STATUS (R405, R413). -/
def cardsA : List Card :=
  [⟨0x0100, 0, 0, some 0⟩, ⟨0x0101, 0, 0, some 0⟩, ⟨0x0102, 0, 2, some 4⟩, cardSess 0x0103 0, cardSess 0x0104 0, cardSess 0x0105 0,
   cardSess 0x0106 0, cardSess 0x0107 4, cardSess 0x0108 8, ⟨0x0110, 0, 0, some 4⟩, ⟨0x0111, 0, 0, some 4⟩,
   cardRead 0x0200 4, cardSess 0x0201 0, cardSess 0x0202 8, cardSess 0x0203 0, cardSess 0x0204 0,
   ⟨0x1200, 1, 0, some 0⟩, ⟨0x1201, 1, 1, some 52⟩, ⟨0x1202, 1, 0, some 484⟩, ⟨0x1203, 1, 0, some 32⟩, ⟨0x1204, 1, 1, some 4⟩,
   ⟨0x1205, 1, 1, none⟩]

/-- Plan, receive, time, point and repair groups. -/
def cardsB : List Card :=
  [⟨0x0300, 2, 1, none⟩, cardRead 0x0301 4, ⟨0x0302, 2, 0, none⟩, cardRead 0x0303 8, cardSess 0x0304 16, cardSess 0x0305 0,
   cardRead 0x0306 0, ⟨0x0400, 2, 1, none⟩, ⟨0x0401, 2, 0, none⟩, cardSess 0x0402 1088, cardRead 0x0403 4, cardRead 0x0404 8,
   cardRead 0x0405 8, cardRead 0x0406 4, cardSess 0x0407 4, ⟨0x0500, 2, 1, none⟩, ⟨0x0501, 2, 0, none⟩, cardSess 0x0502 4,
   cardRead 0x0503 0, ⟨0x0600, 2, 1, none⟩, ⟨0x0601, 2, 0, none⟩, cardSess 0x0602 272, cardRead 0x0603 0, cardRead 0x1100 8,
   ⟨0x1101, 2, 1, none⟩, cardSess 0x1102 4]

/-- Emitter, scanner, sense and loop groups. -/
def cardsC : List Card :=
  [⟨0x0700, 2, 1, none⟩, ⟨0x0701, 2, 0, none⟩, ⟨0x0702, 2, 1, none⟩, cardRead 0x0703 4, cardRead 0x0704 0, cardRead 0x0705 0,
   cardSess 0x0706 4, cardSess 0x0707 0, ⟨0x0800, 2, 1, none⟩, ⟨0x0801, 2, 0, none⟩, cardSess 0x0802 0, cardSess 0x0803 0,
   cardRead 0x0804 0, cardSess 0x0805 0, ⟨0x0900, 2, 1, none⟩, ⟨0x0901, 2, 0, none⟩, ⟨0x0902, 2, 1, none⟩, cardRead 0x0903 4,
   cardRead 0x0904 4, cardRead 0x0905 8, ⟨0x0A00, 2, 1, none⟩, ⟨0x0A01, 2, 0, none⟩, cardSess 0x0A02 132, cardRead 0x0A03 4,
   cardSess 0x0A04 8, cardRead 0x0A05 0, cardSess 0x0A06 4, cardSess 0x0A07 16, cardSess 0x0A08 4, cardRead 0x0A09 8]

/-- Stream, Peat, Hook, safety, network and diagnostic groups. -/
def cardsD : List Card :=
  [⟨0x0B00, 2, 1, none⟩, ⟨0x0B01, 2, 0, none⟩, ⟨0x0B02, 2, 1, none⟩, cardRead 0x0B03 8, cardSess 0x0B04 16, cardSess 0x0B05 4,
   cardSess 0x0B06 4, cardSess 0x0B07 4, cardRead 0x0B08 0, cardRead 0x0B09 0, cardSess 0x0B0A 4, cardSess 0x0C00 64,
   cardRead 0x0C01 0, cardSess 0x0C02 0, cardSess 0x0C03 0, cardRead 0x0C04 0, cardSess 0x0C05 12, cardSess 0x0C06 4, cardSess 0x0C07 0,
   cardSess 0x0D00 16, cardRead 0x0D01 0, ⟨0x0E00, 2, 1, none⟩, cardSess 0x0E01 8, cardRead 0x0E02 4, cardRead 0x0E03 0,
   cardSess 0x0E04 0, cardSess 0x0E05 0, cardSess 0x0E06 4, cardSess 0x0E07 4, cardRead 0x0E08 0, cardSess 0x0E09 4,
   ⟨0x0F00, 2, 1, none⟩, ⟨0x0F01, 2, 0, none⟩, cardSess 0x0F02 36, cardRead 0x0F03 0, cardSess 0x0F04 48, cardSess 0x0F05 4,
   cardSess 0x0F06 4, cardRead 0x0F07 0, cardSess 0x0F08 20, cardSess 0x0F09 20, cardSess 0x0F0A 4, cardSess 0x0F0B 0, cardRead 0x0F0C 0,
   cardRead 0x1000 12, cardRead 0x1001 8]

def cardsKmp : List Card := cardsA ++ cardsB ++ cardsC ++ cardsD

/-- The card of an opcode. -/
def cardOf (op : Nat) : Option Card := cardsKmp.find? (fun c => c.op == op)

/-- The ROM loader's opcodes and lengths (R371). -/
def romLen (op : Nat) : Option Nat :=
  if op = 0x01F0 then some 0 else if op = 0x01F1 then some 8 else if op = 0x01F2 then some 12 else if op = 0x01F3 then some 4 else none

/-- The lengths that a formula gives, by opcode. -/
def formulaOk (op : Nat) (p : Bytes) : Bool :=
  let n := rdU p 2 2
  let m := rdU p 0 2
  if op = 0x0300 ∨ op = 0x0302 then planLengthOk p
  else if op = 0x1205 then decide (64 ≤ p.length ∧ p.length ≤ 8192)
  else if op = 0x0702 then decide (4 ≤ p.length ∧ p.length = 4 + 2 * rdU p 1 1)
  else if op = 0x0902 then decide (4 ≤ p.length ∧ p.length = 4 + 4 * rdU p 1 1)
  else if op = 0x0B02 then decide (4 ≤ p.length ∧ p.length = 4 + 4 * n)
  else if op = 0x0E00 then decide (1024 ≤ p.length ∧ p.length = rdU p 0xC 4 ∧ p.length = 1024 + 144 * rdU p 6 2)
  else if op % 256 = 1 ∧ op ≠ 0x1101 then decide (4 ≤ p.length ∧ p.length = 4 + 2 * n)
  else decide (4 ≤ p.length ∧ p.length = 4 + 8 * m)

/-- Check 6 of R404. LOAD_CHUNK carries its data in the window behind its fields (R371). -/
def lengthOk (op : Nat) (p : Bytes) : Bool :=
  match romLen op with
  | some n => p.length == n
  | none =>
    match cardOf op with
    | some c =>
      (match c.len with
       | some n => p.length == n
       | none => formulaOk op p)
    | none => false

/-- The session stage of device life: from BOOT_STAGE 0x70 on, before HALTED (R413). -/
def inService (d : Dev) : Bool := d.sys.op != .castOn && d.sys.op != .halted

/-- Check 3 of R404 for the firmware, with R364 for the loader's opcodes. -/
def classStatus (d : Dev) (op cls : Nat) : Option Nat :=
  if op = 0x01F0 then none
  else if 0x01F1 ≤ op ∧ op ≤ 0x01F3 then some (if d.sys.op == .castOn then stBusy else stNotPermitted)
  else if d.sys.op == .halted then (if cls = 0 then none else some stNotPermitted)
  else if d.sys.op == .castOn then (if cls ≤ 1 then none else some stBusy)
  else none

/-- What the boot ROM answers: ROM_INFO always, the loader's opcodes in WAIT_IMAGE and VERIFY (R365, R369). -/
def romServes (d : Dev) (op : Nat) : Bool :=
  op == 0x01F0 || (decide (0x01F1 ≤ op ∧ op ≤ 0x01F3) && (d.sys.boot == 0x30 || d.sys.boot == 0x40))

/-- The card needs a session in the present state (R364, R399). -/
def sessionNeeded (d : Dev) (op : Nat) : Bool :=
  match cardOf op with
  | some c => c.sess == 1 || (c.sess == 2 && inService d)
  | none => false

/-- The command carries the session of its own mailbox. -/
def ownsSession (d : Dev) (c : Cmd) : Bool :=
  match d.kmp.session with
  | some s => s.ident == c.session && s.mb == c.mb
  | none => false

/-- Check 5 of R404 (R400, R401, R403). DEDUCED (assumption log, entry 14). -/
def sessionStatus (d : Dev) (c : Cmd) : Option Nat :=
  if c.op = 0x0200 then (if d.kmp.session.isSome then some stSessionHeld else none)
  else if !sessionNeeded d c.op then none
  else
    match d.kmp.session with
    | some s =>
      if s.ident = c.session ∧ s.mb = c.mb then (if s.deadline ≤ tussNow d then some stLeaseExpired else none)
      else if d.kmp.lastIds.contains c.session then some stLeaseExpired else some stNoSession
    | none => some (if d.kmp.lastIds.contains c.session then stLeaseExpired else stNoSession)

/-- A command carrying its session's identifier renews the lease when it is taken (R401). -/
def renewLease (c : Cmd) (d : Dev) : Dev :=
  if sessionNeeded d c.op && ownsSession d c then
    modKmp (fun k => { k with session := k.session.map (fun s =>
      if tussNow d < s.deadline then { s with deadline := tussNow d + s.lease * 1000000 } else s) }) d
  else d

/-- The header's reserved bits are zero and length and BULK agree (R394, R395); a UDP mailbox has no window. -/
def headerOk (mb : Nat) (header : Bytes) : Bool :=
  let len := rdU header 4 4
  let flags := rdU header 12 2
  decide (flags < 4) && zeroAt header 14 2 && decide (len ≤ 65536) &&
    (decide (2 ≤ mb) || (if bit flags 0 then len != 0 else decide (len ≤ 1008)))

/-- Commands taken and not final, ABORT and GET_STATUS apart (R397). -/
def outstanding (m : Mailbox) : Nat := ((m.waiting ++ m.running).filter (fun c => !overtakes c.op)).length

/-- Check 4 of R404: the tag is free and the mailbox takes more. -/
def tagStatus (m : Mailbox) (c : Cmd) : Option Nat :=
  if (m.waiting ++ m.running).any (fun x => x.tag == c.tag) then some stBadParam
  else if !overtakes c.op && decide (16 ≤ outstanding m) then some stBusy
  else none

/-- The first of several statuses. -/
def firstStatus : List (Option Nat) → Option Nat
  | [] => none
  | some s :: _ => some s
  | none :: r => firstStatus r

/-- Checks 1 to 6 of R404; `held` says that the bulk window belongs to another command (R395). -/
def takeStatus (d : Dev) (c : Cmd) (header : Bytes) (held : Bool) : Option Nat :=
  let m := mbGet d c.mb
  let rom := m.rom
  let known := if rom then romServes d c.op else (romLen c.op).isSome || (cardOf c.op).isSome
  let cls := match cardOf c.op with
    | some x => x.cls
    | none => 2
  firstStatus
    [if headerOk c.mb header then none else some stBadLength,
     if held && bit c.flags 0 then some stBusy else none,
     if known then none else some stBadOpcode,
     if rom then none else classStatus d c.op cls,
     tagStatus m c, sessionStatus d c,
     if lengthOk c.op c.payload then none else some stBadLength]

/-- A refused PLAN_CHECK still carries its report, of zeros (R420). DEDUCED (assumption log, entry 8). -/
def refusedPayload (c : Cmd) (status : Nat) : Bytes :=
  if c.op = 0x0302 ∧ status = stBadLength then zeros 36 else []

/-- A LOAD_END of the loader's port is taken: the stage is VERIFY while its component is checked (R362). -/
def verifyBegins (c : Cmd) (d : Dev) : Dev :=
  let port := if c.mb = 0 then 1 else 2
  let k := rdU c.payload 0 1
  if (mbGet d c.mb).rom && c.op == 0x01F3 && (d.sec.owner == 0 || d.sec.owner == port) && (k == 1 || k == 2) then
    modSys (fun y => { y with boot := 0x40 }) d
  else d

/-- Take a command: renew the lease, then refuse it or put it behind those that wait, with what it brings in the bulk
window besides its payload (R401, R404). DEDUCED (assumption log, entry 3). -/
def takeCmd (c : Cmd) (header more : Bytes) (held : Bool) (d : Dev) : Dev :=
  let st := takeStatus d c header held
  let d1 := renewLease c d
  match st with
  | some s => finish c s (refusedPayload c s) d1
  | none => verifyBegins c (modMb c.mb (fun m => { m with waiting := m.waiting ++ [{ c with payload := c.payload ++ more }] }) d1)

/-! ### Shapes of a start -/

/-- A command answered at once: its status, its payload and what it does. -/
def answer (op mb : Nat) (f : Cmd → Dev → Nat × Bytes × Dev) (d : Dev) : Dev :=
  startCmd op mb (fun c d => let r := f c d; finish c r.1 r.2.1 r.2.2) d

/-- A read: a status and a payload, and nothing else. -/
def reader (op mb : Nat) (f : Cmd → Dev → Nat × Bytes) (d : Dev) : Dev :=
  answer op mb (fun c d => let r := f c d; (r.1, r.2, d)) d

/-- An asynchronous command: refused by its own checks, or accepted and begun. -/
def launch (op mb : Nat) (check : Cmd → Dev → Option (Nat × Bytes)) (go : Cmd → Dev → Dev) (d : Dev) : Dev :=
  startCmd op mb (fun c d =>
    match check c d with
    | some r => finish c r.1 r.2 d
    | none => go c (accept c d)) d

/-- A command that stages: BUSY while a commit runs (R402), else its checks and its change of the staged set. -/
def stager (op mb : Nat) (f : Cmd → Dev → Nat × Bytes × ConfigSet) (d : Dev) : Dev :=
  answer op mb (fun c d =>
    if d.kmp.commit.isSome then (stBusy, [], d)
    else let r := f c d; (r.1, r.2.1, modKmp (fun k => { k with staged := r.2.2 }) d)) d

/-- The index response of a set or write command. -/
def indexRsp (i : Nat) : Bytes := le 2 i ++ zeros 2
def noIndex : Bytes := indexRsp 0xFFFF

/-- The first place of a list that fails a test. -/
def firstBad {α : Type} (l : List α) (ok : α → Bool) : Option Nat := l.findIdx? (fun x => !ok x)

end Sys2Proof.Machine
end

