-- ==== Sys2Proof/Machine/Staged.lean ====
section
/-!
DEFINITION. The check pass of a commit (R402): the configuration that would be in force, the checks in their order, and
the commit response (R417).
-/
namespace Sys2Proof.Machine

/-! ### The configuration that will be in force (R402) -/

/-- The parameters in force overlaid with staged ones. -/
def paramsWith (vals ovr : Tab Nat) : Tab Nat := ovr.foldl (fun t e => tabPut e.1 e.2 t) vals

/-- The parameters once every committed set has applied. -/
def paramsComing (d : Dev) : Tab Nat := d.prm.pending.foldl (fun t q => paramsWith t q.set.params) d.prm.vals

/-- The parameters that will be in force after a commit: committed settings not yet applied count as in force (R402; DEDUCED for
settings other than the plan, assumption log, entry 62). -/
def paramsAfter (d : Dev) (s : ConfigSet) : Tab Nat := paramsWith (paramsComing d) s.params

/-- The plan that will be in force: the latest committed plan not yet applied, else the plan in force (R53). -/
def planComing (d : Dev) : Plan := d.prm.pending.foldl (fun p q => q.set.plan.getD p) d.seq.plan

def planAfterSet (d : Dev) (s : ConfigSet) : Plan := s.plan.getD (planComing d)

/-- A segment's drive word with staged ones. -/
def driveWith (d : Dev) (s : ConfigSet) (n : Nat) : Nat := (tabFind s.drive n).getD (driveWord d n)

/-- A segment's drive word once every committed set has applied. -/
def driveComing (d : Dev) (n : Nat) : Nat := d.prm.pending.foldl (fun w q => (tabFind q.set.drive n).getD w) (driveWord d n)

/-- A segment's drive word after a commit. -/
def driveAfter (d : Dev) (s : ConfigSet) (n : Nat) : Nat := (tabFind s.drive n).getD (driveComing d n)

/-- A slot's record with staged ones, and after a commit. -/
def recWith (d : Dev) (s : ConfigSet) (n : Nat) : Bytes := (tabFind s.loops n).getD (loopRec d n)
def recAfter (d : Dev) (s : ConfigSet) (n : Nat) : Bytes :=
  (tabFind s.loops n).getD (d.prm.pending.foldl (fun r q => (tabFind q.set.loops n).getD r) (loopRec d n))

/-- An entry word with staged ones. -/
def entryWith (d : Dev) (s : ConfigSet) (e : Nat) : Nat := (tabFind s.entries e).getD (entryWord d e)

/-- The course a set's plan follows: the plan that will be in force before it, with the a_max that frame runs with. -/
def courseComing (d : Dev) : Course := ⟨aMaxOf (paramsComing d), planComing d⟩

/-! ### Loop checks (R206, R219) -/

/-- The end of each urgent conversion of a tick from `t` on, in the order of R206: a second of a pair as soon as it is due, from
`second` on, else the next of the others. -/
def urgentEnds (second : Nat) : Nat → List (Nat × Nat) → Nat → List (Nat × Nat)
  | 0, _, _ => []
  | n + 1, us, t =>
    let pairs := us.filter (fun u => u.2 == 1)
    let others := us.filter (fun u => u.2 != 1)
    match pairs, others with
    | [], [] => []
    | u :: _, [] => let e := max t second + 500; (u.1, e) :: urgentEnds second n (us.erase u) e
    | [], u :: _ => (u.1, t + 500) :: urgentEnds second n (us.erase u) (t + 500)
    | p :: _, o :: _ => let u := if second ≤ t then p else o; (u.1, t + 500) :: urgentEnds second n (us.erase u) (t + 500)

/-- The last end among a source's conversions. -/
def endOfSource (ends : List (Nat × Nat)) (s : Nat) : Nat := (ends.filter (fun e => e.1 == s)).foldl (fun m e => max m e.2) 0

/-- The Sedge sources of the conversions behind the angles, by angle mode. -/
def angleSources (mode : Nat) : List Nat :=
  if mode = 0 then [2, 3] else if mode = 1 then [2] else if mode = 2 then [0, 1] else if mode = 3 then [0] else [2, 0]

/-- When a slot's inputs are ready: both angles with the last conversion of either (R219, R207). -/
def slotReady (mode : Nat) (ends : List (Nat × Nat)) (r : Bytes) : Nat :=
  match rdU r 3 1 with
  | 1 | 2 => (angleSources mode).foldl (fun m s => max m (endOfSource ends s)) 0
  | 3 => endOfSource ends (rdU r 0 2)
  | _ => 0

/-- Compute the slots in turn, 150 ns each, the lowest index among the ready ones first; the completion of the last. -/
def slotSchedule : Nat → List (Nat × Nat) → Nat → Nat
  | 0, _, t => t
  | n + 1, slots, t =>
    match slots with
    | [] => t
    | s :: rest =>
      let ready := slots.filter (fun x => decide (x.2 ≤ t))
      match ready with
      | x :: _ => slotSchedule n (slots.filter (fun y => y.1 != x.1)) (t + 150)
      | [] => slotSchedule n slots (rest.foldl (fun m y => min m y.2) s.2)

/-- The urgent conversions and configured slots of a staged configuration, in ns from the tick. -/
def loopEnds (d : Dev) (s : ConfigSet) : List (Nat × Nat) :=
  let mode := paramIn (paramsAfter d s) 0x0804
  let extra := [12, 13, 14, 15].filterMap (fun n => loopUrgent (rdU (recAfter d s n) 0 4))
  let pf := if mode = 0 then 2 else if mode = 1 ∨ mode = 4 then 1 else 0
  let us := urgentOf mode extra
  urgentEnds (500 * pf + 2000) us.length us 0

/-- At most 8 urgent conversions, ending within 40 % of the tick period (R206). -/
def urgentFits (d : Dev) (s : ConfigSet) : Bool :=
  let ends := loopEnds d s
  let tick := paramIn (paramsAfter d s) 0x0A01 * 10
  decide (ends.length ≤ 8) && decide (5 * ends.foldl (fun m e => max m e.2) 0 ≤ 2 * tick)

/-- The last slot ends within 45 % of the tick period (R219); a slot counts while its record names an input. -/
def scheduleFits (d : Dev) (s : ConfigSet) : Bool :=
  let mode := paramIn (paramsAfter d s) 0x0804
  let tick := paramIn (paramsAfter d s) 0x0A01 * 10
  let ends := loopEnds d s
  let slots := ((List.range 16).filter (fun n => rdU (recAfter d s n) 3 1 != 0)).map (fun n => (n, slotReady mode ends (recAfter d s n)))
  decide (20 * slotSchedule 40 slots 0 ≤ 9 * tick)

/-! ### The check pass (R402, R431, R438) -/

/-- How a check ends a commit: status, failed opcode, reason and zone. -/
structure Verdict where
  status : Nat
  failed : Nat
  reason : Nat
  zone : Nat
  deriving DecidableEq, Repr

def Verdict.ok : Verdict := ⟨stOk, 0, 0, 0xFF⟩

/-- A staged parameter is listed. -/
def staged (s : ConfigSet) (id : Nat) : Bool := (tabFind s.params id).isSome

/-- Settings accepted only in READY (step 1). -/
def checkReady (d : Dev) (s : ConfigSet) : Option Verdict :=
  if d.sys.op == .ready then none
  else if s.params.any (fun e => paramReadyOnly e.1) then some ⟨stNotPermitted, 0x0800, 0, 0xFF⟩
  else if s.pools.isSome then some ⟨stNotPermitted, 0x0B04, 0, 0xFF⟩
  else none

/-- Check 10 of R50 for a plan with staged drive words. -/
def budgetFits (d : Dev) (s : ConfigSet) (p : Plan) : Bool :=
  (predictPlan (aMaxOf (paramsAfter d s)) (planEnv (paramsAfter d s)).tick d.saf.committed (driveAfter d s) (segOfRow d) p).2

def budgetZone (d : Dev) (s : ConfigSet) (p : Plan) : Nat :=
  predictZone (aMaxOf (paramsAfter d s)) (planEnv (paramsAfter d s)).tick d.saf.committed (driveAfter d s) (segOfRow d) p

/-- A staged plan (step 2). -/
def checkPlan (d : Dev) (s : ConfigSet) : Option Verdict :=
  match s.plan with
  | none => none
  | some p =>
    match planChecks19 (planEnv (paramsAfter d s)) (courseComing d) p with
    | some r => some ⟨stInfeasible, 0x0300, r.1, r.2⟩
    | none => if budgetFits d s p then none else some ⟨stBudget, 0x0300, 10, budgetZone d s p⟩

/-- A staged tick period, then staged scanner limits, without a plan (step 3). The plan that will be in force follows
itself. -/
def checkLimits (d : Dev) (s : ConfigSet) : Option Verdict :=
  if s.plan.isSome then none
  else
    let p := planComing d
    let e := planEnv (paramsAfter d s)
    if staged s 0x0A01 && p.period % e.tick != 0 then some ⟨stInfeasible, 0x0A00, 0, 0xFF⟩
    else if [0x0805, 0x0806, 0x0807].any (staged s) then
      match planChecks49 e (courseComing d) p with
      | some r => some ⟨stInfeasible, 0x0800, r.1, r.2⟩
      | none => none
    else none

/-- The loop checks (step 4). -/
def checkLoops (d : Dev) (s : ConfigSet) : Option Verdict :=
  if s.loops.isEmpty && !staged s 0x0A01 && !staged s 0x0804 then none
  else if urgentFits d s && scheduleFits d s then none
  else some ⟨stBadParam, if s.loops.isEmpty then 0x0A00 else 0x0A02, 0, 0xFF⟩

/-- Staged drive words without a plan (step 5). -/
def checkDrive (d : Dev) (s : ConfigSet) : Option Verdict :=
  if s.plan.isSome || s.drive.isEmpty || budgetFits d s (planComing d) then none else some ⟨stBudget, 0x0702, 0, 0xFF⟩

/-- The relations of R423: the identifiers of a failing one. -/
def relationBad (vals : Tab Nat) : Option (List Nat) :=
  if paramIn vals 0x0405 < paramIn vals 0x0404 then some [0x0404, 0x0405]
  else if 44 < paramIn vals 0x0420 + paramIn vals 0x0421 then some [0x0420, 0x0421]
  else none

/-- A staged subscription names an unset destination (R442). -/
def subUnset (d : Dev) (s : ConfigSet) : Bool :=
  s.subs.any (fun e => e.1 / 8192 == 0 && e.2.1 != 0 && (d.net.dests.getD e.2.2 Dest.unset).family == 0)

/-- The own checks of the other settings, by opcode (step 6). -/
def checkRest (d : Dev) (s : ConfigSet) : Option Verdict :=
  if [0x0404, 0x0405, 0x0420, 0x0421].any (staged s) && (relationBad (paramsAfter d s)).isSome then some ⟨stBadParam, 0x0400, 0, 0xFF⟩
  else if subUnset d s then some ⟨stBadParam, 0x0B02, 0, 0xFF⟩
  else none

def firstVerdict : List (Option Verdict) → Verdict
  | [] => Verdict.ok
  | some v :: _ => v
  | none :: r => firstVerdict r

/-- The whole pass. -/
def checkSet (d : Dev) (s : ConfigSet) : Verdict :=
  firstVerdict [checkReady d s, checkPlan d s, checkLimits d s, checkLoops d s, checkDrive d s, checkRest d s]

/-! ### The commit response (R417) and the rail budget (R163) -/

/-- The predicted rail power in mW after a set, exact. -/
def railExact (d : Dev) (s : ConfigSet) : Frac := railPower (driveAfter d s) (segOfRow d) (planAfterSet d s)

/-- The same in whole mW, as the commit response reports it. -/
def railAfter (d : Dev) (s : ConfigSet) : Nat := (fracRound (railExact d s)).toNat

def commitRsp (d : Dev) (s : ConfigSet) (frame : Nat) (v : Verdict) : Bytes :=
  le 4 frame ++ le 2 v.failed ++ le 1 v.reason ++ le 1 v.zone ++ le 4 (satU 32 (railAfter d s)) ++ zeros 4

/-- At a plan or drive-word commit above the cap, bank 0's event. -/
def noteRail (s : ConfigSet) (d : Dev) : Dev :=
  if (s.plan.isSome || !s.drive.isEmpty) && fracLt (fracN (railCap d)) (railExact d s) then raise 392 4 [] d else d

/-- The instant of the frame's first flush tick has come, so that its turnaround has begun (R45, R49). -/
def turnBegun (d : Dev) : Bool := d.seq.phase == .turnaround || decide (d.seq.frameTime + activeNs d.seq.plan ≤ d.sys.now)

/-- The frame at which a set applies (R52, R412). A commit at the very instant of a frame tick, or of the turnaround's start,
waits for the tick after (R12; DEDUCED, assumption log, entry 9). -/
def applyFrame (d : Dev) (s : ConfigSet) : Nat :=
  let atTick := decide (d.seq.nextFrame ≤ d.sys.now)
  if !d.seq.started then (if s.plan.isSome || atTick then 1 else 0)
  else if atTick || (s.plan.isSome && turnBegun d) then wrapU 32 (d.seq.frame + 2)
  else wrapU 32 (d.seq.frame + 1)

end Sys2Proof.Machine
end

