-- ==== Sys2Proof/Machine/Session.lean ====
section
/-!
DEFINITION. The end of a session (R401, R403, R356), commits in progress (R402), bind-off (R385) and the causes that
halt or bind off the device (R31, R366, R473).
-/
namespace Sys2Proof.Machine

/-! ### What a session holds -/

/-- End the commit in progress without its commit point: its response, event 5 of its mailbox (R409, R417). -/
def endCommit (v : Verdict) (d : Dev) : Dev :=
  match d.kmp.commit with
  | none => d
  | some k =>
    let rsp := commitRsp d d.kmp.staged 0xFFFFFFFF v
    let d1 := raise (640 + 8 * k.mb + 5) 0 [] (modKmp (fun x => { x with commit := none }) d)
    match findTag d1 k.mb k.tag with
    | some c => finishRunning c v.status rsp d1
    | none => d1

/-- End the readout in progress: blocks not yet granted are discarded, the capture stays (R324). -/
def endReadout (status : Nat) (d : Dev) : Dev :=
  match d.peat.readout with
  | none => d
  | some r =>
    let d1 := modPeat (fun p => { p with readout := none }) d
    match findTag d1 r.mb r.tag with
    | some c => finishRunning c status [] d1
    | none => d1

/-- Discard the pending safety configuration (R274). -/
def dropPendingBlob (d : Dev) : Dev :=
  if d.saf.pending.isSome then raise 518 0 [] (modSaf (fun s => { s with pending := none }) d) else d

/-- The releases every end of a session makes (R401). -/
def releaseSession (ident : Nat) (d : Dev) : Dev :=
  let d1 := clearFreezes ident d
  let d2 := match d1.peat.readout with
    | some r => if r.session = ident then endReadout stLeaseExpired d1 else d1
    | none => d1
  dropPendingBlob d2

/-- Commands of the session taken and not started end with LEASE_EXPIRED (R403). -/
def expireWaiting (s : Session) (d : Dev) : Dev :=
  let m := mbGet d s.mb
  let mine (c : Cmd) : Bool := c.session == s.ident && sessionNeeded d c.op
  (m.waiting.filter mine).foldl (fun d c => finish c stLeaseExpired [] d)
    (modMb s.mb (fun m => { m with waiting := m.waiting.filter (fun c => !mine c) }) d)

/-- Forget the session, its identifier among the 16 most recent. -/
def forgetSession (s : Session) (d : Dev) : Dev :=
  modKmp (fun k => { k with session := none, staged := ConfigSet.empty, lastIds := (s.ident :: k.lastIds).take 16 }) d

/-- The session ends other than by close (R403): cause 0 deadline, 1 port, 2 BIND_OFF or HALTED. -/
def endSession (cause : Nat) (d : Dev) : Dev :=
  match d.kmp.session with
  | none => d
  | some s =>
    let d1 := endCommit ⟨stLeaseExpired, 0, 0, 0xFF⟩ d
    let d2 := forgetSession s (releaseSession s.ident (expireWaiting s d1))
    irqSet s.mb 4 (raise (640 + 8 * s.mb + 2) 0 (le 1 cause) d2)

/-- The session's close (R401). -/
def closeSession (d : Dev) : Dev :=
  match d.kmp.session with
  | none => d
  | some s =>
    raise (640 + 8 * s.mb + 3) 0 [] (forgetSession s (releaseSession s.ident (expireWaiting s d)))

/-- The port a mailbox belongs to (R387). -/
def portOfMb (mb : Nat) : Nat := if mb = 0 then 1 else if mb = 1 then 2 else 0

/-- A port cause of R356 ends the session its port owns. -/
def portCause (p : Nat) (d : Dev) : Dev :=
  match d.kmp.session with
  | some s => if portOfMb s.mb = p then endSession 1 d else d
  | none => d

/-- A cause of R356 that concerns one mailbox. -/
def mailboxCause (mb : Nat) (d : Dev) : Dev :=
  match d.kmp.session with
  | some s => if s.mb = mb then endSession 1 d else d
  | none => d

/-- LEASE_EXPIRY. -/
def leaseExpiry (d : Dev) : Dev :=
  match d.kmp.session with
  | none => d
  | some s => endSession 0 (advanceTuss s.deadline d)

/-- SAFE_PENDING_EXPIRY, 10 s after the load in Tussock's time. -/
def pendingExpiry (d : Dev) : Dev :=
  match d.saf.pending with
  | none => d
  | some p => dropPendingBlob (advanceTuss (p.2.2 + 10000000000) d)

/-! ### The commit point (R402) -/

/-- A set is held for a synchronised change (R417). -/
def holdSet (k : Commit) (d : Dev) : Dev :=
  let s := d.kmp.staged
  let h : Held := { set := s, kind := flag s.plan.isSome 0 + flag (!s.drive.isEmpty) 1, planId := s.plan.elim 0 (·.planId),
                    setId := k.setId, state := 1, frame := 0, bound := 0 }
  modSync (fun y => { y with held := some h }) d

/-- The commit point: the staged set is loaded, retirements are judged (R428), and the final response names its frame. -/
def commitNow (k : Commit) (c : Cmd) (d : Dev) : Dev :=
  let s := d.kmp.staged
  let f := if k.sync then 0xFFFFFFFF else applyFrame d s
  let rsp := commitRsp d s f Verdict.ok
  let d1 := if k.sync then holdSet k d else modPrm (fun p => { p with pending := p.pending ++ [⟨s, f⟩] }) d
  let d1 := s.retire.foldl (fun d n => judgeSegment n 3 false true d) d1
  let d2 := noteRail s (modKmp (fun x => { x with commit := none, staged := ConfigSet.empty }) d1)
  finishRunning c stOk rsp (raise (640 + 8 * k.mb + 4) 0 (le 4 f) d2)

/-- COMMIT_POINT: shadow loading ends; settings accepted only in READY are judged again (R431, R443). -/
def commitPoint (d : Dev) : Dev :=
  match d.kmp.commit with
  | none => d
  | some k =>
    if k.status ≠ stOk then d
    else match checkReady d d.kmp.staged with
      | some v => endCommit v d
      | none =>
        match findTag d k.mb k.tag with
        | some c => commitNow k c d
        | none => d

/-- COMMIT_CHECK_FAILURE: the check pass ended at its first failed check; the set stays staged. -/
def commitFailure (d : Dev) : Dev :=
  match d.kmp.commit with
  | none => d
  | some k => if k.status = stOk then d else endCommit ⟨k.status, k.failed, k.reason, k.zone⟩ d

/-! ### Bind-off (R385) -/

/-- The last HST DATA on every connection in RUN, with state 4. -/
def lastData (d : Dev) : Dev :=
  (List.range 8).foldl (fun d c => if (connGet d c).state == .run then connSend c d else d) d

/-- Entry to BIND_OFF from an operating state: waiting state commands end, rail and outputs open, the session ends, Peat
closes early, source 2, queued stream data is discarded, and the drive ramps to zero. -/
def enterBindOff (d : Dev) : Dev :=
  if !ticking d then d
  else
    let d1 := raise 1 0 (le 1 (opCode d.sys.op) ++ le 1 4) (cancelStateCmds d)
    let d2 := endSession 2 (deEnergiseAll (openRail d1))
    let d3 := if peatRecording d2 then peatClose 4 d2 else endPeatArm stAborted [] d2
    let d4 := raise 2 0 [] (modPeat (fun p => { p with state := .idle }) d3)
    let d5 := modSys (fun y => { y with op := .bindOff, bindOffAt := tussNow d4 }) d4
    let d6 := modSlu (fun s => { s with queues := [] }) (modPts (fun p => { p with reduce := none, format := none }) d5)
    loopsOff (rampFrom (lastData d6))

/-- BIND_OFF_COMPLETE: every event queue is empty, or 15 ms have passed; the PHYs of port 0 go down, PCIe and SPI go on (R361). -/
def bindOffComplete (d : Dev) : Dev :=
  if d.sys.op != .bindOff then d
  else
    let d1 := if d.ev.queues.all (fun q => q.recs.isEmpty) then d else advanceTuss (d.sys.bindOffAt + 15000000) d
    let d2 := modEv (fun e => { e with queues := e.queues.map (fun q => { q with recs := [] }) }) d1
    halt 7 (modNet (fun n => { n with linkUp := [false, false] }) d2)

/-- UNRECOVERABLE_FAULT. -/
def unrecoverable (d : Dev) : Dev := if d.sys.inReset then d else halt 5 d

/-- SUPPLY_OUT_OF_RANGE: a halt before BOOT_STAGE 0x70 (R366), bind-off after it; source 3. -/
def supplyOut (vin : Bool) (d : Dev) : Dev :=
  let d0 := modSys (fun y => { y with vinOk := y.vinOk && !vin }) d
  if d.sys.inReset then d0
  else if d.sys.op == .castOn then halt 6 d0
  else enterBindOff (raise 3 0 [] d0)

/-- The unit that holds a cell, by queue and place: the buffer taken as filled by the queues in order.
DESIGN CHOICE (assumption log, entry 59). -/
def unitAtCell : List (Nat × Nat × Nat) → Nat → Option (Nat × Nat)
  | [], _ => none
  | (q, i, cells) :: us, k => if k < cells then some (q, i) else unitAtCell us (k - cells)

def unitAt (d : Dev) (addr : Nat) : Option (Nat × Nat) :=
  unitAtCell (d.slu.queues.flatMap (fun e => (List.range e.2.units.length).map (fun i =>
    (e.1, i, ((e.2.units[i]?).elim 0 (·.cells)))))) (addr / 64)

/-- Drop one unit of a queue, counted on every port that had not sent it. -/
def dropUnitAt (q i : Nat) (d : Dev) : Dev :=
  match (queueGet d.slu q).units[i]? with
  | none => d
  | some u => countDrop q u (modSlu (modQueue q (fun x => { x with units := dropAt x.units i })) d)

/-- PATROL_SCRUB (R470): region 0 Carr SRAM, 1 egress buffer, 2 Peat store. An uncorrectable error halts, drops the unit
that holds the word, or marks the word of the Peat store. -/
def patrolScrub (region addr : Nat) (correctable : Bool) (d : Dev) : Dev :=
  if !ticking d || decide (3 ≤ region) then d
  else
    let detail := le 1 region ++ le 4 addr
    if correctable then
      raise 14 0 detail (modEv (fun e => { e with eccCorrected := incSat 32 e.eccCorrected }) d)
    else if region = 0 then halt 5 d
    else
      let d1 := raise 14 1 detail d
      if region = 1 then
        (match unitAt d1 addr with
         | some u => storeWaiting (dropUnitAt u.1 u.2 d1)
         | none => d1)
      else modPeat (fun p => { p with badWords := if p.badWords.contains addr then p.badWords else p.badWords ++ [addr] }) d1

end Sys2Proof.Machine
end

