-- ==== Sys2Proof/Machine/CastOn.lean ====
section
/-!
DEFINITION. Reset and cast-on (R358 to R368): the resets, the stages, self-test and repair, Gauge and calibration, and
the measurement registers (R376).
-/
namespace Sys2Proof.Machine

/-! ### Reset (R358 to R360) -/

/-- Into reset: everything at its reset value but the burned fuses and the SYNC termination; the SPIV strap outlives all
but a power-on reset. Memory writes of the step that came before it are carried out. -/
def devReset (por : Bool) (d : Dev) : Dev :=
  let sys := { Sys.reset with strapSpiv := !por && d.sys.strapSpiv, porHeld := por, nresetLow := !por, vinOk := !por }
  let sync := { Sync.reset with term := !por && d.sync.term }
  { Dev.reset with sec := { Sec.reset with burned := d.sec.burned }, sys := sys, sync := sync, writes := d.writes, out := d.out,
                      drawn := d.drawn }

/-- POWER_ON_RESET. -/
def powerOn (d : Dev) : Dev := devReset true d

/-- A low pulse of NRESET: ignored below 10 µs, taken from 25 µs, between them either (a free choice).
DESIGN CHOICE (assumption log, entry 58). -/
def nreset (lowNs : Nat) (d : Dev) : Dev :=
  if lowNs < 10000 then d
  else if lowNs < 25000 && freeBelow d 2 == 0 then draw d
  else
    let d1 := if lowNs < 25000 then draw d else d
    if d.sys.porHeld then d1 else devReset false d1

/-! ### Measurements (R376) -/

/-- M extended by a value. -/
def extendM (m : Nat) (v : Bytes) (d : Dev) : Dev :=
  modSec (fun s => { s with measures := listMod s.measures m (fun x => sha384 (x ++ v)) }) d

def otpDigest (k : Nat) : Bytes := (List.range 48).map (Config.otpDigestByte k)
def romVersion : Nat := Config.romVersion % 2 ^ 32

/-- RESET_RELEASE: cast-on begins at POR with device time 0 and the straps as sampled; SPIV is sampled at power-on. -/
def resetRelease (spiv refclk pcie : Bool) (d : Dev) : Dev :=
  if !d.sys.inReset then d
  else
    let d1 := modSys (fun y => { y with
      inReset := false, strapSpiv := if y.porHeld then spiv else y.strapSpiv, strapRefclk := refclk, strapPcie := pcie,
      porHeld := false, nresetLow := false, vinOk := true, now := 0 }) d
    extendM 0 (le 4 romVersion ++ deviceId ++ otpDigest 0 ++ otpDigest 1) (modSaf (fun s => { s with fill := startFill }) d1)

/-- The stage of cast-on is `b`. -/
def atStage (b : Nat) (d : Dev) : Bool := !d.sys.inReset && d.sys.op == .castOn && d.sys.boot == b

def toStage (b : Nat) (d : Dev) : Dev := modSys (fun y => { y with boot := b }) d

/-- PLL_LOCK. -/
def pllLock (d : Dev) : Dev := if atStage 0 d then toStage 0x10 d else d

/-! ### Self-test and repair (R64, R367) -/

/-- Put the lowest free spare in the place of every failed lane that serves a channel, in ascending channels. -/
def mapLanes (d : Dev) : Dev :=
  (List.range 1024).foldl (fun d c =>
    if sliceOn d (c / 64) && d.recv.lanesFailed.contains (laneOfChan d c) then
      match freeSpares d (c / 64) with
      | k :: _ => modRecv (fun r => { r with laneMap := tabPut c k r.laneMap }) d
      | [] => d
    else d) d

/-- Failed lanes of a group. -/
def failedInGroup (d : Dev) (g : Nat) : Nat := (d.recv.lanesFailed.filter (fun p => groupOfLane p == g)).length

/-- The slices one of whose groups has more failed lanes than spares. -/
def shortSlices (d : Dev) : Nat := maskOf ((List.range 4).filter (fun s => (List.range 4).any (fun i => decide (4 < failedInGroup d (4 * s + i)))))

/-- Gate slices at cast-on; with none left cast-on halts (R365). -/
def gateAtCastOn (mask : Nat) (d : Dev) : Dev :=
  let d1 := modRecv (fun r => { r with gated := orBits 4 r.gated mask }) d
  if slicesOn d1 = 0 then halt 1 d1 else mapLanes d1

/-- The probes of a target at cast-on, each as its V_f in mV and its repeat's, which counts where the probe fails (R174, R179); a target
not listed is healthy, at the typical 1.55 V of R173. -/
def probesOf (probes : List (Nat × List (Nat × Nat))) (t : Nat) : List (Nat × Nat) :=
  (probes.find? (fun e => e.1 == t)).elim [] (·.2)

/-- The V_f of the target's latest probe. -/
def castOnVf (probes : List (Nat × List (Nat × Nat))) (t : Nat) : Nat :=
  match (probesOf probes t).getLast? with
  | none => 1550
  | some p => if probeClass p.1 = 0 then p.1 else p.2

/-- The class of the target's first confirmed failing probe, 0 for none (R179). -/
def castOnClass (probes : List (Nat × List (Nat × Nat))) (t : Nat) : Nat :=
  ((probesOf probes t).find? (fun p => probeClass p.1 != 0 && probeClass p.2 != 0)).elim 0 (fun p => probeClass p.1)

/-- The baselines, and VF as the cast-on probes leave it: each spare's from its last sub-stripe (R175, R182; DESIGN CHOICE,
assumption log, entry 13). -/
def castOnProbes (probes : List (Nat × List (Nat × Nat))) (d : Dev) : Dev :=
  let v := castOnVf probes
  let d1 := modEmi (fun e => { e with baseline := (List.range 264).foldl (fun t k => tabSet 1550 t k (v k)) [] }) d
  (List.range 136).foldl (fun d n => modSeg n (fun s => { s with vf := if n % 17 = 16 then v (136 + 16 * (n / 17) + 15) else v n }) d) d1

/-- A failed probe target (R179): a service segment, or a sub-stripe of a spare. -/
def failTarget (d : Dev) (t : Nat × Nat) : Dev :=
  if t.1 < 136 then modSeg t.1 (fun s => { s with failed := true, cause := t.2 % 4 }) d
  else modBank ((t.1 - 136) / 16) (fun b => { b with spareBad := putBit b.spareBad ((t.1 - 136) % 16) true }) d

/-- Assign spares in ascending rows (R177, R179). -/
def assignSpares (d : Dev) : Dev :=
  (List.range 128).foldl (fun d row =>
    let n := nominalSeg row
    if !(segGet d n).failed then d
    else
      let b := n / 17
      let i := n % 17
      if spareUsable d b i then
        modBank b (fun k => { k with sub := i }) (modEmi (fun e => { e with rowSeg := tabPut row (17 * b + 16) e.rowSeg }) d)
      else modEmi (fun e => { e with rowSeg := tabPut row 0xFF e.rowSeg }) d) d

/-- A macropixel judged by its SPADs' 1 ms dark counts, scaled to 96 µs, under R73 and R74; a SPAD that is both hot and dead is dead (R367). -/
def castOnMask (d : Dev) (cnt : Nat → Nat) : Mask :=
  let others (q : Nat) : List Nat := ([0, 1, 2, 3].filter (· != q)).map cnt
  let hot (q : Nat) : Bool := decide (125 * prmGet d 0x0410 < 12 * cnt q) &&
    (median2 (others q)).elim true (fun v => decide (prmGet d 0x0411 * v < 2 * cnt q))
  let dead (q : Nat) : Bool := cnt q == 0 && (others q).all (fun c => decide (1000 ≤ 12 * c))
  ⟨maskOf ((List.range 4).filter (fun q => hot q && !dead q)), maskOf ((List.range 4).filter dead), 0, false⟩

/-- The dark counts of a macropixel's SPADs; one not listed counts 0. -/
def darkOf (dark : List (Nat × Nat)) (key q : Nat) : Nat := (dark.find? (fun c => c.1 == 4 * key + q)).elim 0 (·.2)

/-- The macropixels whose counts are listed. -/
def darkKeys (dark : List (Nat × Nat)) : List Nat := ((dark.map (fun c => c.1 / 4)).filter (fun k => decide (k < 102400))).eraseDups

/-- BIST_COMPLETE: its outcomes judged per level. -/
def bistComplete (tussockFail fatal : Bool) (badSlices : Nat) (failedLanes : List Nat) (failedStarts : Nat)
    (probes : List (Nat × List (Nat × Nat))) (dark : List (Nat × Nat)) (sramRepairs : Nat) (d : Dev) : Dev :=
  if !atStage 0x10 d then d
  else if tussockFail then halt 2 d
  else if fatal then halt 1 d
  else
    let d1 := modSaf (fun s => { s with tested := true }) (toStage 0x20 d)
    let d2 := modRep (fun r => { r with sram := sramRepairs % 65536 }) (modRecv (fun r => { r with
      lanesFailed := (failedLanes.filter (fun p => decide (p < 1088))).eraseDups,
      masks := (darkKeys dark).foldl (fun t k => tabSet Mask.none t k (castOnMask d (darkOf dark k))) r.masks }) d1)
    let d3 := modGauge (fun g => { g with startsFailed := bitList 8 failedStarts }) d2
    let fails := ((List.range 264).map (fun t => (t, castOnClass probes t))).filter (fun t => t.2 != 0)
    let d4 := assignSpares (fails.foldl failTarget (castOnProbes probes d3))
    gateAtCastOn (orBits 4 (badSlices % 16) (shortSlices d4)) d4

/-- REPAIR_MAP_BUILT: WAIT_IMAGE, BOOT_READY rises and the mailboxes exist (R361). -/
def repairBuilt (d : Dev) : Dev :=
  if !atStage 0x20 d then d else modSys (fun y => { y with boot := 0x30, bootReady := true }) d

/-! ### Firmware initialisation and calibration (R97, R101, R176, R242, R362) -/

/-- FW_INIT_COMPLETE. -/
def fwInitComplete (d : Dev) : Dev := if atStage 0x50 d then toStage 0x60 d else d

/-- The counts of a lane that the command does not list (DESIGN CHOICE, assumption log, entry 40). -/
def uniformHits : List Nat := List.replicate 64 16384

/-- The first table of every lane, in shadow, and the lanes that fail a bound, each with the first it fails. -/
def castOnTables (counts : List (Nat × List Nat)) : Tab GaugeRec × List (Nat × Nat) :=
  let fit (hits : List Nat) : List Nat := (List.range 64).map (fun i => satU 20 (hits.getD i 0))
  let rec0 (hits : List Nat) : GaugeRec × Nat :=
    let ws := deriveWidths hits
    (⟨ws, true, false, false, 0, satU 24 hits.sum, 0⟩, gaugeBound GaugeRec.none hits ws)
  let plain := rec0 uniformHits
  let all := (List.range 1096).map (fun p => (p, match counts.find? (fun c => c.1 == p) with
    | some c => rec0 (fit c.2)
    | none => plain))
  ((all.filter (fun e => e.2.2 == 0)).map (fun e => (e.1, e.2.1)), (all.filter (fun e => e.2.2 != 0)).map (fun e => (e.1, e.2.2)))

/-- A lane's first table failed a bound: its record says so, and a return lane raises its Gauge-bound event (R95, R98). -/
def castOnBound (d : Dev) (f : Nat × Nat) : Dev :=
  let d1 := modTable f.1 (fun t => { t with boundFail := true, failBound := f.2 }) d
  if f.1 < 1088 then raise (128 + 8 * groupOfLane f.1 + 4) 0 [] d1 else d1

/-- Device-dependent code and dither values in force from here on, and the dither generator loaded (R123, R124). -/
def loadCodes (d : Dev) : Dev :=
  modHisto (fun h => { h with spacing := prmGet d 0x0420, span := prmGet d 0x0421, seed := prmGet d 0x0422, lfsr := prmGet d 0x0422 }) d

/-- Calibration firing begins: the series switches close, and the pulse-pair code and dither apply (R176). -/
def beginFiring (d : Dev) : Dev :=
  if d.sys.op == .halted then d else modEmi (fun e => { e with calAt := tussNow d, calShots := 0 }) (closeRail (loadCodes d))

/-- CAST_ON_GAUGE_COLLECTION_END: 200 ms of collection with the emitter idle; a failed return lane is replaced, a failed start lane
reported; then calibration firing begins. DEDUCED (assumption log, entry 18). -/
def castOnGauge (counts : List (Nat × List Nat)) (d : Dev) : Dev :=
  if !atStage 0x60 d || d.gauge.closed then d
  else
    let t := castOnTables counts
    let failed := t.2.map (·.1)
    let d1 := t.2.foldl castOnBound (advanceTo (d.sys.now + 200000000) d)
    let d2 := modGauge (fun g => { g with
      shadow := t.1, closed := true,
      startsFailed := (g.startsFailed ++ (failed.filter (fun p => decide (1088 ≤ p))).map (· - 1088)).eraseDups }) d1
    let d3 := modRecv (fun r => { r with
      lanesFailed := (r.lanesFailed ++ failed.filter (fun p => decide (p < 1088))).eraseDups }) d2
    beginFiring (gateAtCastOn (shortSlices d3) d3)

/-- The reference statistic of a lane over calibration firing: number and mean. -/
def castOnStat (n mean : Nat) : Stat := ⟨n, n * mean, n * mean * mean, mean, mean⟩

/-- A lane after calibration: its cast-on statistic over 2 500 shots, its zero offset, its dead time at τ_d. -/
def castOnCal (refMeans : List (Nat × Nat × Nat)) (tau p : Nat) : LaneCal :=
  let r := match refMeans.find? (fun e => e.1 == p) with
    | some e => e.2
    | none => (500, 41)
  { LaneCal.none with castOn := castOnStat r.1 r.2, castOnShots := 2500, zq16 := zeroTarget r.2, tauM := tau }

/-- Entry to READY: sources 0 and 1, the repair map measured, the first frame tick 1 ms later (R362) and the Tension ticks on its grid
(R21), L2 to L11 in AUTO (R231). -/
def enterReady (d : Dev) : Dev :=
  let d1 := extendM 3 (sha384 (mapBytes d 0 103856)) (modSys (fun y => { y with boot := 0x70, op := .ready }) d)
  let d2 := raise 0 0 (le 1 (slicesOn d1) ++ le 2 d1.recv.lanesFailed.length ++ le 1 (segmentsFailed d1)) d1
  let d3 := (List.range 10).foldl (fun d i => slotAuto (i + 2) d) (modSense (fun x => { x with diagAt := tussNow d }) d2)
  modSeq (fun q => { q with nextFrame := d.sys.now + 1000000, tickTime := d.sys.now }) (raise 1 0 (le 1 0xFF ++ le 1 0) d3)

/-- The cast-on charge record of a service segment in 1/64 nC: the mean of the pulses that were commanded, else Q_nom of the reset
drive word where the reservoirs were charged (R176, R248). -/
def calChargeOf (charged : Bool) (d : Dev) (n : Nat) : Nat :=
  let s := tabGet SegStat.none d.emi.stats n
  if n % 17 = 16 then 0
  else if 0 < s.pulses then (roundDiv s.chargeSum s.pulses).toNat
  else if charged then 87 else 0

/-- The shots of calibration firing that no SHOT_TICK commanded fire all the same, each pulse at its nominal energy (R176, R253;
DESIGN CHOICE, assumption log, entry 51): every bank's shots beyond those of the round in progress, and that round's rest. -/
def restOfFiring (d : Dev) : Dev :=
  let k := d.emi.calShots
  if d.emi.inhibit then d
  else
    let d1 := modSaf (fun s => { s with fill := addFill s.fill (calFill (2500 - ceilDiv k 8)) }) d
    if k % 8 = 0 then d1
    else ((List.range 8).filter (fun b => decide (k % 8 ≤ b))).foldl (fun d b => chargeCells (List.range 32) b calShotFj d) d1

/-- What calibration firing collected is no frame's: frame 0 counts from its own tick (R28). -/
def dropFiring (d : Dev) : Dev :=
  modTim (fun t => { t with codeBanks := 0, starts := t.starts.map (fun s => { s with fired := false, first := none, second := none }) })
    (modHisto (fun h => { h with banks := [] }) (modEmi (fun e => { e with stats := [], calShots := 20000 }) d))

/-- CALIBRATION_FIRING_END: 200 ms of firing have passed; zero offsets, the reservoirs' charge record, V_bd0 and T₀, the clock ratios
and the emission charged to every cell; the switches open (R79, R101, R176, R242, R253). A ratio that was not measured fails Tussock's
cast-on self-test (R365). -/
def calibrationEnd (refMeans : List (Nat × Nat × Nat)) (vbd : Nat) (temp : Int) (clockRatios : List Nat) (charged : Bool)
    (d : Dev) : Dev :=
  if !atStage 0x60 d || !d.gauge.closed then d
  else
    let d1 := closeShot (restOfFiring (advanceTuss (d.emi.calAt + 200000000) d))
    let d2 := modTim (fun t => { t with lanes := tabOf LaneCal.none 1088 (castOnCal refMeans (8 * prmGet d 0x040A)) }) d1
    let d3 := modRecv (fun r => { r with vbd0 := vbd, t0 := temp }) d2
    if clockRatios.length < 3 ∨ clockRatios.contains 0 then halt 2 d3
    else
    let d4 := modSaf (fun s => { s with
      clockRatios := [clockRatios.getD 0 0, clockRatios.getD 1 0, clockRatios.getD 2 0], clockAt := tussNow d1 }) d3
    let d5 := modEmi (fun e => { e with calCharge := tabOf 0 136 (calChargeOf charged d1) }) d4
    enterReady (loadCodes (openRail (dropFiring d5)))

end Sys2Proof.Machine
end

