-- ==== Sys2Proof/Machine/Loader.lean ====
section
/-!
DEFINITION. The ROM loader: claim, delivery and verification of the two image components (R369 to R375), and what
follows the second one: the reservation fuse and the start of the firmware (R362, R378, R398).
-/
namespace Sys2Proof.Machine

/-! ### Components (R370, R372) -/

/-- Component 1 application, 2 safety. -/
def compOf (s : Sec) (k : Nat) : Comp := if k = 1 then s.app else s.safety
def modComp (k : Nat) (f : Comp → Comp) (d : Dev) : Dev :=
  modSec (fun s => if k = 1 then { s with app := f s.app } else { s with safety := f s.safety }) d

def payloadMax (k : Nat) : Nat := if k = 1 then 4194304 else 393216

/-- The least and greatest total length a component can have (R372, R373). -/
def totalOk (k n : Nat) : Bool := decide (n % 16 = 0 ∧ 0x210 ≤ n ∧ n ≤ 0x200 + 4096 + payloadMax k)

/-- Join an interval to disjoint ascending ones. -/
def coverAdd (a b : Nat) : List (Nat × Nat) → List (Nat × Nat)
  | [] => [(a, b)]
  | (c, e) :: t => if b < c then (a, b) :: (c, e) :: t else if e < a then (c, e) :: coverAdd a b t else coverAdd (min a c) (max b e) t

/-- Bytes received: chunks lie on 16-byte granules, each counted once. -/
def received (c : Comp) : Nat :=
  ((c.chunks.foldl (fun l x => coverAdd x.1 (x.1 + x.2.length) l) []).map (fun e => e.2 - e.1)).sum

/-- The component as delivered, later chunks over earlier ones. -/
def compBytes (c : Comp) (n : Nat) : Bytes :=
  c.chunks.foldr (fun x m => m.take x.1 ++ x.2 ++ m.drop (x.1 + x.2.length)) (zeros n)

def padded16 (n : Nat) : Nat := ceilDiv n 16 * 16

/-- Byte offsets of the manifest fields, keys and signatures are R372's and R373's. -/
def lengthsOk (k n : Nat) (m : Bytes) : Bool :=
  let pay := rdU m 0x10 4
  let sig := rdU m 0x60 4
  rdU m 6 1 == k && decide (pay % 16 = 0 ∧ pay ≤ payloadMax k ∧ 1 ≤ sig ∧ sig ≤ 4096) && n == 0x200 + padded16 sig + pay

def imageKey (m : Bytes) : Bytes := slice m 0x100 96
def imageLmsKey (m : Bytes) : Bytes := slice m 0x160 56
def imagePayload (m : Bytes) : Bytes := slice m (0x200 + padded16 (rdU m 0x60 4)) (rdU m 0x10 4)
def signedPart (m : Bytes) : Bytes := m.take 0x1A0

/-- The first reason to refuse a component (R371, R374); 0 none. `other` is the other component. -/
def loaderReason (k : Nat) (c other : Comp) : Nat :=
  match c.total with
  | none => 2
  | some n =>
    let m := compBytes c n
    if rdU m 0 4 ≠ 0x4D46E1A5 ∨ rdU m 4 2 ≠ 1 then 1
    else if !lengthsOk k n m then 2
    else if romVersion < rdU m 0x1C 4 then 3
    else if bit (rdU m 7 1) 0 && slice m 0x50 16 != deviceId then 4
    else if received c ≠ n then 5
    else if sha384 (imageKey m) ≠ otpDigest 0 then 6
    else if sha384 (imageLmsKey m) ≠ otpDigest 1 then 7
    else if !ecdsaOk (imageKey m) (sha384 (signedPart m)) (slice m 0x1A0 96) then 8
    else if !lmsOk (imageLmsKey m) (signedPart m) (slice m 0x200 (rdU m 0x60 4)) then 9
    else if sha384 (imagePayload m) ≠ slice m 0x20 48 then 0x0A
    else if other.verified && rdU m 0x0C 4 != other.pairId then 0x0B
    else 0

/-- The status of a reason code (R371). -/
def reasonStatus (r : Nat) : Nat :=
  if r = 0 then stOk else if r = 6 ∨ r = 7 then stAuthFailed else if 8 ≤ r ∧ r ≤ 0x0A then stSigFailed else stBadParam

/-! ### Reservation fuses (R378) -/

/-- The lowest number at or above `n` that an ascending list lacks. -/
def firstFree : List Nat → Nat → Nat
  | [], n => n
  | b :: t, n => if b = n then firstFree t (n + 1) else if b < n then firstFree t n else n

def insertAsc (x : Nat) : List Nat → List Nat
  | [] => [x]
  | y :: t => if x < y then x :: y :: t else if x = y then y :: t else y :: insertAsc x t

/-- Burn and read back, the next unburned fuse after each failure, up to `k` attempts. -/
def burnFuse : Nat → Nat → Dev → Dev
  | 0, _, d => modSec (fun s => { s with lmsOff := true }) d
  | k + 1, start, d =>
    let f := firstFree d.sec.burned start
    if 32768 ≤ f then (if start = 0 then d else modSec (fun s => { s with lmsOff := true }) d)
    else if Config.fuseReads f d.drawn then modSec (fun s => { s with q := some f, burned := insertAsc f s.burned }) (draw d)
    else burnFuse k (f + 1) (draw d)

def fusesLeft (d : Dev) : Nat := 32768 - d.sec.burned.length

/-- FW_INIT_ENTRY: the claim ends, the firmware starts and takes over the mailboxes, and a fuse is burned. -/
def firmwareStart (d : Dev) : Dev :=
  let d1 := modSys (fun y => { y with boot := 0x50, firmware := true }) (modSec (fun s => { s with owner := 0 }) d)
  let d2 := modMb 0 (fun m => { m with rom := false }) (modMb 1 (fun m => { m with rom := false }) d1)
  burnFuse 4 0 d2

/-! ### Loader commands (R369, R371) -/

/-- The response of a loader command. -/
def loaderRsp (d : Dev) (k reason : Nat) : Bytes :=
  le 1 d.sys.boot ++ le 1 reason ++ zeros 2 ++ le 4 (if k = 1 ∨ k = 2 then received (compOf d.sec k) else 0)

/-- A command of the port that owns the loader keeps the claim alive. -/
def touchClaim (port : Nat) (d : Dev) : Dev :=
  if d.sec.owner = port ∧ port ≠ 0 then modSec (fun s => { s with claimAt := tussNow d }) d else d

/-- The loader belongs to the other port. -/
def loaderBusy (d : Dev) (port : Nat) : Bool := d.sec.owner != 0 && d.sec.owner != port

/-- The ROM serves the loader: a command that it took before cast-on left these stages is not executed any more (R369). -/
def loaderOpen (d : Dev) : Bool := d.sys.boot == 0x30 || d.sys.boot == 0x40

/-- The check of a component is over. -/
def verifyEnds (d : Dev) : Dev := if d.sys.boot = 0x40 then toStage 0x30 d else d

/-- ROM_INFO. -/
def romInfoBytes (d : Dev) : Bytes :=
  le 4 romVersion ++ deviceId ++ le 1 d.sys.boot ++ le 1 d.sys.haltCause ++
    le 1 (d.sec.owner + flag d.sec.app.verified 2 + flag d.sec.safety.verified 3) ++ le 1 d.sec.lastReason ++
    le 2 d.sec.burned.length ++ le 1 (slicesOn d) ++ le 1 (segmentsFailed d) ++ le 2 d.recv.lanesFailed.length ++ zeros 2 ++
    le 8 d.sys.now

def doRomInfo (c : Cmd) (d : Dev) : Nat × Bytes × Dev := (stOk, romInfoBytes d, touchClaim (portOfMb c.mb) d)

/-- LOAD_BEGIN. -/
def doLoadBegin (c : Cmd) (d : Dev) : Nat × Bytes × Dev :=
  let port := portOfMb c.mb
  let k := rdU c.payload 0 1
  let n := rdU c.payload 4 4
  let d0 := touchClaim port d
  if !loaderOpen d then (stBadOpcode, [], d)
  else if loaderBusy d port then (stBusy, [], d)
  else if (k ≠ 1 ∧ k ≠ 2) ∨ !totalOk k n then (stBadParam, loaderRsp d k 2, d0)
  else
    let d1 := modSec (fun s => { s with owner := port, claimAt := tussNow d }) (modComp k (fun _ => { Comp.none with total := some n }) d)
    (stOk, loaderRsp d1 k 0, d1)

/-- LOAD_CHUNK: the fields stand before the data taken from the window. DEDUCED (assumption log, entry 19). -/
def doLoadChunk (c : Cmd) (d : Dev) : Nat × Bytes × Dev :=
  let port := portOfMb c.mb
  let k := rdU c.payload 0 1
  let off := rdU c.payload 4 4
  let len := rdU c.payload 8 4
  let d0 := touchClaim port d
  let total := if k = 1 ∨ k = 2 then (compOf d.sec k).total else none
  let ok := match total with
    | some n => decide (off % 16 = 0 ∧ off < n ∧ len % 16 = 0 ∧ 16 ≤ len ∧ len ≤ 65536 ∧ off + len ≤ n)
    | none => false
  if !loaderOpen d then (stBadOpcode, [], d)
  else if loaderBusy d port then (stBusy, [], d)
  else if !ok then (stBadParam, loaderRsp d k 2, d0)
  else
    let d1 := modComp k (fun x => { x with chunks := (off, fitTo len (c.payload.drop 12)) :: x.chunks }) d0
    (stOk, loaderRsp d1 k 0, d1)

/-- An accepted component: measured; with the other one verified too, the firmware starts. -/
def acceptComp (k : Nat) (d : Dev) : Dev :=
  let c := compOf d.sec k
  let m := compBytes c (c.total.getD 0)
  let d1 := extendM k (signedPart m)
    (modComp k (fun _ => { Comp.none with verified := true, version := rdU m 8 4, pairId := rdU m 0x0C 4 }) d)
  if d1.sec.app.verified && d1.sec.safety.verified then firmwareStart d1 else d1

/-- LOAD_END: a component that fails is discarded. -/
def doLoadEnd (c : Cmd) (d : Dev) : Nat × Bytes × Dev :=
  let port := portOfMb c.mb
  let k := rdU c.payload 0 1
  let d0 := touchClaim port (verifyEnds d)
  let got := if k = 1 ∨ k = 2 then le 4 (received (compOf d.sec k)) else zeros 4
  let rsp (d : Dev) (r : Nat) : Bytes := le 1 d.sys.boot ++ le 1 r ++ zeros 2 ++ got
  if !loaderOpen d then (stBadOpcode, [], d)
  else if loaderBusy d port then (stBusy, [], d)
  else if k ≠ 1 ∧ k ≠ 2 then
    let d1 := modSec (fun s => { s with lastReason := 2 }) d0
    (stBadParam, rsp d1 2, d1)
  else
    let r := loaderReason k (compOf d.sec k) (compOf d.sec (3 - k))
    if r = 0 then (let d1 := acceptComp k d0; (stOk, rsp d1 0, d1))
    else
      let d1 := modSec (fun s => { s with lastReason := r }) (modComp k (fun x => if x.total.isSome then Comp.none else x) d0)
      (reasonStatus r, rsp d1 r, d1)

/-- LOADER_CLAIM_EXPIRY: two seconds without a loader command of the owner. -/
def claimExpiry (d : Dev) : Dev :=
  if d.sec.owner = 0 then d
  else modSec (fun s => { s with
    owner := 0, app := if s.app.verified then s.app else Comp.none,
    safety := if s.safety.verified then s.safety else Comp.none }) (advanceTuss (d.sec.claimAt + 2000000000) d)

end Sys2Proof.Machine
end

