-- ==== Sys2Proof/Machine/Attest.lean ====
section
/-!
DEFINITION. The attestation group: measurements, the authentication path, reports and the debug port (R376 to R382, R418).
Signatures are made with keys the device keeps, so their bytes are open values (DESIGN CHOICE, assumption log, entry 5).
-/
namespace Sys2Proof.Machine

/-- `k` open bytes, and the draw that made them. -/
def openBytes (d : Dev) (k : Nat) : Bytes := (List.range k).map (Config.freeByte d.drawn)

/-- Top-tree leaf of this cast-on as the reports write it. -/
def leafCode (d : Dev) : Nat := d.sec.q.getD 0xFFFF

/-- Bottom leaves not yet spent. -/
def leavesLeft (d : Dev) : Nat := if d.sec.q.isSome then 64 - d.sec.leaves else 0

/-- ATTEST_MEASURE. -/
def measureBytes (d : Dev) : Bytes :=
  d.sec.measures.flatten ++ le 2 (fusesLeft d) ++ le 2 (leafCode d) ++ le 1 (leavesLeft d) ++
    le 1 (flag d.sec.path.isSome 0 + flag d.sec.lmsOff 1 + flag (bit d.sec.scopes 0) 2 + flag (bit d.sec.scopes 1) 3) ++ zeros 2

def doMeasure (_ : Cmd) (d : Dev) : Nat × Bytes := (stOk, measureBytes d)

/-- ATTEST_EXTEND. -/
def doExtend (c : Cmd) (d : Dev) : Nat × Bytes × Dev :=
  let m := rdU c.payload 0 1
  if m ≠ 6 ∧ m ≠ 7 then (stBadParam, [], d)
  else
    let d1 := extendM m (slice c.payload 4 48) d
    (stOk, d1.sec.measures.getD m [], d1)

/-! ### The top tree's path (R379) -/

def topIdent : Bytes := (List.range 16).map Config.topIdentByte
def topLeaf (q : Nat) : Bytes := (List.range 32).map (Config.topLeafByte q)

/-- The public key of the top tree that a path leads to: LMS_SHA256_M32_H15 with LMOTS_SHA256_N32_W8 (RFC 8554). -/
def topKey (q : Nat) (path : Bytes) : Bytes :=
  be 4 7 ++ be 4 4 ++ topIdent ++ treeClimb topIdent (2 ^ 15 + q) (topLeaf q) ((List.range 15).map (fun i => slice path (32 * i) 32))

/-- ATTEST_PATH. -/
def doPath (c : Cmd) (d : Dev) : Nat × Bytes × Dev :=
  let path := slice c.payload 4 480
  match d.sec.q with
  | none => (stNotPermitted, [], d)
  | some q =>
    if d.sec.lmsOff then (stNotPermitted, [], d)
    else if rdU c.payload 0 2 ≠ q ∨ sha384 (topKey q path) ≠ otpDigest 2 then (stBadParam, [], d)
    else (stOk, [], modSec (fun s => { s with path := some path }) d)

/-! ### Reports (R380, R381, R418) -/

/-- Why a report carries no LMS signature: bits 1 to 4 of its flags; 0 where it carries one. -/
def noLmsFlags (d : Dev) : Nat :=
  if d.sec.lmsOff then 16
  else
    match d.sec.q with
    | none => 2
    | some _ => flag (decide (64 ≤ d.sec.leaves)) 2 + flag d.sec.path.isNone 3

/-- The 464-byte body. -/
def reportBody (d : Dev) (nonce : Bytes) : Bytes :=
  let why := noLmsFlags d
  le 4 0x5241E1A5 ++ le 2 1 ++ le 2 (flag (why == 0) 0 + why + flag (bit d.sec.scopes 0) 5 + flag (bit d.sec.scopes 1) 6) ++
    deviceId ++ nonce ++ le 8 d.sys.now ++ le 2 (leafCode d) ++ le 1 (if why = 0 then d.sec.leaves else 0xFF) ++ zeros 1 ++
    le 4 d.sec.app.version ++ le 4 d.sec.safety.version ++ le 2 (fusesLeft d) ++ zeros 2 ++ d.sec.measures.flatten

/-- The HSS signature of RFC 8554 with one signed public key, 2 996 bytes: what it holds besides the hash values the
device alone can compute. -/
def hssBytes (d : Dev) : Bytes :=
  let o := openBytes d (96 + 1120 + 48 + 1120 + 192)
  be 4 1 ++
    (be 4 (leafCode d) ++ be 4 4 ++ slice o 96 1120 ++ be 4 7 ++ d.sec.path.getD []) ++
    (be 4 0xE1A50006 ++ be 4 4 ++ slice o 1216 48) ++
    (be 4 d.sec.leaves ++ be 4 4 ++ slice o 1264 1120 ++ be 4 0xE1A50006 ++ slice o 2384 192)

/-- ATTEST_REPORT. A bottom leaf is spent with its last one's event. -/
def doReport (c : Cmd) (d : Dev) : Nat × Bytes × Dev :=
  let lms := noLmsFlags d == 0
  let body := reportBody d (slice c.payload 0 32) ++ openBytes d 96
  if !lms then (stOk, body, draw d)
  else if c.mb < 2 && !bit c.flags 1 then (stBadLength, [], d)
  else
    let d1 := draw (modSec (fun s => { s with leaves := s.leaves + 1 }) d)
    (stOk, body ++ hssBytes d, if d1.sec.leaves = 64 then raise 15 2 [] d1 else d1)

/-! ### The debug port (R382) -/

/-- The challenge a token answers. -/
def challengeDigest (d : Dev) (scope : Nat) (nonce : Bytes) : Bytes :=
  sha384 (deviceId ++ nonce ++ le 1 scope ++ le 2 (leafCode d))

/-- DEBUG_CHALLENGE: a fresh nonce replaces any earlier one. -/
def doChallenge (c : Cmd) (d : Dev) : Nat × Bytes × Dev :=
  let scope := rdU c.payload 0 1
  if d.sys.op != .ready then (stNotPermitted, [], d)
  else if scope ≠ 1 ∧ scope ≠ 2 then (stBadParam, [], d)
  else
    let nonce := openBytes d 32
    (stOk, deviceId ++ nonce ++ le 1 scope ++ zeros 1 ++ le 2 (leafCode d) ++ zeros 4,
      draw (modSec (fun s => { s with challenge := some (scope, nonce) }) d))

/-- Scope 0x02 holds the safety outputs de-energised and every HST connection in CLOSED. -/
def debugSafety (d : Dev) : Dev :=
  deEnergiseAll (modHst (fun h => { h with conns := h.conns.map (fun x => { x with state := .closed }) }) d)

/-- DEBUG_UNLOCK: a token uses the nonce up. DEDUCED (assumption log, entry 61). -/
def doUnlock (c : Cmd) (d : Dev) : Nat × Bytes × Dev :=
  if d.sys.op != .ready then (stNotPermitted, [], d)
  else
    match d.sec.challenge with
    | none => (stNotPermitted, [], d)
    | some (scope, nonce) =>
      let v := Config.tokenVerdict c.payload (challengeDigest d scope nonce)
      let d1 := modSec (fun s => { s with challenge := none }) d
      if v = 1 then (stBadParam, [], d1)
      else if v = 2 then (stAuthFailed, [], d1)
      else if v ≠ 0 then (stSigFailed, [], d1)
      else
        let d2 := extendM 4 (sha384 c.payload) (modSec (fun s => { s with scopes := putBit s.scopes (scope - 1) true }) d1)
        let d3 := if scope = 2 then debugSafety d2 else d2
        (stOk, le 1 scope ++ zeros 3, raise 17 0 [] d3)

end Sys2Proof.Machine
end

