-- ==== Sys2Proof/Machine/SysCmds.lean ====
section
/-!
DEFINITION. The system and session groups, ABORT and GET_STATUS (R400 to R405, R413 to R417).
-/
namespace Sys2Proof.Machine

/-! ### System group -/

/-- SYS_INFO. -/
def doSysInfo (_ : Cmd) (d : Dev) : Nat × Bytes :=
  (stOk, deviceId ++ le 4 romVersion ++ le 4 d.sec.app.version ++ le 4 d.sec.safety.version ++ le 4 d.sec.app.pairId ++
    le 1 d.sys.boot ++ le 1 (opCode d.sys.op) ++ le 1 d.sys.haltCause ++ zeros 1 ++ le 8 d.sys.now ++ zeros 4)

/-- SYS_RESET: the reset follows the delivery of the response (R358). -/
def doSysReset (c : Cmd) (d : Dev) : Nat × Bytes × Dev :=
  if rdU c.payload 0 4 ≠ 0xE1A50001 then (stBadParam, [], d)
  else (stOk, [], modSys (fun y => { y with resetAfter := some (c.mb, c.tag) }) d)

/-- A state command waits to take effect (R415). DEDUCED (assumption log, entry 16). -/
def stateCmdWaits (d : Dev) : Bool := (allRunning d).any isStateCmd

/-- The checks of ARM (R271, R272, R415). DEDUCED (assumption log, entry 52). -/
def checkArm (_ : Cmd) (d : Dev) : Option (Nat × Bytes) :=
  if stateCmdWaits d then some (stBusy, [])
  else if d.sys.op != .ready || bit d.sec.scopes 1 || !healthy d || driveMode d == 0 || d.scan.tripped then some (stNotPermitted, [])
  else if anyAbove d 90 || !planFitsNow d then some (stBudget, [])
  else none

/-- ARM accepted: with the mirror at rest the charge amplifiers are reset and the scanner starts at the next frame tick; both
switches are to be tested (R190, R197, R245). -/
def beginArm (_ : Cmd) (d : Dev) : Dev :=
  let d1 := modSaf (fun s => { s with armTests := 0 }) d
  if d.scan.started then d1
  else
    let d2 := (chargesUsed d1).foldl (fun d k => chargeReset k (prmGetS d 0x080C) (tussNow d) d) d1
    modScan (fun s => { s with requests := s.requests ++ [(99, 0, true)] }) d2

/-- START, STOP and DISARM wait for the frame tick. -/
def checkState (ok : OpState → Bool) (_ : Cmd) (d : Dev) : Option (Nat × Bytes) :=
  if stateCmdWaits d then some (stBusy, []) else if ok d.sys.op then none else some (stNotPermitted, [])

def waitTick (_ : Cmd) (d : Dev) : Dev := d

/-- ARM_LOCK_TIMEOUT: two seconds after acceptance without lock (R31). -/
def armTimeout (d : Dev) : Dev :=
  match findRunning d 0x0103 with
  | none => d
  | some c => finishRunning c stHwFault [] (advanceTuss (c.t + 2000000000) d)

/-- BIND_OFF: from any state but HALTED (R31); in BIND_OFF itself it changes nothing. -/
def doBindOff (c : Cmd) (d : Dev) : Dev :=
  if rdU c.payload 0 4 ≠ 0xE1A50002 then finish c stBadParam [] d
  else if d.sys.op == .bindOff then finish c stOk [] d
  else if !ticking d then finish c stNotPermitted [] d
  else enterBindOff (finish c stOk [] d)

/-- The route of a source written. -/
def setRoute (route : Nat) (t : Tab Nat) (src : Nat) : Tab Nat :=
  let others := t.filter (fun e => e.1 != src)
  if route = evRouteDefault src then others else tabPut src route others

/-- EVENT_ROUTE. -/
def doEventRoute (c : Cmd) (d : Dev) : Nat × Bytes × Dev :=
  let first := rdU c.payload 0 2
  let count := rdU c.payload 2 2
  let route := rdU c.payload 4 1
  let judged := bit route 5 && !(decide (512 ≤ first ∧ first + count ≤ 640))
  if 1023 < first ∨ count = 0 ∨ 1024 < first + count ∨ (judged ∧ route % 32 < 10) then (stBadParam, [], d)
  else (stOk, [], modEv (fun e => { e with routes := (List.range count).foldl (fun t i => setRoute route t (first + i)) e.routes }) d)

/-! ### Sessions -/

/-- An identifier that is not among the sixteen latest, from the jitter source (R400). -/
def newIdent (old : List Nat) : Nat → Nat → Nat
  | 0, x => x
  | n + 1, x => if old.contains x then newIdent old n (x % (2 ^ 32 - 1) + 1) else x

/-- SESSION_OPEN. -/
def doOpen (c : Cmd) (d : Dev) : Nat × Bytes × Dev :=
  let asked := rdU c.payload 0 4
  let lease := if asked = 0 then 2000 else asked
  if d.kmp.session.isSome then (stSessionHeld, [], d)
  else if lease < 500 ∨ 60000 < lease then (stBadParam, [], d)
  else
    let ident := newIdent (d.kmp.lastIds.take 16) 17 (Config.jitter d.drawn % (2 ^ 32 - 1) + 1)
    let d1 := draw (modKmp (fun k => { k with session := some ⟨ident, c.mb, lease, tussNow d + lease * 1000000⟩, staged := ConfigSet.empty }) d)
    (stOk, le 4 ident ++ le 4 lease, raise (640 + 8 * c.mb + 1) 0 [] d1)

/-- SESSION_CLOSE. -/
def doClose (c : Cmd) (d : Dev) : Dev :=
  if d.kmp.staged ≠ ConfigSet.empty ∨ d.kmp.commit.isSome then finish c stBusy [] d
  else closeSession (finish c stOk [] d)

/-- SESSION_ROLLBACK. -/
def doRollback (_ : Cmd) (d : Dev) : Nat × Bytes × Dev :=
  if d.kmp.commit.isSome then (stBusy, [], d) else (stOk, [], modKmp (fun k => { k with staged := ConfigSet.empty }) d)

/-- SESSION_RENEW: milliseconds left, rounded up. -/
def leaseLeft (d : Dev) : Nat := d.kmp.session.elim 0 (fun s => ceilDiv (s.deadline - tussNow d) 1000000)

def doRenew (_ : Cmd) (d : Dev) : Nat × Bytes := (stOk, le 4 (leaseLeft d))

/-- Something other than a plan and drive words is staged. -/
def otherStaged (s : ConfigSet) : Bool := { s with plan := none, drive := [] } != ConfigSet.empty

/-- The checks of SESSION_COMMIT before its acceptance (R417). Every refusal carries the commit response.
DEDUCED (assumption log, entry 17). -/
def checkCommit (c : Cmd) (d : Dev) : Option (Nat × Bytes) :=
  let s := d.kmp.staged
  let sync := bit (rdU c.payload 0 2) 0
  let setId := rdU c.payload 4 4
  let role := prmGet d 0x0F0A
  let bad := if sync then otherStaged s || (s.plan.isNone && s.drive.isEmpty) || ((setId != 0) == s.drive.isEmpty) else setId != 0
  let st := if d.kmp.commit.isSome || d.sync.held.isSome then some stBusy
    else if sync && role == 0 then some stNotPermitted
    else if bad then some stBadParam
    else none
  st.map (fun x => (x, commitRsp d s 0xFFFFFFFF ⟨x, 0, 0, 0xFF⟩))

/-- SESSION_COMMIT accepted: the outcome of its check pass stands from here (R402). -/
def beginCommit (c : Cmd) (d : Dev) : Dev :=
  let v := checkSet d d.kmp.staged
  modKmp (fun k => { k with commit := some ⟨c.mb, c.tag, bit (rdU c.payload 0 2) 0, rdU c.payload 4 4, v.status, v.failed, v.reason, v.zone⟩ }) d

/-- SESSION_COMMIT: a refusal ends the commit without its commit point (R409). -/
def doCommit (c : Cmd) (d : Dev) : Dev :=
  match checkCommit c d with
  | some r => finish c r.1 r.2 (raise (640 + 8 * c.mb + 5) 0 [] d)
  | none => beginCommit c (accept c d)

/-! ### ABORT and GET_STATUS (R405) -/

/-- A trace unit's TRACE_ARM ends with ABORTED and its descriptor. -/
def abortTrace (x : Cmd) (d : Dev) : Dev :=
  match (List.range 4).find? (fun u => (traceGet d u).mb == x.mb && (traceGet d u).tag == x.tag && (traceGet d u).state != 4) with
  | none => finishRunning x stAborted [] d
  | some u =>
    let t := traceAbort (traceGet d u)
    finishRunning x stAborted (traceDesc u stAborted t) (modTrace u (fun _ => t) d)

/-- Abort a running target that has an abort point; `none` where its card defines none. DEDUCED (assumption log, entry 15). -/
def abortRunning (x : Cmd) (d : Dev) : Option Dev :=
  if x.op = 0x0103 then some (finishRunning x stAborted [] d)
  else if x.op = 0x0202 then some (endCommit ⟨stAborted, 0, 0, 0xFF⟩ d)
  else if x.op = 0x0304 then
    some (finishRunning x stAborted [] (modSync (fun y => { y with run := y.run.map (fun r => { r with cancel := true }) }) d))
  else if x.op = 0x0707 then
    some (match d.emi.selfTest with
      | some s => selfTestEnd stAborted [] s d
      | none => finishRunning x stAborted [] d)
  else if x.op = 0x0A07 then some (abortTrace x d)
  else if x.op = 0x0A09 ∨ x.op = 0x1001 then some (finishRunning x stAborted [] (modDiag (fun g => { g with hist := none, bulk := none }) d))
  else if x.op = 0x0C02 then some (peatAbort d)
  else if x.op = 0x0C05 then some (endReadout stAborted d)
  else if x.op = 0x0D00 then some (hookEnd stAborted d.hst.hook.check d.hst.hook.corrected d)
  else none

/-- The response of an ABORT that ended its target. -/
def abortedRsp : Bytes := le 2 stAborted ++ zeros 2

/-- ABORT. -/
def doAbort (c : Cmd) (d : Dev) : Dev :=
  let tag := rdU c.payload 0 2
  let m := mbGet d c.mb
  match m.waiting.find? (fun x => x.tag == tag), m.running.find? (fun x => x.tag == tag), m.finals.find? (fun x => x.tag == tag) with
  | some x, _, _ =>
    if overtakes x.op then finish c stBadParam [] d
    else finish c stOk abortedRsp (finish x stAborted [] (modMb c.mb (fun m => { m with waiting := m.waiting.filter (fun y => !sameCmd y x) }) d))
  | none, some x, _ =>
    if overtakes x.op then finish c stBadParam [] d
    else (match abortRunning x d with
      | some d1 => finish c stOk abortedRsp d1
      | none => modMb c.mb (fun m => { m with running := m.running ++ [c] }) d)
  | none, none, some f =>
    if overtakes f.op then finish c stBadParam [] d else finish c stAbortTooLate (le 2 f.status ++ zeros 2) d
  | none, none, none => finish c stBadParam [] d

/-- GET_STATUS. -/
def doGetStatus (c : Cmd) (d : Dev) : Nat × Bytes :=
  let tag := rdU c.payload 0 2
  let m := mbGet d c.mb
  let rsp (state st op : Nat) : Bytes := le 1 state ++ zeros 1 ++ le 2 st ++ le 2 op ++ zeros 2
  (stOk,
    match m.waiting.find? (fun x => x.tag == tag), m.running.find? (fun x => x.tag == tag), m.finals.find? (fun x => x.tag == tag) with
    | some x, _, _ => rsp 0 0 x.op
    | none, some x, _ => rsp (if overtakes x.op then 1 else 2) 0 x.op
    | none, none, some f => rsp 3 f.status f.op
    | none, none, none => if c.tag = tag then rsp 1 0 c.op else rsp 0xFF 0 0)

end Sys2Proof.Machine
end

