-- ==== Sys2Proof/Machine/RecvCmds.lean ====
section
/-!
DEFINITION. The plan, parameter, receive, time, point and repair commands (R419 to R428), and the shape of the parameter
commands of every group (R423, R430, R431).
-/
namespace Sys2Proof.Machine

/-! ### Plans (R419, R420) -/

/-- PLAN_WRITE. -/
def doPlanWrite (c : Cmd) (d : Dev) : Nat × Bytes × ConfigSet :=
  if planFormOk c.payload then (stOk, [], { d.kmp.staged with plan := some (parsePlan c.payload) })
  else (stBadParam, [], d.kmp.staged)

/-- The latest committed plan not yet applied. -/
def planCommitted (d : Dev) : Option Plan := d.prm.pending.foldl (fun p q => q.set.plan.or p) none

/-- The plan held for a synchronised change. -/
def planHeld (d : Dev) : Option Plan := d.sync.held.bind (·.set.plan)

/-- PLAN_READ. -/
def doPlanRead (c : Cmd) (d : Dev) : Nat × Bytes :=
  let show' (p : Option Plan) : Nat × Bytes := (stOk, p.elim [] planBytes)
  match rdU c.payload 0 1 with
  | 0 => show' (some d.seq.plan)
  | 1 => show' (planCommitted d)
  | 2 => show' (planHeld d)
  | 3 => show' d.kmp.staged.plan
  | _ => (stBadParam, [])

/-- The zones at the two ends of a plan. -/
def edgeZones (p : Plan) : List Zone := [endZone p 0, endZone p 1]

/-- The larger overtravel of a plan's edges. -/
def overtravelMax (p : Plan) : Frac := ((edgeZones p).map (overtravel p)).foldl fracMax (fracI 0)

/-- The check report; `r` is the failure of checks 1 to 9. -/
def checkReport (d : Dev) (p : Plan) (r : Option (Nat × Nat)) : Nat × Bytes :=
  let e := planEnv d.prm.vals
  let aMax := aMaxOf d.prm.vals
  let shape := match r with
    | some x => decide (5 < x.1)
    | none => true
  let share := if r.isSome then (0, true) else predictPlan aMax e.tick d.saf.committed (driveWord d) (segOfRow d) p
  let verdict : Nat × Nat × Nat := match r with
    | some x => (stInfeasible, x.1, x.2)
    | none => if share.2 then (stOk, 0, 0xFF)
              else (stBudget, 10, predictZone aMax e.tick d.saf.committed (driveWord d) (segOfRow d) p)
  (verdict.1,
    le 1 verdict.2.1 ++ le 1 verdict.2.2 ++ zeros 2 ++ le 4 (activeNs p) ++ leS 4 (turnaroundNs p) ++
    (if shape then leS 4 (fracRound (fieldSpan aMax p)) ++ leS 4 (fracRound (overtravelMax p)) else zeros 8) ++
    le 4 (if r.isSome then 0 else accelMax e (courseComing d) p) ++ le 4 (planShots p) ++ le 4 (planPoints p) ++
    le 2 (satU 16 (fracRound (railPower (driveWord d) (segOfRow d) p)).toNat) ++
    le 1 (satU 8 ((share.1 + 50) / 100)) ++ zeros 1)

/-- PLAN_CHECK. -/
def doPlanCheck (c : Cmd) (d : Dev) : Nat × Bytes :=
  if !planFormOk c.payload then (stBadParam, zeros 36)
  else
    let p := parsePlan c.payload
    checkReport d p (planChecks19 (planEnv d.prm.vals) (courseComing d) p)

/-- The plan a column table is asked of, with the a_max it runs with: in force, or committed and not yet applied or held (R36,
R420). -/
def columnsOf (d : Dev) (which : Nat) : Option Course :=
  match which with
  | 0 => some (courseNow d)
  | 1 => match planCommitted d with
    | some p => some ⟨aMaxOf (paramsComing d), p⟩
    | none => (planHeld d).map (fun p => ⟨aMaxOf (d.sync.held.elim (paramsComing d) (fun h => paramsAfter d h.set)), p⟩)
  | _ => none

/-- PLAN_COLUMNS. -/
def doPlanColumns (c : Cmd) (d : Dev) : Nat × Bytes :=
  let which := rdU c.payload 0 1
  let first := rdU c.payload 2 2
  let count := rdU c.payload 4 2
  match columnsOf d which with
  | none => (stBadParam, [])
  | some k =>
    let n := planColumns k.plan
    if count = 0 ∨ 4096 < count ∨ n < first + count then (stBadParam, [])
    else (stOk, le 2 n ++ zeros 2 ++ le 4 k.plan.planId ++
      (List.range count).flatMap (fun i => columnEntry k.aMax k.plan (first + i)))

/-! ### Parameters (R423, R430, R431) -/

/-- The entries of a set command: identifier and value. -/
def prmEntries (p : Bytes) : List (Nat × Nat) :=
  (List.range (rdU p 0 2)).map (fun i => (rdU p (4 + 8 * i) 2, rdU p (8 + 8 * i) 4))

/-- The place of the last of a set command's entries that sets one of some identifiers. -/
def lastEntry (es : List (Nat × Nat)) (ids : List Nat) : Nat :=
  (List.range es.length).foldl (fun m i => if ids.contains ((es.getD i (0, 0)).1) then i else m) 0

/-- A relation that the entries touch and break. -/
def relationHit (vals : Tab Nat) (es : List (Nat × Nat)) : Option Nat :=
  let touches (ids : List Nat) : Bool := es.any (fun e => ids.contains e.1)
  if touches [0x0404, 0x0405] && decide (paramIn vals 0x0405 < paramIn vals 0x0404) then some (lastEntry es [0x0404, 0x0405])
  else if touches [0x0420, 0x0421] && decide (44 < paramIn vals 0x0420 + paramIn vals 0x0421) then some (lastEntry es [0x0420, 0x0421])
  else none

/-- Settings refused now: code parameters while the SYNC master assigns them (R126), scanner settings outside READY (R431). -/
def prmBarred (d : Dev) (id : Nat) : Bool :=
  (decide (0x0420 ≤ id ∧ id ≤ 0x0422) && prmGet d 0x0423 == 1) || (paramReadyOnly id && d.sys.op != .ready)

/-- A set command's judgement: a refusal with its index, or its entries. -/
def judgeSet (group : Nat) (base : Tab Nat) (d : Dev) (p : Bytes) : Nat × Bytes × List (Nat × Nat) :=
  let es := prmEntries p
  if es.length = 0 ∨ 125 < es.length then (stBadParam, noIndex, [])
  else match firstBad es (fun e => e.1 / 256 == group && paramKnown e.1 && paramOk e.1 e.2) with
    | some i => (stBadParam, indexRsp i, [])
    | none =>
      match relationHit (paramsWith base es) es with
      | some i => (stBadParam, indexRsp i, [])
      | none =>
        match firstBad es (fun e => !prmBarred d e.1) with
        | some i => (stNotPermitted, indexRsp i, [])
        | none => (stOk, noIndex, es)

/-- A staging set command of a group. -/
def doPrmSet (group : Nat) (c : Cmd) (d : Dev) : Nat × Bytes × ConfigSet :=
  let s := d.kmp.staged
  let r := judgeSet group (paramsAfter d s) d c.payload
  (r.1, r.2.1, { s with params := r.2.2.foldl (fun t e => tabPut e.1 e.2 t) s.params })

/-- A get command of a group. -/
def doPrmGet (group : Nat) (c : Cmd) (d : Dev) : Nat × Bytes :=
  let which := rdU c.payload 0 1
  let ids := (List.range (rdU c.payload 2 2)).map (fun i => rdU c.payload (4 + 2 * i) 2)
  if 1 < which ∨ ids.length = 0 ∨ 125 < ids.length ∨ !ids.all (fun i => i / 256 == group && paramKnown i) then (stBadParam, [])
  else (stOk, ids.flatMap (fun i =>
    le 2 i ++ zeros 2 ++ le 4 (if which = 1 then (tabFind d.kmp.staged.params i).getD (prmGet d i) else prmGet d i)))

/-! ### Receive group -/

def parseAlign (p : Bytes) : List AlignEntry :=
  (List.range 136).map (fun i => ⟨rdU p (8 * i) 2, rdS p (8 * i + 2) 2, rdU p (8 * i + 4) 2⟩)

/-- The ranges of R81. -/
def alignEntryOk (e : AlignEntry) : Bool :=
  (decide (e.rowPos ≤ 40959) || e.rowPos == 0xFFFF) && decide (-2048 ≤ e.colOffset ∧ e.colOffset ≤ 2047) &&
    decide (128 ≤ e.bandHeight ∧ e.bandHeight ≤ 512)

def alignBytes (e : AlignEntry) (row : Nat) : Bytes := le 2 row ++ leS 2 e.colOffset ++ le 2 e.bandHeight ++ zeros 2

/-- ALIGN_WRITE: the field at 0x06 has the range 0 (R81). -/
def doAlignWrite (c : Cmd) (d : Dev) : Nat × Bytes × ConfigSet :=
  let es := parseAlign c.payload
  match firstBad ((List.range 136).zip es) (fun e => alignEntryOk e.2 && rdU c.payload (8 * e.1 + 6) 2 == 0) with
  | some i => (stBadParam, indexRsp i, d.kmp.staged)
  | none => (stOk, noIndex, { d.kmp.staged with align := some es })

/-- ALIGN_READ: as written, or with the refined rows. -/
def doAlignRead (c : Cmd) (d : Dev) : Nat × Bytes :=
  match rdU c.payload 0 1 with
  | 0 => (stOk, d.recv.align.flatMap (fun e => alignBytes e e.rowPos))
  | 1 => (stOk, (d.recv.align.zip (refinedRows d)).flatMap (fun e => alignBytes e.1 (if e.1.rowPos = 0xFFFF then 0xFFFF else e.2)))
  | _ => (stBadParam, [])

/-- GAUGE_READ: a lane whose shadow holds no table waiting reads there as in force. -/
def doGaugeRead (c : Cmd) (d : Dev) : Nat × Bytes :=
  let first := rdU c.payload 0 2
  let count := rdU c.payload 2 2
  let which := rdU c.payload 4 1
  if count = 0 ∨ 1096 < first + count ∨ 1 < which then (stBadParam, [])
  else (stOk, (List.range count).flatMap (fun i =>
    let g := gaugeOf d (first + i)
    gaugeBytes (first + i) (if which = 1 then (tabFind d.gauge.shadow (first + i)).getD g else g)))

/-- LANE_STATS. -/
def doLaneStats (c : Cmd) (d : Dev) : Nat × Bytes :=
  let first := rdU c.payload 0 2
  let count := rdU c.payload 2 2
  let banks := bitList 8 (rdU c.payload 4 1)
  if 1088 < first + count ∨ (count = 0 ∧ banks = []) then (stBadParam, [])
  else (stOk, le 4 d.histo.latchedFrame ++ zeros 4 ++ (List.range count).flatMap (fun i => laneBlock d (first + i)) ++
    banks.flatMap (bankBlock d))

/-- A lane's status word (R132). -/
def laneWord (d : Dev) (p : Nat) : Nat :=
  let w := tabGet LaneStatus.none d.histo.status p
  flag w.sat 31 + flag w.code 30 + w.k * 2 ^ 26 + w.live * 2 ^ 22 + w.t * 2 ^ 12 + w.score * 2 ^ 8 + w.theta

/-- A run of lanes lies among the 1 088. -/
def laneRunOk (p : Bytes) : Bool := rdU p 2 2 != 0 && decide (rdU p 0 2 + rdU p 2 2 ≤ 1088)

/-- LANE_STATUS. -/
def doLaneStatus (c : Cmd) (d : Dev) : Nat × Bytes :=
  if laneRunOk c.payload then (stOk, (List.range (rdU c.payload 2 2)).flatMap (fun i => le 4 (laneWord d (rdU c.payload 0 2 + i))))
  else (stBadParam, [])

/-- LANE_CLEAR. -/
def doLaneClear (c : Cmd) (d : Dev) : Nat × Bytes × Dev :=
  if laneRunOk c.payload then
    (stOk, [], modHisto (fun h => { h with status := (List.range (rdU c.payload 2 2)).foldl (fun t i =>
      tabMod LaneStatus.none t (rdU c.payload 0 2 + i) (fun w => { w with sat := false })) h.status }) d)
  else (stBadParam, [], d)

/-! ### Time group -/

/-- TIME_AGEING's range (R104). -/
def checkAgeing (c : Cmd) (_ : Dev) : Option (Nat × Bytes) :=
  let a := rdS c.payload 0 4
  if -200000 ≤ a ∧ a ≤ 200000 then none else some (stBadParam, [])

/-- TIME_AGEING accepted: an earlier one ends SUPERSEDED, and the slew goes on from where it stands (R425). -/
def beginAgeing (c : Cmd) (d : Dev) : Dev :=
  let v := ageingNow d
  let d1 := finishWhere (fun x => x.op == 0x0502 && !sameCmd x c) stSuperseded (leS 4 v) d
  modTim (fun t => { t with ageing := v, ageingFrom := v, ageingTarget := rdS c.payload 0 4, ageingSince := tussNow d, slewing := true }) d1

/-- AGEING_SLEW_COMPLETE. -/
def ageingComplete (d : Dev) : Dev :=
  if !d.tim.slewing then d
  else
    let d1 := modTim (fun t => { t with ageing := t.ageingTarget, slewing := false }) (advanceTuss (slewEnd d) d)
    finishWhere (fun x => x.op == 0x0502) stOk (leS 4 d.tim.ageingTarget) d1

/-- TIME_STATUS. -/
def doTimeStatus (_ : Cmd) (d : Dev) : Nat × Bytes :=
  let t := d.tim
  let r := ageingRec d
  (stOk, le 8 d.sys.now ++ le 1 (servoCode t.servo) ++ le 1 (flag (prmGet d 0x0501 == 1) 0 + flag t.alignLocked 1) ++
    le 1 (d.net.slave.getD 0xFF) ++ zeros 1 ++ leS 4 t.offset ++ leS 4 t.rate ++ leS 4 t.phaseErr ++ leS 4 (ageingNow d) ++
    leS 4 r.1 ++ le 1 (flag r.2.2.2 0) ++ zeros 3 ++ le 8 t.grandmaster ++
    le 4 (if t.servo = .locked then satU 32 ((tussNow d - t.lockSince) / 1000000000) else 0))

/-! ### Point and repair groups -/

/-- INTENSITY_WRITE. -/
def doIntensityWrite (c : Cmd) (d : Dev) : Nat × Bytes × ConfigSet :=
  (stOk, [], { d.kmp.staged with intensity := some ((List.range 136).map (fun i => rdU c.payload (2 * i) 2)) })

/-- INTENSITY_READ. -/
def doIntensityRead (_ : Cmd) (d : Dev) : Nat × Bytes := (stOk, d.prm.intensity.flatMap (le 2))

/-- MAP_READ. -/
def doMapRead (c : Cmd) (d : Dev) : Nat × Bytes :=
  let off := rdU c.payload 0 4
  let len := rdU c.payload 4 4
  if len = 0 ∨ 65528 < len ∨ 103856 < off + len then (stBadParam, [])
  else (stOk, le 4 d.rep.number ++ le 4 d.rep.frame ++ mapBytes d off len)

/-- The entries of MASK_FORCE as written: row, op, column, SPADs, reserved bytes. -/
def maskEntryOk (p : Bytes) (i : Nat) : Bool :=
  let o := 4 + 8 * i
  decide (rdU p o 1 ≤ 159) && decide (1 ≤ rdU p (o + 1) 1 ∧ rdU p (o + 1) 1 ≤ 4) && decide (rdU p (o + 2) 2 ≤ 639) &&
    decide (rdU p (o + 4) 1 ≤ 15) && zeroAt p (o + 5) 3

/-- One entry: whole-macropixel ops name no SPAD, and an op on no SPAD does nothing. -/
def maskOps (p : Bytes) (i : Nat) : List MaskOp :=
  let o := 4 + 8 * i
  let op := rdU p (o + 1) 1
  let spads := rdU p (o + 4) 1
  let set := op % 2
  if 3 ≤ op then [⟨rdU p o 1, set, rdU p (o + 2) 2, 0⟩] else if spads = 0 then [] else [⟨rdU p o 1, set, rdU p (o + 2) 2, spads⟩]

/-- MASK_FORCE. -/
def doMaskForce (c : Cmd) (d : Dev) : Nat × Bytes × ConfigSet :=
  let n := rdU c.payload 0 2
  if n = 0 ∨ 125 < n then (stBadParam, noIndex, d.kmp.staged)
  else match firstBad (List.range n) (maskEntryOk c.payload) with
    | some i => (stBadParam, indexRsp i, d.kmp.staged)
    | none => (stOk, noIndex, { d.kmp.staged with masks := d.kmp.staged.masks ++ (List.range n).flatMap (maskOps c.payload) })

/-- RETIRE. -/
def doRetire (c : Cmd) (d : Dev) : Nat × Bytes × ConfigSet :=
  let n := rdU c.payload 0 1
  let s := d.kmp.staged
  if 135 < n then (stBadParam, [], s) else (stOk, [], { s with retire := if s.retire.contains n then s.retire else s.retire ++ [n] })

end Sys2Proof.Machine
end

