-- ==== Sys2Proof/Machine/DriveCmds.lean ====
section
/-!
DEFINITION. The emitter, scanner, sense and loop commands, trace units and diagnostics (R432 to R441, R455, R456).
-/
namespace Sys2Proof.Machine

/-! ### Emitter group (R432 to R435) -/

/-- DRIVE_READ. -/
def doDriveRead (c : Cmd) (d : Dev) : Nat × Bytes :=
  match rdU c.payload 0 1 with
  | 0 => (stOk, (List.range 136).flatMap (fun n => le 2 (driveWord d n)))
  | 1 => (stOk, (List.range 136).flatMap (fun n => le 2 (driveWith d d.kmp.staged n)))
  | _ => (stBadParam, [])

/-- EMIT_STATUS. -/
def doEmitStatus (_ : Cmd) (d : Dev) : Nat × Bytes :=
  (stOk, (List.range 136).flatMap (fun n => le 4 (segWord d n)) ++ (List.range 8).flatMap (fun b => le 4 (bankWord d b)))

/-- EMIT_COUNTERS. -/
def doEmitCounters (_ : Cmd) (d : Dev) : Nat × Bytes :=
  (stOk, le 4 d.emi.latchedFrame ++ zeros 4 ++
    (List.range 136).flatMap (fun n => segBlock (tabGet SegStat.none d.emi.latched n)))

/-- EMIT_CLEAR. -/
def doEmitClear (c : Cmd) (d : Dev) : Nat × Bytes × Dev :=
  let first := rdU c.payload 0 1
  let count := rdU c.payload 1 1
  let banks := bitList 8 (rdU c.payload 2 1)
  if 136 < first + count then (stBadParam, [], d)
  else
    let d1 := (List.range count).foldl (fun d i => modSeg (first + i) (fun s => { s with badSeen := false }) d) d
    (stOk, [], banks.foldl (fun d b => modBank b (fun x => { x with resLow := false }) d) d1)

/-- A run of objects lies among `n`. -/
def runOk (n : Nat) (p : Bytes) : Bool := rdU p 1 1 != 0 && decide (rdU p 0 1 + rdU p 1 1 ≤ n)

/-- DRIVE_WRITE. -/
def doDriveWrite (c : Cmd) (d : Dev) : Nat × Bytes × ConfigSet :=
  let s := d.kmp.staged
  let ws := (List.range (rdU c.payload 1 1)).map (fun i => (rdU c.payload 0 1 + i, rdU c.payload (4 + 2 * i) 2 % 4096))
  if !runOk 136 c.payload then (stBadParam, noIndex, s)
  else match firstBad ws (fun w => driveWordOk w.2) with
    | some i => (stBadParam, indexRsp i, s)
    | none => (stOk, noIndex, { s with drive := ws.foldl (fun t w => tabPut w.1 w.2 t) s.drive })

/-- EMIT_SELFTEST: refused without room for its result, while one is pending, or without idle time (R185, R435). -/
def checkSelfTest (c : Cmd) (d : Dev) : Option (Nat × Bytes) :=
  if c.mb < 2 ∧ !bit c.flags 1 then some (stBadLength, [])
  else if d.emi.selfTest.isSome then some (stBusy, [])
  else if idleTime d.seq.plan < 200000 then some (stInfeasible, [])
  else none

def beginSelfTest (c : Cmd) (d : Dev) : Dev :=
  modEmi (fun e => { e with selfTest := some ⟨c.mb, c.tag, false, false, []⟩ }) d

/-! ### Scanner group (R436) -/

/-- SCAN_STATS. -/
def doScanStats (_ : Cmd) (d : Dev) : Nat × Bytes := (stOk, le 4 (driveWord215 d) ++ zeros 4 ++ scanBlock d)

/-- SCAN_CLEAR. -/
def doScanClear (_ : Cmd) (d : Dev) : Nat × Bytes × Dev :=
  (stOk, [], modScan (fun s => { s with tripSeen := false }) d)

/-- SCAN_START: on a running scanner it ends at once. -/
def checkScanStart (_ : Cmd) (d : Dev) : Option (Nat × Bytes) :=
  if d.sys.op != .ready || driveMode d == 0 || d.scan.tripped || d.scan.held then some (stNotPermitted, [])
  else if d.scan.started then some (stOk, le 4 d.scan.startFrame)
  else none

def checkScanStop (_ : Cmd) (d : Dev) : Option (Nat × Bytes) :=
  if d.sys.op != .ready then some (stNotPermitted, []) else none

def requestScan (start : Bool) (c : Cmd) (d : Dev) : Dev :=
  modScan (fun s => { s with requests := s.requests ++ [(c.mb, c.tag, start)] }) d

/-! ### Sense group (R437) -/

/-- ENTRY_READ. -/
def doEntryRead (c : Cmd) (d : Dev) : Nat × Bytes :=
  match rdU c.payload 0 1 with
  | 0 => (stOk, (List.range 16).flatMap (fun e => le 4 (entryWord d e)))
  | 1 => (stOk, (List.range 16).flatMap (fun e => le 4 (entryWith d d.kmp.staged e)))
  | _ => (stBadParam, [])

/-- SENSE_VALUES. -/
def doSenseValues (c : Cmd) (d : Dev) : Nat × Bytes :=
  let e := rdU c.payload 0 1
  if 15 < e then (stBadParam, [])
  else (stOk, (List.range (entryMembers (entryWord d e))).flatMap (fun k =>
    let m := memberGet d e k
    leS 4 m.value ++ le 2 m.flags ++ le 1 (entrySource (entryWord d e) + k) ++ zeros 1 ++ le 8 m.time))

/-- ENTRY_WRITE: reserved bits are not kept. -/
def doEntryWrite (c : Cmd) (d : Dev) : Nat × Bytes × ConfigSet :=
  let s := d.kmp.staged
  let ws := (List.range (rdU c.payload 1 1)).map (fun i => (rdU c.payload 0 1 + i, clrBits 32 (rdU c.payload (4 + 4 * i) 4) 0x1800))
  if !runOk 16 c.payload then (stBadParam, noIndex, s)
  else match firstBad ws (fun w => entryWordOk w.2) with
    | some i => (stBadParam, indexRsp i, s)
    | none => (stOk, noIndex, { s with entries := ws.foldl (fun t w => tabPut w.1 w.2 t) s.entries })

/-- RING_READ. A `from` exactly 2³¹ from the next record number is out of sequence under R13, which says no more: it is served as one earlier
than the oldest record. DESIGN CHOICE (assumption log, entry 77). -/
def doRingRead (c : Cmd) (d : Dev) : Nat × Bytes :=
  let x := d.sense
  let from_ := rdU c.payload 0 4
  let count := rdU c.payload 4 2
  let back := (x.ringNext + 2 ^ 32 - from_) % 2 ^ 32
  if count = 0 ∨ 4096 < count ∨ laterThan 32 from_ x.ringNext then (stBadParam, [])
  else
    let k := min back x.ring.length
    let rs := (x.ring.drop (x.ring.length - k)).take count
    (stOk, le 4 (x.ringNext + 2 ^ 32 - k) ++ le 4 (x.ringNext + 2 ^ 32 - x.ring.length) ++ le 4 x.ringNext ++
      le 4 x.overwritten ++ rs.flatMap sedgeRecBytes)

/-! ### Loop group (R438, R439) -/

/-- LOOP_READ. -/
def doLoopRead (c : Cmd) (d : Dev) : Nat × Bytes :=
  let n := rdU c.payload 0 1
  match rdU c.payload 1 1 with
  | 0 => if 15 < n then (stBadParam, []) else (stOk, loopRec d n)
  | 1 => if 15 < n then (stBadParam, []) else (stOk, recWith d d.kmp.staged n)
  | _ => (stBadParam, [])

/-- LOOP_STATUS. -/
def doLoopStatus (_ : Cmd) (d : Dev) : Nat × Bytes := (stOk, (List.range 16).flatMap (fun n => le 4 (slotWord (slotGet d n))))

/-- LOOP_CLEAR. -/
def doLoopClear (c : Cmd) (d : Dev) : Nat × Bytes × Dev :=
  let bits := rdU c.payload 2 1
  if 7 < bits then (stBadParam, [], d)
  else (stOk, [], (bitList 16 (rdU c.payload 0 2)).foldl (fun d n => modSlot n (fun x =>
    { x with ovrSeen := x.ovrSeen && !bit bits 0, sat := x.sat && !bit bits 1, bump := x.bump && !bit bits 2 }) d) d)

/-- LOOP_WRITE. -/
def doLoopWrite (c : Cmd) (d : Dev) : Nat × Bytes × ConfigSet :=
  let s := d.kmp.staged
  let n := rdU c.payload 0 1
  let r := loopKept (slice c.payload 4 128)
  if 15 < n ∨ !loopRecOk n r then (stBadParam, [], s)
  else if !loopRecFixed n r then (stNotPermitted, [], s)
  else (stOk, [], { s with loops := tabPut n r s.loops })

/-- LOOP_MODE. -/
def checkLoopMode (c : Cmd) (d : Dev) : Option (Nat × Bytes) :=
  let n := rdU c.payload 0 1
  let mode := rdU c.payload 1 1
  if 15 < n ∨ 2 < mode then some (stBadParam, [])
  else if d.loops.requests.any (fun q => q.slot == n) then some (stBusy, [])
  else
    let x := slotGet d n
    if x.mode == .held || (x.mode == .fallback && (causePresent d n || mode == 1)) then some (stNotPermitted, []) else none

def requestLoopMode (c : Cmd) (d : Dev) : Dev :=
  let value : Option Int := if bit (rdU c.payload 2 1) 0 then some (recM c.payload 4) else none
  modLoops (fun l => { l with requests := l.requests ++ [⟨c.mb, c.tag, rdU c.payload 0 1, rdU c.payload 1 1, value⟩] }) d

/-! ### Trace units (R236, R237, R441) -/

/-- A tap: a slot's node, or a node without a slot. -/
def tapOk (slot node : Nat) : Bool :=
  if node ≤ 0x0D then decide (slot ≤ 15)
  else slot == 0xFF && (decide (0x10 ≤ node ∧ node ≤ 0x13) || decide (0x18 ≤ node ∧ node ≤ 0x1F))

/-- TRACE_ARM. -/
def checkTraceArm (c : Cmd) (d : Dev) : Option (Nat × Bytes) :=
  let p := c.payload
  let u := rdU p 0 1
  let div := rdU p 4 2
  if 3 < u ∨ !tapOk (rdU p 1 1) (rdU p 2 1) ∨ !(decide (1 ≤ rdU p 3 1 ∧ rdU p 3 1 ≤ 5)) ∨ div = 0 ∨ 256 < div ∨ 4095 < rdU p 6 2 ∨
      (rdU p 3 1 = 3 ∧ 1023 < rdU p 8 2) then some (stBadParam, [])
  else
    let s := (traceGet d u).state
    if 1 ≤ s ∧ s ≤ 3 then some (stBusy, []) else none

def armTrace (c : Cmd) (d : Dev) : Dev :=
  let p := c.payload
  modTrace (rdU p 0 1) (fun _ => { Trace.reset with
    state := 1, mb := c.mb, tag := c.tag, slot := rdU p 1 1, node := rdU p 2 1, source := rdU p 3 1,
    div := rdU p 4 2, post := rdU p 6 2, detail := rdU p 8 2, threshold := rdS p 12 4 }) d

/-- TRACE_TRIGGER: the units that take it. -/
def doTraceTrigger (c : Cmd) (d : Dev) : Nat × Bytes × Dev :=
  let units := rdU c.payload 0 1
  if 15 < units then (stBadParam, [], d)
  else
    let took (u : Nat) : Bool := bit units u && (traceGet d u).source == 4 && (traceGet d u).state == 2 && (traceGet d u).trigPending.isNone
    (stOk, le 1 (maskOf ((List.range 4).filter took)) ++ zeros 3,
      (bitList 4 units).foldl (fun d u => traceTrigger u 4 d.sys.now d) d)

/-! ### Bulk diagnostic data (R440, R455, R456) -/

/-- One such command runs at a time; port 0 needs its destination. -/
def bulkBusy (d : Dev) : Bool := d.diag.bulk.isSome || d.diag.hist.isSome
def bulkUnset (c : Cmd) (d : Dev) : Bool := decide (2 ≤ c.mb) && prmGet d 0x0B23 == 0xFF

/-- The entries a result of so many bytes makes. -/
def bulkParts (n : Nat) : Nat := ceilDiv n 4096

/-- TRACE_READ. -/
def checkTraceRead (c : Cmd) (d : Dev) : Option (Nat × Bytes) :=
  let p := c.payload
  let t := traceGet d (rdU p 0 1)
  let count := rdU p 4 2
  if 3 < rdU p 0 1 ∨ count = 0 ∨ 4096 < count ∨ (1 ≤ t.state ∧ t.state ≤ 3) ∨ t.samples.length < rdU p 2 2 + count then
    some (stBadParam, [])
  else if bulkBusy d then some (stBusy, [])
  else if bulkUnset c d then some (stNotPermitted, [])
  else none

/-- From here on the capture counts as read (R237; that reading begins with the command is a DESIGN CHOICE, assumption log, entry 75). -/
def startTraceRead (c : Cmd) (d : Dev) : Dev :=
  let p := c.payload
  let u := rdU p 0 1
  let t := traceGet d u
  let data := traceDesc u (if t.state = 5 then stAborted else stOk) t ++
    ((t.samples.drop (rdU p 2 2)).take (rdU p 4 2)).flatMap (·.2)
  modDiag (fun g => { g with bulk := some ⟨c.mb, c.tag, c.op, data, 0, bulkParts data.length⟩ }) (modTrace u (fun t => { t with read := true }) d)

/-- DIAG_STAMP. -/
def checkDiagStamp (c : Cmd) (d : Dev) : Option (Nat × Bytes) :=
  let p := c.payload
  if 1087 < rdU p 0 2 ∨ rdU p 2 1 = 0 ∨ 64 < rdU p 2 1 ∨ 614400 < rdU p 4 4 + rdU p 8 4 then some (stBadParam, [])
  else if d.diag.stamp.isSome then some (stBusy, [])
  else none

def startDiagStamp (c : Cmd) (d : Dev) : Dev :=
  let p := c.payload
  let s : DiagStamp := { mb := c.mb, tag := c.tag, lane := rdU p 0 2, start := rdU p 4 4, width := rdU p 8 4, frames := rdU p 2 1,
                         begun := false, capped := false, stat := Stat.none }
  modDiag (fun g => { g with stamp := some s }) d

/-- DIAG_HIST. -/
def checkDiagHist (c : Cmd) (d : Dev) : Option (Nat × Bytes) :=
  if 1087 < rdU c.payload 0 2 then some (stBadParam, [])
  else if bulkBusy d then some (stBusy, [])
  else if bulkUnset c d then some (stNotPermitted, [])
  else none

def startDiagHist (c : Cmd) (d : Dev) : Dev :=
  modDiag (fun g => { g with hist := some ⟨c.mb, c.tag, rdU c.payload 0 2, rdU c.payload 2 2, false⟩ }) d

end Sys2Proof.Machine
end

