-- ==== Sys2Proof/Machine/StreamCmds.lean ====
section
/-!
DEFINITION. The stream, Peat and Hook commands (R432, R433, R442 to R446).
-/
namespace Sys2Proof.Machine

/-! ### Stream group (R442, R443) -/

/-- One entry of SUBSCRIBE: its queue, weight and target, with the status of its checks. -/
def subEntry (p : Bytes) (i : Nat) : Nat × Nat × Nat := (rdU p (4 + 4 * i) 2, rdU p (6 + 4 * i) 1, rdU p (7 + 4 * i) 1)

def subStatus (d : Dev) (port : Nat) (e : Nat × Nat × Nat) : Nat :=
  if 8191 < e.1 ∨ queueTypeOf e.1 = 7 then stBadParam
  else if e.2.1 = 0 then stOk
  else if (if port = 2 then e.2.2 ≠ 0 else 7 < e.2.2) then stBadParam
  else if port = 2 ∧ queueTypeOf e.1 ≤ 3 then stNotPermitted
  else if port = 0 ∧ (d.net.dests.getD e.2.2 Dest.unset).family = 0 then stBadParam
  else stOk

/-- SUBSCRIBE. -/
def doSubscribe (c : Cmd) (d : Dev) : Nat × Bytes × ConfigSet :=
  let s := d.kmp.staged
  let port := rdU c.payload 0 1
  let n := rdU c.payload 2 2
  let es := (List.range n).map (subEntry c.payload)
  if 2 < port ∨ n = 0 ∨ 8192 < n then (stBadParam, noIndex, s)
  else match firstBad es (fun e => subStatus d port e == stOk) with
    | some i => (subStatus d port (es.getD i (0, 0, 0)), indexRsp i, s)
    | none => (stOk, noIndex, { s with subs := es.foldl (fun t e => tabPut (subKey port e.1) e.2 t) s.subs })

/-- SUBS_READ. -/
def doSubsRead (c : Cmd) (d : Dev) : Nat × Bytes :=
  let port := rdU c.payload 0 1
  let first := rdU c.payload 2 2
  let count := rdU c.payload 4 2
  if 2 < port ∨ count = 0 ∨ 8192 < first + count then (stBadParam, [])
  else (stOk, (List.range count).flatMap (fun i =>
    le 1 (weightOf d.slu port (first + i)) ++ le 1 (targetOf d.slu port (first + i)) ++
      leS 2 (tabGet 0 d.slu.credit (subKey port (first + i)))))

/-- POOL_SET (R303). -/
def doPoolSet (c : Cmd) (d : Dev) : Nat × Bytes × ConfigSet :=
  let s := d.kmp.staged
  let z := (List.range 4).map (fun i => rdU c.payload (4 * i) 4)
  if z.sum ≠ 65536 ∨ z.getD 0 0 < 8192 ∨ z.getD 1 0 < 1024 ∨ z.getD 2 0 < 512 then (stBadParam, [], s)
  else if d.sys.op != .ready then (stNotPermitted, [], s)
  else (stOk, [], { s with pools := some z })

/-- A requester exists on a port (R298). -/
def portHas (p r : Nat) : Bool :=
  decide (p ≤ 2 ∧ r ≤ 6) && (p == 0 || (r != 1 && r != 2)) && (p != 2 || r != 5)

/-- CLASS_SET (R308). -/
def doClassSet (c : Cmd) (d : Dev) : Nat × Bytes × Dev :=
  let p := rdU c.payload 0 1
  let r := rdU c.payload 1 1
  let k := rdU c.payload 2 1
  if !portHas p r ∨ 3 < k then (stBadParam, [], d)
  else (stOk, [], modSlu (modPort p (fun x => { x with classes := listMod x.classes r (fun _ => k) })) d)

/-- FREEZE (R310). -/
def doFreeze (c : Cmd) (d : Dev) : Nat × Bytes × Dev :=
  let p := rdU c.payload 0 1
  let op := rdU c.payload 1 1
  if 2 < p ∨ 1 < op then (stBadParam, [], d)
  else
    let d1 := updateDrained p (modSlu (modPort p (fun x => { x with freezeBy := if op = 1 then some c.session else none })) d)
    (stOk, le 4 (portWord d1 p), d1)

/-- WATCHDOG_SET: grants already issued keep their own. -/
def doWatchdogSet (c : Cmd) (d : Dev) : Nat × Bytes × Dev :=
  let p := rdU c.payload 0 1
  let ms := rdU c.payload 2 2
  if 2 < p ∨ ms = 0 ∨ 100 < ms then (stBadParam, [], d)
  else (stOk, [], modSlu (modPort p (fun x => { x with watchdog := ms })) d)

/-- PORT_STATUS. -/
def doPortStatus (_ : Cmd) (d : Dev) : Nat × Bytes :=
  let s := d.slu
  (stOk, (List.range 3).flatMap (fun p =>
    let x := portGet s p
    le 4 (portWord d p) ++ le 4 x.lifeDrops ++ le 4 ((List.range 7).foldl (fun w r => w + x.classes.getD r 0 * 16 ^ r) 0) ++
      le 1 x.watchdog ++ zeros 3) ++
    (List.range 3).flatMap (fun i => le 4 (poolUsed s i - poolExcess s i)) ++ le 4 (totalExcess s))

/-- PORT_STATS. -/
def doPortStats (_ : Cmd) (d : Dev) : Nat × Bytes :=
  (stOk, le 4 d.slu.latchedFrame ++ zeros 4 ++
    (List.range 3).flatMap (fun p => portBlock (portGet d.slu p).latched d.slu.latchedFrame))

/-- PORT_CLEAR. -/
def doPortClear (c : Cmd) (d : Dev) : Nat × Bytes × Dev :=
  let ports := rdU c.payload 0 1
  let bits := rdU c.payload 1 1
  if 7 < ports ∨ 3 < bits then (stBadParam, [], d)
  else (stOk, [], (bitList 3 ports).foldl (fun d p => modSlu (modPort p (fun x =>
    { x with wdBite := x.wdBite && !bit bits 0, dropSeen := x.dropSeen && !bit bits 1 })) d) d)

/-! ### Peat group (R444, R445) -/

def peatStateCode (s : PeatState) : Nat :=
  match s with
  | .idle => 0
  | .arming => 1
  | .armed => 2
  | .filling => 3
  | .dead => 4
  | .full => 5

/-- A Peat configuration as the device keeps it: the reserved bits of `extra`, `triggers` and `forward` are ignored and read as
zero (R8). -/
def peatConfigKept (p : Bytes) : Bytes :=
  p.take 0x0B ++ le 1 (rdU p 0x0B 1 % 32) ++ slice p 0x0C 3 ++ le 1 (rdU p 0x0F 1 % 16) ++ le 1 (rdU p 0x10 1 % 4) ++ p.drop 0x11

/-- The ranges of a Peat configuration. -/
def peatConfigOk (p : Bytes) : Bool :=
  let n := rdU p 0x11 1
  [1, 2, 4, 8].contains (rdU p 0x0C 1) && decide (rdU p 0x0D 1 ≤ 1 ∧ n ≤ 8) &&
    zeroAt p 0x12 2 && zeroAt p 0x34 12 && (List.range 8).all (fun i =>
      if i < n then decide (rdU p (0x14 + 2 * i) 2 ≤ 1023) else rdU p (0x14 + 2 * i) 2 == 0) &&
    (List.range 16).all (fun b => decide (rdU p (0x24 + b) 1 ≤ 63))

/-- PEAT_CONFIG: another division of the store frees every capture, and a readout of one ends. -/
def doPeatConfig (c : Cmd) (d : Dev) : Nat × Bytes × Dev :=
  if !peatConfigOk c.payload then (stBadParam, [], d)
  else if d.peat.state != .idle then (stNotPermitted, [], d)
  else
    let keep := rdU c.payload 0x0C 1 == peatSegs d
    let d1 := if keep then d else endReadout stAborted d
    (stOk, [], modPeat (fun p => { p with
      config := peatConfigKept c.payload, segs := if keep then p.segs else List.replicate 8 PeatSeg.free }) d1)

/-- PEAT_CONFIG_READ. -/
def doPeatConfigRead (_ : Cmd) (d : Dev) : Nat × Bytes := (stOk, d.peat.config)

/-- PEAT_DESCRIPTORS. -/
def doPeatDescriptors (_ : Cmd) (d : Dev) : Nat × Bytes :=
  (stOk, le 1 (peatStateCode d.peat.state) ++ le 1 (maskOf (peatFree d)) ++ zeros 2 ++
    (List.range 8).flatMap (fun i => captureBytes i (peatSegGet d i)))

/-- PEAT_ARM. -/
def checkPeatArm (_ : Cmd) (d : Dev) : Option (Nat × Bytes) :=
  if peatEmpty d then some (stBadParam, []) else if d.peat.state != .idle then some (stBusy, []) else none

def armPeat (c : Cmd) (d : Dev) : Dev := modPeat (fun p => { p with state := .arming, arm := some (c.mb, c.tag), trigs := [] }) d

/-- PEAT_TRIGGER: it starts a fill when Peat is armed and no trigger waits before it. -/
def doPeatTrigger (_ : Cmd) (d : Dev) : Nat × Bytes × Dev :=
  if !peatTrigOn d 3 then (stNotPermitted, [], d)
  else (stOk, le 1 (peatStateCode d.peat.state) ++ le 1 (flag (d.peat.state == .armed && d.peat.trigs.isEmpty) 0) ++ zeros 2,
    peatTrigger 4 0 d)

/-- The segment of a capture closed with OK. -/
def closedSegment (d : Dev) (capture : Nat) : Option Nat :=
  (List.range 8).find? (fun i => match (peatSegGet d i).desc with
    | some x => x.number == capture && x.status == stOk
    | none => false)

/-- PEAT_READ. -/
def checkPeatRead (c : Cmd) (d : Dev) : Option (Nat × Bytes) :=
  let off := rdU c.payload 4 4
  let len := rdU c.payload 8 4
  match closedSegment d (rdU c.payload 0 4) with
  | none => some (stBadParam, [])
  | some i =>
    if off % 16 ≠ 0 ∨ len % 16 ≠ 0 ∨ len = 0 ∨ bytesHeld (peatSegGet d i).entries < off + len then some (stBadParam, [])
    else if d.peat.readout.isSome then some (stBusy, [])
    else if c.mb = 1 then some (stNotPermitted, [])
    else none

def startReadout (c : Cmd) (d : Dev) : Dev :=
  let capture := rdU c.payload 0 4
  let off := rdU c.payload 4 4
  match closedSegment d capture with
  | none => d
  | some i => modPeat (fun p => { p with
      readout := some ⟨c.mb, c.tag, c.session, capture, i, off, off + rdU c.payload 8 4, 0, c.src, c.srcPort⟩ })
        (modNet (fun n => { n with peatSeq := 0 }) d)

/-- PEAT_RELEASE: in FULL the freed segment is armed at once. -/
def doPeatRelease (c : Cmd) (d : Dev) : Nat × Bytes × Dev :=
  let i := rdU c.payload 0 1
  let closed := decide (i < 8) && (peatSegGet d i).desc.any (fun x => x.status == stOk)
  if !closed then (stBadParam, [], d)
  else if d.peat.readout.any (fun r => r.seg == i) then (stBusy, [], d)
  else
    let d1 := modPeatSeg i (fun _ => PeatSeg.free) d
    (stOk, [], if d1.peat.state == .full then peatNext d1 else d1)

/-- PEAT_DISARM. -/
def doPeatDisarm (_ : Cmd) (d : Dev) : Nat × Bytes × Dev :=
  let d1 := if d.peat.state == .idle then d else peatAbort d
  (stOk, le 1 (peatStateCode d1.peat.state) ++ zeros 3, d1)

/-! ### Hook group (R446) -/

/-- HOOK_RESULT. -/
def doHookResult (_ : Cmd) (d : Dev) : Nat × Bytes := (stOk, hookBytes d.hst.hook)

/-- HOOK_START. -/
def checkHookStart (c : Cmd) (d : Dev) : Option (Nat × Bytes) :=
  if !hookJobOk (rdU c.payload 0 4) (rdU c.payload 4 4) then some (stBadParam, [])
  else if d.hst.hook.run.isSome then some (stBusy, [])
  else none

def startHook (c : Cmd) (d : Dev) : Dev :=
  modHst (fun x => { x with hook := { x.hook with
    job := wrapU 32 (x.hook.job + 1), check := 0, addr := rdU c.payload 0 4, length := rdU c.payload 4 4, a := rdU c.payload 8 4,
    s := rdU c.payload 12 4, status := 0xFFFF, corrected := 0, tEnd := 0, run := some (c.mb, c.tag) } }) d

end Sys2Proof.Machine
end

