-- ==== Sys2Proof/Machine/SafeCmds.lean ====
section
/-!
DEFINITION. The safety commands: the configuration blob and its checks (R447, R448), the two-step commit (R274, R449),
resume, stop, acknowledgements (R271, R450), and the reads and clears of the group (R432, R433).
-/
namespace Sys2Proof.Machine

/-! ### The blob's checks (R447, R448) -/

/-- A check of one field: its offset and whether it holds. -/
abbrev FieldCheck := Nat × Bool

/-- An unsigned field lies in a range. -/
def inRange (b : Bytes) (off k lo hi : Nat) : FieldCheck := (off, decide (lo ≤ rdU b off k ∧ rdU b off k ≤ hi))

/-- A run of bytes is zero. -/
def allZero (b : Bytes) (off k : Nat) : FieldCheck := (off, zeroAt b off k)

/-- Every byte of a run is zero: the first that is not is the wrong field. -/
def zeroBytes (b : Bytes) (off k : Nat) : List FieldCheck := (List.range k).map (fun i => allZero b (off + i) 1)

def blobFields (b : Bytes) : Nat := rdU b 6 2
def fieldBase (k : Nat) : Nat := 0x400 + 144 * k

/-- Step 2: magic, format, reserved bytes. -/
def blobForm (b : Bytes) : List FieldCheck :=
  [(0, rdU b 0 4 == 0x5346E1A5), inRange b 4 2 1 1, allZero b 0x38 8] ++
  (List.range 8).map (fun i => allZero b (0x46 + 8 * i) 2) ++
  (List.range 2).flatMap (fun n => [allZero b (0x82 + 16 * n) 2, allZero b (0x88 + 16 * n) 8]) ++
  [allZero b 0xA0 96] ++ (List.range 8).map (fun c => allZero b (0x10E + 32 * c) 18) ++
  [allZero b 0x240 448] ++ (List.range (blobFields b)).map (fun k => allZero b (fieldBase k + 8) 8)

/-- Ranges of the header. -/
def blobHead (b : Bytes) : List FieldCheck :=
  [inRange b 6 2 0 64, inRange b 8 4 1 0xFFFFFFFF] ++
  (List.range 5).map (fun i => inRange b (0x10 + 4 * i) 4 0 (ceilings.getD i 0)) ++
  [inRange b 0x24 2 1000 4000, inRange b 0x26 2 100 500, (0x28, decide (-10000 ≤ rdS b 0x28 4 ∧ rdS b 0x28 4 ≤ 10000)),
   inRange b 0x2C 2 100 800, inRange b 0x2E 2 100 5000, inRange b 0x30 2 100 5000, inRange b 0x32 2 100 10000,
   inRange b 0x34 1 0 2, inRange b 0x35 1 0 15]

/-- Ranges of a safety input. -/
def blobInput (b : Bytes) (i : Nat) : List FieldCheck :=
  let o := 0x40 + 8 * i
  if rdU b o 1 = 0 then zeroBytes b o 8
  else [inRange b o 1 1 6, inRange b (o + 1) 1 0 4, inRange b (o + 2) 1 0 2, inRange b (o + 3) 1 1 20,
        if rdU b (o + 2) 1 = 0 then inRange b (o + 4) 2 0 0 else inRange b (o + 4) 2 10 1000]

/-- Ranges of a safety output. -/
def blobOutput (b : Bytes) (n : Nat) : List FieldCheck :=
  let o := 0x80 + 16 * n
  [inRange b o 1 0 1, (o + 1, decide (rdU b (o + 1) 1 ≤ 7) || rdU b (o + 1) 1 == 0xFF)] ++
  (if rdU b o 1 = 1 then [inRange b (o + 4) 4 100 10000] else [])

/-- Ranges of a connection. -/
def blobConn (b : Bytes) (c : Nat) : List FieldCheck :=
  let o := 0x100 + 32 * c
  if rdU b o 4 = 0 then zeroBytes b o 32
  else [inRange b (o + 4) 2 10 1000, (o + 6, decide (2 ≤ rdU b (o + 6) 2 ∧ 2 * rdU b (o + 6) 2 ≤ rdU b (o + 4) 2)),
        inRange b (o + 8) 1 0 15, inRange b (o + 9) 1 1 8, inRange b (o + 10) 1 0 1, inRange b (o + 11) 1 0 3,
        inRange b (o + 12) 1 0 3, inRange b (o + 13) 1 0 1]

/-- The places of a set that is not configured. -/
def blobSet (b : Bytes) (s : Nat) : List FieldCheck :=
  if bit (rdU b 0x36 2) s then [] else (List.range 4).map (fun p => inRange b (0x200 + 4 * s + p) 1 0xFF 0xFF)

/-- Ranges of a field record; the reserved bits of its flags are ignored (R8). -/
def blobField (b : Bytes) (k : Nat) : List FieldCheck :=
  let o := fieldBase k
  [inRange b (o + 2) 1 0 3, inRange b (o + 3) 1 1 4, inRange b (o + 4) 1 1 64, inRange b (o + 7) 1 3 16] ++
  (List.range 16).flatMap (fun v =>
    let q := o + 0x10 + 8 * v
    if rdU b (o + 7) 1 ≤ v then [allZero b q 4, allZero b (q + 4) 4]
    else [(q, decide (-90000 ≤ rdS b q 4 ∧ rdS b q 4 ≤ 90000)), inRange b (q + 4) 4 0 524287])

/-- Step 3. -/
def blobRanges (b : Bytes) : List FieldCheck :=
  blobHead b ++ (List.range 8).flatMap (blobInput b) ++ (List.range 2).flatMap (blobOutput b) ++
  (List.range 8).flatMap (blobConn b) ++ (List.range 16).flatMap (blobSet b) ++ (List.range (blobFields b)).flatMap (blobField b)

/-- Connections and inputs by what they select. -/
def selectConns (b : Bytes) : List Nat := (List.range 8).filter (fun c => rdU b (0x100 + 32 * c) 4 != 0 && rdU b (0x10D + 32 * c) 1 == 1)
def selectInputs (b : Bytes) : List Nat := (List.range 8).filter (fun i => decide (3 ≤ rdU b (0x40 + 8 * i) 1))

/-- A value of a list comes twice: the later place. -/
def repeatOf (l : List (Nat × Nat)) : List FieldCheck :=
  (List.range l.length).map (fun i => ((l.getD i (0, 0)).1, !((l.take i).any (fun e => e.2 == (l.getD i (0, 0)).2))))

/-- Relations of the sets and their selection. -/
def blobSelect (b : Bytes) : List FieldCheck :=
  let sets := bitList 16 (rdU b 0x36 2)
  let places := sets.flatMap (fun s => (List.range 4).map (fun p => 0x200 + 4 * s + p))
  places.map (fun o => (o, rdU b o 1 == 0xFF || decide (rdU b o 1 < blobFields b))) ++
  sets.map (fun s => (0x200 + 4 * s, (List.range 4).any (fun p => rdU b (0x200 + 4 * s + p) 1 != 0xFF))) ++
  [(0x35, rdU b 0x34 1 != 0 || bit (rdU b 0x36 2) (rdU b 0x35 1)),
   (0x34, rdU b 0x34 1 != 1 || !(selectInputs b).isEmpty)] ++
  (if rdU b 0x34 1 = 1 then repeatOf ((selectInputs b).map (fun i => (0x40 + 8 * i, rdU b (0x40 + 8 * i) 1))) else []) ++
  [(0x34, rdU b 0x34 1 != 2 || (selectConns b).length == 1)]

/-- Step 4. -/
def blobRelations (b : Bytes) : List FieldCheck :=
  (List.range 4).map (fun k => (0x40 + 8 * (2 * k + 1) + 2, rdU b (0x42 + 16 * k) 1 == rdU b (0x4A + 16 * k) 1)) ++
  blobSelect b ++
  repeatOf (((List.range 8).filter (fun c => rdU b (0x100 + 32 * c) 4 != 0)).map (fun c => (0x100 + 32 * c, rdU b (0x100 + 32 * c) 4))) ++
  repeatOf ((selectConns b).map (fun c => (0x10D + 32 * c, 1))) ++
  (List.range (blobFields b)).map (fun k => (fieldBase k + 0x10, simplePolygon (fieldVerts (slice b (fieldBase k) 144)))) ++
  (List.range 2).map (fun n =>
    let r := rdU b (0x81 + 16 * n) 1
    (0x81 + 16 * n, rdU b (0x80 + 16 * n) 1 != 0 || (decide (r ≤ 7) && rdU b (0x40 + 8 * r) 1 == 2) ||
      (List.range 8).any (fun c => rdU b (0x100 + 32 * c) 4 != 0 && bit (rdU b (0x10C + 32 * c) 1) n)))

/-- The first field found wrong. -/
def blobBad (b : Bytes) : Option Nat :=
  ((blobForm b ++ blobRanges b ++ blobRelations b).find? (fun c => !c.2)).map (·.1)

/-- The Hook check of a blob (R274). -/
def blobCheck (b : Bytes) : Nat := hookCheck 0 (rdU b 8 4) b

/-- SAFE_LOAD. -/
def doSafeLoad (c : Cmd) (d : Dev) : Nat × Bytes × Dev :=
  let b := c.payload
  let rsp (bad : Nat) : Bytes := le 4 (blobCheck b) ++ le 4 (rdU b 8 4) ++ le 4 bad ++ zeros 4
  match blobBad b with
  | some off => (stBadParam, rsp off, d)
  | none => (stOk, rsp 0xFFFFFFFF, modSaf (fun s => { s with pending := some (b, blobCheck b, tussNow d) }) (dropPendingBlob d))

/-! ### The commit (R274, R449) -/

/-- The configuration applies at once: M5, connections, cell centre; the field set is taken at the next frame tick. -/
def commitBlob (b : Bytes) (check : Nat) (d : Dev) : Dev :=
  let d1 := if cellCentre d.saf.committed = cellCentre (some b) then d else mergeCells d
  let d2 := modSaf (fun s => { s with
    committed := some b, committedCheck := check, pending := none, set := none, oldSet := none,
    fields := List.replicate 4 FieldRun.clear, oldFields := [] }) d1
  let d3 := extendM 5 (le 4 (rdU b 8 4) ++ le 4 check) (noteFit d.saf.committed d2)
  raise 517 0 [] ((List.range 8).foldl (fun d c => connCommit c d) d3)

/-- SAFE_CONFIRM: outside READY and SAFE_STOP the blob stays pending; an expired one is gone. -/
def doSafeConfirm (c : Cmd) (d : Dev) : Nat × Bytes × Dev :=
  match d.saf.pending with
  | none => (stNotPermitted, [], d)
  | some p =>
    if p.2.2 + 10000000000 ≤ tussNow d then (stNotPermitted, [], dropPendingBlob d)
    else if d.sys.op != .ready && d.sys.op != .safeStop then (stNotPermitted, [], d)
    else if rdU c.payload 0 4 ≠ rdU p.1 8 4 ∨ rdU c.payload 4 4 ≠ p.2.1 then (stBadParam, [], dropPendingBlob d)
    else (stOk, le 4 (rdU p.1 8 4) ++ le 4 p.2.1 ++ le 8 d.sys.now, commitBlob p.1 p.2.1 d)

/-! ### Resume, stop, acknowledgements (R271, R450) -/

/-- SAFE_RESUME. -/
def doSafeResume (_ : Cmd) (d : Dev) : Nat × Bytes × Dev :=
  if d.sys.op != .safeStop || presentWord d != 0 then (stNotPermitted, [], d)
  else (stOk, le 4 d.saf.latched,
    releaseDrive (raise 513 0 [] (toState .ready (modSaf (fun s => { s with latched := 0 }) d))))

/-- SAFE_STOP. -/
def doSafeStop (_ : Cmd) (d : Dev) : Nat × Bytes × Dev :=
  (stOk, [], if d.sys.op == .ready || d.sys.op == .armed || d.sys.op == .running then trip [cHost] d else latchCauses [cHost] d)

/-- An output's lockout may end: it has none, or both switches passed since. -/
def ackable (d : Dev) (n : Nat) : Bool := !(safeOut d n).locked || (safeOut d n).passed == 3

def lockedBits (d : Dev) : Nat := maskOf ((List.range 2).filter (fun n => (safeOut d n).locked))

/-- OUTPUT_ACK. -/
def doOutputAck (c : Cmd) (d : Dev) : Nat × Bytes × Dev :=
  let outs := rdU c.payload 0 1
  if 3 < outs then (stBadParam, [], d)
  else if !(bitList 2 outs).all (ackable d) then (stNotPermitted, [], d)
  else
    let d1 := (bitList 2 outs).foldl (fun d n => modOut n (fun o => { o with locked := false, passed := 0 }) d) d
    (stOk, le 1 (lockedBits d1) ++ zeros 3, d1)

/-- HST_RESTART. -/
def doHstRestart (c : Cmd) (d : Dev) : Nat × Bytes × Dev :=
  let cs := bitList 8 (rdU c.payload 0 1)
  if !cs.all (fun k => (connGet d k).state == .fault && connCfg d k 0x0A 1 == 0) then (stNotPermitted, [], d)
  else (stOk, [], cs.foldl (fun d k => connStart k d) d)

/-! ### Reads and clears -/

/-- SAFE_READ. -/
def doSafeRead (c : Cmd) (d : Dev) : Nat × Bytes :=
  let show' (b : Bytes) (check : Nat) : Nat × Bytes := (stOk, le 4 (rdU b 8 4) ++ le 4 check ++ b)
  match rdU c.payload 0 1 with
  | 0 => d.saf.committed.elim (stOk, []) (fun b => show' b d.saf.committedCheck)
  | 1 => d.saf.pending.elim (stOk, []) (fun p => show' p.1 p.2.1)
  | _ => (stBadParam, [])

/-- SAFE_STATUS. -/
def doSafeStatus (_ : Cmd) (d : Dev) : Nat × Bytes :=
  let s := d.saf
  (stOk, le 4 s.latched ++ le 4 (presentWord d) ++ le 1 (opCode d.sys.op) ++
    le 1 (maskOf ((List.range 2).filter (fun n => (safeOut d n).energised)) + 4 * lockedBits d) ++
    le 1 (s.set.getD 0xFF) ++ le 1 (violatedBits d) ++
    le 1 (maskOf ((List.range 8).filter (fun i => (safeIn d i).filt))) ++ le 1 (maskOf ((List.range 8).filter (inFaulty d))) ++
    le 1 s.tpFault ++ le 1 (flag s.committed.isSome 0 + flag s.pending.isSome 1 + flag (healthy d) 2) ++
    le 4 (cfgU d 8 4) ++ le 4 s.committedCheck ++ le 2 s.vsafeMv ++ zeros 6)

/-- HST_STATUS. -/
def doHstStatus (_ : Cmd) (d : Dev) : Nat × Bytes :=
  (stOk, (List.range 8).flatMap (fun c => le 4 (connWord (connGet d c)) ++ (connGet d c).counters.flatMap (le 4)))

/-- SAFE_CLEAR. -/
def doSafeClear (c : Cmd) (d : Dev) : Nat × Bytes × Dev :=
  (stOk, [], (bitList 8 (rdU c.payload 0 1)).foldl (fun d k => modConn k (fun x => { x with seen := false }) d) d)

end Sys2Proof.Machine
end

