-- ==== Sys2Proof/Machine/NetCmds.lean ====
section
/-!
DEFINITION. The network group's commands (R451 to R454) and those of synchronised changes (R421, R422).
-/
namespace Sys2Proof.Machine

def netSa (d : Dev) (an : Nat) : Option Sa := (d.net.txSas.getD an none)
def rxSc (d : Dev) (sc : Nat) : RxSc := d.net.rxScs.getD sc ⟨none, List.replicate 4 none, 0⟩
def modRxSc (sc : Nat) (f : RxSc → RxSc) (d : Dev) : Dev := modNet (fun n => { n with rxScs := listMod n.rxScs sc f }) d
def setSa (an : Nat) (x : Option Sa) (l : List (Option Sa)) : List (Option Sa) := listMod l an (fun _ => x)

/-! ### NET_SET (R430, R451) -/

/-- End the SYNC_START in progress. -/
def endSyncStart (status : Nat) (payload : Bytes) (d : Dev) : Dev :=
  match d.sync.run with
  | none => d
  | some r =>
    let d1 := modSync (fun y => { y with run := none }) d
    match findTag d1 r.mb r.tag with
    | some c => finishRunning c status payload d1
    | none => d1

/-- End the SYNC_CODE in progress. -/
def endSyncCode (status : Nat) (payload : Bytes) (d : Dev) : Dev :=
  match d.sync.codeCmd with
  | none => modSync (fun y => { y with codeLeft := 0 }) d
  | some k =>
    let d1 := modSync (fun y => { y with codeLeft := 0, codeCmd := none }) d
    match findTag d1 k.1 k.2 with
    | some c => finishRunning c status payload d1
    | none => d1

/-- A SYNC role is written: the bus is heard afresh, and what the master had begun ends. -/
def syncRole (d : Dev) : Dev :=
  endSyncCode stNotPermitted [] (endSyncStart stNotPermitted []
    (modSync (fun y => { y with
      yielded := false, beaconLost := false, beaconHeard := false, markerFrame := none, answer := none, xtrig := none }) d))

/-- The device's sessions through UDP mailboxes end when MACsec goes off (R451). -/
def macsecOff (d : Dev) : Dev := portCause 0 d

/-- What a network parameter does besides its value. -/
def netEffect (d : Dev) (e : Nat × Nat) : Dev :=
  if e.1 = 0x0F08 ∧ e.2 = 0 then macsecOff d
  else if e.1 = 0x0F0A then syncRole d
  else if e.1 = 0x0F0C then modSync (fun y => { y with term := e.2 == 1 }) d
  else d

/-- Network parameters take effect. -/
def applyNet (es : List (Nat × Nat)) (d : Dev) : Dev :=
  es.foldl netEffect (modPrm (fun p => { p with vals := paramsWith p.vals es }) d)

/-- NET_SET: its response, then its settings. DEDUCED (assumption log, entry 32). -/
def doNetSet (c : Cmd) (d : Dev) : Dev :=
  let r := judgeSet 0x0F d.prm.vals d c.payload
  applyNet r.2.2 (finish c r.1 r.2.1 d)

/-! ### Addresses (R451, R453) -/

/-- The family of an address that is unset, IPv4 or IPv6; an IPv4 address fills the first 4 bytes. -/
def addrOk (family : Nat) (addr : Bytes) : Bool := family == 6 || (family == 4 && zeroAt addr 4 12)

/-- IP_SET's fields are in range. -/
def ipSetOk (p : Bytes) : Bool :=
  let family := rdU p 0 1
  addrOk family (slice p 4 16) && addrOk family (slice p 20 16) && decide (rdU p 1 1 ≤ (if family = 4 then 32 else 128))

/-- The setting a valid IP_SET leaves; prefix 0 with an all-zero address clears the family. -/
def ipSetting (p : Bytes) : IpCfg :=
  if rdU p 1 1 = 0 ∧ rdU p 4 16 = 0 then IpCfg.none else ⟨rdU p 1 1, slice p 4 16, slice p 20 16⟩

/-- The address of a family in force. -/
def ipOf (d : Dev) (family : Nat) : IpCfg := if family = 4 then d.net.ip4 else d.net.ip6

def setIp (family : Nat) (x : IpCfg) (d : Dev) : Dev :=
  modNet (fun n => if family = 4 then { n with ip4 := x } else { n with ip6 := x }) d

/-- The family a UDP mailbox's commands come through. -/
def mbFamily (d : Dev) (mb : Nat) : Nat := if (mbGet d mb).srcAddr.length = 4 then 4 else 6

/-- A session through port 0 ends when the address of its family changes (R356). -/
def ipCause (family : Nat) (d : Dev) : Dev :=
  match d.kmp.session with
  | some s => if 2 ≤ s.mb ∧ mbFamily d s.mb = family then endSession 1 d else d
  | none => d

/-- IP_SET: its response, then its setting. DEDUCED (assumption log, entry 33). -/
def doIpSet (c : Cmd) (d : Dev) : Dev :=
  if !ipSetOk c.payload then finish c stBadParam [] d
  else
    let family := rdU c.payload 0 1
    let x := ipSetting c.payload
    let changed := (ipOf d family).addr != x.addr
    let d1 := setIp family x (finish c stOk [] d)
    if changed then ipCause family d1 else d1

def ipBytes (family : Nat) (x : IpCfg) : Bytes := le 1 family ++ le 1 x.prefixLen ++ zeros 2 ++ x.addr ++ x.gateway

/-- IP_GET. -/
def doIpGet (_ : Cmd) (d : Dev) : Nat × Bytes := (stOk, ipBytes 4 d.net.ip4 ++ ipBytes 6 d.net.ip6)

/-- DEST_SET's and HST_PEER's index and family are in range. -/
def destOk (p : Bytes) : Bool :=
  decide (rdU p 0 1 < 8) && (rdU p 1 1 == 0 || addrOk (rdU p 1 1) (slice p 4 16))

def destOf (p : Bytes) : Dest := if rdU p 1 1 = 0 then Dest.unset else ⟨rdU p 1 1, rdU p 2 2, slice p 4 16⟩

/-- A port-0 subscription in force or committed, or parameter 0x0B23, names a destination. -/
def destNamed (d : Dev) (i : Nat) : Bool :=
  let names (subs : Tab (Nat × Nat)) : Bool := subs.any (fun e => decide (e.1 < 8192) && e.2.1 != 0 && e.2.2 == i)
  names d.slu.subs || d.prm.pending.any (fun q => names q.set.subs) || prmGet d 0x0B23 == i

/-- DEST_SET. -/
def doDestSet (c : Cmd) (d : Dev) : Nat × Bytes × Dev :=
  let i := rdU c.payload 0 1
  if !destOk c.payload then (stBadParam, [], d)
  else if rdU c.payload 1 1 = 0 ∧ destNamed d i then (stNotPermitted, [], d)
  else (stOk, [], modNet (fun n => { n with dests := listMod n.dests i (fun _ => destOf c.payload) }) d)

/-- HST_PEER. -/
def doHstPeer (c : Cmd) (d : Dev) : Nat × Bytes × Dev :=
  if !destOk c.payload then (stBadParam, [], d)
  else (stOk, [], modNet (fun n => { n with peers := listMod n.peers (rdU c.payload 0 1) (fun _ => destOf c.payload) }) d)

/-! ### MACsec (R331, R332, R452) -/

/-- The transmit SA in use: the controlled port sends under it. -/
def txInUse (d : Dev) (an : Nat) : Bool := !d.net.txStopped && d.net.txAn == an

/-- SA_INSTALL for transmission; a stopped controlled port resumes under the new SA. -/
def installTx (an : Nat) (sa : Sa) (d : Dev) : Dev :=
  modNet (fun n => { n with
    txSas := setSa an (some sa) n.txSas,
    txAn := if n.txStopped then an else n.txAn,
    txStopped := false }) d

/-- SA_INSTALL for reception: a new SCI in an empty place creates the channel and its mailbox (R387). -/
def installRx (sc an sci : Nat) (sa : Sa) (d : Dev) : Dev :=
  let fresh := (rxSc d sc).sci.isNone
  let d1 := modRxSc sc (fun x => { x with sci := some sci, sas := setSa an (some sa) x.sas }) d
  if fresh then modMb (2 + sc) (fun _ => { Mailbox.reset with present := true, rom := false, sci := sci }) d1 else d1

/-- SA_INSTALL. -/
def doSaInstall (c : Cmd) (d : Dev) : Nat × Bytes × Dev :=
  let p := c.payload
  let dir := rdU p 0 1
  let sc := rdU p 1 1
  let an := rdU p 2 1
  let sci := rdU p 4 8
  let sa : Sa := { integrity := bit (rdU p 3 1) 0, pn := rdU p 12 4, key := slice p 16 32 }
  if 1 < dir ∨ 3 < an ∨ (dir = 1 ∧ 7 < sc) then (stBadParam, [], d)
  else if dir = 0 then (if txInUse d an then (stNotPermitted, [], d) else (stOk, [], installTx an sa d))
  else match (rxSc d sc).sci with
    | some x => if x = sci then (stOk, [], installRx sc an sci sa d) else (stNotPermitted, [], d)
    | none => (stOk, [], installRx sc an sci sa d)

/-- A receive secure channel goes, and its mailbox with it: a session through it ends (R356, R387). -/
def deleteSc (sc : Nat) (d : Dev) : Dev :=
  modMb (2 + sc) (fun _ => Mailbox.reset)
    (mailboxCause (2 + sc) (modRxSc sc (fun _ => ⟨none, List.replicate 4 none, 0⟩) d))

/-- SA_DELETE's status. -/
def saDeleteStatus (p : Bytes) (d : Dev) : Nat :=
  let dir := rdU p 0 1
  let sc := rdU p 1 1
  let an := rdU p 2 1
  let whole := bit (rdU p 3 1) 0
  if 1 < dir ∨ 3 < an ∨ (dir = 1 ∧ 7 < sc) then stBadParam
  else if dir = 0 then
    (if (netSa d an).isNone then stBadParam else if txInUse d an then stNotPermitted else stOk)
  else if whole then (if (rxSc d sc).sci.isNone then stBadParam else stOk)
  else if ((rxSc d sc).sas.getD an none).isNone then stBadParam else stOk

/-- SA_DELETE: its response, then the deletion. -/
def doSaDelete (c : Cmd) (d : Dev) : Dev :=
  let p := c.payload
  let st := saDeleteStatus p d
  let sc := rdU p 1 1
  let an := rdU p 2 1
  let d1 := finish c st [] d
  if st ≠ stOk then d1
  else if rdU p 0 1 = 0 then modNet (fun n => { n with txSas := setSa an none n.txSas }) d1
  else if bit (rdU p 3 1) 0 then deleteSc sc d1
  else modRxSc sc (fun x => { x with sas := setSa an none x.sas }) d1

/-- SA_SWITCH. -/
def doSaSwitch (c : Cmd) (d : Dev) : Nat × Bytes × Dev :=
  let an := rdU c.payload 0 1
  if 3 < an ∨ (netSa d an).isNone then (stBadParam, [], d)
  else (stOk, [], modNet (fun n => { n with txAn := an, txStopped := false }) d)

/-- MACSEC_STATUS. -/
def doMacsecStatus (_ : Cmd) (d : Dev) : Nat × Bytes :=
  let mask (l : List (Option Sa)) : Nat := maskOf ((List.range 4).filter (fun i => (l.getD i none).isSome))
  (stOk, le 1 (prmGet d 0x0F08) ++ le 1 d.net.txAn ++ le 1 (mask d.net.txSas) ++ zeros 1 ++
    le 4 (satU 32 ((netSa d d.net.txAn).elim 0 (·.pn))) ++
    d.net.rxScs.flatMap (fun x => le 8 (x.sci.getD 0) ++ le 1 (mask x.sas) ++ zeros 3 ++ le 4 x.failures))

/-- NET_STATUS. -/
def doNetStatus (_ : Cmd) (d : Dev) : Nat × Bytes :=
  let n := d.net
  (stOk,
    le 1 (flag (n.linkUp.getD 0 false) 0 + flag (n.linkUp.getD 1 false) 1 + flag (prmGet d 0x0F01 == 1) 2 + flag (prmGet d 0x0F02 == 1) 3) ++
    le 1 (prmGet d 0x0F0A + flag d.sync.yielded 2 + flag d.sync.beaconHeard 3) ++ le 1 (prmGet d 0x0F0B) ++ le 1 d.sync.heardLatched ++
    le 4 n.dupDiscarded ++ le 4 n.dupPassed ++ le 4 n.wrongLan ++ le 4 n.unprotected ++ le 4 n.udpDiscarded ++
    le 4 d.sync.checkFails ++ le 4 d.trig.overruns)

/-! ### Synchronised changes (R55, R353, R421, R422) -/

/-- The head is the SYNC master and sends. -/
def syncMaster (d : Dev) : Bool := prmGet d 0x0F0A == 2 && !d.sync.yielded
def syncFollower (d : Dev) : Bool := prmGet d 0x0F0A == 1

/-- The identifier a held set is announced by: its plan's, else its drive set's. -/
def heldIdent (h : Held) : Nat := if bit h.kind 0 then h.planId else h.setId

/-- The tick of a frame to come by the plan in force. -/
def tickOfFrame (d : Dev) (n : Nat) : Nat :=
  let ahead := wrapU 32 (n + 2 ^ 32 - d.seq.frame % 2 ^ 32)
  if d.seq.started then d.seq.nextFrame + (ahead - 1) * d.seq.plan.period else d.seq.nextFrame + ahead * d.seq.plan.period

/-- The start of the master's next window (R351): on the 100 µs grid of the frame, unless it would not end before the
frame tick. -/
def nextWindow (d : Dev) : Nat :=
  if !d.seq.started then d.seq.nextFrame
  else
    let w := d.seq.frameTime + ceilDiv (d.sys.now - d.seq.frameTime) 100000 * 100000
    if w + 40000 < d.seq.nextFrame then w else d.seq.nextFrame

/-- At least two frame periods lie between an instant and the tick of frame `n`. -/
def twoFramesTo (d : Dev) (t n : Nat) : Bool :=
  laterThan 32 n d.seq.frame && decide (t + 2 * d.seq.plan.period ≤ tickOfFrame d n)

/-- A SYNC_START names the held set. -/
def namesHeld (p : Bytes) (h : Held) : Bool :=
  h.state == 1 && rdU p 0 1 % 4 == h.kind && (!bit h.kind 0 || rdU p 4 4 == h.planId) && (!bit h.kind 1 || rdU p 8 4 == h.setId)

/-- SYNC_START's own checks. DEDUCED (assumption log, entry 34). -/
def checkSyncStart (c : Cmd) (d : Dev) : Option (Nat × Bytes) :=
  if !syncMaster d then some (stNotPermitted, [])
  else if d.sync.run.isSome then some (stBusy, [])
  else if (d.sync.held.elim false (namesHeld c.payload)) && twoFramesTo d (nextWindow d) (rdU c.payload 12 4) then none
  else some (stBadParam, [])

/-- SYNC_START accepted: PREPARE waits for the next window. -/
def beginSyncStart (c : Cmd) (d : Dev) : Dev :=
  let n := rdU c.payload 12 4
  modSync (fun y => { y with
    held := y.held.map (fun h => { h with frame := n }),
    run := y.held.map (fun h => { mb := c.mb, tag := c.tag, kind := h.kind, ident := heldIdent h, frame := n, prepareAt := none,
                                  ready := 0, refused := 0, expect := 0, cancel := false }) }) d

/-- SYNC_CANCEL. -/
def doSyncCancel (_ : Cmd) (d : Dev) : Nat × Bytes × Dev :=
  match d.sync.held with
  | none => (stNotPermitted, [], d)
  | some h =>
    if h.state = 3 then (stNotPermitted, [], d)
    else (stOk, [], modSync (fun y => { y with
      held := none, lastOutcome := 4, run := y.run.map (fun r => { r with cancel := true }) }) d)

/-- SYNC_STATUS. -/
def doSyncStatus (_ : Cmd) (d : Dev) : Nat × Bytes :=
  (stOk, match d.sync.held with
    | none => zeros 1 ++ le 1 d.sync.lastOutcome ++ zeros 14
    | some h => le 1 h.state ++ le 1 d.sync.lastOutcome ++ le 1 h.kind ++ zeros 1 ++ le 4 h.planId ++ le 4 h.setId ++ le 4 h.frame)

/-- SYNC_CODE's own checks. -/
def checkSyncCode (c : Cmd) (d : Dev) : Option (Nat × Bytes) :=
  if !syncMaster d then some (stNotPermitted, [])
  else if !twoFramesTo d d.sys.now (rdU c.payload 0 4) then some (stBadParam, [])
  else if d.sync.codeLeft != 0 then some (stBusy, [])
  else none

/-- SYNC_CODE accepted: three copies wait for three windows. -/
def beginSyncCode (c : Cmd) (d : Dev) : Dev :=
  modSync (fun y => { y with codeFrame := rdU c.payload 0 4, codeLeft := 3, codeCmd := some (c.mb, c.tag) }) d

/-! ### TRIG_OUT (R355) -/

/-- A pulse of the configured width; overlapping pulses merge. -/
def trigOut (d : Dev) : Dev :=
  let e := tussNow d + prmGet d 0x0F12 * 1000
  modTrig (fun t => { t with outActive := true, outEnd := if t.outActive then max t.outEnd e else e }) d

/-- TRIG_PULSE. -/
def doTrigPulse (_ : Cmd) (d : Dev) : Nat × Bytes × Dev := (stOk, [], trigOut d)

end Sys2Proof.Machine
end

