-- ==== Sys2Proof/Machine/Health.lean ====
section
/-!
DEFINITION. The health report (R465, R466).
-/
namespace Sys2Proof.Machine

/-- A bank has a spare it could still connect to some row. -/
def bankHasSpare (d : Dev) (b : Nat) : Bool := (List.range 16).any (spareUsable d b)

/-- The byte of what runs degraded. -/
def degradedBits (d : Dev) : Nat :=
  flag (d.recv.gated != 0) 0 + flag d.recv.hotTemp 1 + flag (!(List.range 8).all (bankHasSpare d)) 2 +
    flag ((slotGet d 10).mode == .fallback) 3 + flag (!d.recv.atLimit.isEmpty) 4 +
    flag (prmGet d 0x0501 == 1 && !d.tim.alignLocked) 5

/-- Offsets 0x000 to 0x03F. -/
def healthHead (d : Dev) : Bytes :=
  le 4 0x4852E1A5 ++ le 2 1 ++ le 2 1344 ++ le 8 d.sys.now ++ le 4 d.seq.frame ++ le 1 d.sys.boot ++ le 1 (opCode d.sys.op) ++
    le 1 d.sys.haltCause ++ le 1 (servoCode d.tim.servo) ++ le 4 d.seq.plan.planId ++ le 4 d.rep.number ++ leS 2 (hottest d 0x1A 4) ++
    leS 2 (hottest d 0x1E 4) ++ (List.range 8).flatMap (fun b => leS 2 (sourceOut d (0x12 + b))) ++
    leS 2 (sourceOut d 0x24) ++ le 2 (satU 16 d.saf.vsafeMv) ++ leS 2 (sourceOut d 0x26) ++
    leS 2 (if driveMode d = 0 then 0 else sourceOut d 0x25) ++ le 1 (slicesOn d + 16 * d.rep.gatedRun) ++ le 1 (degradedBits d) ++
    le 2 d.recv.lanesFailed.length

/-- Offsets 0x040 to 0x0FF. -/
def healthBody (d : Dev) : Bytes :=
  let r := ageingRec d
  (List.range 16).flatMap (fun g => le 1 (tabGet 0 d.recv.darkCounts g)) ++
    (List.range 16).flatMap (fun g => le 1 (freeSpares d g).length) ++
    le 1 (segmentsFailed d) ++ le 1 (sparesUsed d) ++ le 2 (fusesLeft d) ++ le 4 (maskedSpads d) ++
    leS 4 (ageingNow d) ++ leS 4 r.1 ++ le 4 r.2.1 ++ leS 2 r.2.2.1 ++ le 1 (flag r.2.2.2 0) ++
    le 1 (flag (prmGet d 0x0419 == 1) 0 + flag (prmGet d 0x041A == 1) 1) ++ le 4 d.saf.latched ++ le 4 (cfgU d 8 4) ++
    d.ev.queues.flatMap (fun q => le 4 q.lostCount) ++ le 4 d.ev.eccCorrected ++ le 4 d.ev.fwRounds ++ le 4 d.ev.tussockRounds ++
    le 4 d.ev.alignSamples ++ zeros 100

/-- SYS_HEALTH. -/
def doSysHealth (_ : Cmd) (d : Dev) : Nat × Bytes :=
  (stOk, healthHead d ++ healthBody d ++
    (d.recv.align.zip (refinedRows d)).flatMap (fun e => alignBytes e.1 (if e.1.rowPos = 0xFFFF then 0xFFFF else e.2)))

end Sys2Proof.Machine
end

