-- ==== Sys2Proof/Machine/Grants.lean ====
section
/-!
DEFINITION. Arbitration and grants (R298, R306 to R311), the egress entries (R337, R338, R342, R347) with event messages
(R462, R463), Peat blocks (R324) and diagnostic entries (R440), and their completion.
-/
namespace Sys2Proof.Machine

/-! ### Entries (R337) -/

/-- An egress header and its payload. -/
def egress (kind seq queue frag flags : Nat) (payload : Bytes) : Bytes :=
  le 2 0xE1A5 ++ le 1 1 ++ le 1 kind ++ le 4 seq ++ le 2 queue ++ le 1 frag ++ le 1 flags ++ le 2 payload.length ++ zeros 2 ++ payload

/-- Cut into pieces of `k` bytes; an empty payload is one piece. -/
def pieces : Nat → Nat → Bytes → List Bytes
  | 0, _, _ => []
  | n + 1, k, bs => if k = 0 ∨ bs.length ≤ k then [bs] else bs.take k :: pieces n k (bs.drop k)

/-- The bytes an IP datagram carries besides its headers and 16 more, a multiple of 16 (R338, R406).
DEDUCED (assumption log, entry 36). -/
def datagramLimit (d : Dev) (family : Nat) : Nat := (prmGet d 0x0F07 - (if family = 4 then 20 else 40) - 8 - 16) / 16 * 16

/-- The datagrams of a payload on port 0 (R338). -/
def fragments (limit kind seq queue flags : Nat) (payload : Bytes) : List Bytes :=
  let ps := pieces 16 limit payload
  ps.zipIdx.map (fun e => egress kind (wrapU 32 (seq + e.2)) queue (16 * e.2 + (ps.length - 1)) flags e.1)

/-- The datagrams of a KMP response (R406). -/
def kmpFragments (limit tag : Nat) (msg : Bytes) : List Bytes :=
  let ps := pieces 64 limit msg
  ps.zipIdx.map (fun e => le 2 0xE1B7 ++ le 1 1 ++ le 1 2 ++ le 2 tag ++ le 1 e.2 ++ le 1 (ps.length - 1) ++ le 4 (e.2 * limit) ++
    le 4 msg.length ++ e.1)

/-! ### Rings and the FIFO (R342, R347) -/

def ringGet (d : Dev) (r : Nat) : Ring := d.pcie.rings.getD r Ring.reset
def modRing (r : Nat) (f : Ring → Ring) (d : Dev) : Dev := modPcie (fun p => { p with rings := listMod p.rings r f }) d

/-- The free bytes of a ring. -/
def ringRoom (x : Ring) : Nat := 2 ^ x.size - 16 - (x.wptr + 2 ^ x.size - x.rptr) % 2 ^ x.size

/-- What a pad entry takes before an entry of `len` bytes. -/
def padBefore (x : Ring) (len : Nat) : Nat := if len ≤ 2 ^ x.size - x.wptr then 0 else 2 ^ x.size - x.wptr

/-- A ring takes an entry, its pad included. -/
def ringTakes (x : Ring) (len : Nat) : Bool := x.en && !x.err && decide (padBefore x len + len ≤ ringRoom x)

/-- The entries written for one payload: a pad where it does not fit before the end. -/
def ringEntries (x : Ring) (kind queue flags : Nat) (payload : Bytes) : List Bytes :=
  let len := 16 + (payload.length + 15) / 16 * 16
  let pad := padBefore x len
  if pad = 0 then [pad16 (egress kind x.seq queue 0 flags payload)]
  else [egress 0 x.seq 0xFFFF 0 0 (zeros (pad - 16)), pad16 (egress kind (wrapU 32 (x.seq + 1)) queue 0 flags payload)]

/-- What one payload becomes on a port with a target (destination or ring), if the transmit path takes it whole (R298). -/
def pathEntries (d : Dev) (p target kind seq queue flags : Nat) (payload : Bytes) : Option (List Bytes) :=
  if !txReady d p then none
  else if p = 0 then
    let x := d.net.dests.getD target Dest.unset
    if x.family = 0 then none else some (fragments (datagramLimit d x.family) kind seq queue flags payload)
  else
    let len := 16 + (payload.length + 15) / 16 * 16
    if p = 1 then
      let x := ringGet d target
      if ringTakes x len then some (ringEntries x kind queue flags payload) else none
    else if fifoTakes d len then some [pad16 (egress kind d.spi.seq queue 0 flags payload)] else none

/-- The sequence number a payload of a kind starts with on port 0 (R338). -/
def portSeq (d : Dev) (kind target : Nat) : Nat :=
  if kind = 1 then d.net.destSeq.getD target 0 else if kind = 2 then d.net.eventSeq else if kind = 3 then d.net.peatSeq else d.net.diagSeq

/-- Sequence numbers taken at a grant. -/
def takeSeqs (p target kind n : Nat) (d : Dev) : Dev :=
  let up (x : Nat) : Nat := wrapU 32 (x + n)
  if p = 0 then modNet (fun y =>
    if kind = 1 then { y with destSeq := listMod y.destSeq target up }
    else if kind = 2 then { y with eventSeq := up y.eventSeq }
    else if kind = 3 then { y with peatSeq := up y.peatSeq }
    else { y with diagSeq := up y.diagSeq }) d
  else if p = 1 then modRing target (fun x => { x with seq := up x.seq }) d
  else modSpi (fun x => { x with seq := up x.seq }) d

/-! ### Data arbitration (R306, R307) -/

def unsentUnit (p : Nat) (u : SUnit) : Bool := bit u.need p && !bit u.flying p
def unsentHead (p : Nat) (h : SHead) : Bool := h.stored && bit h.need p && !bit h.flying p

/-- What a port sends next of a queue: the header that stands before its oldest unsent unit, and that unit. -/
def nextOf (p : Nat) (q : Queue) : Option SHead × Option SUnit :=
  match q.heads.find? (unsentHead p), q.units.find? (unsentUnit p) with
  | some h, some u => if u.frame = h.frame then (some h, some u) else if laterThan 32 h.frame u.frame then (none, some u) else (some h, none)
  | h, u => (h, u)

/-- A header as one port sends it: with that port's drops of the frame it describes. -/
def headFor (p : Nat) (q : Queue) (h : SHead) : Bytes :=
  let n := dropsOf (prevOfHead h) p q.drops
  let ovr := orBits 32 (rdU h.bytes 0x38 4) (flag (atFull 32 n) 2)
  patch (patch h.bytes 0x28 (le 4 (satU 32 n))) 0x38 (le 4 ovr)

/-- The payload of a selection. -/
def selection (p : Nat) (q : Queue) : Bytes :=
  let s := nextOf p q
  (s.1.elim [] (headFor p q)) ++ s.2.elim [] (·.bytes)

/-- What the data aggregate would send of one subscription. -/
def offerQueue (d : Dev) (p : Nat) (sub : Nat × Nat × Nat) : Option Grant :=
  let q := sub.1 % 8192
  let x := queueGet d.slu q
  let s := nextOf p x
  if sub.2.1 = 0 ∨ (s.1.isNone ∧ s.2.isNone) then none
  else
    let body := selection p x
    (pathEntries d p sub.2.2 1 (portSeq d 1 sub.2.2) q (flag s.1.isSome 0) body).map (fun es =>
      { requester := 0, issued := tussNow d, hold := (portGet d.slu p).watchdog, queue := q, header := s.1.isSome,
        hasUnit := s.2.isSome, cells := s.2.elim 0 (·.cells), bytes := body.length, target := sub.2.2, entries := es, vectors := [],
        msg := none })

/-- The subscription with the most credit among those offered, the lower queue winning a tie. -/
def offerData (d : Dev) (p : Nat) : Option Grant :=
  ((d.slu.subs.filter (fun e => e.1 / 8192 == p)).foldl (fun best e =>
    match offerQueue d p e with
    | none => best
    | some g =>
      let c := tabGet 0 d.slu.credit e.1
      match best with
      | none => some (c, g)
      | some b => if b.1 < c then some (c, g) else some b) (none : Option (Int × Grant))).map (·.2)

/-! ### Control traffic -/

/-- A grant of one payload of a kind to a target. -/
def offerPayload (d : Dev) (p requester target kind : Nat) (vectors : List Nat) (payload : Bytes) : Option Grant :=
  (pathEntries d p target kind (portSeq d kind target) 0xFFFF 0 payload).map (fun es =>
    { requester := requester, issued := tussNow d, hold := (portGet d.slu p).watchdog, queue := 0xFFFF, header := false, hasUnit := false,
      cells := cellsOf (16 + payload.length), bytes := payload.length, target := target, entries := es, vectors := vectors, msg := none })

/-- The transmit path can take a message: on ports 1 and 2 a KMP response, which the host reads from its slot. -/
def msgReady (d : Dev) (p : Nat) : Bool := if p = 0 then txReady d 0 else if p = 1 then d.pcie.linkUp else d.sys.bootReady

/-- HST, 802.1AS and KMP messages, whole and in order. On ports 1 and 2 a KMP response waits in its slot, so that its grant writes
no entry. -/
def offerMsg (d : Dev) (p requester : Nat) : Option Grant :=
  match (portGet d.slu p).msgs.find? (fun m => m.requester == requester) with
  | none => none
  | some m =>
    if !msgReady d p then none
    else
      let es := if p ≠ 0 then []
        else if requester = 3 then kmpFragments (datagramLimit d (if m.addr.length = 4 then 4 else 6)) m.tag m.bytes else [m.bytes]
      some { requester := requester, issued := tussNow d, hold := (portGet d.slu p).watchdog, queue := 0xFFFF, header := false,
             hasUnit := false, cells := cellsOf m.bytes.length, bytes := m.bytes.length, target := 0, entries := es, vectors := [],
             msg := some m }

/-- An event record as delivered (R462). -/
def eventBytes (lost : Bool) (r : EvRec) : Bytes :=
  le 2 r.source ++ le 1 r.cond ++ le 1 (flag lost 0) ++ le 4 r.frame ++ le 8 r.time ++ r.detail

def evQueueOf (d : Dev) (p : Nat) : EvQueue := d.ev.queues.getD p ⟨[], false, 0⟩

/-- An event message of up to 32 records. -/
def eventPayload (q : EvQueue) : Bytes := ((q.recs.take 32).zipIdx.map (fun e => eventBytes (q.lost && e.2 == 0) e.1)).flatten

/-- Where events, diagnostics and Peat blocks go on a port: the destination of 0x0B23, or a ring. -/
def sideTarget (d : Dev) (p i : Nat) : Nat := if p = 0 then prmGet d 0x0B23 else prmGet d (0x0B20 + i)

def offerEvents (d : Dev) (p : Nat) : Option Grant :=
  let q := evQueueOf d p
  if q.recs.isEmpty then none
  else offerPayload d p 4 (sideTarget d p 0) 2
    (if p = 1 then ((q.recs.take 32).map (fun r => evVector d r.source)).eraseDups else []) (eventPayload q)

/-- The data bytes of the largest Peat block of a port: what 16 fragments or a ring's entry can carry, with its 16-byte
header. -/
def peatBlockMax (d : Dev) (p : Nat) (addr : Bytes) : Nat :=
  if p = 0 then min 65504 (16 * datagramLimit d (if addr.length = 4 then 4 else 6) - 16)
  else min 65504 (2 ^ (ringGet d (prmGet d 0x0B22)).size - 48)

/-- The readout's next block: its bytes, sealed; a bad word in it turns its check over (R324, R470). -/
def peatBlock (d : Dev) (r : Readout) (k : Nat) : Bytes :=
  let data := slice (peatSegGet d r.seg).entries.flatten r.next k
  let base := r.seg * peatSegSize d + r.next
  let bad := d.peat.badWords.any (fun a => decide (base ≤ a ∧ a < base + k))
  let c := hookCheck r.next r.capture data
  le 4 r.capture ++ le 4 r.next ++ le 4 data.length ++ le 4 (if bad then 2 ^ 32 - 1 - c else c) ++ data

def blockLen (d : Dev) (p : Nat) (r : Readout) : Nat := min (r.stop - r.next) (peatBlockMax d p r.addr)

/-- Peat readout on the port of its mailbox; on port 0 to where its command came from. -/
def offerPeat (d : Dev) (p : Nat) : Option Grant :=
  match d.peat.readout with
  | none => none
  | some r =>
    if portOfMb r.mb ≠ p then none
    else
      let body := peatBlock d r (blockLen d p r)
      if p = 0 then
        if !txReady d 0 then none
        else
          let m : Msg := { requester := 5, bytes := [], addr := r.addr, udpPort := r.udpPort, srcPort := 51102, mb := r.mb, tag := r.tag }
          some { requester := 5, issued := tussNow d, hold := (portGet d.slu 0).watchdog, queue := 0xFFFF, header := false,
                 hasUnit := false, cells := cellsOf (16 + body.length), bytes := body.length, target := 0,
                 entries := fragments (datagramLimit d (if r.addr.length = 4 then 4 else 6)) 3 d.net.peatSeq 0xFFFF 0 body, vectors := [],
                 msg := some m }
      else offerPayload d p 5 (prmGet d 0x0B22) 3 [] body

/-- A diagnostic entry: header and up to 4 096 bytes (R440). -/
def diagEntry (b : BulkOut) : Bytes :=
  let data := slice b.data (4096 * b.part) 4096
  le 2 b.op ++ le 2 b.tag ++ le 1 b.mb ++ le 1 b.part ++ le 1 b.parts ++ zeros 1 ++ le 4 (4096 * b.part) ++ le 4 data.length ++ data

def offerDiag (d : Dev) (p : Nat) : Option Grant :=
  match d.diag.bulk with
  | none => none
  | some b => if portOfMb b.mb ≠ p then none else offerPayload d p 6 (sideTarget d p 1) 4 [] (diagEntry b)

/-! ### Users arbitration (R303, R308, R310) -/

/-- What a requester would be granted. In HALTED only KMP is served. DEDUCED (assumption log, entry 21). -/
def offer (d : Dev) (p r : Nat) : Option Grant :=
  if d.sys.inReset || (d.sys.op == .halted && r != 3) then none
  else if r = 0 then offerData d p
  else if r ≤ 3 then offerMsg d p r
  else if r = 4 then offerEvents d p
  else if r = 5 then offerPeat d p
  else offerDiag d p

/-- The pool of a requester. -/
def poolOf (r : Nat) : Nat := if r = 0 then 0 else if r = 5 then 1 else 2

/-- Cells of CTRL kept for HST and 802.1AS that none of them holds now. -/
def ctrlKept (d : Dev) (r : Nat) : Nat := if r = 3 ∨ r = 4 ∨ r = 6 then 16 - min 16 (grantCells d.slu [1, 2]) else 0

/-- The grant's pool has its cells; data units hold theirs already. -/
def poolTakes (d : Dev) (g : Grant) : Bool :=
  let s := d.slu
  let i := poolOf g.requester
  g.requester == 0 ||
    decide (g.cells ≤ (poolSize s i - poolUsed s i - lent s i - ctrlKept d g.requester) + sharedFree s)

/-- A freeze silences every requester of a port but HST and 802.1AS (R310). -/
def silenced (d : Dev) (p r : Nat) : Bool := (portGet d.slu p).freezeBy.isSome && !(r == 1 || r == 2)

/-- What a requester asks for now. -/
def asks (d : Dev) (p r : Nat) : Option Grant :=
  if silenced d p r then none
  else match offer d p r with
    | some g => if poolTakes d g then some g else none
    | none => none

/-- The requesters of a class in round-robin order after the last one served. -/
def classOrder (x : Port) (c : Nat) : List Nat :=
  let last := x.lastServed.getD c 6
  ((List.range 7).map (fun i => (last + 1 + i) % 7)).filter (fun r => x.classes.getD r 3 == c)

/-- The order in which the users arbiter looks at requesters. -/
def userOrder (x : Port) : List Nat := (List.range 4).flatMap (classOrder x)

/-- The users arbiter's choice. -/
def arbitrate (d : Dev) (p : Nat) : Option Grant := (userOrder (portGet d.slu p)).findSome? (asks d p)

/-! ### A grant's issue -/

/-- Mark the selection of a data grant in flight on its port. -/
def flyData (p : Nat) (g : Grant) (s : Slu) : Slu :=
  let x := queueGet s g.queue
  let sel := nextOf p x
  let hi := if g.header then x.heads.findIdx? (unsentHead p) else none
  let ui := if g.hasUnit then x.units.findIdx? (unsentUnit p) else none
  let key := subKey p g.queue
  let s1 := modQueue g.queue (fun x => { x with
    heads := hi.elim x.heads (fun i => listMod x.heads i (fun h => { h with flying := putBit h.flying p true })),
    units := ui.elim x.units (fun i => listMod x.units i (fun u => { u with flying := putBit u.flying p true })) }) s
  { s1 with credit := tabMod 0 s1.credit key (fun c => clampCredit (weightOf s p g.queue) (c - (sel.2.elim 0 (·.cells) : Nat))) }

/-- The first message of a requester leaves the queue. -/
def dropMsg (r : Nat) (l : List Msg) : List Msg :=
  match l.findIdx? (fun m => m.requester == r) with
  | some i => l.take i ++ l.drop (i + 1)
  | none => l

/-- The last block of a readout, or the last entry of a bulk result, is granted: the command is final (R326, R440). -/
def afterPeat (k : Nat) (d : Dev) : Dev :=
  match d.peat.readout with
  | none => d
  | some r =>
    let r' := { r with next := r.next + k, blocks := r.blocks + 1 }
    if r'.next < r'.stop then modPeat (fun p => { p with readout := some r' }) d
    else
      let d1 := modPeat (fun p => { p with readout := none }) d
      match findTag d1 r.mb r.tag with
      | some c => finishRunning c stOk (le 4 r'.blocks) d1
      | none => d1

def afterDiag (d : Dev) : Dev :=
  match d.diag.bulk with
  | none => d
  | some b =>
    if b.part + 1 < b.parts then modDiag (fun g => { g with bulk := some { b with part := b.part + 1 } }) d
    else
      let d1 := modDiag (fun g => { g with bulk := none }) d
      match findTag d1 b.mb b.tag with
      | some c => finishRunning c stOk (le 4 b.parts) d1
      | none => d1

/-- The source of a granted requester moves on. -/
def takeSource (p : Nat) (g : Grant) (d : Dev) : Dev :=
  if g.requester = 0 then takeSeqs p g.target 1 g.entries.length (modSlu (flyData p g) d)
  else if g.requester ≤ 3 then modSlu (modPort p (fun x => { x with msgs := dropMsg g.requester x.msgs })) d
  else if g.requester = 4 then
    takeSeqs p g.target 2 g.entries.length
      (modEv (fun e => { e with queues := listMod e.queues p (fun q => { q with recs := q.recs.drop 32, lost := false }) }) d)
  else if g.requester = 5 then afterPeat (g.bytes - 16) (takeSeqs p g.target 3 g.entries.length d)
  else afterDiag (takeSeqs p g.target 4 g.entries.length d)

/-- A pool without room for a requester's message (R315). -/
def notePools (p : Nat) (d : Dev) : Dev :=
  [1, 2, 3, 4, 5, 6].foldl (fun d r =>
    match offer d p r with
    | some g => if poolTakes d g || silenced d p r then d else raise (if r = 5 then 45 else 46) 0 [] d
    | none => d) d

/-- Count a grant to other than the data aggregate. -/
def countUser (p : Nat) (g : Grant) (d : Dev) : Dev :=
  if g.requester = 0 then d
  else modSlu (modPort p (fun x => { x with stat := bumpStat 32 4 1 (·.users) (fun t v => { t with users := v }) x.stat })) d

/-- GRANT_ISSUE: nothing while a grant is in flight or nobody asks. DEDUCED (assumption log, entry 63). -/
def grantIssue (p : Nat) (d0 : Dev) : Dev :=
  if 2 < p ∨ (portGet d0.slu p).grant.isSome then d0
  else
    let d := notePools p d0
    match arbitrate d p with
    | none => d
    | some g =>
      let cls := (portGet d.slu p).classes.getD g.requester 3
      notePeak (countUser p g (modSlu (modPort p (fun x => { x with
        grant := some g, lastServed := listMod x.lastServed cls (fun _ => g.requester) })) (takeSource p g d)))

/-! ### A grant's end (R305, R311, R329, R332) -/

/-- Take the flying bit of a port off a queue's header and unit, sent or lost. -/
def landQueue (p : Nat) (x : Queue) : Queue :=
  cleanQueue { x with
    units := x.units.map (fun u => if bit u.flying p then { u with flying := putBit u.flying p false, need := putBit u.need p false } else u),
    heads := x.heads.map (fun h => if bit h.flying p then { h with flying := putBit h.flying p false, need := putBit h.need p false } else h) }

/-- The frame of the unit in flight on a port. -/
def flyingFrame (d : Dev) (p : Nat) (g : Grant) : Option Nat :=
  ((queueGet d.slu g.queue).units.find? (fun u => bit u.flying p)).map (·.frame)

/-- A grant is over: its cells are free, waiting headers take them, and DRAINED follows. -/
def endGrant (p : Nat) (g : Grant) (d : Dev) : Dev :=
  let d1 := if g.requester = 0 then modSlu (modQueue g.queue (landQueue p)) d else d
  updateDrained p (storeWaiting (modSlu (modPort p (fun x => { x with grant := none })) d1))

/-- The unit of a grant is lost on its port. -/
def loseUnit (p : Nat) (g : Grant) (d : Dev) : Dev :=
  match flyingFrame d p g with
  | some f => if g.requester = 0 ∧ g.hasUnit then dropOnPort g.queue f p d else d
  | none => d

/-- A grant in flight is lost. -/
def loseGrant (p : Nat) (d : Dev) : Dev :=
  match (portGet d.slu p).grant with
  | none => d
  | some g => endGrant p g (loseUnit p g d)

/-- GRANT_HOLD_WATCHDOG: the grant has been in flight for longer than its watchdog. -/
def grantWatchdog (p : Nat) (d : Dev) : Dev :=
  match (portGet d.slu p).grant with
  | none => d
  | some g =>
    let d1 := loseGrant p (advanceTuss (g.issued + g.hold * 1000000) d)
    raise (32 + p) 0 [] (modSlu (modPort p (fun x => { x with
      wdBite := true, stat := bumpStat 16 5 1 (·.bites) (fun t v => { t with bites := v }) x.stat })) d1)

/-- One frame under the transmit SA in use: its packet number, the threshold event, and the switch at exhaustion. -/
def txFrame (d : Dev) : Dev :=
  if prmGet d 0x0F08 = 0 then d
  else match netSa d d.net.txAn with
    | none => d
    | some sa =>
      let d1 := modNet (fun n => { n with txSas := setSa n.txAn (some { sa with pn := sa.pn + 1 }) n.txSas }) d
      let d2 := if sa.pn = 0xC0000000 then raise 100 0 [] d1 else d1
      if sa.pn < 0xFFFFFFFF then d2
      else
        let next := (d.net.txAn + 1) % 4
        match netSa d next with
        | some x => if x.pn ≤ 0xFFFFFFFF then modNet (fun n => { n with txAn := next }) d2
                    else raise 101 0 [] (modNet (fun n => { n with txStopped := true }) d2)
        | none => raise 101 0 [] (modNet (fun n => { n with txStopped := true }) d2)

/-- What goes around the next frame: every frame is tagged alike, and protected on the controlled port where MACsec is on. -/
def nextFraming (pcp : Nat) (controlled : Bool) (d : Dev) : Framing :=
  { vid := prmGet d 0x0F05, pcp := pcp, rct := d.net.rctSeq,
    sa := if controlled && prmGet d 0x0F08 != 0 then (netSa d d.net.txAn).map (fun sa => (d.net.txAn, sa.pn)) else none }

/-- A frame has gone out on both links with its trailer. -/
def countRct (d : Dev) : Dev := modNet (fun n => { n with rctSeq := wrapU 16 (n.rctSeq + 1) }) d

/-- The priority of a requester class's frames (R330). -/
def classPcp (d : Dev) (c : Nat) : Nat := prmGet d 0x0F06 / 8 ^ c % 8

/-- Send datagrams while the controlled port sends; says whether all went. -/
def sendDatagrams (src : Nat) (addr : Bytes) (port pcp : Nat) : List Bytes → Dev → Dev × Bool
  | [], d => (d, true)
  | b :: bs, d =>
    if txReady d 0 then
      sendDatagrams src addr port pcp bs (txFrame (countRct (emit (.udp src addr port b (nextFraming pcp true d)) d)))
    else (d, false)

/-- The addresses of a grant on port 0. -/
def grantTo (d : Dev) (g : Grant) : Nat × Bytes × Nat :=
  match g.msg with
  | some m => (m.srcPort, m.addr, m.udpPort)
  | none =>
    let x := d.net.dests.getD g.target Dest.unset
    (if g.requester = 0 then 51103 else 51102, destBytes x, x.port)

/-- Fire the vectors of a published entry: the records' own, and the ring's where MOD's count is reached. -/
def announce (r : Nat) (vectors : List Nat) (d : Dev) : Dev :=
  let x := ringGet d r
  let n := x.mod % 65536
  let due := n != 0 && decide (n ≤ x.entries)
  let d1 := vectors.foldl (fun d v => fireVector v d) d
  if due then fireVector (1 + r) (modRing r (fun x => { x with entries := 0, firstAt := none }) d1) else d1

/-- Write one entry into a ring and publish it (R342). A pad is not announced. -/
def publish (r : Nat) (e : Bytes) (d : Dev) : Dev :=
  let x := ringGet d r
  let w := (x.wptr + e.length) % 2 ^ x.size
  let real := rdU e 3 1 != 0
  let d1 := emit (.dma x.wb (le 4 w ++ slice e 4 4)) (emit (.dma (x.base + x.wptr) e) d)
  modRing r (fun x => { x with
    wptr := w, entries := if real then x.entries + 1 else x.entries,
    firstAt := if real then some (x.firstAt.getD (tussNow d)) else x.firstAt }) d1

/-- Count what a data grant sent. -/
def countData (p : Nat) (g : Grant) (d : Dev) : Dev :=
  if g.requester ≠ 0 then d
  else modSlu (modPort p (fun x => { x with stat :=
    (bumpStat 32 1 g.bytes (·.bytes) (fun t v => { t with bytes := v })
      (bumpStat 32 3 (if g.header then 1 else 0) (·.headers) (fun t v => { t with headers := v })
        (bumpStat 32 0 (if g.hasUnit then 1 else 0) (·.units) (fun t v => { t with units := v }) x.stat))) })) d

/-- GRANT_COMPLETE: the port has taken the last byte; on a port that cannot send nothing completes. -/
def grantComplete (p : Nat) (d : Dev) : Dev :=
  match (portGet d.slu p).grant with
  | none => d
  | some g =>
    if p ≠ 0 ∧ g.requester = 3 then (if msgReady d p then endGrant p g d else d)
    else if 2 < p || !txReady d p then d
    else if p = 0 then
      let a := grantTo d g
      let pcp := classPcp d ((portGet d.slu 0).classes.getD g.requester 3)
      let r := sendDatagrams a.1 a.2.1 a.2.2 pcp g.entries d
      if r.2 then endGrant 0 g (countData 0 g r.1) else endGrant 0 g (loseUnit 0 g r.1)
    else if p = 1 then
      endGrant 1 g (countData 1 g (announce g.target g.vectors (g.entries.foldl (fun d e => publish g.target e d) d)))
    else
      endGrant 2 g (countData 2 g (modSpi (fun x => { x with
        fifo := x.fifo ++ g.entries.flatten, entries := x.entries ++ g.entries.map (·.length) }) d))

/-- RING_MODERATION_TIMER: MOD's time after the first unannounced entry. -/
def moderation (r : Nat) (d : Dev) : Dev :=
  let x := ringGet d r
  match x.firstAt with
  | none => d
  | some t =>
    if x.mod / 65536 = 0 then d
    else fireVector (1 + r) (modRing r (fun x => { x with entries := 0, firstAt := none }) (advanceTuss (t + x.mod / 65536 * 1000) d))

end Sys2Proof.Machine
end

