-- ==== Sys2Proof/Machine/Ports.lean ====
section
/-!
DEFINITION. The external ports' events: links, PRP, MACsec, 802.1AS and addresses of port 0 (R329 to R335), the PCIe
endpoint (R339 to R344) and the SPI target's own state (R345 to R348), and the trigger pins (R354, R355).
-/
namespace Sys2Proof.Machine

/-- The PHYs of port 0 are off: in reset, and after a bind-off (R385). -/
def physOff (d : Dev) : Bool := d.sys.inReset || (d.sys.op == .halted && d.sys.haltCause == 7)

/-! ### Links and PRP (R329) -/

def gptpGet (d : Dev) (l : Nat) : Gptp := d.net.gptp.getD l ⟨false, 0, 0⟩
def modGptp (l : Nat) (f : Gptp → Gptp) (d : Dev) : Dev := modNet (fun n => { n with gptp := listMod n.gptp l f }) d

/-- Set asCapable of a gPTP port, with source 104 where it changes (R334, R357). DEDUCED (assumption log, entry 27). -/
def setCapable (l : Nat) (b : Bool) (d : Dev) : Dev :=
  if (gptpGet d l).asCapable == b then d else raise 104 1 [] (modGptp l (fun g => { g with asCapable := b }) d)

/-- LINK_STATE_CHANGE. Both links down: the grant in flight is lost and sessions through port 0 end (R329, R356). -/
def linkChange (l : Nat) (up : Bool) (d : Dev) : Dev :=
  if 1 < l ∨ physOff d ∨ d.net.linkUp.getD l false = up then d
  else
    let d1 := raise (96 + l) (if up then 0 else 1) [] (modNet (fun n => { n with linkUp := listMod n.linkUp l (fun _ => up) }) d)
    let d2 := if up then d1 else setCapable l false d1
    if d2.net.linkUp.any id then d2 else portCause 0 (loseGrant 0 d2)

/-- The nodes with an entry younger than the forget time of 400 ms, their entries likewise. -/
def freshNodes (now : Nat) (ns : List PrpNode) : List PrpNode :=
  (ns.map (fun n => { n with seqs := n.seqs.filter (fun e => decide (now < e.2 + 400000000)) })).filter (fun n => !n.seqs.isEmpty)

/-- Duplicate discard: whether the frame is passed on. -/
def prpPass (src seq : Nat) (d : Dev) : Dev × Bool :=
  let ns := freshNodes (tussNow d) d.net.prp
  let note (f : Net → Net) : Dev := modNet (fun n => f { n with prp := ns }) d
  match ns.find? (fun n => n.mac == src) with
  | some n =>
    if n.seqs.any (fun e => e.1 == seq) then (note (fun n => { n with dupDiscarded := incSat 32 n.dupDiscarded }), false)
    else (note (fun n => { n with prp := n.prp.map (fun x => if x.mac = src then { x with seqs := (seq, tussNow d) :: x.seqs } else x) }), true)
  | none =>
    if ns.length < 256 then (note (fun n => { n with prp := ⟨src, [(seq, tussNow d)]⟩ :: n.prp }), true)
    else (raise 99 0 [] (note (fun n => { n with dupPassed := incSat 32 n.dupPassed })), true)

/-! ### MACsec reception (R331) -/

def macsecFail (sc : Nat) (d : Dev) : Dev :=
  raise 102 0 [] (modRxSc sc (fun x => { x with failures := incSat 32 x.failures }) d)

/-- Strict validation with the replay window. DEDUCED (assumption log, entry 25). -/
def macsecReceive (sc an pn : Nat) (secured valid : Bool) (d : Dev) : Dev :=
  if prmGet d 0x0F08 = 0 then d
  else if !secured then raise 102 0 [] d
  else match (rxSc d sc).sas.getD an none with
    | none => macsecFail sc d
    | some sa =>
      if !valid || pn == 0 || decide (pn + prmGet d 0x0F09 < sa.pn) then macsecFail sc d
      else modRxSc sc (fun x => { x with sas := setSa an (some { sa with pn := max sa.pn (pn + 1) }) x.sas }) d

/-- PRP_FRAME_RECEIVE: a frame of `len` bytes; the MAC takes frames of up to 2 100 bytes (R328). -/
def prpReceive (l src seq lan sc an pn len : Nat) (secured valid : Bool) (d : Dev) : Dev :=
  if !d.net.linkUp.getD l false || decide (2100 < len) then d
  else
    let d1 := if lan = l then d else raise 98 0 [] (modNet (fun n => { n with wrongLan := incSat 32 n.wrongLan }) d)
    let r := prpPass src seq d1
    if r.2 then macsecReceive sc an pn secured valid r.1 else r.1

/-- The MAC address in transmission order (R330). -/
def macBytes (d : Dev) : Bytes := le 4 (prmGet d 0x0F03) ++ le 2 (prmGet d 0x0F04)

/-- A frame that no requester of Sluice sends, on every link that is up (R329); its priority is free (R330 gives none). -/
def onLinks (controlled : Bool) (data : Bytes) (d : Dev) : Dev :=
  let f := nextFraming (Config.otherPcp % 8) controlled d
  countRct ([0, 1].foldl (fun d l => if d.net.linkUp.getD l false then emit (.link l data f) d else d) d)

/-- PRP_SUPERVISION_SEND: every 2 s; the payload is IEC 62439-3's for a node of the duplicate discard mode.
PRESUMED (assumption log, entry 24). -/
def supervision (d : Dev) : Dev :=
  if !d.net.linkUp.any id then d
  else
    let d1 := advanceTuss d.net.supervisionAt d
    modNet (fun n => { n with prpSeq := wrapU 16 (n.prpSeq + 1), supervisionAt := tussNow d1 + 2000000000 })
      (onLinks false (be 2 1 ++ be 2 d.net.prpSeq ++ le 1 20 ++ le 1 6 ++ macBytes d ++ zeros 2) d1)

/-- PRP_SUPERVISION_LOSS. -/
def supervisionLoss (d : Dev) : Dev := raise 98 1 [] d

/-! ### 802.1AS (R106, R334) -/

/-- The best master clock: the lowest grandmaster identity heard on an asCapable port; link A wins a tie.
PRESUMED (assumption log, entry 26). -/
def bestPort (d : Dev) : Option Nat :=
  let a := gptpGet d 0
  let b := gptpGet d 1
  let okA := a.asCapable && a.gm != 0
  let okB := b.asCapable && b.gm != 0
  if okA && (!okB || decide (a.gm ≤ b.gm)) then some 0 else if okB then some 1 else none

/-- Choose the slave port; a selected port whose grandmaster is the best one's stays. -/
def selectSlave (d : Dev) : Dev :=
  match bestPort d with
  | none => d
  | some l =>
    let keep := match d.net.slave with
      | some s => (gptpGet d s).asCapable && (gptpGet d s).gm == (gptpGet d l).gm
      | none => false
    if keep then d
    else
      let d1 := modTim (fun t => { t with grandmaster := (gptpGet d l).gm }) (modNet (fun n => { n with slave := some l }) d)
      if d.net.slave.isSome && d.net.slave != some l then raise 104 0 [] d1 else d1

/-- GPTP_MESSAGE_RECEIVE: 0 a Sync with its offset and the servo's rate, 1 a neighbour delay in ns, 2 an Announce, in domain 0; Sync
intervals with log values from −5 to 0 are accepted (R334). DESIGN CHOICE (assumption log, entry 37). -/
def gptpReceive (l domain kind gm : Nat) (interval value rate : Int) (d : Dev) : Dev :=
  if !d.net.linkUp.getD l false || domain != 0 || (kind == 0 && decide (interval < -5 ∨ 0 < interval)) then d
  else if kind = 1 then
    selectSlave (setCapable l (decide (value < 800)) (modGptp l (fun g => { g with delay := value.toNat }) d))
  else if kind = 2 then selectSlave (modGptp l (fun g => { g with gm := gm }) d)
  else if kind = 0 ∧ d.net.slave = some l ∧ (gptpGet d l).asCapable = true then noteRecommended (servoSync value rate d)
  else d

/-- SLAVE_PORT_RESELECT: three Syncs missed while the other port is asCapable under the same grandmaster. -/
def slaveReselect (d : Dev) : Dev :=
  match d.net.slave with
  | none => d
  | some l =>
    let o := 1 - l
    if (gptpGet d o).asCapable && (gptpGet d o).gm == (gptpGet d l).gm then raise 104 0 [] (modNet (fun n => { n with slave := some o }) d)
    else d

/-! ### Addresses (R330) -/

/-- ARP_ND_RECEIVE: 0 ARP, 1 neighbour solicitation, 2 echo, 3 ICMPv6 echo. A sender with this node's address and another
MAC is a conflict; a request to this node's address is answered. -/
def arpNd (l kind : Nat) (target sender : Bytes) (mac : Nat) (d : Dev) : Dev :=
  let own := if kind = 0 ∨ kind = 2 then d.net.ip4.addr.take 4 else d.net.ip6.addr
  if !d.net.linkUp.getD l false || own.all (· == 0#8) || decide (3 < kind) then d
  else if sender == own && be 6 mac != macBytes d then raise 105 0 [] d
  else if target == own && txReady d 0 then txFrame (onLinks true (le 1 kind ++ own ++ macBytes d ++ sender ++ be 6 mac) d)
  else d

/-! ### PCIe (R339 to R344) -/

/-- PCIE_LINK_TRAINED: the link reaches L0 and the host enables bus mastering. PRESUMED (assumption log, entry 23). -/
def pcieTrained (d : Dev) : Dev :=
  if d.sys.inReset ∨ d.pcie.linkUp then d
  else raise 106 0 [] (modPcie (fun p => { p with linkUp := true, busMaster := true }) d)

/-- PCIE_FUNCTION_RESET: 0 function-level, 1 hot reset, 2 link drop, 3 D3hot, 4 PERST_N. All but 0 and 3 take the link down. The rings'
sequences of entries run on (R337). -/
def functionReset (cause : Nat) (d : Dev) : Dev :=
  if !d.pcie.linkUp then d
  else
    let drops := cause == 1 || cause == 2 || cause == 4
    let d1 := modPcie (fun p => { Pcie.reset with
      linkUp := !drops, rings := p.rings.map (fun x => { Ring.reset with seq := x.seq }) }) (loseGrant 1 d)
    raise 107 0 [] (if drops then raise 106 0 [] (portCause 1 d1) else portCause 1 d1)

/-- A write of RPTR (R341). -/
def writeRptr (r v : Nat) (d : Dev) : Dev :=
  if 7 < r then d
  else if v % 16 ≠ 0 ∨ 2 ^ (ringGet d r).size ≤ v then raise 108 0 [] (modRing r (fun x => { x with err := true, en := false }) d)
  else modRing r (fun x => { x with rptr := v }) d

/-- RPTR_WRITE. -/
def rptrWrite (r v : Nat) (d : Dev) : Dev := if d.sys.inReset || !d.pcie.linkUp then d else writeRptr r (wrapU 32 v) d

/-- BASE, WB and SIZE while EN is clear. -/
def setRing (r : Nat) (f : Ring → Ring) (d : Dev) : Dev := modRing r (fun x => if x.en then x else f x) d

/-- A write of CTRL: SIZE while EN is clear, ERR where 1 is written, EN. A size outside 16 to 26 leaves the size.
DEDUCED (assumption log, entry 28). -/
def writeCtrl (r v w1c : Nat) (d : Dev) : Dev :=
  let s := v % 32
  modRing r (fun x =>
    let x1 := if x.en || decide (s < 16 ∨ 26 < s) then x else { x with size := s, wptr := x.wptr % 2 ^ s, rptr := x.rptr % 2 ^ s }
    { x1 with err := x1.err && !bit w1c 30, en := bit v 31 }) d

def ctrlOf (x : Ring) : Nat := flag x.en 31 + flag x.err 30 + x.size

/-- A word of a ring's block. -/
def ringWord (x : Ring) (i : Nat) : Nat :=
  match i with
  | 0 => x.base % 2 ^ 32
  | 1 => x.base / 2 ^ 32
  | 2 => x.wb % 2 ^ 32
  | 3 => x.wb / 2 ^ 32
  | 4 => ctrlOf x
  | 5 => x.wptr
  | 6 => x.rptr
  | 7 => x.mod
  | _ => 0

/-- The word with one half of a 64-bit value replaced, its low bits cleared. -/
def setHalf (v i w low : Nat) : Nat :=
  let x := if i = 0 then v / 2 ^ 32 * 2 ^ 32 + w else v % 2 ^ 32 + w * 2 ^ 32
  x / low * low

/-- MOD holds at most 1 000 µs and 1 024 entries. -/
def modOf (v : Nat) : Nat := min 1000 (v / 65536) * 65536 + min 1024 (v % 65536)

/-- A write of a word of a ring's block: `v` with the bytes not written as they were, `w1c` with them zero. -/
def writeRing (r i v w1c : Nat) (d : Dev) : Dev :=
  match i with
  | 0 => setRing r (fun x => { x with base := setHalf x.base 0 v 4096 }) d
  | 1 => setRing r (fun x => { x with base := setHalf x.base 1 v 4096 }) d
  | 2 => setRing r (fun x => { x with wb := setHalf x.wb 0 v 8 }) d
  | 3 => setRing r (fun x => { x with wb := setHalf x.wb 1 v 8 }) d
  | 4 => writeCtrl r v w1c d
  | 6 => writeRptr r v d
  | 7 => modRing r (fun x => { x with mod := modOf v }) d
  | _ => d

/-- A word of the MSI-X table. -/
def vecWord (x : Vec) (i : Nat) : Nat :=
  match i with
  | 0 => x.addr % 2 ^ 32
  | 1 => x.addr / 2 ^ 32
  | 2 => x.data
  | _ => flag x.masked 0

/-- A write of it; a pending vector fires when it is unmasked. -/
def writeVec (v i w : Nat) (d : Dev) : Dev :=
  let d1 := modPcie (fun p => { p with vecs := listMod p.vecs v (fun x =>
    match i with
    | 0 => { x with addr := setHalf x.addr 0 w 4 }
    | 1 => { x with addr := setHalf x.addr 1 w 4 }
    | 2 => { x with data := w }
    | _ => { x with masked := bit w 0 }) }) d
  let x := d1.pcie.vecs.getD v ⟨0, 0, true, false⟩
  if x.pend && !x.masked && d1.pcie.busMaster then
    fireVector v (modPcie (fun p => { p with vecs := listMod p.vecs v (fun y => { y with pend := false }) }) d1)
  else d1

/-- The pending-bit array. -/
def pendingBits (d : Dev) : Nat := maskOf ((List.range 32).filter (fun v => (d.pcie.vecs.getD v ⟨0, 0, true, false⟩).pend))

/-- Bus mastering is on again: pending vectors that are not masked fire. -/
def enableMaster (d : Dev) : Dev :=
  if d.pcie.busMaster then d
  else (List.range 32).foldl (fun d v =>
    let x := d.pcie.vecs.getD v ⟨0, 0, true, false⟩
    if x.pend && !x.masked then fireVector v (modPcie (fun p => { p with vecs := listMod p.vecs v (fun y => { y with pend := false }) }) d) else d)
    (modPcie (fun p => { p with busMaster := true }) d)

/-! ### SPI (R345 to R348) -/

/-- A framing error (R345, R346). -/
def framing (d : Dev) : Dev := raise 109 0 [] (modSpi (fun s => { s with framingErr := true }) d)

/-- A transaction cut in the middle of a byte. -/
def cutOff (cut : Bool) (d : Dev) : Dev := if cut then framing d else d

/-- IRQ_N is asserted (R347, R389). DEDUCED (assumption log, entry 29). -/
def irqLow (d : Dev) : Bool :=
  !d.sys.inReset && ((List.range 5).any (fun i => bit (mbGet d 1).irqStatus i && bit (mbGet d 1).irqEnable i) ||
    !(evQueueOf d 2).recs.isEmpty || decide (d.spi.threshold ≤ d.spi.fifo.length / 16))

/-- The SPI status word. -/
def spiWord (d : Dev) : Nat :=
  d.sys.boot * 2 ^ 24 + flag (irqLow d) 23 + flag (bit (mbGet d 1).irqStatus 0) 22 + flag (!(evQueueOf d 2).recs.isEmpty) 21 +
    flag d.spi.framingErr 20 + d.spi.fifo.length / 16

/-- SPI_STATUS. -/
def spiStatus (cut : Bool) (d : Dev) : Dev :=
  if d.sys.inReset then d
  else cutOff cut (modSpi (fun s => { s with framingErr := false }) (emit (.read 2 (le 4 (spiWord d))) d))

/-- The lengths of the entries left after `n` bytes. -/
def leftEntries : Nat → List Nat → List Nat
  | _, [] => []
  | n, e :: es => if e ≤ n then leftEntries (n - e) es else (e - n) :: es

/-- SPI_STREAM: the FIFO as a byte stream, zeros beyond its content. -/
def spiStream (len : Nat) (cut : Bool) (d : Dev) : Dev :=
  if d.sys.inReset then d
  else cutOff cut (modSpi (fun s => { s with fifo := s.fifo.drop len, entries := leftEntries len s.entries })
    (emit (.read 2 (fitTo len d.spi.fifo)) d))

/-- SPI_STRAP_RESET. -/
def spiStrapReset (d : Dev) : Dev :=
  if d.sys.inReset then d
  else raise 110 0 [] (portCause 2 (modSpi (fun s => { s with
    fifo := [], entries := [], threshold := 64, framingErr := false,
    lostEntries := satU 32 (s.lostEntries + s.entries.length) }) d))

/-! ### Trigger pins (R354, R355) -/

/-- A trigger other than a peer's is forwarded as enabled: onto the SYNC bus and to TRIG_OUT (R322). Origins: 1 TRIG_IN, 3 event,
4 command. -/
def forwardTrigger (origin t : Nat) (d : Dev) : Dev :=
  if origin = 2 then d
  else
    let en := peatField d 0x10 1
    let d1 := if bit en 0 then modSync (fun y => { y with xtrig := some (le 1 origin ++ zeros 3 ++ le 8 t) }) d else d
    if bit en 1 then trigOut d1 else d1

/-- PEAT_TRIGGER_ACCEPT: the first of the triggers that wait. -/
def triggerAccept (d : Dev) : Dev :=
  if d.peat.state != .armed then d
  else match firstTrig d.peat.trigs with
    | none => d
    | some t => forwardTrigger t.1 t.2.2 (peatAccept t d)

/-- PEAT_REARM: in repeat mode, after the close. -/
def peatRearm (d : Dev) : Dev := if d.peat.state == .dead then peatNext d else d

/-- TRIG_IN_EDGE: a deglitched edge at device time `t`; one less than 2 µs after an accepted edge is an overrun. -/
def trigInEdge (rising : Bool) (t : Nat) (d : Dev) : Dev :=
  if d.sys.inReset || rising != (prmGet d 0x0F10 == 0) then d
  else if d.trig.lastIn.any (fun u => decide ((t : Int) - d.sys.stepSum < u + 2000)) then
    raise 115 0 [] (modTrig (fun x => { x with overruns := incSat 32 x.overruns }) (advanceTo t d))
  else
    let d1 := raise 114 0 [] (modTrig (fun x => { x with lastIn := some ((t : Int) - d.sys.stepSum).toNat }) (advanceTo t d))
    let d2 := if peatTrigOn d1 0 then peatTriggerAt 1 (if rising then 0 else 1) t d1 else d1
    traceTriggers 1 t d2

/-- TRIG_OUT_PULSE_END. -/
def trigOutEnd (d : Dev) : Dev :=
  if d.trig.outActive then modTrig (fun t => { t with outActive := false }) (advanceTuss d.trig.outEnd d) else d

end Sys2Proof.Machine
end

