-- ==== Sys2Proof/Machine/SyncBus.lean ====
section
/-!
DEFINITION. What travels on the SYNC bus (chapter 14, R349 to R353): the layout and check of a message, the master's
windows, a follower's slot, and what each received message does, with the synchronised change of R55 to R57.
-/
namespace Sys2Proof.Machine

/-! ### Messages (R352) -/

def headNo (d : Dev) : Nat := prmGet d 0x0F0B

/-- Header and payload, zero-padded to whole words of 8 bytes. -/
def syncBody (head type : Nat) (payload : Bytes) : Bytes :=
  fitTo (ceilDiv (4 + payload.length) 8 * 8) (le 1 head ++ le 1 type ++ le 1 payload.length ++ zeros 1 ++ payload)

/-- A message as it leaves the bus pins, preamble and delimiter first. -/
def syncMessage (head type : Nat) (payload : Bytes) : Bytes :=
  let m := syncBody head type payload
  [0x55#8, 0x55#8, 0xD5#8] ++ m ++ le 4 (hookCheck 0 0 m)

def syncSend (type : Nat) (payload : Bytes) (d : Dev) : Dev := emit (.sync (syncMessage (headNo d) type payload)) d

/-- The payload length of a known type. -/
def syncLen (type : Nat) : Option Nat :=
  if type = 1 ∨ (3 ≤ type ∧ type ≤ 6) then some 8
  else if type = 2 ∨ type = 8 then some 12
  else if type = 7 then some 72
  else none

/-- The message from its source head number on is whole and its check agrees. -/
def syncGood (m : Bytes) : Bool :=
  let n := ceilDiv (4 + rdU m 2 1) 8 * 8
  decide (4 ≤ m.length) && m.length == n + 4 && rdU m n 4 == hookCheck 0 0 (m.take n)

/-- A message arrives: a failed check or an unknown type is counted, a message of the type looked for is handed on with its
sender and payload. -/
def syncReceive (type : Nat) (m : Bytes) (f : Nat → Bytes → Dev → Dev) (d : Dev) : Dev :=
  if prmGet d 0x0F0A = 0 ∨ !ticking d then d
  else if !syncGood m then raise 113 0 [] (modSync (fun y => { y with checkFails := incSat 32 y.checkFails }) d)
  else
    let t := rdU m 1 1
    if syncLen t != some (rdU m 2 1) then modSync (fun y => { y with unknown := incSat 32 y.unknown }) d
    else if t != type ∨ 8 ≤ rdU m 0 1 then d
    else
      let d1 := modSync (fun y => { y with heardNow := putBit y.heardNow (rdU m 0 1) true }) d
      f (rdU m 0 1) (slice m 4 (rdU m 2 1)) d1

/-! ### Beacons (R350) -/

/-- A beacon: a follower's cycle, and its frame offset at cycle 0; at a master, the conflict. -/
def onBeacon (head : Nat) (p : Bytes) (d : Dev) : Dev :=
  if prmGet d 0x0F0A = 2 then
    let d1 := raise 112 0 [] d
    if headNo d < head ∨ d.sync.yielded then d1
    else endSyncCode stNotPermitted [] (endSyncStart stNotPermitted [] (modSync (fun y => { y with yielded := true, xtrig := none }) d1))
  else
    let d1 := if d.sync.beaconLost then raise 111 1 [] d else d
    modSync (fun y =>
      let z := { y with beaconHeard := true, beaconLost := false, cycleAt := d.sys.now - 1000 }
      if rdU p 4 2 = 0 then { z with markerFrame := some (rdU p 0 4), markerLocal := d.seq.frame, markerAt := d.sys.now } else z) d1

def beaconMsg (m : Bytes) (d : Dev) : Dev := syncReceive 1 m onBeacon d

/-- SYNC_BEACON_LOSS: a follower misses three consecutive beacons, 300 µs after the latest cycle it heard. -/
def beaconLoss (d : Dev) : Dev :=
  if !syncFollower d || !ticking d || d.sync.beaconLost then d
  else
    let d1 := if d.sync.beaconHeard then advanceTo (d.sync.cycleAt + 301000) d else d
    raise 111 0 [] (modSync (fun y => { y with beaconLost := true, beaconHeard := false, markerFrame := none }) d1)

/-! ### A follower's part in a synchronised change (R55, R56) -/

/-- A frame of the master in this head's numbering. -/
def localFrame (d : Dev) (n : Nat) : Option Nat :=
  d.sync.markerFrame.map (fun f => wrapU 32 (n + 2 ^ 32 - f % 2 ^ 32 + d.sync.markerLocal))

/-- The last instant at which GO for a frame of this head is accepted: 1 ms before the end of the active sweep of the frame
before it. -/
def goDeadline (d : Dev) (frame : Nat) : Nat :=
  let prev := wrapU 32 (frame + 4294967295)
  (if prev = d.seq.frame then d.seq.frameTime else tickOfFrame d prev) + activeNs d.seq.plan - 1000000

/-- The frame lies ahead and its deadline has not passed. -/
def goInTime (d : Dev) (frame : Nat) : Bool := laterThan 32 frame d.seq.frame && decide (d.sys.now ≤ goDeadline d frame)

/-- A frame marker was received within the last two frames. -/
def markerFresh (d : Dev) : Bool :=
  d.sync.markerFrame.isSome && decide (d.sys.now ≤ d.sync.markerAt + 2 * d.seq.plan.period)

/-- The held set is bound to a frame of this head and waits for its tick. -/
def bindHeld (frame : Nat) (d : Dev) : Dev :=
  match d.sync.held with
  | none => d
  | some h =>
    modPrm (fun p => { p with pending := p.pending ++ [⟨h.set, frame⟩] })
      (modSync (fun y => { y with held := some { h with state := 3, bound := frame } }) d)

/-- The held set is discarded with an outcome. -/
def dropHeld (outcome : Nat) (d : Dev) : Dev := modSync (fun y => { y with held := none, lastOutcome := outcome }) d

/-- PREPARE: READY for the set this head holds, with a recent frame marker; REFUSE otherwise. The answer waits for the slot of
the next cycle. -/
def onPrepare (_ : Nat) (p : Bytes) (d : Dev) : Dev :=
  if !syncFollower d then d
  else
    let ident := rdU p 4 4
    let n := rdU p 8 4
    let ready := markerFresh d && d.sync.held.elim false (fun h => decide (h.state = 1 ∨ h.state = 2) && h.kind == rdU p 0 1 &&
      heldIdent h == ident)
    let answer := le 1 (if ready then 3 else 4) ++ le 4 ident ++ le 4 n
    modSync (fun y => { y with
      answer := some answer, answerAt := y.cycleAt,
      held := if ready then y.held.map (fun h => { h with state := 2, frame := n, bound := (localFrame d n).getD 0 }) else y.held,
      lastOutcome := if ready then y.lastOutcome else 5 }) d

def prepareMsg (m : Bytes) (d : Dev) : Dev := syncReceive 2 m onPrepare d

/-- A held set that answered READY to this identifier and frame. -/
def prepared (d : Dev) (p : Bytes) : Bool :=
  d.sync.held.elim false (fun h => h.state == 2 && heldIdent h == rdU p 0 4 && h.frame == rdU p 4 4)

/-- GO: in time, the set is bound to frame n. -/
def onGo (_ : Nat) (p : Bytes) (d : Dev) : Dev :=
  match localFrame d (rdU p 4 4) with
  | none => d
  | some f => if syncFollower d && prepared d p && goInTime d f then bindHeld f d else d

def goMsg (m : Bytes) (d : Dev) : Dev := syncReceive 5 m onGo d

/-- CANCEL: the set it names is discarded, unless GO was accepted. -/
def onCancel (_ : Nat) (p : Bytes) (d : Dev) : Dev :=
  if syncFollower d && d.sync.held.elim false (fun h => h.state != 3 && heldIdent h == rdU p 0 4) then dropHeld 2 d else d

def cancelMsg (m : Bytes) (d : Dev) : Dev := syncReceive 6 m onCancel d

/-- SYNC_DEADLINE: a prepared set without GO or CANCEL by the deadline. -/
def syncDeadline (d : Dev) : Dev :=
  match d.sync.held with
  | none => d
  | some h =>
    if h.state != 2 || !syncFollower d || !ticking d then d
    else
      raise 7 0 (le 4 h.planId ++ le 4 h.frame) (dropHeld 3 (advanceTo (goDeadline d h.bound) d))

/-! ### The master's part (R55, R421) -/

/-- An answer counts for the change that runs. -/
def onAnswer (ready : Bool) (head : Nat) (p : Bytes) (d : Dev) : Dev :=
  modSync (fun y => { y with run := y.run.map (fun r =>
    if r.prepareAt.isSome ∧ rdU p 0 4 = r.ident ∧ rdU p 4 4 = r.frame then
      (if ready then { r with ready := putBit r.ready head true } else { r with refused := putBit r.refused head true })
    else r) }) d

def readyMsg (m : Bytes) (d : Dev) : Dev := syncReceive 3 m (fun h p d => if syncMaster d then onAnswer true h p d else d) d

def refuseMsg (m : Bytes) (d : Dev) : Dev := syncReceive 4 m (fun h p d => if syncMaster d then onAnswer false h p d else d) d

/-- PREPARE goes out; from here on the configured followers are expected to answer. -/
def sendPrepare (t : Nat) (r : SyncRun) (d : Dev) : Dev :=
  let mask := clrBits 8 (prmGet d 0x0F0D) (2 ^ headNo d)
  syncSend 2 (le 1 r.kind ++ zeros 3 ++ le 4 r.ident ++ le 4 r.frame)
    (modSync (fun y => { y with run := some { r with prepareAt := some t, expect := mask } }) d)

def threeTimes (type : Nat) (p : Bytes) (d : Dev) : Dev := syncSend type p (syncSend type p (syncSend type p d))

/-- The window 300 µs after PREPARE: GO when every configured follower is ready and the set is still held, CANCEL otherwise. -/
def decideRun (r : SyncRun) (d : Dev) : Dev :=
  let silent := clrBits 8 r.expect (orBits 8 r.ready r.refused)
  let go := !r.cancel && andBits 8 r.expect r.ready == r.expect && andBits 8 r.expect r.refused == 0 &&
    d.sync.held.elim false (fun h => h.state == 1 && heldIdent h == r.ident)
  let body := le 4 r.ident ++ le 4 r.frame
  let planId := d.sync.held.elim (if bit r.kind 0 then r.ident else 0) (·.planId)
  let d1 := if silent = 0 then d else raise 7 0 (le 4 planId ++ le 4 r.frame ++ le 1 silent) d
  let rsp := le 1 r.ready ++ le 1 r.refused ++ le 1 silent ++ zeros 1 ++ le 4 r.frame
  if go then endSyncStart stOk rsp (bindHeld r.frame (threeTimes 5 body d1))
  else
    let d2 := threeTimes 6 body d1
    endSyncStart stSyncRefused rsp (if d2.sync.held.isSome then dropHeld 2 d2 else d2)

/-- The change that runs, in a window. -/
def serveRun (t : Nat) (d : Dev) : Dev :=
  match d.sync.run with
  | none => d
  | some r =>
    match r.prepareAt with
    | none => sendPrepare t r d
    | some u => if u + 300000 ≤ t then decideRun r d else d

/-- Spacing and greatest dither span of head h (R353). -/
def codeSpacing (h : Nat) : Nat := 8 + 4 * h
def codeSpan (h : Nat) : Nat := 32 - h / 2 * 8

/-- The seed of head h from the master's (R353). -/
def codeSeed (seed h : Nat) : Nat :=
  let x := (BitVec.ofNat 32 seed ^^^ BitVec.ofNat 32 (h * 0x01010101)).toNat
  if x = 0 then 1 else x

def codePayload (d : Dev) : Bytes :=
  le 4 d.sync.codeFrame ++ zeros 4 ++
    (List.range 8).flatMap (fun h => le 1 (codeSpacing h) ++ le 1 (codeSpan h) ++ zeros 2 ++ le 4 (codeSeed (prmGet d 0x0422) h))

/-- A head's entry waits for the frame tick it names. -/
def takeCode (frame s span seed : Nat) (d : Dev) : Dev :=
  if prmGet d 0x0423 = 1 then modHisto (fun h => { h with assign := some ⟨s, span, seed, frame⟩ }) d else d

/-- One copy of CODE; the third ends SYNC_CODE. -/
def serveCode (d : Dev) : Dev :=
  if d.sync.codeLeft = 0 then d
  else
    let h := headNo d
    let d1 := takeCode d.sync.codeFrame (codeSpacing h) (codeSpan h) (codeSeed (prmGet d 0x0422) h) (syncSend 7 (codePayload d) d)
    if d.sync.codeLeft = 1 then endSyncCode stOk (le 4 d.sync.codeFrame) d1
    else modSync (fun y => { y with codeLeft := y.codeLeft - 1 }) d1

/-- A cross-trigger that waits goes out. -/
def sendXtrig (d : Dev) : Dev :=
  match d.sync.xtrig with
  | none => d
  | some p => syncSend 8 p (modSync (fun y => { y with xtrig := none }) d)

/-- SYNC_CYCLE_START: the master's next window of the frame, unless it would not end before the frame tick; its beacon goes out 1 µs
after the cycle's start. -/
def cycleStart (d : Dev) : Dev :=
  if !syncMaster d || !ticking d || !d.seq.started then d
  else
    let t := d.seq.frameTime + 100000 * d.sync.cycle
    if d.seq.nextFrame ≤ t + 40000 then d
    else
      let d1 := modSync (fun y => { y with cycleAt := t, cycle := y.cycle + 1 }) (advanceTo (t + 1000) d)
      sendXtrig (serveCode (serveRun t (syncSend 1 (le 4 d.seq.frame ++ le 2 d.sync.cycle ++ zeros 2) d1)))

/-- SYNC_FOLLOWER_SLOT: the answer due in this cycle, else a cross-trigger. -/
def followerSlot (d : Dev) : Dev :=
  let t := d.sync.cycleAt + 40000 + 7500 * headNo d
  if !syncFollower d || !ticking d || !d.sync.beaconHeard || decide (d.seq.nextFrame ≤ t + 7500) then d
  else
    let d1 := advanceTo t d
    match d.sync.answer with
    | some a =>
      if d.sync.answerAt = d.sync.cycleAt then sendXtrig d1
      else syncSend (rdU a 0 1) (a.drop 1) (modSync (fun y => { y with answer := none }) d1)
    | none => sendXtrig d1

/-! ### Codes and cross-triggers at a receiver (R126, R352) -/

/-- CODE: this head's entry, in the master's numbering. -/
def onCode (_ : Nat) (p : Bytes) (d : Dev) : Dev :=
  match localFrame d (rdU p 0 4) with
  | none => d
  | some f =>
    let e := 8 + 8 * headNo d
    if syncFollower d && laterThan 32 f d.seq.frame then takeCode f (rdU p e 1) (rdU p (e + 1) 1) (rdU p (e + 4) 4) d else d

def codeMsg (m : Bytes) (d : Dev) : Dev := syncReceive 7 m onCode d

/-- XTRIG: offered to Peat with the sender's head number, and to the trace units. -/
def onXtrig (head : Nat) (_ : Bytes) (d : Dev) : Dev :=
  traceTriggers 2 d.sys.now (if peatTrigOn d 1 then peatTrigger 2 head d else d)

def xtrigMsg (m : Bytes) (d : Dev) : Dev := syncReceive 8 m onXtrig d

end Sys2Proof.Machine
end

