-- ==== Sys2Proof/Machine/Mailbox.lean ====
section
/-!
DEFINITION. The mailboxes as the host reaches them (chapter 16): taking posted commands, the doorbell page and the BAR0 space,
and the datagrams of the backbone's mailboxes.
-/
namespace Sys2Proof.Machine

/-! ### Taking (R391, R395, R398) -/

/-- The mailbox page of a port answers: it exists from BOOT_READY on (R361), and PCIe needs its link. -/
def pageLive (mb : Nat) (d : Dev) : Bool := decide (mb < 2) && d.sys.bootReady && !d.sys.inReset && (mb == 1 || d.pcie.linkUp)

/-- A host that writes BAR0 through PCIe masters the bus again. -/
def hostWrites (mb : Nat) (d : Dev) : Dev := if mb = 0 ∧ d.pcie.linkUp then enableMaster d else d

/-- The slot a command index names: slot 0 while the ROM serves the mailbox. -/
def cmdPlace (mb : Nat) (m : Mailbox) (i : Nat) : Nat := cmdSlotAddr mb (if m.rom then 0 else i)

/-- How many commands are posted and not taken. -/
def postedCount (m : Mailbox) : Nat := (m.cmdPi + 65536 - m.cmdCi) % 65536

/-- The headers posted and not taken, in index order. -/
def postedHeaders (ram : List Host.Cell) (mb : Nat) (m : Mailbox) : List Bytes :=
  (List.range (postedCount m)).map (fun k => memRead ram (cmdPlace mb m (m.cmdCi + k)) 16)

def hasBulk (header : Bytes) : Bool := bit (rdU header 12 2) 0

/-- The free window goes to the first posted command with BULK. -/
def claimWindow (ram : List Host.Cell) (mb : Nat) (d : Dev) : Dev :=
  let m := mbGet d mb
  if m.bulkBusy then d
  else match (postedHeaders ram mb m).find? hasBulk with
    | none => d
    | some h => modMb mb (fun m => { m with bulkBusy := true, bulkRsp := false, bulkOwner := rdU h 2 2 }) d

/-- The window becomes free. -/
def freeWindow (mb : Nat) (d : Dev) : Dev :=
  postResponses mb (irqSet mb 3 (modMb mb (fun m => { m with bulkBusy := false, bulkRsp := false, bulkOwner := 0 }) d))

/-- Take the command at CMD_CI: copy its slot and its data in the window, advance CMD_CI, and judge it. -/
def takeOne (ram : List Host.Cell) (mb : Nat) (d : Dev) : Dev :=
  let m := mbGet d mb
  let place := cmdPlace mb m m.cmdCi
  let h := memRead ram place 16
  let op := rdU h 0 2
  let tag := rdU h 2 2
  let len := rdU h 4 4
  let inline := memRead ram (place + 16) (min len 1008)
  let window (n : Nat) : Bytes := if n ≤ 65536 then memRead ram (bulkAddr mb) n else []
  let load := op == 0x01F2
  let payload := if hasBulk h && !load then window len else inline
  let more := if load then window (rdU inline 8 4) else []
  let c : Cmd := { mb := mb, tag := tag, op := op, session := rdU h 8 4, flags := rdU h 12 2, payload := payload, t := tussNow d,
                   src := [], srcPort := 0 }
  let own := m.bulkBusy && !m.bulkRsp && m.bulkOwner == tag
  let d1 := irqSet mb 1 (modMb mb (fun m => { m with cmdCi := (m.cmdCi + 1) % 65536 }) d)
  let d2 := if hasBulk h && own then claimWindow ram mb (freeWindow mb d1) else d1
  takeCmd c h more (m.bulkBusy && !own) d2

/-- Take posted commands while there are any and no response waits for a slot. -/
def takeLoop (ram : List Host.Cell) (mb : Nat) : Nat → Dev → Dev
  | 0, d => d
  | n + 1, d =>
    let m := mbGet d mb
    if m.cmdCi = m.cmdPi ∨ rspWaiting m then d else takeLoop ram mb n (takeOne ram mb d)

def takePosted (ram : List Host.Cell) (mb : Nat) (d : Dev) : Dev := takeLoop ram mb (postedCount (mbGet d mb)) d

/-! ### The doorbell page (R389, R392) -/

/-- CMD_PI written. -/
def ringDoorbell (ram : List Host.Cell) (mb v : Nat) (d : Dev) : Dev :=
  let m := mbGet d mb
  let limit := if m.rom then 1 else 16
  if limit < (v % 65536 + 65536 - m.cmdCi) % 65536 then transportError mb 1 v d
  else takePosted ram mb (claimWindow ram mb (modMb mb (fun m => { m with cmdPi := v % 65536 }) d))

/-- A response whose slot the host has freed asks for no grant any more. -/
def dropRead (mb : Nat) (d : Dev) : Dev :=
  let m := mbGet d mb
  let left := (m.rspPi + 65536 - m.rspCi) % 65536
  modSlu (modPort (mb + 1) (fun x =>
    let own := x.msgs.filter (fun m => m.requester == 3)
    { x with msgs := x.msgs.filter (fun m => m.requester != 3) ++ own.drop (own.length - left) })) d

/-- RSP_CI written: slots are free again, waiting responses are posted, and taking goes on. -/
def writeRspCi (ram : List Host.Cell) (mb v : Nat) (d : Dev) : Dev :=
  let m := mbGet d mb
  if 16 < (m.rspPi + 65536 - v % 65536) % 65536 then transportError mb 2 v d
  else takePosted ram mb (postResponses mb (dropRead mb (modMb mb (fun m => { m with rspCi := v % 65536 }) d)))

/-- RELEASE written. -/
def releaseWindow (ram : List Host.Cell) (mb : Nat) (d : Dev) : Dev :=
  if !(mbGet d mb).bulkRsp then transportError mb 3 0 d
  else takePosted ram mb (claimWindow ram mb (freeWindow mb d))

/-- IRQ_STATUS bits written as 1 clear. -/
def clearIrq (mb v : Nat) (d : Dev) : Dev := modMb mb (fun m => { m with irqStatus := clrBits 5 m.irqStatus v }) d

/-- IRQ_ENABLE written; a cause that is set fires as soon as it is enabled. -/
def writeIrqEnable (mb v : Nat) (d : Dev) : Dev :=
  let m := mbGet d mb
  let fresh := andBits 5 m.irqStatus (clrBits 5 v m.irqEnable)
  let d1 := modMb mb (fun m => { m with irqEnable := v % 32 }) d
  if mb = 0 ∧ fresh ≠ 0 then fireVector 0 d1 else d1

/-- The session of a mailbox: identifier and milliseconds left. -/
def pageSession (mb : Nat) (d : Dev) : Nat × Nat :=
  match d.kmp.session with
  | some s => if s.mb = mb then (s.ident, leaseLeft d) else (0, 0)
  | none => (0, 0)

/-- MB_STATUS. -/
def mbStatus (mb : Nat) (d : Dev) : Nat :=
  let m := mbGet d mb
  flag m.rom 31 + flag ((pageSession mb d).1 != 0) 30 + flag (rspWaiting m) 29 + min 255 (m.waiting ++ m.running).length * 0x10000

/-- A word of the doorbell page. -/
def pageWord (mb : Nat) (d : Dev) (off : Nat) : Nat :=
  let m := mbGet d mb
  match off with
  | 0x00 => 0x00010000 + mb
  | 0x04 => d.sys.boot * 2 ^ 24 + opCode d.sys.op * 2 ^ 16 + d.sys.haltCause * 2 ^ 8
  | 0x08 => m.cmdPi
  | 0x0C => m.cmdCi
  | 0x10 => m.rspPi
  | 0x14 => m.rspCi
  | 0x18 => m.irqStatus
  | 0x1C => m.irqEnable
  | 0x20 => mbStatus mb d
  | 0x24 => flag m.bulkBusy 31 + flag m.bulkRsp 30 + m.bulkOwner
  | 0x28 => (pageSession mb d).1
  | 0x2C => (pageSession mb d).2
  | 0x30 => m.errInfo
  | 0x34 => m.errCount
  | 0x38 => d.sys.now % 2 ^ 32
  | 0x3C => m.devTimeHi
  | _ => 0

/-- The read effects of the page's words in a run of bytes: ERR_INFO and ERR_COUNT clear, the low word of DEV_TIME latches the
high one. -/
def pageEffects (mb first len : Nat) (d : Dev) : Dev :=
  let touches (off : Nat) : Bool := decide (first < off + 4 ∧ off < first + len)
  modMb mb (fun m => { m with
    errInfo := if touches 0x30 then 0 else m.errInfo,
    errCount := if touches 0x34 then 0 else m.errCount,
    devTimeHi := if touches 0x38 then d.sys.now / 2 ^ 32 % 2 ^ 32 else m.devTimeHi }) d

/-- A register of the page read by itself. -/
def readRegister (mb off : Nat) (d : Dev) : Dev :=
  if !pageLive mb d then d
  else pageEffects mb off 4 (emit (.read (portOfMb mb) (le 4 (pageWord mb d off))) d)

/-- DEV_TIME_READ: the low word. -/
def readDevTime (mb : Nat) (d : Dev) : Dev := readRegister mb 0x38 d
def readErrInfo (mb : Nat) (d : Dev) : Dev := readRegister mb 0x30 d
def readErrCount (mb : Nat) (d : Dev) : Dev := readRegister mb 0x34 d

/-- DOORBELL, RSP_CI_WRITE, BULK_RELEASE and IRQ_STATUS_CLEAR as commands. -/
def doorbell (ram : List Host.Cell) (mb v : Nat) (d : Dev) : Dev := if pageLive mb d then ringDoorbell ram mb v (hostWrites mb d) else d
def rspCiWrite (ram : List Host.Cell) (mb v : Nat) (d : Dev) : Dev := if pageLive mb d then writeRspCi ram mb v (hostWrites mb d) else d
def bulkRelease (ram : List Host.Cell) (mb : Nat) (d : Dev) : Dev := if pageLive mb d then releaseWindow ram mb (hostWrites mb d) else d
def irqClear (mb v : Nat) (d : Dev) : Dev := if pageLive mb d then clearIrq mb v (hostWrites mb d) else d

/-! ### The BAR0 space (R340) -/

/-- A write of a page word: `v` with the bytes not written as they read, `w` with them zero. -/
def writePage (ram : List Host.Cell) (mb off v w : Nat) (d : Dev) : Dev :=
  match off with
  | 0x08 => ringDoorbell ram mb v d
  | 0x14 => writeRspCi ram mb v d
  | 0x18 => clearIrq mb w d
  | 0x1C => writeIrqEnable mb v d
  | 0x24 => if bit w 29 then releaseWindow ram mb d else d
  | _ => d

/-- A word of the registers beyond the page: MSI-X table, pending bits, rings. DESIGN CHOICE (assumption log, entry 38). -/
def barWord (d : Dev) (off : Nat) : Nat :=
  if off < 0x20200 then vecWord (d.pcie.vecs.getD ((off - 0x20000) / 16) ⟨0, 0, true, false⟩) (off % 16 / 4)
  else if off = 0x21000 then pendingBits d
  else if 0x22000 ≤ off ∧ off < 0x22200 then ringWord (ringGet d ((off - 0x22000) / 64)) (off % 64 / 4)
  else 0

def writeBar (off v w : Nat) (d : Dev) : Dev :=
  if 0x20000 ≤ off ∧ off < 0x20200 then writeVec ((off - 0x20000) / 16) (off % 16 / 4) v d
  else if 0x22000 ≤ off ∧ off < 0x22200 then writeRing ((off - 0x22000) / 64) (off % 64 / 4) v w d
  else d

/-- The word at `off` with the written bytes over `old`, starting at byte `first` of the word. -/
def overlay (old first : Nat) (bs : Bytes) : Nat :=
  ofLe ((le 4 old).take first ++ bs ++ (le 4 old).drop (first + bs.length))

/-- A write of bytes that lie in one register word. -/
def writeWord (ram : List Host.Cell) (mb off first : Nat) (bs : Bytes) (d : Dev) : Dev :=
  if off < 0x1000 then
    if pageLive mb d then writePage ram mb off (overlay (pageWord mb d off) first bs) (overlay 0 first bs) d else d
  else if 0x20000 ≤ off then writeBar off (overlay (barWord d off) first bs) (overlay 0 first bs) d
  else d

/-- The end of the memory region an offset lies in. -/
def ramEnd (off : Nat) : Nat := if off < 0x9000 then 0x9000 else 0x20000

/-- A write of a run of bytes, in ascending order: memory whole, registers word by word. -/
def writeSpace (ram : List Host.Cell) (mb : Nat) : Nat → Nat → Bytes → Dev → Dev
  | 0, _, _, d => d
  | _ + 1, _, [], d => d
  | n + 1, off, b :: bs, d =>
    let data := b :: bs
    if isRamOffset off then
      let k := ramEnd off - off
      writeSpace ram mb n (off + k) (data.drop k) (if pageLive mb d then ramPut (ramBase mb + off) (data.take k) d else d)
    else
      let k := 4 - off % 4
      writeSpace ram mb n (off + k) (data.drop k) (writeWord ram mb (off - off % 4) (off % 4) (data.take k) d)

/-- REGISTER_WRITE: port 1 the whole of BAR0, port 2 the part of it that SPI reaches. -/
def registerWrite (ram : List Host.Cell) (port addr : Nat) (data : Bytes) (d : Dev) : Dev :=
  if d.sys.inReset then d
  else if port = 1 then
    (if d.pcie.linkUp then writeSpace ram 0 (data.length + 1) addr (data.take (0x40000 - addr)) (enableMaster d) else d)
  else if port = 2 then writeSpace ram 1 (data.length + 1) addr (data.take (0x20000 - addr)) d
  else d

/-- SPI_WRITE: an address that is a multiple of 4 inside the space, whole words, at most 4 096 bytes.
DEDUCED (assumption log, entry 35). -/
def spiWrite (ram : List Host.Cell) (addr : Nat) (data : Bytes) (cut : Bool) (d : Dev) : Dev :=
  if d.sys.inReset then d
  else
    let whole := (data.take 4096).take (data.length / 4 * 4)
    if addr % 4 ≠ 0 ∨ 0x20000 ≤ addr then framing d
    else
      let d1 := writeSpace ram 1 (whole.length + 1) addr (whole.take (0x20000 - addr)) d
      cutOff cut (if 0x20000 < addr + whole.length then framing d1 else d1)

/-- A byte of the SPI target's space; the high half of DEV_TIME reads as latched, or as it stands where this read latches it. -/
def spaceByte (ram : List Host.Cell) (d : Dev) (latch : Bool) (off : Nat) : Byte :=
  if !pageLive 1 d then 0#8
  else if off < 0x1000 then
    let w := off - off % 4
    let v := if w = 0x3C ∧ latch then d.sys.now / 2 ^ 32 else pageWord 1 d w
    (le 4 v).getD (off % 4) 0#8
  else if isRamOffset off then memGet ram (ramBase 1 + off)
  else 0#8

/-- SPI_READ. -/
def spiRead (ram : List Host.Cell) (addr len : Nat) (cut : Bool) (d : Dev) : Dev :=
  if d.sys.inReset then d
  else
    let latch := decide (addr < 0x3C ∧ 0x38 < addr + len)
    let data := (List.range len).map (fun i => spaceByte ram d latch (addr + i))
    let d1 := emit (.read 2 data) d
    let d2 := if pageLive 1 d then pageEffects 1 addr len d1 else d1
    cutOff cut (if 0x20000 < addr + len then framing d2 else d2)

/-! ### The backbone's mailboxes (R406, R407) -/

/-- Queue a message on port 0 for where a command came from. -/
def resend (mb tag : Nat) (rsp addr : Bytes) (port : Nat) (d : Dev) : Dev :=
  queueMsg 0 { requester := 3, bytes := rsp, addr := addr, udpPort := port, srcPort := 51100, mb := mb, tag := tag } d

/-- A whole message: taken when its tag is later than every tag before it, a repeat otherwise. -/
def takeMessage (mb : Nat) (addr : Bytes) (port tag : Nat) (msg : Bytes) (d : Dev) : Dev :=
  let m := mbGet d mb
  let c : Cmd := { mb := mb, tag := tag, op := rdU msg 0 2, session := rdU msg 8 4, flags := rdU msg 12 2, payload := msg.drop 16,
                   t := tussNow d, src := addr, srcPort := port }
  if rdU msg 2 2 ≠ tag ∨ rdU msg 4 4 + 16 ≠ msg.length then transportError mb 4 0 d
  else if m.highTag.elim true (fun h => laterThan 16 tag h) then
    takeCmd c (msg.take 16) [] false (modMb mb (fun m => { m with
      highTag := some tag, recent := (⟨tag, []⟩ :: m.recent).take 16, srcAddr := addr, srcPort := port }) d)
  else match m.recent.find? (fun r => r.tag == tag) with
    | some r => if r.response.isEmpty then d else resend mb tag r.response addr port d
    | none => transportError mb 5 0 d

/-- The header fields of a fragment agree with each other and with the datagram's length. -/
def fragmentOk (limit : Nat) (data : Bytes) : Bool :=
  let idx := rdU data 6 1
  let last := rdU data 7 1
  let total := rdU data 12 4
  decide (16 < data.length) && rdU data 0 2 == 0xE1B7 && rdU data 2 1 == 1 && rdU data 3 1 == 1 && decide (idx ≤ last) && decide (last ≤ 63) &&
    rdU data 8 4 == idx * limit && decide (16 ≤ total ∧ last * limit < total ∧ total ≤ (last + 1) * limit) &&
    data.length - 16 == (if idx = last then total - last * limit else limit)

/-- A fragment joins the command it belongs to. -/
def assemble (mb : Nat) (addr : Bytes) (port : Nat) (data : Bytes) (d : Dev) : Dev :=
  let tag := rdU data 4 2
  let idx := rdU data 6 1
  let count := rdU data 7 1 + 1
  let total := rdU data 12 4
  let fresh : Partial := { tag := tag, total := total, count := count, frags := [], since := tussNow d }
  let r : Dev × Option Partial := match (mbGet d mb).assembling with
    | none => (d, some fresh)
    | some p =>
      if p.tag ≠ tag then (transportError mb 4 0 d, some fresh)
      else if p.total = total ∧ p.count = count then (d, some p)
      else (transportError mb 4 0 d, none)
  match r.2 with
  | none => r.1
  | some p =>
    let frags := tabPut idx (data.drop 16) p.frags
    if frags.length = count then
      takeMessage mb addr port tag (frags.map (·.2)).flatten (modMb mb (fun m => { m with assembling := none }) r.1)
    else modMb mb (fun m => { m with assembling := some { p with frags := frags } }) r.1

/-- KMP_DATAGRAM_RECEIVE (R333): only through a receive SA of the secure channel; a fragmented IP datagram is discarded (R330). -/
def kmpReceive (sc : Nat) (isProtected : Bool) (addr : Bytes) (port : Nat) (data : Bytes) (fragmented : Bool) (d : Dev) : Dev :=
  let mb := 2 + sc
  if d.sys.inReset || !d.net.linkUp.any id || fragmented then d
  else if !isProtected || prmGet d 0x0F08 == 0 then raise 103 0 [] (modNet (fun n => { n with unprotected := incSat 32 n.unprotected }) d)
  else if !(mbGet d mb).present then d
  else if fragmentOk (datagramLimit d (if addr.length = 4 then 4 else 6)) data then assemble mb addr port data d
  else transportError mb 4 0 d

/-- KMP_REASSEMBLY_TIMEOUT. -/
def reassemblyTimeout (mb : Nat) (d : Dev) : Dev :=
  match (mbGet d mb).assembling with
  | none => d
  | some p => transportError mb 4 0 (modMb mb (fun m => { m with assembling := none }) (advanceTuss (p.since + 100000000) d))

/-- HST_DATAGRAM_ARRIVAL: a UDP port of no connection is no service; a fragmented IP datagram is discarded (R330). -/
def hstDatagram (conn : Nat) (data : Bytes) (fragmented : Bool) (d : Dev) : Dev :=
  if d.sys.inReset || !d.net.linkUp.any id || fragmented then d
  else if 8 ≤ conn then modNet (fun n => { n with udpDiscarded := incSat 32 n.udpDiscarded }) d
  else hstArrival conn data d

end Sys2Proof.Machine
end

