-- ==== Sys2Proof/Machine/Ticks.lean ====
section
/-!
DEFINITION. The ticks as a whole (chapters 1 and 2): the Tension tick, dwell and flush ticks with what Tussock makes of them,
the copy for DIAG_HIST, and the frame tick with everything that waits for it.
-/
namespace Sys2Proof.Machine

/-! ### Tension, dwell and flush ticks -/

/-- In HALTED a tick only carries on the ramp of the drive output to zero (R191). -/
def restTick (d : Dev) : Dev :=
  if d.scan.out = 0 then d
  else
    let d1 := advanceTo (nextTick d) d
    driveRest (modScan (fun s => { s with out := rampCode d1 }) (modSeq (fun s => { s with tickTime := nextTick d }) d1))

/-- TENSION_TICK: the tick at hand ends with its computations, the outputs apply and the next tick begins (R219, R220). In BIND_OFF
the outputs still ramp to zero. -/
def tensionTick (slow : List Nat) (d : Dev) : Dev :=
  if d.sys.op == .halted then restTick d
  else if !ticking d && d.sys.op != .bindOff then d
  else
    let d1 := if d.seq.tickNo = 0 then d else apexReset (armNow (finishSlots slow (judgeStall (finishAngles d))))
    beginTick (nextTick d1) d1

/-- Tussock takes the dwell that has just ended into its block of reference counts (R256). -/
def blockEnded (sweepEnds : Bool) (d : Dev) : Dev :=
  match d.pts.reduce with
  | some w => evalReady (blockDwell w sweepEnds d)
  | none => d

/-- DWELL_TICK. Groups found broken in service are reported at a dwell tick (DESIGN CHOICE, assumption log, entry 60). -/
def dwellTickAll (lockLost : List Nat) (stalled : List (Nat × Nat)) (broken : List Nat) (d : Dev) : Dev :=
  let d0 := dwellTick lockLost stalled d
  let d1 := if ticking d then broken.foldl groupBroken d0 else d0
  if dwellDue d && d.seq.dwellOpen then blockEnded false d1 else d1

/-- FLUSH_TICK. A self-test waits for the turnaround that begins (R185). -/
def flushTickAll (stalled : List (Nat × Nat)) (d : Dev) : Dev :=
  let d1 := flushTick stalled d
  if d.seq.flushes == 0 && d1.seq.flushes == 1 then
    blockEnded true (modEmi (fun e => { e with selfTest := e.selfTest.map (fun s => { s with due := true }) }) d1)
  else d1

/-- The data of DIAG_HIST (R456). -/
def histData (d : Dev) (h : DiagHist) : Bytes :=
  let span := (dwellZone d).span
  let served := match chanOfLane d h.lane with
    | some c => chanInService d c
    | none => false
  let l := laneGet d h.lane
  le 4 d.seq.frame ++ le 2 h.column ++ le 2 h.lane ++ le 2 span ++ le 2 (flag (!served) 0 + flag (served && l.sat) 1) ++ zeros 4 ++
    (List.range span).flatMap (fun i => le 2 (if served then tabGet 0 (coarseNow d l) i else 0))

/-- COARSE_PHASE_CLOSE, and the copy that a DIAG_HIST waits for. -/
def coarseCloseAll (d : Dev) : Dev :=
  let d1 := coarseClose d
  match d1.diag.hist with
  | none => d1
  | some h =>
    if h.begun && !d.histo.phaseClosed && d1.histo.phaseClosed && dwellCol d1 == h.column then
      let data := histData d1 h
      modDiag (fun g => { g with hist := none, bulk := some ⟨h.mb, h.tag, 0x1001, data, 0, bulkParts data.length⟩ }) d1
    else d1

/-! ### The end of a frame (R28) -/

/-- Per-frame counters become the latched set of the frame that ends. -/
def latchFrame (d : Dev) : Dev :=
  let n := d.seq.frame
  scanLatch n (notePeak
    (modSlu (fun s => { s with ports := s.ports.map (fun p => { p with latched := p.stat, stat := PortStat.none }), latchedFrame := n })
      (modEmi (fun e => { e with latched := e.stats, stats := [], latchedFrame := n })
        (modHisto (fun h => { h with
          latched := h.lanes, latchedBanks := h.banks, lanes := [], banks := [], latchedFrame := n, latchedShots := h.shots, shots := 0 })
          (modPts (fun p => { p with overrunsLatched := p.overruns, overruns := [] }) d)))))

/-- The statistics stream and Peat's statistics of a streamed frame, cut short or not (R34); the counts its next headers describe
(R154, R155, R318). -/
def streamFrame (d : Dev) : Dev :=
  if !d.pts.streamed then d
  else
    let d1 := peatStats (writeStats d)
    modPeat (fun p => { p with prev := p.counts, counts := QCount.none, lastFrame := some d.seq.frame })
      (modPts (fun p => { p with prev := p.counts, counts := [], lastFrame := some d.seq.frame }) d1)

/-- Peat's open blocks close with the frame, and a capture whose last frame it was (R318, R323). -/
def closePeat (d : Dev) : Dev :=
  let d1 := (List.range 4).foldl (fun d u => peatTraceClose u d) (peatSedgeClose d)
  if d1.peat.state == .filling && d1.peat.closeFrame == d.seq.frame then peatClose 0 d1 else d1

/-- What ends with the frame in progress. -/
def endFrame (d : Dev) : Dev :=
  fieldsFrame (closePeat (streamFrame (latchFrame (latchCals (judgeSaturated d)))))

/-! ### The broadcast latch (R24, R412) -/

/-- The parameters of R69, τ_d among them. -/
def reedBed : List Nat := (List.range 10).map (fun i => 0x0401 + i)

/-- Parameters in force; a change of the reed bed's starts every lane anew, a change of τ_d its estimates (R71, R121). -/
def applyParams (ps : Tab Nat) (d : Dev) : Dev :=
  let d1 := modPrm (fun p => { p with vals := paramsWith p.vals ps }) d
  let changed (id : Nat) : Bool := prmGet d id != prmGet d1 id
  let d2 := if reedBed.any changed then modRecv (fun r => { r with lanes := r.lanes.map (fun e => (e.1, { e.2 with fresh := true })) }) d1 else d1
  if changed 0x040A then resetTau d2 else d2

/-- The alignment table; a segment whose row_pos changes restarts its estimate (R424). -/
def applyAlign (es : List AlignEntry) (d : Dev) : Dev :=
  let changed := ((es.zip d.recv.align).zipIdx.filter (fun e => e.1.1.rowPos != e.1.2.rowPos)).map (·.2)
  modRecv (fun r => { r with
    align := es, estimate := r.estimate.filter (fun e => !changed.contains e.1), rowUse := r.rowUse.filter (fun e => !changed.contains e.1),
    atLimit := r.atLimit.filter (fun n => !changed.contains n) }) d

/-- One committed set but for its plan. -/
def applySet (d : Dev) (s : ConfigSet) : Dev :=
  let d1 := applyParams s.params d
  let d2 := modEmi (fun e => { e with drive := s.drive.foldl (fun t w => tabSet driveDefault t w.1 w.2) e.drive }) d1
  let d3 := s.align.elim d2 (fun es => applyAlign es d2)
  let d4 := s.intensity.elim d3 (fun l => modPrm (fun p => { p with intensity := l, intCal := true }) d3)
  let d5 := s.entries.foldl (fun d e => applyEntry e.1 e.2 d) d4
  let d6 := modLoops (fun l => { l with records := s.loops.foldl (fun t e => tabPut e.1 e.2 t) l.records }) d5
  let d7 := modSlu (fun u => s.subs.foldl (fun u e => applySub e.1 e.2.1 e.2.2 u) u) d6
  let d8 := s.pools.elim d7 (fun l => modSlu (fun u => { u with pools := l }) d7)
  if s.masks.isEmpty then d8 else mapCause 4 (s.masks.foldl applyMaskOp d8)

/-- The plan of the frame that begins: the latest of the sets that apply (R52), with event 6. -/
def applyPlan (due : List ConfigSet) (d : Dev) : Dev :=
  match due.foldl (fun acc s => s.plan.orElse (fun _ => acc)) none with
  | none => d
  | some p => raise 6 0 (le 4 p.planId ++ le 4 d.seq.frame) (modSeq (fun s => { s with plan := p, planNew := p.planId != s.plan.planId }) d)

/-- Every set whose frame this is. -/
def applyDue (d : Dev) : Dev :=
  let due := (d.prm.pending.filter (fun p => p.frame == d.seq.frame)).map (·.set)
  applyPlan due (storeWaiting (due.foldl applySet (modPrm (fun p => { p with pending := p.pending.filter (fun q => q.frame != d.seq.frame) }) d)))

/-- The synchronised set bound to this frame has applied (R422). -/
def endHeld (d : Dev) : Dev :=
  match d.sync.held with
  | some h =>
    if h.state = 3 ∧ h.bound = d.seq.frame then
      let d1 := modSync (fun y => { y with held := none, lastOutcome := 1 }) d
      if bit h.kind 1 then raise 18 0 [] d1 else d1
    else d
  | none => d

/-- Code, dither and seed in force: the local parameters, or the SYNC master's assignment from its frame on; until the first
assignment applies, the local ones (R123, R126). -/
def applyCode (d : Dev) : Dev :=
  let load (s span seed : Nat) (h : Histo) : Histo :=
    { h with spacing := s, span := span, seed := seed, lfsr := if seed = h.seed then h.lfsr else seed }
  let own (h : Histo) : Histo := load (prmGet d 0x0420) (prmGet d 0x0421) (prmGet d 0x0422) h
  if prmGet d 0x0423 = 0 then
    modHisto (fun h => { own h with assign := none, assigned := false }) d
  else match d.histo.assign.filter (fun a => a.frame == d.seq.frame) with
    | some a => modHisto (fun h => { load a.spacing a.span a.seed h with assign := none, assigned := true, lfsr := a.seed }) d
    | none => if d.histo.assigned then d else modHisto own d

/-- START, STOP and DISARM take effect (R31, R415). -/
def stateFrame (d : Dev) : Dev :=
  let n := d.seq.frame
  let last := wrapU 32 (n + 4294967295)
  match findRunning d 0x0104, findRunning d 0x0105, findRunning d 0x0106 with
  | some c, _, _ => finishRunning c stOk (le 4 n) (fieldsStart (toState .running d))
  | none, some c, _ => finishRunning c stOk (le 4 last) (toState .armed d)
  | none, none, some c =>
    finishRunning c stOk (le 4 n) (openRail (modScan (fun s => { s with tripped := false }) (toState .ready d)))
  | none, none, none => d

/-- DIAG_STAMP: its first frame begins, or one more has ended (R455). -/
def stampFrame (d : Dev) : Dev :=
  match d.diag.stamp with
  | none => d
  | some g =>
    if !g.begun then modDiag (fun y => { y with stamp := some { g with begun := true } }) d
    else if 1 < g.frames then modDiag (fun y => { y with stamp := some { g with frames := g.frames - 1 } }) d
    else
      let s := g.stat
      let rsp := le 4 s.n ++ le 4 (statMean s) ++ le 4 (statSigma s) ++ le 4 s.lo ++ le 4 s.hi ++ le 4 (flag g.capped 0)
      let d1 := modDiag (fun y => { y with stamp := none }) d
      match findTag d1 g.mb g.tag with
      | some c => finishRunning c stOk rsp d1
      | none => d1

/-- DIAG_HIST: the frame of its copy begins; a column the plan lacks ends it (R456). -/
def histFrame (d : Dev) : Dev :=
  match d.diag.hist with
  | none => d
  | some h =>
    if h.column < planColumns d.seq.plan then modDiag (fun y => { y with hist := some { h with begun := true } }) d
    else
      let d1 := modDiag (fun y => { y with hist := none }) d
      match findTag d1 h.mb h.tag with
      | some c => finishRunning c stBadParam [] d1
      | none => d1

/-- Peat leaves ARMING at the frame tick, and writes its frame entry (R317, R320). -/
def peatTick (d : Dev) : Dev :=
  let d1 := if d.peat.state != .arming then d
    else match peatFree d with
      | [] => raise 466 0 [] (modPeat (fun p => { p with state := .full }) d)
      | i :: _ => peatBegin i d
  peatFrame d1

/-- The sequencer's part of a new frame; BOOT_STAGE is 0x80 from the first frame tick on (R362). -/
def newFrame (d : Dev) : Dev :=
  let n := if d.seq.started then wrapU 32 (d.seq.frame + 1) else 0
  let d1 := modSeq (fun s => { s with
    started := true, frame := n, frameTime := d.seq.nextFrame, phase := .sweep, dwell := 0, dwellOpen := false, shot := 0,
    flushes := 0, turnarounds := if s.started then s.turnarounds + 1 else s.turnarounds, planNew := false,
    prior := if s.started then some (s.frameTime, s.plan, prmGet d 0x0806) else none })
    (modSys (fun y => { y with boot := 0x80 }) (advanceTo d.seq.nextFrame d))
  let d2 := modTim (fun t => { t with stepTick := t.stepFlag, stepFlag := false }) (modEv (fun e => { e with raised := [] }) d1)
  let d3 := modRecv (fun r => { r with tempTick := rxTemp d, mapPos := 0 }) d2
  modPts (fun p => { p with headed := [] })
    (modSync (fun y => { y with cycle := 0, heardLatched := y.heardNow, heardNow := 0 }) d3)

/-- Repairs, masks, Gauge tables and committed settings, all at the one tick (R16, R54, R76, R96, R412). -/
def latchSettings (d : Dev) : Dev :=
  mapUpdate (autoApply (applyCode (endHeld (applyDue (gaugeSwap (applyMasks (repairLanes (repairSegments d))))))))

/-- The frame that begins is streamed while RUNNING holds at its tick (R31, R34). -/
def markStreamed (d : Dev) : Dev := modPts (fun p => { p with streamed := d.sys.op == .running }) d

/-- What else happens at the tick. -/
def frameWork (d : Dev) : Dev :=
  let d1 := tensionFrame (markStreamed (stateFrame (selectSet (alignFrame d))))
  let d2 := histFrame (stampFrame (selfTestTick d1))
  let d3 := noteRecommended (peatTick (modSlu refillFrame d2))
  if prmGet d3 0x0F14 = 1 then trigOut d3 else d3

/-- FRAME_TICK. DEDUCED (assumption log, entry 39). -/
def frameTickAll (d : Dev) : Dev :=
  if !ticking d then d
  else frameWork (latchSettings (newFrame (if d.seq.started then endFrame (advanceTo d.seq.nextFrame d) else d)))

end Sys2Proof.Machine
end

