-- ==== Sys2Proof/Machine/Run.lean ====
section
/-!
DEFINITION. What follows every command, whatever it is: triggers that events raise, outputs that follow their conditions, a reset
that waited for its response, lifetime counters at full scale, and IRQ_N; and the shape that turns a change of the device into
the answer of a command.
-/
namespace Sys2Proof.Machine

/-- An event that was raised, at Peat and the trace units (R237, R321). -/
def eventTrigger (e : Nat × Nat × Nat) (d : Dev) : Dev :=
  let d1 := if peatTrigOn d 2 && (peatEvents d).contains e.1 then peatTrigger 3 e.1 d else d
  (List.range 4).foldl (fun d u => if (traceGet d u).detail == e.1 then (traceTrigger u 3 e.2.2 d) else d) d1

/-- The events of this step, and those their triggers raise in turn. -/
def eventTriggers : Nat → Dev → Dev
  | 0, d => d
  | n + 1, d =>
    match d.ev.fresh with
    | [] => d
    | es => eventTriggers n (es.foldl (fun d e => eventTrigger e d) (modEv (fun x => { x with fresh := [] }) d))

/-- A response of a command still lies in the device. -/
def rspPending (mb tag : Nat) (d : Dev) : Bool :=
  if mb < 2 then (mbGet d mb).rspQueue.any (fun r => r.tag == tag)
  else
    let p := portGet d.slu 0
    p.msgs.any (fun m => m.mb == mb && m.tag == tag && m.requester == 3) ||
      (match p.grant with
       | some g => g.msg.elim false (fun m => m.mb == mb && m.tag == tag)
       | none => false)

/-- SYS_RESET takes place once its response is delivered (R358). -/
def resetDue (d : Dev) : Dev :=
  match d.sys.resetAfter with
  | some k => if rspPending k.1 k.2 d then d else devReset false d
  | none => d

/-- The system's and the ports' lifetime counters. -/
def lifetimes (d : Dev) : List Nat :=
  d.ev.queues.map (·.lostCount) ++
    [d.ev.eccCorrected, d.ev.fwRounds, d.ev.tussockRounds, d.ev.alignSamples, d.net.dupDiscarded, d.net.dupPassed, d.net.wrongLan,
     d.net.unprotected, d.net.udpDiscarded, d.sync.checkFails, d.trig.overruns, d.spi.lostEntries, d.sync.unknown] ++
    d.net.rxScs.map (·.failures)

/-- A lifetime counter at full scale raises its owner's event once (R464): source 19 for system and ports, the transport-error event
of a mailbox for its ERR_COUNT, and the owner's first source for the ring overwrites (R210) and the unconfirmed probe failures
(R174). -/
def noteLifetimes (d : Dev) : Dev :=
  let full (l : List Nat) : List Nat := (l.zipIdx.filter (fun e => e.1 == 0xFFFFFFFF)).map (·.2)
  let d1 := (full (lifetimes d)).foldl (fun d i => raiseSaturated 19 (1000 + i) d) d
  let d2 := (full [d.sense.overwritten, d.emi.unconfirmed]).foldl (fun d i => raiseSaturated (400 - 144 * i) (1200 + i) d) d1
  (full (d.kmp.mbs.map (·.errCount))).foldl (fun d m => raiseSaturated (640 + 8 * m) (1100 + m) d) d2

/-- A session ends with the device (R403). -/
def haltSession (d : Dev) : Dev := if d.sys.op == .halted && d.kmp.session.isSome then endSession 2 d else d

/-- IRQ_N follows its causes (R347). -/
def noteIrq (before : Bool) (d : Dev) : Dev := if irqLow d == before then d else emit (.irqN (irqLow d)) d

/-- What follows a command's own effect; `before` is IRQ_N's level before the command. -/
def settle (before : Bool) (d : Dev) : Dev :=
  noteIrq before (noteLifetimes (resetDue (haltSession (followOuts (eventTriggers 16 d)))))

/-- A command's answer: its effect on the device, what follows it, and the writes it makes into the mailbox memories. -/
def runDev (f : Dev → Dev) (s : State) : Host.Outcome State Fault Refusal :=
  let d := settle (irqLow s.dev) (f { s.dev with out := [], writes := [] })
  .next { s with ram := memWrites s.ram d.writes, dev := { d with writes := [] } }

end Sys2Proof.Machine
end

