-- ==== Sys2Proof/Machine/ExecCastOn.lean ====
section
/-!
DEFINITION. The meanings of the commands of this family: Reset, cast-on and the ROM loader (chapter 15).
-/
namespace Sys2Proof.Machine

/-- POWER_ON_RESET (R473). -/
def execPowerOnReset (s : State) : Host.Outcome State Fault Refusal :=
  runDev powerOn s

/-- NRESET_ASSERT (R358). -/
def execNresetAssert (lowNs : Nat) (s : State) : Host.Outcome State Fault Refusal :=
  runDev (nreset lowNs) s

/-- RESET_RELEASE (R360). -/
def execResetRelease (spiv : Bool) (refclk : Bool) (pcie : Bool) (s : State) : Host.Outcome State Fault Refusal :=
  runDev (Sys2Proof.Machine.resetRelease spiv refclk pcie) s

/-- PLL_LOCK (R362). -/
def execPllLock (s : State) : Host.Outcome State Fault Refusal :=
  runDev Sys2Proof.Machine.pllLock s

/-- BIST_COMPLETE (R367). -/
def execBistComplete (tussockFail : Bool) (fatal : Bool) (badSlices : Nat) (failedLanes : List Nat) (failedStarts : Nat)
    (probes : List (Nat × List (Nat × Nat))) (dark : List (Nat × Nat)) (sramRepairs : Nat) (s : State) : Host.Outcome State Fault Refusal :=
  runDev (Sys2Proof.Machine.bistComplete tussockFail fatal badSlices failedLanes failedStarts probes dark sramRepairs) s

/-- REPAIR_MAP_BUILT (R367). -/
def execRepairMapBuilt (s : State) : Host.Outcome State Fault Refusal :=
  runDev repairBuilt s

/-- ROM_INFO (R371). -/
def execRomInfo (mb : Nat) (s : State) : Host.Outcome State Fault Refusal :=
  runDev (answer 0x01F0 mb doRomInfo) s

/-- LOAD_BEGIN (R370). -/
def execLoadBegin (mb : Nat) (s : State) : Host.Outcome State Fault Refusal :=
  runDev (answer 0x01F1 mb doLoadBegin) s

/-- LOAD_CHUNK (R370). -/
def execLoadChunk (mb : Nat) (s : State) : Host.Outcome State Fault Refusal :=
  runDev (answer 0x01F2 mb doLoadChunk) s

/-- LOAD_END (R374). -/
def execLoadEnd (mb : Nat) (s : State) : Host.Outcome State Fault Refusal :=
  runDev (answer 0x01F3 mb doLoadEnd) s

/-- LOADER_CLAIM_EXPIRY (R369). -/
def execLoaderClaimExpiry (s : State) : Host.Outcome State Fault Refusal :=
  runDev claimExpiry s

/-- FW_INIT_COMPLETE (R362). -/
def execFwInitComplete (s : State) : Host.Outcome State Fault Refusal :=
  runDev Sys2Proof.Machine.fwInitComplete s

/-- CAST_ON_GAUGE_COLLECTION_END (R97). -/
def execCastOnGaugeCollectionEnd (counts : List (Nat × List Nat)) (s : State) : Host.Outcome State Fault Refusal :=
  runDev (castOnGauge counts) s

/-- CALIBRATION_FIRING_END (R176, R242). -/
def execCalibrationFiringEnd (refMeans : List (Nat × Nat × Nat)) (vbd : Nat) (temp : Int) (clockRatios : List Nat) (charged : Bool)
    (s : State) : Host.Outcome State Fault Refusal :=
  runDev (calibrationEnd refMeans vbd temp clockRatios charged) s

end Sys2Proof.Machine
end

