-- ==== Sys2Proof/Machine/ExecTicks.lean ====
section
/-!
DEFINITION. The meanings of the commands of this family: Ticks, shots, detections and the turnaround's diagnostics (chapters 1 to 9).
-/
namespace Sys2Proof.Machine

/-- FRAME_TICK (R24). -/
def execFrameTick (s : State) : Host.Outcome State Fault Refusal :=
  runDev frameTickAll s

/-- DWELL_TICK (R41). -/
def execDwellTick (lockLost : List Nat) (stalled : List (Nat × Nat)) (broken : List Nat) (s : State) : Host.Outcome State Fault Refusal :=
  runDev (dwellTickAll lockLost stalled broken) s

/-- FLUSH_TICK (R27). -/
def execFlushTick (stalled : List (Nat × Nat)) (s : State) : Host.Outcome State Fault Refusal :=
  runDev (flushTickAll stalled) s

/-- WINDOW_BIAS (R43). -/
def execWindowBias (s : State) : Host.Outcome State Fault Refusal :=
  runDev Sys2Proof.Machine.windowBias s

/-- SHOT_TICK (R41). -/
def execShotTick (low : List Nat) (obs : List (Nat × Nat × Nat)) (s : State) : Host.Outcome State Fault Refusal :=
  runDev (Sys2Proof.Machine.shotTick low obs) s

/-- START_LANE_EDGE (R87). -/
def execStartLaneEdge (bank : Nat) (coarse : Nat) (tap : Nat) (s : State) : Host.Outcome State Fault Refusal :=
  runDev (Sys2Proof.Machine.startLaneEdge bank coarse tap) s

/-- SPAD_AVALANCHE (R65). -/
def execSpadAvalanche (row : Nat) (col : Nat) (spad : Nat) (ps : Nat) (recharge : Nat) (readings : List (Nat × Nat))
    (s : State) : Host.Outcome State Fault Refusal :=
  runDev (Sys2Proof.Machine.spadAvalanche row col spad ps recharge readings) s

/-- COARSE_PHASE_CLOSE (R111). -/
def execCoarsePhaseClose (s : State) : Host.Outcome State Fault Refusal :=
  runDev coarseCloseAll s

/-- POINT_FORMAT (R135). -/
def execPointFormat (s : State) : Host.Outcome State Fault Refusal :=
  runDev Sys2Proof.Machine.pointFormat s

/-- POINT_TAG_CHECK (R257). -/
def execPointTagCheck (flips : List (Nat × Nat)) (tagXor : Nat) (s : State) : Host.Outcome State Fault Refusal :=
  runDev (tagCheck flips tagXor) s

/-- TENSION_TICK (R230) (R220). -/
def execTensionTick (slow : List Nat) (s : State) : Host.Outcome State Fault Refusal :=
  runDev (Sys2Proof.Machine.tensionTick slow) s

/-- SEDGE_SLOT (R207). -/
def execSedgeSlot (code : Int) (s : State) : Host.Outcome State Fault Refusal :=
  runDev (Sys2Proof.Machine.sedgeSlot code) s

/-- OPEN_WIRE_TEST (R212). -/
def execOpenWireTest (s : State) : Host.Outcome State Fault Refusal :=
  runDev Sys2Proof.Machine.openWireTest s

/-- PROBE_ROUND (R173). -/
def execProbeRound (round : Nat) (vf : List (Nat × Nat)) (s : State) : Host.Outcome State Fault Refusal :=
  runDev (Sys2Proof.Machine.probeRound round vf) s

/-- PROBE_CONFIRM_SLOT (R174). -/
def execProbeConfirmSlot (bank : Nat) (vf : Nat) (s : State) : Host.Outcome State Fault Refusal :=
  runDev (probeConfirm bank vf) s

/-- PROBE_BLOCK_END (R174). -/
def execProbeBlockEnd (s : State) : Host.Outcome State Fault Refusal :=
  runDev probeEnd s

/-- DARK_COUNT_POSITION_END (R73). -/
def execDarkCountPositionEnd (counts : List (Nat × Nat)) (s : State) : Host.Outcome State Fault Refusal :=
  runDev (darkCountEnd counts) s

/-- GAUGE_RANDOM_EDGE (R92). -/
def execGaugeRandomEdge (lane : Nat) (code : Nat) (s : State) : Host.Outcome State Fault Refusal :=
  runDev (gaugeEdge lane code) s

/-- GAUGE_COLLECTION_END (R93). -/
def execGaugeCollectionEnd (s : State) : Host.Outcome State Fault Refusal :=
  runDev Sys2Proof.Machine.gaugeCollectionEnd s

/-- GAUGE_TABLE_DERIVE (R95). -/
def execGaugeTableDerive (lane : Nat) (tussockDiffers : Bool) (s : State) : Host.Outcome State Fault Refusal :=
  runDev (gaugeDeriveChecked lane tussockDiffers) s

/-- TEST_TONE_SLOT (R200). -/
def execTestToneSlot (group : Nat) (ohms : List Nat) (cross : Nat) (s : State) : Host.Outcome State Fault Refusal :=
  runDev (testTone group ohms cross) s

/-- EMITTER_SELFTEST_RUN (R185). -/
def execEmitterSelftestRun (vf : List (Nat × Nat)) (s : State) : Host.Outcome State Fault Refusal :=
  runDev (selfTestRun vf) s

/-- AGEING_SLEW_COMPLETE (R104). -/
def execAgeingSlewComplete (s : State) : Host.Outcome State Fault Refusal :=
  runDev ageingComplete s

/-- DRIVE_STAGE_TRIP (R192). -/
def execDriveStageTrip (cause : Nat) (s : State) : Host.Outcome State Fault Refusal :=
  runDev (driveTrip cause) s

end Sys2Proof.Machine
end

