-- ==== Sys2Proof/Machine/ExecTussock.lean ====
section
/-!
DEFINITION. The meanings of the commands of this family: What Tussock sees and judges (chapters 10 and 11).
-/
namespace Sys2Proof.Machine

/-- RAIL_SWITCH_TEST (R245). -/
def execRailSwitchTest (switch : Nat) (pass : Bool) (s : State) : Host.Outcome State Fault Refusal :=
  runDev (railTest switch pass) s

/-- OUTPUT_SWITCH_TEST (R245). -/
def execOutputSwitchTest (output : Nat) (switch : Nat) (pass : Bool) (shorted : Bool) (s : State) : Host.Outcome State Fault Refusal :=
  runDev (outputTest output switch pass shorted) s

/-- OUTPUT_OVERCURRENT (R247). -/
def execOutputOvercurrent (output : Nat) (s : State) : Host.Outcome State Fault Refusal :=
  runDev (outputOver output) s

/-- PULSE_REPORT (R249). -/
def execPulseReport (segment : Nat) (s : State) : Host.Outcome State Fault Refusal :=
  runDev (Sys2Proof.Machine.pulseReport segment) s

/-- PULSE_REPORT_TIMEOUT (R249). -/
def execPulseReportTimeout (segment : Nat) (s : State) : Host.Outcome State Fault Refusal :=
  runDev (pulseTimeout segment) s

/-- ACCUMULATOR_SUBINTERVAL (R251). -/
def execAccumulatorSubinterval (base : Nat) (s : State) : Host.Outcome State Fault Refusal :=
  runDev (ageBase base) s

/-- CLOCK_CROSS_CHECK (R242). -/
def execClockCrossCheck (ratios : List Nat) (s : State) : Host.Outcome State Fault Refusal :=
  runDev (clockCheck ratios) s

/-- TUSSOCK_INTERNAL_FAULT (R239). -/
def execTussockInternalFault (_kind : Nat) (s : State) : Host.Outcome State Fault Refusal :=
  runDev tussockFault s

/-- TUSSOCK_SCRUB_BLOCK (R285). -/
def execTussockScrubBlock (block : Nat) (readAt : Nat) (flips : List (Nat × Nat)) (corrected : Bool) (uncorrectable : Bool) (s : State) :
    Host.Outcome State Fault Refusal :=
  runDev (afterHookB (scrubTussock block readAt flips corrected uncorrectable)) s

/-- SAFETY_INPUT_SAMPLE (R265). -/
def execSafetyInputSample (levels : Nat) (s : State) : Host.Outcome State Fault Refusal :=
  runDev (inputSample levels) s

/-- TEST_PULSE (R265). -/
def execTestPulse (output : Nat) (readback : Nat) (s : State) : Host.Outcome State Fault Refusal :=
  runDev (Sys2Proof.Machine.testPulse output readback) s

/-- RESTART_DELAY_EXPIRY (R268). -/
def execRestartDelayExpiry (output : Nat) (s : State) : Host.Outcome State Fault Refusal :=
  runDev (restartExpiry output) s

/-- VSAFE_JUDGEMENT_CHANGE (R474). -/
def execVsafeJudgementChange (ok : Bool) (mv : Nat) (s : State) : Host.Outcome State Fault Refusal :=
  runDev (vsafeChange ok mv) s

/-- HST_DATAGRAM_ARRIVAL (R291). -/
def execHstDatagramArrival (conn : Nat) (_addr : Bytes) (_port : Nat) (data : Bytes) (fragmented : Bool) (s : State) :
    Host.Outcome State Fault Refusal :=
  runDev (hstDatagram conn data fragmented) s

/-- HST_RECEIVE_CHECK (R291). -/
def execHstReceiveCheck (s : State) : Host.Outcome State Fault Refusal :=
  runDev hstReceive s

/-- HST_CYCLE_SEND (R290). -/
def execHstCycleSend (conn : Nat) (s : State) : Host.Outcome State Fault Refusal :=
  runDev (hstCycle conn) s

/-- HST_CHANGE_SEND (R290). -/
def execHstChangeSend (conn : Nat) (s : State) : Host.Outcome State Fault Refusal :=
  runDev (hstChange conn) s

/-- HST_WATCHDOG_EXPIRY (R292). -/
def execHstWatchdogExpiry (conn : Nat) (s : State) : Host.Outcome State Fault Refusal :=
  runDev (hstWatchdog conn) s

/-- HST_AUTO_RESTART (R289). -/
def execHstAutoRestart (conn : Nat) (s : State) : Host.Outcome State Fault Refusal :=
  runDev (hstAuto conn) s

/-- SAFE_PENDING_EXPIRY (R274). -/
def execSafePendingExpiry (s : State) : Host.Outcome State Fault Refusal :=
  runDev pendingExpiry s

end Sys2Proof.Machine
end

