-- ==== Sys2Proof/Machine/ExecDevice.lean ====
section
/-!
DEFINITION. The meanings of the commands of this family: Supplies, faults, sessions, Hook A and scrubbing (chapters 1, 11, 15, 16, 19).
-/
namespace Sys2Proof.Machine

/-- SUPPLY_OUT_OF_RANGE (R473). -/
def execSupplyOutOfRange (vin : Bool) (s : State) : Host.Outcome State Fault Refusal :=
  runDev (supplyOut vin) s

/-- UNRECOVERABLE_FAULT (R31). -/
def execUnrecoverableFault (s : State) : Host.Outcome State Fault Refusal :=
  runDev unrecoverable s

/-- BIND_OFF_COMPLETE (R385). -/
def execBindOffComplete (s : State) : Host.Outcome State Fault Refusal :=
  runDev Sys2Proof.Machine.bindOffComplete s

/-- ARM_LOCK_TIMEOUT (R31). -/
def execArmLockTimeout (s : State) : Host.Outcome State Fault Refusal :=
  runDev armTimeout s

/-- COMMIT_POINT (R402). -/
def execCommitPoint (s : State) : Host.Outcome State Fault Refusal :=
  runDev Sys2Proof.Machine.commitPoint s

/-- COMMIT_CHECK_FAILURE (R402). -/
def execCommitCheckFailure (s : State) : Host.Outcome State Fault Refusal :=
  runDev commitFailure s

/-- LEASE_EXPIRY (R403). -/
def execLeaseExpiry (s : State) : Host.Outcome State Fault Refusal :=
  runDev Sys2Proof.Machine.leaseExpiry s

/-- HOOK_A_JOB_COMPLETE (R284). -/
def execHookAJobComplete (corrected : Nat) (uncorrectable : Bool) (data : Bytes) (s : State) : Host.Outcome State Fault Refusal :=
  runDev (hookComplete corrected uncorrectable data) s

/-- FIRMWARE_SCRUB_BLOCK (R285). -/
def execFirmwareScrubBlock (last : Bool) (block : Nat) (readAt : Nat) (flips : List (Nat × Nat)) (s : State) :
    Host.Outcome State Fault Refusal :=
  runDev (scrubFirmware last block readAt flips) s

/-- PATROL_SCRUB (R470). -/
def execPatrolScrub (region : Nat) (addr : Nat) (correctable : Bool) (s : State) : Host.Outcome State Fault Refusal :=
  runDev (Sys2Proof.Machine.patrolScrub region addr correctable) s

end Sys2Proof.Machine
end

