-- ==== Sys2Proof/Machine/ExecPorts.lean ====
section
/-!
DEFINITION. The meanings of the commands of this family: Grants, Peat's triggers, links and pins (chapters 12 to 14).
-/
namespace Sys2Proof.Machine

/-- GRANT_ISSUE (R308). -/
def execGrantIssue (port : Nat) (s : State) : Host.Outcome State Fault Refusal :=
  runDev (Sys2Proof.Machine.grantIssue port) s

/-- GRANT_COMPLETE (R308). -/
def execGrantComplete (port : Nat) (s : State) : Host.Outcome State Fault Refusal :=
  runDev (Sys2Proof.Machine.grantComplete port) s

/-- GRANT_HOLD_WATCHDOG (R311). -/
def execGrantHoldWatchdog (port : Nat) (s : State) : Host.Outcome State Fault Refusal :=
  runDev (grantWatchdog port) s

/-- RING_MODERATION_TIMER (R342). -/
def execRingModerationTimer (ring : Nat) (s : State) : Host.Outcome State Fault Refusal :=
  runDev (moderation ring) s

/-- PEAT_TRIGGER_ACCEPT (R321). -/
def execPeatTriggerAccept (s : State) : Host.Outcome State Fault Refusal :=
  runDev triggerAccept s

/-- PEAT_REARM (R320). -/
def execPeatRearm (s : State) : Host.Outcome State Fault Refusal :=
  runDev Sys2Proof.Machine.peatRearm s

/-- TRIG_IN_EDGE (R354). -/
def execTrigInEdge (rising : Bool) (t : Nat) (s : State) : Host.Outcome State Fault Refusal :=
  runDev (Sys2Proof.Machine.trigInEdge rising t) s

/-- TRIG_OUT_PULSE_END (R355). -/
def execTrigOutPulseEnd (s : State) : Host.Outcome State Fault Refusal :=
  runDev trigOutEnd s

/-- LINK_STATE_CHANGE (R329). -/
def execLinkStateChange (link : Nat) (up : Bool) (s : State) : Host.Outcome State Fault Refusal :=
  runDev (linkChange link up) s

/-- PRP_FRAME_RECEIVE (R329). -/
def execPrpFrameReceive (link : Nat) (src : Nat) (seq : Nat) (lan : Nat) (sc : Nat) (an : Nat) (pn : Nat) (len : Nat) (secured : Bool)
    (valid : Bool) (s : State) : Host.Outcome State Fault Refusal :=
  runDev (prpReceive link src seq lan sc an pn len secured valid) s

/-- PRP_SUPERVISION_SEND (R329). -/
def execPrpSupervisionSend (s : State) : Host.Outcome State Fault Refusal :=
  runDev supervision s

/-- PRP_SUPERVISION_LOSS (R357). -/
def execPrpSupervisionLoss (s : State) : Host.Outcome State Fault Refusal :=
  runDev supervisionLoss s

/-- GPTP_MESSAGE_RECEIVE (R106). -/
def execGptpMessageReceive (link : Nat) (domain : Nat) (kind : Nat) (gm : Nat) (interval : Int) (value : Int) (rate : Int) (s : State) :
    Host.Outcome State Fault Refusal :=
  runDev (gptpReceive link domain kind gm interval value rate) s

/-- SERVO_LOCK_ACHIEVED (R106). -/
def execServoLockAchieved (s : State) : Host.Outcome State Fault Refusal :=
  runDev servoLock s

/-- SYNC_LOSS_HOLDOVER (R106). -/
def execSyncLossHoldover (s : State) : Host.Outcome State Fault Refusal :=
  runDev servoHoldover s

/-- SLAVE_PORT_RESELECT (R334). -/
def execSlavePortReselect (s : State) : Host.Outcome State Fault Refusal :=
  runDev slaveReselect s

/-- ARP_ND_RECEIVE (R330). -/
def execArpNdReceive (link : Nat) (kind : Nat) (target : Bytes) (sender : Bytes) (mac : Nat) (s : State) : Host.Outcome State Fault Refusal :=
  runDev (arpNd link kind target sender mac) s

/-- PCIE_LINK_TRAINED (R357). -/
def execPcieLinkTrained (s : State) : Host.Outcome State Fault Refusal :=
  runDev pcieTrained s

/-- PCIE_FUNCTION_RESET (R344). -/
def execPcieFunctionReset (cause : Nat) (s : State) : Host.Outcome State Fault Refusal :=
  runDev (functionReset cause) s

/-- SPI_STATUS (R347). -/
def execSpiStatus (cut : Bool) (s : State) : Host.Outcome State Fault Refusal :=
  runDev (Sys2Proof.Machine.spiStatus cut) s

/-- SPI_STREAM (R347). -/
def execSpiStream (len : Nat) (cut : Bool) (s : State) : Host.Outcome State Fault Refusal :=
  runDev (Sys2Proof.Machine.spiStream len cut) s

/-- SPI_STRAP_RESET (R348). -/
def execSpiStrapReset (s : State) : Host.Outcome State Fault Refusal :=
  runDev Sys2Proof.Machine.spiStrapReset s

end Sys2Proof.Machine
end

