-- ==== Sys2Proof/Machine/ExecSync.lean ====
section
/-!
DEFINITION. The meanings of the commands of this family: The SYNC bus (chapter 14).
-/
namespace Sys2Proof.Machine

/-- SYNC_CYCLE_START (R351). -/
def execSyncCycleStart (s : State) : Host.Outcome State Fault Refusal :=
  runDev cycleStart s

/-- SYNC_FOLLOWER_SLOT (R351). -/
def execSyncFollowerSlot (s : State) : Host.Outcome State Fault Refusal :=
  runDev followerSlot s

/-- SYNC_BEACON_MSG (R350). -/
def execSyncBeaconMsg (data : Bytes) (s : State) : Host.Outcome State Fault Refusal :=
  runDev (beaconMsg data) s

/-- SYNC_PREPARE_MSG (R55). -/
def execSyncPrepareMsg (data : Bytes) (s : State) : Host.Outcome State Fault Refusal :=
  runDev (prepareMsg data) s

/-- SYNC_READY_MSG (R55). -/
def execSyncReadyMsg (data : Bytes) (s : State) : Host.Outcome State Fault Refusal :=
  runDev (readyMsg data) s

/-- SYNC_REFUSE_MSG (R55). -/
def execSyncRefuseMsg (data : Bytes) (s : State) : Host.Outcome State Fault Refusal :=
  runDev (refuseMsg data) s

/-- SYNC_GO_MSG (R55). -/
def execSyncGoMsg (data : Bytes) (s : State) : Host.Outcome State Fault Refusal :=
  runDev (goMsg data) s

/-- SYNC_CANCEL_MSG (R55). -/
def execSyncCancelMsg (data : Bytes) (s : State) : Host.Outcome State Fault Refusal :=
  runDev (cancelMsg data) s

/-- SYNC_CODE_MSG (R126). -/
def execSyncCodeMsg (data : Bytes) (s : State) : Host.Outcome State Fault Refusal :=
  runDev (codeMsg data) s

/-- SYNC_XTRIG_MSG (R352). -/
def execSyncXtrigMsg (data : Bytes) (s : State) : Host.Outcome State Fault Refusal :=
  runDev (xtrigMsg data) s

/-- SYNC_DEADLINE (R56). -/
def execSyncDeadline (s : State) : Host.Outcome State Fault Refusal :=
  runDev Sys2Proof.Machine.syncDeadline s

/-- SYNC_BEACON_LOSS (R350). -/
def execSyncBeaconLoss (s : State) : Host.Outcome State Fault Refusal :=
  runDev beaconLoss s

end Sys2Proof.Machine
end

