-- ==== Sys2Proof/Machine/ExecMailbox.lean ====
section
/-!
DEFINITION. The meanings of the commands of this family: The mailboxes and register spaces as hosts reach them (chapters 14 and 16).
-/
namespace Sys2Proof.Machine

/-- KMP_DATAGRAM_RECEIVE (R406). -/
def execKmpDatagramReceive (sc : Nat) (isProtected : Bool) (addr : Bytes) (port : Nat) (data : Bytes) (fragmented : Bool) (s : State) :
    Host.Outcome State Fault Refusal :=
  runDev (kmpReceive sc isProtected addr port data fragmented) s

/-- KMP_REASSEMBLY_TIMEOUT (R406). -/
def execKmpReassemblyTimeout (mb : Nat) (s : State) : Host.Outcome State Fault Refusal :=
  runDev (reassemblyTimeout mb) s

/-- DOORBELL (R391). -/
def execDoorbell (mb : Nat) (value : Nat) (s : State) : Host.Outcome State Fault Refusal :=
  runDev (Sys2Proof.Machine.doorbell s.ram mb value) s

/-- RSP_CI_WRITE (R393). -/
def execRspCiWrite (mb : Nat) (value : Nat) (s : State) : Host.Outcome State Fault Refusal :=
  runDev (Sys2Proof.Machine.rspCiWrite s.ram mb value) s

/-- BULK_RELEASE (R395). -/
def execBulkRelease (mb : Nat) (s : State) : Host.Outcome State Fault Refusal :=
  runDev (Sys2Proof.Machine.bulkRelease s.ram mb) s

/-- IRQ_STATUS_CLEAR (R389). -/
def execIrqStatusClear (mb : Nat) (value : Nat) (s : State) : Host.Outcome State Fault Refusal :=
  runDev (irqClear mb value) s

/-- ERR_INFO_READ (R389). -/
def execErrInfoRead (mb : Nat) (s : State) : Host.Outcome State Fault Refusal :=
  runDev (readErrInfo mb) s

/-- ERR_COUNT_READ (R389). -/
def execErrCountRead (mb : Nat) (s : State) : Host.Outcome State Fault Refusal :=
  runDev (readErrCount mb) s

/-- DEV_TIME_READ (R389). -/
def execDevTimeRead (mb : Nat) (s : State) : Host.Outcome State Fault Refusal :=
  runDev (readDevTime mb) s

/-- RPTR_WRITE (R341). -/
def execRptrWrite (ring : Nat) (value : Nat) (s : State) : Host.Outcome State Fault Refusal :=
  runDev (fun d => Sys2Proof.Machine.rptrWrite ring value (hostWrites 0 d)) s

/-- REGISTER_WRITE (R10). -/
def execRegisterWrite (port : Nat) (addr : Nat) (data : Bytes) (s : State) : Host.Outcome State Fault Refusal :=
  runDev (Sys2Proof.Machine.registerWrite s.ram port addr data) s

/-- SPI_WRITE (R346). -/
def execSpiWrite (addr : Nat) (data : Bytes) (cut : Bool) (s : State) : Host.Outcome State Fault Refusal :=
  runDev (Sys2Proof.Machine.spiWrite s.ram addr data cut) s

/-- SPI_READ (R346). -/
def execSpiRead (addr : Nat) (len : Nat) (cut : Bool) (s : State) : Host.Outcome State Fault Refusal :=
  runDev (Sys2Proof.Machine.spiRead s.ram addr len cut) s

end Sys2Proof.Machine
end

