-- ==== Sys2Proof/Machine/ExecSystem.lean ====
section
/-!
DEFINITION. The meanings of the commands of this family: KMP commands of the system, session and attestation groups (chapters 15 to 17).
-/
namespace Sys2Proof.Machine

/-- SYS_INFO (R413). -/
def execSysInfo (mb : Nat) (s : State) : Host.Outcome State Fault Refusal :=
  runDev (reader 0x0100 mb doSysInfo) s

/-- SYS_HEALTH (R465). -/
def execSysHealth (mb : Nat) (s : State) : Host.Outcome State Fault Refusal :=
  runDev (reader 0x0101 mb doSysHealth) s

/-- SYS_RESET (R358). -/
def execSysReset (mb : Nat) (s : State) : Host.Outcome State Fault Refusal :=
  runDev (answer 0x0102 mb doSysReset) s

/-- ARM (R31). -/
def execArm (mb : Nat) (s : State) : Host.Outcome State Fault Refusal :=
  runDev (launch 0x0103 mb checkArm beginArm) s

/-- START (R31). -/
def execStart (mb : Nat) (s : State) : Host.Outcome State Fault Refusal :=
  runDev (launch 0x0104 mb (checkState (fun o => o == .armed)) waitTick) s

/-- STOP (R31). -/
def execStop (mb : Nat) (s : State) : Host.Outcome State Fault Refusal :=
  runDev (launch 0x0105 mb (checkState (fun o => o == .running)) waitTick) s

/-- DISARM (R31). -/
def execDisarm (mb : Nat) (s : State) : Host.Outcome State Fault Refusal :=
  runDev (launch 0x0106 mb (checkState (fun o => o == .armed || o == .running)) waitTick) s

/-- BIND_OFF (R385). -/
def execBindOff (mb : Nat) (s : State) : Host.Outcome State Fault Refusal :=
  runDev (startCmd 0x0107 mb doBindOff) s

/-- EVENT_ROUTE (R416). -/
def execEventRoute (mb : Nat) (s : State) : Host.Outcome State Fault Refusal :=
  runDev (answer 0x0108 mb doEventRoute) s

/-- ABORT (R405). -/
def execAbort (mb : Nat) (s : State) : Host.Outcome State Fault Refusal :=
  runDev (startCmd 0x0110 mb doAbort) s

/-- GET_STATUS (R405). -/
def execGetStatus (mb : Nat) (s : State) : Host.Outcome State Fault Refusal :=
  runDev (reader 0x0111 mb doGetStatus) s

/-- SESSION_OPEN (R400). -/
def execSessionOpen (mb : Nat) (s : State) : Host.Outcome State Fault Refusal :=
  runDev (answer 0x0200 mb doOpen) s

/-- SESSION_CLOSE (R401). -/
def execSessionClose (mb : Nat) (s : State) : Host.Outcome State Fault Refusal :=
  runDev (startCmd 0x0201 mb doClose) s

/-- SESSION_COMMIT (R402). -/
def execSessionCommit (mb : Nat) (s : State) : Host.Outcome State Fault Refusal :=
  runDev (startCmd 0x0202 mb doCommit) s

/-- SESSION_ROLLBACK (R402). -/
def execSessionRollback (mb : Nat) (s : State) : Host.Outcome State Fault Refusal :=
  runDev (answer 0x0203 mb doRollback) s

/-- SESSION_RENEW (R401). -/
def execSessionRenew (mb : Nat) (s : State) : Host.Outcome State Fault Refusal :=
  runDev (reader 0x0204 mb doRenew) s

/-- ATTEST_MEASURE (R376). -/
def execAttestMeasure (mb : Nat) (s : State) : Host.Outcome State Fault Refusal :=
  runDev (reader 0x1200 mb doMeasure) s

/-- ATTEST_EXTEND (R376). -/
def execAttestExtend (mb : Nat) (s : State) : Host.Outcome State Fault Refusal :=
  runDev (answer 0x1201 mb doExtend) s

/-- ATTEST_PATH (R379). -/
def execAttestPath (mb : Nat) (s : State) : Host.Outcome State Fault Refusal :=
  runDev (answer 0x1202 mb doPath) s

/-- ATTEST_REPORT (R418). -/
def execAttestReport (mb : Nat) (s : State) : Host.Outcome State Fault Refusal :=
  runDev (answer 0x1203 mb doReport) s

/-- DEBUG_CHALLENGE (R382). -/
def execDebugChallenge (mb : Nat) (s : State) : Host.Outcome State Fault Refusal :=
  runDev (answer 0x1204 mb doChallenge) s

/-- DEBUG_UNLOCK (R382). -/
def execDebugUnlock (mb : Nat) (s : State) : Host.Outcome State Fault Refusal :=
  runDev (answer 0x1205 mb doUnlock) s

end Sys2Proof.Machine
end

