-- ==== Sys2Proof/Machine/ExecPlan.lean ====
section
/-!
DEFINITION. The meanings of the commands of this family: KMP commands of the plan, receive, time, point and repair groups (chapter 17).
-/
namespace Sys2Proof.Machine

/-- PLAN_WRITE (R419). -/
def execPlanWrite (mb : Nat) (s : State) : Host.Outcome State Fault Refusal :=
  runDev (stager 0x0300 mb doPlanWrite) s

/-- PLAN_READ (R419). -/
def execPlanRead (mb : Nat) (s : State) : Host.Outcome State Fault Refusal :=
  runDev (reader 0x0301 mb doPlanRead) s

/-- PLAN_CHECK (R420). -/
def execPlanCheck (mb : Nat) (s : State) : Host.Outcome State Fault Refusal :=
  runDev (reader 0x0302 mb doPlanCheck) s

/-- PLAN_COLUMNS (R36). -/
def execPlanColumns (mb : Nat) (s : State) : Host.Outcome State Fault Refusal :=
  runDev (reader 0x0303 mb doPlanColumns) s

/-- SYNC_START (R421). -/
def execSyncStart (mb : Nat) (s : State) : Host.Outcome State Fault Refusal :=
  runDev (launch 0x0304 mb checkSyncStart beginSyncStart) s

/-- SYNC_CANCEL (R422). -/
def execSyncCancel (mb : Nat) (s : State) : Host.Outcome State Fault Refusal :=
  runDev (answer 0x0305 mb doSyncCancel) s

/-- SYNC_STATUS (R422). -/
def execSyncStatus (mb : Nat) (s : State) : Host.Outcome State Fault Refusal :=
  runDev (reader 0x0306 mb doSyncStatus) s

/-- RECV_SET (R423). -/
def execRecvSet (mb : Nat) (s : State) : Host.Outcome State Fault Refusal :=
  runDev (stager 0x0400 mb (doPrmSet 4)) s

/-- RECV_GET (R423). -/
def execRecvGet (mb : Nat) (s : State) : Host.Outcome State Fault Refusal :=
  runDev (reader 0x0401 mb (doPrmGet 4)) s

/-- ALIGN_WRITE (R424). -/
def execAlignWrite (mb : Nat) (s : State) : Host.Outcome State Fault Refusal :=
  runDev (stager 0x0402 mb doAlignWrite) s

/-- ALIGN_READ (R85). -/
def execAlignRead (mb : Nat) (s : State) : Host.Outcome State Fault Refusal :=
  runDev (reader 0x0403 mb doAlignRead) s

/-- GAUGE_READ (R98). -/
def execGaugeRead (mb : Nat) (s : State) : Host.Outcome State Fault Refusal :=
  runDev (reader 0x0404 mb doGaugeRead) s

/-- LANE_STATS (R131). -/
def execLaneStats (mb : Nat) (s : State) : Host.Outcome State Fault Refusal :=
  runDev (reader 0x0405 mb doLaneStats) s

/-- LANE_STATUS (R132). -/
def execLaneStatus (mb : Nat) (s : State) : Host.Outcome State Fault Refusal :=
  runDev (reader 0x0406 mb doLaneStatus) s

/-- LANE_CLEAR (R132). -/
def execLaneClear (mb : Nat) (s : State) : Host.Outcome State Fault Refusal :=
  runDev (answer 0x0407 mb doLaneClear) s

/-- TIME_SET (R423). -/
def execTimeSet (mb : Nat) (s : State) : Host.Outcome State Fault Refusal :=
  runDev (stager 0x0500 mb (doPrmSet 5)) s

/-- TIME_GET (R423). -/
def execTimeGet (mb : Nat) (s : State) : Host.Outcome State Fault Refusal :=
  runDev (reader 0x0501 mb (doPrmGet 5)) s

/-- TIME_AGEING (R425). -/
def execTimeAgeing (mb : Nat) (s : State) : Host.Outcome State Fault Refusal :=
  runDev (launch 0x0502 mb checkAgeing beginAgeing) s

/-- TIME_STATUS (R106). -/
def execTimeStatus (mb : Nat) (s : State) : Host.Outcome State Fault Refusal :=
  runDev (reader 0x0503 mb doTimeStatus) s

/-- POINT_SET (R156). -/
def execPointSet (mb : Nat) (s : State) : Host.Outcome State Fault Refusal :=
  runDev (stager 0x0600 mb (doPrmSet 6)) s

/-- POINT_GET (R423). -/
def execPointGet (mb : Nat) (s : State) : Host.Outcome State Fault Refusal :=
  runDev (reader 0x0601 mb (doPrmGet 6)) s

/-- INTENSITY_WRITE (R143). -/
def execIntensityWrite (mb : Nat) (s : State) : Host.Outcome State Fault Refusal :=
  runDev (stager 0x0602 mb doIntensityWrite) s

/-- INTENSITY_READ (R143). -/
def execIntensityRead (mb : Nat) (s : State) : Host.Outcome State Fault Refusal :=
  runDev (reader 0x0603 mb doIntensityRead) s

/-- MAP_READ (R426). -/
def execMapRead (mb : Nat) (s : State) : Host.Outcome State Fault Refusal :=
  runDev (reader 0x1100 mb doMapRead) s

/-- MASK_FORCE (R427). -/
def execMaskForce (mb : Nat) (s : State) : Host.Outcome State Fault Refusal :=
  runDev (stager 0x1101 mb doMaskForce) s

/-- RETIRE (R428). -/
def execRetire (mb : Nat) (s : State) : Host.Outcome State Fault Refusal :=
  runDev (stager 0x1102 mb doRetire) s

end Sys2Proof.Machine
end

