-- ==== Sys2Proof/Machine/ExecDrive.lean ====
section
/-!
DEFINITION. The meanings of the commands of this family: KMP commands of the emitter, scanner, sense and loop groups (chapter 18).
-/
namespace Sys2Proof.Machine

/-- EMITTER_SET (R430). -/
def execEmitterSet (mb : Nat) (s : State) : Host.Outcome State Fault Refusal :=
  runDev (stager 0x0700 mb (doPrmSet 7)) s

/-- EMITTER_GET (R430). -/
def execEmitterGet (mb : Nat) (s : State) : Host.Outcome State Fault Refusal :=
  runDev (reader 0x0701 mb (doPrmGet 7)) s

/-- SCANNER_SET (R431). -/
def execScannerSet (mb : Nat) (s : State) : Host.Outcome State Fault Refusal :=
  runDev (stager 0x0800 mb (doPrmSet 8)) s

/-- SCANNER_GET (R430). -/
def execScannerGet (mb : Nat) (s : State) : Host.Outcome State Fault Refusal :=
  runDev (reader 0x0801 mb (doPrmGet 8)) s

/-- SENSE_SET (R430). -/
def execSenseSet (mb : Nat) (s : State) : Host.Outcome State Fault Refusal :=
  runDev (stager 0x0900 mb (doPrmSet 9)) s

/-- SENSE_GET (R430). -/
def execSenseGet (mb : Nat) (s : State) : Host.Outcome State Fault Refusal :=
  runDev (reader 0x0901 mb (doPrmGet 9)) s

/-- LOOP_SET (R218). -/
def execLoopSet (mb : Nat) (s : State) : Host.Outcome State Fault Refusal :=
  runDev (stager 0x0A00 mb (doPrmSet 10)) s

/-- LOOP_GET (R430). -/
def execLoopGet (mb : Nat) (s : State) : Host.Outcome State Fault Refusal :=
  runDev (reader 0x0A01 mb (doPrmGet 10)) s

/-- DRIVE_READ (R432). -/
def execDriveRead (mb : Nat) (s : State) : Host.Outcome State Fault Refusal :=
  runDev (reader 0x0703 mb doDriveRead) s

/-- EMIT_STATUS (R432). -/
def execEmitStatus (mb : Nat) (s : State) : Host.Outcome State Fault Refusal :=
  runDev (reader 0x0704 mb doEmitStatus) s

/-- EMIT_COUNTERS (R432). -/
def execEmitCounters (mb : Nat) (s : State) : Host.Outcome State Fault Refusal :=
  runDev (reader 0x0705 mb doEmitCounters) s

/-- SCAN_STATS (R432). -/
def execScanStats (mb : Nat) (s : State) : Host.Outcome State Fault Refusal :=
  runDev (reader 0x0804 mb doScanStats) s

/-- ENTRY_READ (R432). -/
def execEntryRead (mb : Nat) (s : State) : Host.Outcome State Fault Refusal :=
  runDev (reader 0x0903 mb doEntryRead) s

/-- SENSE_VALUES (R432). -/
def execSenseValues (mb : Nat) (s : State) : Host.Outcome State Fault Refusal :=
  runDev (reader 0x0904 mb doSenseValues) s

/-- LOOP_READ (R432). -/
def execLoopRead (mb : Nat) (s : State) : Host.Outcome State Fault Refusal :=
  runDev (reader 0x0A03 mb doLoopRead) s

/-- LOOP_STATUS (R432). -/
def execLoopStatus (mb : Nat) (s : State) : Host.Outcome State Fault Refusal :=
  runDev (reader 0x0A05 mb doLoopStatus) s

/-- EMIT_CLEAR (R433). -/
def execEmitClear (mb : Nat) (s : State) : Host.Outcome State Fault Refusal :=
  runDev (answer 0x0706 mb doEmitClear) s

/-- SCAN_CLEAR (R433). -/
def execScanClear (mb : Nat) (s : State) : Host.Outcome State Fault Refusal :=
  runDev (answer 0x0805 mb doScanClear) s

/-- LOOP_CLEAR (R433). -/
def execLoopClear (mb : Nat) (s : State) : Host.Outcome State Fault Refusal :=
  runDev (answer 0x0A06 mb doLoopClear) s

/-- DRIVE_WRITE (R434). -/
def execDriveWrite (mb : Nat) (s : State) : Host.Outcome State Fault Refusal :=
  runDev (stager 0x0702 mb doDriveWrite) s

/-- EMIT_SELFTEST (R435). -/
def execEmitSelftest (mb : Nat) (s : State) : Host.Outcome State Fault Refusal :=
  runDev (launch 0x0707 mb checkSelfTest beginSelfTest) s

/-- SCAN_START (R436). -/
def execScanStart (mb : Nat) (s : State) : Host.Outcome State Fault Refusal :=
  runDev (launch 0x0802 mb checkScanStart (requestScan true)) s

/-- SCAN_STOP (R436). -/
def execScanStop (mb : Nat) (s : State) : Host.Outcome State Fault Refusal :=
  runDev (launch 0x0803 mb checkScanStop (requestScan false)) s

/-- ENTRY_WRITE (R437). -/
def execEntryWrite (mb : Nat) (s : State) : Host.Outcome State Fault Refusal :=
  runDev (stager 0x0902 mb doEntryWrite) s

/-- RING_READ (R437). -/
def execRingRead (mb : Nat) (s : State) : Host.Outcome State Fault Refusal :=
  runDev (reader 0x0905 mb doRingRead) s

/-- LOOP_WRITE (R438). -/
def execLoopWrite (mb : Nat) (s : State) : Host.Outcome State Fault Refusal :=
  runDev (stager 0x0A02 mb doLoopWrite) s

/-- LOOP_MODE (R439). -/
def execLoopMode (mb : Nat) (s : State) : Host.Outcome State Fault Refusal :=
  runDev (launch 0x0A04 mb checkLoopMode requestLoopMode) s

/-- TRACE_ARM (R441). -/
def execTraceArm (mb : Nat) (s : State) : Host.Outcome State Fault Refusal :=
  runDev (launch 0x0A07 mb checkTraceArm armTrace) s

/-- TRACE_TRIGGER (R441). -/
def execTraceTrigger (mb : Nat) (s : State) : Host.Outcome State Fault Refusal :=
  runDev (answer 0x0A08 mb doTraceTrigger) s

/-- TRACE_READ (R441). -/
def execTraceRead (mb : Nat) (s : State) : Host.Outcome State Fault Refusal :=
  runDev (launch 0x0A09 mb checkTraceRead startTraceRead) s

/-- DIAG_STAMP (R455). -/
def execDiagStamp (mb : Nat) (s : State) : Host.Outcome State Fault Refusal :=
  runDev (launch 0x1000 mb checkDiagStamp startDiagStamp) s

/-- DIAG_HIST (R456). -/
def execDiagHist (mb : Nat) (s : State) : Host.Outcome State Fault Refusal :=
  runDev (launch 0x1001 mb checkDiagHist startDiagHist) s

end Sys2Proof.Machine
end

