-- ==== Sys2Proof/Machine/ExecStream.lean ====
section
/-!
DEFINITION. The meanings of the commands of this family: KMP commands of the stream, Peat and Hook groups (chapter 18).
-/
namespace Sys2Proof.Machine

/-- STREAM_SET (R430). -/
def execStreamSet (mb : Nat) (s : State) : Host.Outcome State Fault Refusal :=
  runDev (stager 0x0B00 mb (doPrmSet 11)) s

/-- STREAM_GET (R430). -/
def execStreamGet (mb : Nat) (s : State) : Host.Outcome State Fault Refusal :=
  runDev (reader 0x0B01 mb (doPrmGet 11)) s

/-- SUBSCRIBE (R442). -/
def execSubscribe (mb : Nat) (s : State) : Host.Outcome State Fault Refusal :=
  runDev (stager 0x0B02 mb doSubscribe) s

/-- SUBS_READ (R432). -/
def execSubsRead (mb : Nat) (s : State) : Host.Outcome State Fault Refusal :=
  runDev (reader 0x0B03 mb doSubsRead) s

/-- POOL_SET (R443). -/
def execPoolSet (mb : Nat) (s : State) : Host.Outcome State Fault Refusal :=
  runDev (stager 0x0B04 mb doPoolSet) s

/-- CLASS_SET (R308). -/
def execClassSet (mb : Nat) (s : State) : Host.Outcome State Fault Refusal :=
  runDev (answer 0x0B05 mb doClassSet) s

/-- FREEZE (R310). -/
def execFreeze (mb : Nat) (s : State) : Host.Outcome State Fault Refusal :=
  runDev (answer 0x0B06 mb doFreeze) s

/-- WATCHDOG_SET (R443). -/
def execWatchdogSet (mb : Nat) (s : State) : Host.Outcome State Fault Refusal :=
  runDev (answer 0x0B07 mb doWatchdogSet) s

/-- PORT_STATUS (R432). -/
def execPortStatus (mb : Nat) (s : State) : Host.Outcome State Fault Refusal :=
  runDev (reader 0x0B08 mb doPortStatus) s

/-- PORT_STATS (R432). -/
def execPortStats (mb : Nat) (s : State) : Host.Outcome State Fault Refusal :=
  runDev (reader 0x0B09 mb doPortStats) s

/-- PORT_CLEAR (R433). -/
def execPortClear (mb : Nat) (s : State) : Host.Outcome State Fault Refusal :=
  runDev (answer 0x0B0A mb doPortClear) s

/-- PEAT_CONFIG (R444). -/
def execPeatConfig (mb : Nat) (s : State) : Host.Outcome State Fault Refusal :=
  runDev (answer 0x0C00 mb doPeatConfig) s

/-- PEAT_CONFIG_READ (R432). -/
def execPeatConfigRead (mb : Nat) (s : State) : Host.Outcome State Fault Refusal :=
  runDev (reader 0x0C01 mb doPeatConfigRead) s

/-- PEAT_ARM (R445). -/
def execPeatArm (mb : Nat) (s : State) : Host.Outcome State Fault Refusal :=
  runDev (launch 0x0C02 mb checkPeatArm armPeat) s

/-- PEAT_TRIGGER (R445). -/
def execPeatTrigger (mb : Nat) (s : State) : Host.Outcome State Fault Refusal :=
  runDev (answer 0x0C03 mb doPeatTrigger) s

/-- PEAT_DESCRIPTORS (R432). -/
def execPeatDescriptors (mb : Nat) (s : State) : Host.Outcome State Fault Refusal :=
  runDev (reader 0x0C04 mb doPeatDescriptors) s

/-- PEAT_READ (R324). -/
def execPeatRead (mb : Nat) (s : State) : Host.Outcome State Fault Refusal :=
  runDev (launch 0x0C05 mb checkPeatRead startReadout) s

/-- PEAT_RELEASE (R325). -/
def execPeatRelease (mb : Nat) (s : State) : Host.Outcome State Fault Refusal :=
  runDev (answer 0x0C06 mb doPeatRelease) s

/-- PEAT_DISARM (R445). -/
def execPeatDisarm (mb : Nat) (s : State) : Host.Outcome State Fault Refusal :=
  runDev (answer 0x0C07 mb doPeatDisarm) s

/-- HOOK_START (R446). -/
def execHookStart (mb : Nat) (s : State) : Host.Outcome State Fault Refusal :=
  runDev (launch 0x0D00 mb checkHookStart startHook) s

/-- HOOK_RESULT (R432). -/
def execHookResult (mb : Nat) (s : State) : Host.Outcome State Fault Refusal :=
  runDev (reader 0x0D01 mb doHookResult) s

end Sys2Proof.Machine
end

