-- ==== Sys2Proof/Machine/ExecSafeNet.lean ====
section
/-!
DEFINITION. The meanings of the commands of this family: KMP commands of the safety and network groups (chapter 18).
-/
namespace Sys2Proof.Machine

/-- SAFE_LOAD (R448), once Hook B has no job of a higher rank (R286). -/
def execSafeLoad (mb : Nat) (s : State) : Host.Outcome State Fault Refusal :=
  runDev (afterHookB (answer 0x0E00 mb doSafeLoad)) s

/-- SAFE_CONFIRM (R449). -/
def execSafeConfirm (mb : Nat) (s : State) : Host.Outcome State Fault Refusal :=
  runDev (answer 0x0E01 mb doSafeConfirm) s

/-- SAFE_READ (R432). -/
def execSafeRead (mb : Nat) (s : State) : Host.Outcome State Fault Refusal :=
  runDev (reader 0x0E02 mb doSafeRead) s

/-- SAFE_STATUS (R432). -/
def execSafeStatus (mb : Nat) (s : State) : Host.Outcome State Fault Refusal :=
  runDev (reader 0x0E03 mb doSafeStatus) s

/-- SAFE_RESUME (R271). -/
def execSafeResume (mb : Nat) (s : State) : Host.Outcome State Fault Refusal :=
  runDev (answer 0x0E04 mb doSafeResume) s

/-- SAFE_STOP (R450). -/
def execSafeStop (mb : Nat) (s : State) : Host.Outcome State Fault Refusal :=
  runDev (answer 0x0E05 mb doSafeStop) s

/-- OUTPUT_ACK (R450). -/
def execOutputAck (mb : Nat) (s : State) : Host.Outcome State Fault Refusal :=
  runDev (answer 0x0E06 mb doOutputAck) s

/-- HST_RESTART (R450). -/
def execHstRestart (mb : Nat) (s : State) : Host.Outcome State Fault Refusal :=
  runDev (answer 0x0E07 mb doHstRestart) s

/-- HST_STATUS (R432). -/
def execHstStatus (mb : Nat) (s : State) : Host.Outcome State Fault Refusal :=
  runDev (reader 0x0E08 mb doHstStatus) s

/-- SAFE_CLEAR (R433). -/
def execSafeClear (mb : Nat) (s : State) : Host.Outcome State Fault Refusal :=
  runDev (answer 0x0E09 mb doSafeClear) s

/-- NET_SET (R451). -/
def execNetSet (mb : Nat) (s : State) : Host.Outcome State Fault Refusal :=
  runDev (startCmd 0x0F00 mb doNetSet) s

/-- NET_GET (R430). -/
def execNetGet (mb : Nat) (s : State) : Host.Outcome State Fault Refusal :=
  runDev (reader 0x0F01 mb (doPrmGet 15)) s

/-- IP_SET (R451). -/
def execIpSet (mb : Nat) (s : State) : Host.Outcome State Fault Refusal :=
  runDev (startCmd 0x0F02 mb doIpSet) s

/-- IP_GET (R432). -/
def execIpGet (mb : Nat) (s : State) : Host.Outcome State Fault Refusal :=
  runDev (reader 0x0F03 mb doIpGet) s

/-- SA_INSTALL (R452). -/
def execSaInstall (mb : Nat) (s : State) : Host.Outcome State Fault Refusal :=
  runDev (answer 0x0F04 mb doSaInstall) s

/-- SA_DELETE (R452). -/
def execSaDelete (mb : Nat) (s : State) : Host.Outcome State Fault Refusal :=
  runDev (startCmd 0x0F05 mb doSaDelete) s

/-- SA_SWITCH (R452). -/
def execSaSwitch (mb : Nat) (s : State) : Host.Outcome State Fault Refusal :=
  runDev (answer 0x0F06 mb doSaSwitch) s

/-- MACSEC_STATUS (R432). -/
def execMacsecStatus (mb : Nat) (s : State) : Host.Outcome State Fault Refusal :=
  runDev (reader 0x0F07 mb doMacsecStatus) s

/-- DEST_SET (R453). -/
def execDestSet (mb : Nat) (s : State) : Host.Outcome State Fault Refusal :=
  runDev (answer 0x0F08 mb doDestSet) s

/-- HST_PEER (R453). -/
def execHstPeer (mb : Nat) (s : State) : Host.Outcome State Fault Refusal :=
  runDev (answer 0x0F09 mb doHstPeer) s

/-- SYNC_CODE (R454). -/
def execSyncCode (mb : Nat) (s : State) : Host.Outcome State Fault Refusal :=
  runDev (launch 0x0F0A mb checkSyncCode beginSyncCode) s

/-- TRIG_PULSE (R454). -/
def execTrigPulse (mb : Nat) (s : State) : Host.Outcome State Fault Refusal :=
  runDev (answer 0x0F0B mb doTrigPulse) s

/-- NET_STATUS (R432). -/
def execNetStatus (mb : Nat) (s : State) : Host.Outcome State Fault Refusal :=
  runDev (reader 0x0F0C mb doNetStatus) s

end Sys2Proof.Machine
end

