-- ==== Sys2Proof/Machine/Dispatch.lean ====
section
/-!
DEFINITION. What each command does: one arm per command, each one direct call of its meaning.
-/
namespace Sys2Proof.Machine

def exec (i : Instr) (s : State) : Host.Outcome State Fault Refusal :=
  match i with
  | .powerOnReset => Sys2Proof.Machine.execPowerOnReset s
  | .nresetAssert lowNs => Sys2Proof.Machine.execNresetAssert lowNs s
  | .resetRelease spiv refclk pcie => Sys2Proof.Machine.execResetRelease spiv refclk pcie s
  | .pllLock => Sys2Proof.Machine.execPllLock s
  | .bistComplete tussockFail fatal badSlices failedLanes failedStarts probes dark sramRepairs => Sys2Proof.Machine.execBistComplete tussockFail fatal badSlices failedLanes failedStarts probes dark sramRepairs s
  | .repairMapBuilt => Sys2Proof.Machine.execRepairMapBuilt s
  | .romInfo mb => Sys2Proof.Machine.execRomInfo mb s
  | .loadBegin mb => Sys2Proof.Machine.execLoadBegin mb s
  | .loadChunk mb => Sys2Proof.Machine.execLoadChunk mb s
  | .loadEnd mb => Sys2Proof.Machine.execLoadEnd mb s
  | .loaderClaimExpiry => Sys2Proof.Machine.execLoaderClaimExpiry s
  | .fwInitComplete => Sys2Proof.Machine.execFwInitComplete s
  | .castOnGaugeCollectionEnd counts => Sys2Proof.Machine.execCastOnGaugeCollectionEnd counts s
  | .calibrationFiringEnd refMeans vbd temp clockRatios charged => Sys2Proof.Machine.execCalibrationFiringEnd refMeans vbd temp clockRatios charged s
  | .frameTick => Sys2Proof.Machine.execFrameTick s
  | .dwellTick lockLost stalled broken => Sys2Proof.Machine.execDwellTick lockLost stalled broken s
  | .flushTick stalled => Sys2Proof.Machine.execFlushTick stalled s
  | .windowBias => Sys2Proof.Machine.execWindowBias s
  | .shotTick low obs => Sys2Proof.Machine.execShotTick low obs s
  | .startLaneEdge bank coarse tap => Sys2Proof.Machine.execStartLaneEdge bank coarse tap s
  | .spadAvalanche row col spad ps recharge readings => Sys2Proof.Machine.execSpadAvalanche row col spad ps recharge readings s
  | .coarsePhaseClose => Sys2Proof.Machine.execCoarsePhaseClose s
  | .pointFormat => Sys2Proof.Machine.execPointFormat s
  | .pointTagCheck flips tagXor => Sys2Proof.Machine.execPointTagCheck flips tagXor s
  | .tensionTick slow => Sys2Proof.Machine.execTensionTick slow s
  | .sedgeSlot code => Sys2Proof.Machine.execSedgeSlot code s
  | .openWireTest => Sys2Proof.Machine.execOpenWireTest s
  | .probeRound round vf => Sys2Proof.Machine.execProbeRound round vf s
  | .probeConfirmSlot bank vf => Sys2Proof.Machine.execProbeConfirmSlot bank vf s
  | .probeBlockEnd => Sys2Proof.Machine.execProbeBlockEnd s
  | .darkCountPositionEnd counts => Sys2Proof.Machine.execDarkCountPositionEnd counts s
  | .gaugeRandomEdge lane code => Sys2Proof.Machine.execGaugeRandomEdge lane code s
  | .gaugeCollectionEnd => Sys2Proof.Machine.execGaugeCollectionEnd s
  | .gaugeTableDerive lane tussockDiffers => Sys2Proof.Machine.execGaugeTableDerive lane tussockDiffers s
  | .testToneSlot group ohms cross => Sys2Proof.Machine.execTestToneSlot group ohms cross s
  | .railSwitchTest switch pass => Sys2Proof.Machine.execRailSwitchTest switch pass s
  | .outputSwitchTest output switch pass shorted => Sys2Proof.Machine.execOutputSwitchTest output switch pass shorted s
  | .outputOvercurrent output => Sys2Proof.Machine.execOutputOvercurrent output s
  | .emitterSelftestRun vf => Sys2Proof.Machine.execEmitterSelftestRun vf s
  | .pulseReport segment => Sys2Proof.Machine.execPulseReport segment s
  | .pulseReportTimeout segment => Sys2Proof.Machine.execPulseReportTimeout segment s
  | .accumulatorSubinterval base => Sys2Proof.Machine.execAccumulatorSubinterval base s
  | .clockCrossCheck ratios => Sys2Proof.Machine.execClockCrossCheck ratios s
  | .tussockInternalFault kind => Sys2Proof.Machine.execTussockInternalFault kind s
  | .tussockScrubBlock block readAt flips corrected uncorrectable => Sys2Proof.Machine.execTussockScrubBlock block readAt flips corrected uncorrectable s
  | .safetyInputSample levels => Sys2Proof.Machine.execSafetyInputSample levels s
  | .testPulse output readback => Sys2Proof.Machine.execTestPulse output readback s
  | .restartDelayExpiry output => Sys2Proof.Machine.execRestartDelayExpiry output s
  | .vsafeJudgementChange ok mv => Sys2Proof.Machine.execVsafeJudgementChange ok mv s
  | .supplyOutOfRange vin => Sys2Proof.Machine.execSupplyOutOfRange vin s
  | .unrecoverableFault => Sys2Proof.Machine.execUnrecoverableFault s
  | .driveStageTrip cause => Sys2Proof.Machine.execDriveStageTrip cause s
  | .bindOffComplete => Sys2Proof.Machine.execBindOffComplete s
  | .armLockTimeout => Sys2Proof.Machine.execArmLockTimeout s
  | .ageingSlewComplete => Sys2Proof.Machine.execAgeingSlewComplete s
  | .commitPoint => Sys2Proof.Machine.execCommitPoint s
  | .leaseExpiry => Sys2Proof.Machine.execLeaseExpiry s
  | .safePendingExpiry => Sys2Proof.Machine.execSafePendingExpiry s
  | .hookAJobComplete corrected uncorrectable data => Sys2Proof.Machine.execHookAJobComplete corrected uncorrectable data s
  | .firmwareScrubBlock last block readAt flips => Sys2Proof.Machine.execFirmwareScrubBlock last block readAt flips s
  | .patrolScrub region addr correctable => Sys2Proof.Machine.execPatrolScrub region addr correctable s
  | .grantIssue port => Sys2Proof.Machine.execGrantIssue port s
  | .grantComplete port => Sys2Proof.Machine.execGrantComplete port s
  | .grantHoldWatchdog port => Sys2Proof.Machine.execGrantHoldWatchdog port s
  | .ringModerationTimer ring => Sys2Proof.Machine.execRingModerationTimer ring s
  | .peatTriggerAccept => Sys2Proof.Machine.execPeatTriggerAccept s
  | .peatRearm => Sys2Proof.Machine.execPeatRearm s
  | .trigInEdge rising t => Sys2Proof.Machine.execTrigInEdge rising t s
  | .trigOutPulseEnd => Sys2Proof.Machine.execTrigOutPulseEnd s
  | .linkStateChange link up => Sys2Proof.Machine.execLinkStateChange link up s
  | .prpFrameReceive link src seq lan sc an pn len secured valid => Sys2Proof.Machine.execPrpFrameReceive link src seq lan sc an pn len secured valid s
  | .prpSupervisionSend => Sys2Proof.Machine.execPrpSupervisionSend s
  | .gptpMessageReceive link domain kind gm interval value rate => Sys2Proof.Machine.execGptpMessageReceive link domain kind gm interval value rate s
  | .servoLockAchieved => Sys2Proof.Machine.execServoLockAchieved s
  | .syncLossHoldover => Sys2Proof.Machine.execSyncLossHoldover s
  | .slavePortReselect => Sys2Proof.Machine.execSlavePortReselect s
  | .arpNdReceive link kind target sender mac => Sys2Proof.Machine.execArpNdReceive link kind target sender mac s
  | .kmpDatagramReceive sc isProtected addr port data fragmented => Sys2Proof.Machine.execKmpDatagramReceive sc isProtected addr port data fragmented s
  | .kmpReassemblyTimeout mb => Sys2Proof.Machine.execKmpReassemblyTimeout mb s
  | .hstDatagramArrival conn addr port data fragmented => Sys2Proof.Machine.execHstDatagramArrival conn addr port data fragmented s
  | .hstReceiveCheck => Sys2Proof.Machine.execHstReceiveCheck s
  | .hstCycleSend conn => Sys2Proof.Machine.execHstCycleSend conn s
  | .hstChangeSend conn => Sys2Proof.Machine.execHstChangeSend conn s
  | .hstWatchdogExpiry conn => Sys2Proof.Machine.execHstWatchdogExpiry conn s
  | .hstAutoRestart conn => Sys2Proof.Machine.execHstAutoRestart conn s
  | .syncCycleStart => Sys2Proof.Machine.execSyncCycleStart s
  | .syncFollowerSlot => Sys2Proof.Machine.execSyncFollowerSlot s
  | .syncBeaconMsg data => Sys2Proof.Machine.execSyncBeaconMsg data s
  | .syncPrepareMsg data => Sys2Proof.Machine.execSyncPrepareMsg data s
  | .syncReadyMsg data => Sys2Proof.Machine.execSyncReadyMsg data s
  | .syncRefuseMsg data => Sys2Proof.Machine.execSyncRefuseMsg data s
  | .syncGoMsg data => Sys2Proof.Machine.execSyncGoMsg data s
  | .syncCancelMsg data => Sys2Proof.Machine.execSyncCancelMsg data s
  | .syncCodeMsg data => Sys2Proof.Machine.execSyncCodeMsg data s
  | .syncXtrigMsg data => Sys2Proof.Machine.execSyncXtrigMsg data s
  | .syncDeadline => Sys2Proof.Machine.execSyncDeadline s
  | .syncBeaconLoss => Sys2Proof.Machine.execSyncBeaconLoss s
  | .doorbell mb value => Sys2Proof.Machine.execDoorbell mb value s
  | .rspCiWrite mb value => Sys2Proof.Machine.execRspCiWrite mb value s
  | .bulkRelease mb => Sys2Proof.Machine.execBulkRelease mb s
  | .irqStatusClear mb value => Sys2Proof.Machine.execIrqStatusClear mb value s
  | .errInfoRead mb => Sys2Proof.Machine.execErrInfoRead mb s
  | .errCountRead mb => Sys2Proof.Machine.execErrCountRead mb s
  | .devTimeRead mb => Sys2Proof.Machine.execDevTimeRead mb s
  | .rptrWrite ring value => Sys2Proof.Machine.execRptrWrite ring value s
  | .registerWrite port addr data => Sys2Proof.Machine.execRegisterWrite port addr data s
  | .pcieFunctionReset cause => Sys2Proof.Machine.execPcieFunctionReset cause s
  | .spiWrite addr data cut => Sys2Proof.Machine.execSpiWrite addr data cut s
  | .spiRead addr len cut => Sys2Proof.Machine.execSpiRead addr len cut s
  | .spiStatus cut => Sys2Proof.Machine.execSpiStatus cut s
  | .spiStream len cut => Sys2Proof.Machine.execSpiStream len cut s
  | .spiStrapReset => Sys2Proof.Machine.execSpiStrapReset s
  | .sysInfo mb => Sys2Proof.Machine.execSysInfo mb s
  | .sysHealth mb => Sys2Proof.Machine.execSysHealth mb s
  | .sysReset mb => Sys2Proof.Machine.execSysReset mb s
  | .arm mb => Sys2Proof.Machine.execArm mb s
  | .start mb => Sys2Proof.Machine.execStart mb s
  | .stop mb => Sys2Proof.Machine.execStop mb s
  | .disarm mb => Sys2Proof.Machine.execDisarm mb s
  | .bindOff mb => Sys2Proof.Machine.execBindOff mb s
  | .eventRoute mb => Sys2Proof.Machine.execEventRoute mb s
  | .abort mb => Sys2Proof.Machine.execAbort mb s
  | .getStatus mb => Sys2Proof.Machine.execGetStatus mb s
  | .sessionOpen mb => Sys2Proof.Machine.execSessionOpen mb s
  | .sessionClose mb => Sys2Proof.Machine.execSessionClose mb s
  | .sessionCommit mb => Sys2Proof.Machine.execSessionCommit mb s
  | .sessionRollback mb => Sys2Proof.Machine.execSessionRollback mb s
  | .sessionRenew mb => Sys2Proof.Machine.execSessionRenew mb s
  | .planWrite mb => Sys2Proof.Machine.execPlanWrite mb s
  | .planRead mb => Sys2Proof.Machine.execPlanRead mb s
  | .planCheck mb => Sys2Proof.Machine.execPlanCheck mb s
  | .planColumns mb => Sys2Proof.Machine.execPlanColumns mb s
  | .syncStart mb => Sys2Proof.Machine.execSyncStart mb s
  | .syncCancel mb => Sys2Proof.Machine.execSyncCancel mb s
  | .syncStatus mb => Sys2Proof.Machine.execSyncStatus mb s
  | .recvSet mb => Sys2Proof.Machine.execRecvSet mb s
  | .recvGet mb => Sys2Proof.Machine.execRecvGet mb s
  | .alignWrite mb => Sys2Proof.Machine.execAlignWrite mb s
  | .alignRead mb => Sys2Proof.Machine.execAlignRead mb s
  | .gaugeRead mb => Sys2Proof.Machine.execGaugeRead mb s
  | .laneStats mb => Sys2Proof.Machine.execLaneStats mb s
  | .laneStatus mb => Sys2Proof.Machine.execLaneStatus mb s
  | .laneClear mb => Sys2Proof.Machine.execLaneClear mb s
  | .timeSet mb => Sys2Proof.Machine.execTimeSet mb s
  | .timeGet mb => Sys2Proof.Machine.execTimeGet mb s
  | .timeAgeing mb => Sys2Proof.Machine.execTimeAgeing mb s
  | .timeStatus mb => Sys2Proof.Machine.execTimeStatus mb s
  | .pointSet mb => Sys2Proof.Machine.execPointSet mb s
  | .pointGet mb => Sys2Proof.Machine.execPointGet mb s
  | .intensityWrite mb => Sys2Proof.Machine.execIntensityWrite mb s
  | .intensityRead mb => Sys2Proof.Machine.execIntensityRead mb s
  | .attestMeasure mb => Sys2Proof.Machine.execAttestMeasure mb s
  | .attestExtend mb => Sys2Proof.Machine.execAttestExtend mb s
  | .attestPath mb => Sys2Proof.Machine.execAttestPath mb s
  | .attestReport mb => Sys2Proof.Machine.execAttestReport mb s
  | .debugChallenge mb => Sys2Proof.Machine.execDebugChallenge mb s
  | .debugUnlock mb => Sys2Proof.Machine.execDebugUnlock mb s
  | .mapRead mb => Sys2Proof.Machine.execMapRead mb s
  | .maskForce mb => Sys2Proof.Machine.execMaskForce mb s
  | .retire mb => Sys2Proof.Machine.execRetire mb s
  | .emitterSet mb => Sys2Proof.Machine.execEmitterSet mb s
  | .emitterGet mb => Sys2Proof.Machine.execEmitterGet mb s
  | .scannerSet mb => Sys2Proof.Machine.execScannerSet mb s
  | .scannerGet mb => Sys2Proof.Machine.execScannerGet mb s
  | .senseSet mb => Sys2Proof.Machine.execSenseSet mb s
  | .senseGet mb => Sys2Proof.Machine.execSenseGet mb s
  | .loopSet mb => Sys2Proof.Machine.execLoopSet mb s
  | .loopGet mb => Sys2Proof.Machine.execLoopGet mb s
  | .streamSet mb => Sys2Proof.Machine.execStreamSet mb s
  | .streamGet mb => Sys2Proof.Machine.execStreamGet mb s
  | .netSet mb => Sys2Proof.Machine.execNetSet mb s
  | .netGet mb => Sys2Proof.Machine.execNetGet mb s
  | .driveRead mb => Sys2Proof.Machine.execDriveRead mb s
  | .emitStatus mb => Sys2Proof.Machine.execEmitStatus mb s
  | .emitCounters mb => Sys2Proof.Machine.execEmitCounters mb s
  | .scanStats mb => Sys2Proof.Machine.execScanStats mb s
  | .entryRead mb => Sys2Proof.Machine.execEntryRead mb s
  | .senseValues mb => Sys2Proof.Machine.execSenseValues mb s
  | .loopRead mb => Sys2Proof.Machine.execLoopRead mb s
  | .loopStatus mb => Sys2Proof.Machine.execLoopStatus mb s
  | .subsRead mb => Sys2Proof.Machine.execSubsRead mb s
  | .portStatus mb => Sys2Proof.Machine.execPortStatus mb s
  | .portStats mb => Sys2Proof.Machine.execPortStats mb s
  | .peatConfigRead mb => Sys2Proof.Machine.execPeatConfigRead mb s
  | .peatDescriptors mb => Sys2Proof.Machine.execPeatDescriptors mb s
  | .hookResult mb => Sys2Proof.Machine.execHookResult mb s
  | .safeRead mb => Sys2Proof.Machine.execSafeRead mb s
  | .safeStatus mb => Sys2Proof.Machine.execSafeStatus mb s
  | .hstStatus mb => Sys2Proof.Machine.execHstStatus mb s
  | .ipGet mb => Sys2Proof.Machine.execIpGet mb s
  | .macsecStatus mb => Sys2Proof.Machine.execMacsecStatus mb s
  | .netStatus mb => Sys2Proof.Machine.execNetStatus mb s
  | .emitClear mb => Sys2Proof.Machine.execEmitClear mb s
  | .scanClear mb => Sys2Proof.Machine.execScanClear mb s
  | .loopClear mb => Sys2Proof.Machine.execLoopClear mb s
  | .portClear mb => Sys2Proof.Machine.execPortClear mb s
  | .safeClear mb => Sys2Proof.Machine.execSafeClear mb s
  | .driveWrite mb => Sys2Proof.Machine.execDriveWrite mb s
  | .emitSelftest mb => Sys2Proof.Machine.execEmitSelftest mb s
  | .scanStart mb => Sys2Proof.Machine.execScanStart mb s
  | .scanStop mb => Sys2Proof.Machine.execScanStop mb s
  | .entryWrite mb => Sys2Proof.Machine.execEntryWrite mb s
  | .ringRead mb => Sys2Proof.Machine.execRingRead mb s
  | .loopWrite mb => Sys2Proof.Machine.execLoopWrite mb s
  | .loopMode mb => Sys2Proof.Machine.execLoopMode mb s
  | .traceArm mb => Sys2Proof.Machine.execTraceArm mb s
  | .traceTrigger mb => Sys2Proof.Machine.execTraceTrigger mb s
  | .traceRead mb => Sys2Proof.Machine.execTraceRead mb s
  | .subscribe mb => Sys2Proof.Machine.execSubscribe mb s
  | .poolSet mb => Sys2Proof.Machine.execPoolSet mb s
  | .classSet mb => Sys2Proof.Machine.execClassSet mb s
  | .freeze mb => Sys2Proof.Machine.execFreeze mb s
  | .watchdogSet mb => Sys2Proof.Machine.execWatchdogSet mb s
  | .peatConfig mb => Sys2Proof.Machine.execPeatConfig mb s
  | .peatArm mb => Sys2Proof.Machine.execPeatArm mb s
  | .peatTrigger mb => Sys2Proof.Machine.execPeatTrigger mb s
  | .peatRead mb => Sys2Proof.Machine.execPeatRead mb s
  | .peatRelease mb => Sys2Proof.Machine.execPeatRelease mb s
  | .peatDisarm mb => Sys2Proof.Machine.execPeatDisarm mb s
  | .hookStart mb => Sys2Proof.Machine.execHookStart mb s
  | .safeLoad mb => Sys2Proof.Machine.execSafeLoad mb s
  | .safeConfirm mb => Sys2Proof.Machine.execSafeConfirm mb s
  | .safeResume mb => Sys2Proof.Machine.execSafeResume mb s
  | .safeStop mb => Sys2Proof.Machine.execSafeStop mb s
  | .outputAck mb => Sys2Proof.Machine.execOutputAck mb s
  | .hstRestart mb => Sys2Proof.Machine.execHstRestart mb s
  | .ipSet mb => Sys2Proof.Machine.execIpSet mb s
  | .saInstall mb => Sys2Proof.Machine.execSaInstall mb s
  | .saDelete mb => Sys2Proof.Machine.execSaDelete mb s
  | .saSwitch mb => Sys2Proof.Machine.execSaSwitch mb s
  | .destSet mb => Sys2Proof.Machine.execDestSet mb s
  | .hstPeer mb => Sys2Proof.Machine.execHstPeer mb s
  | .syncCode mb => Sys2Proof.Machine.execSyncCode mb s
  | .trigPulse mb => Sys2Proof.Machine.execTrigPulse mb s
  | .diagStamp mb => Sys2Proof.Machine.execDiagStamp mb s
  | .diagHist mb => Sys2Proof.Machine.execDiagHist mb s
  | .pcieLinkTrained => Sys2Proof.Machine.execPcieLinkTrained s
  | .prpSupervisionLoss => Sys2Proof.Machine.execPrpSupervisionLoss s
  | .commitCheckFailure => Sys2Proof.Machine.execCommitCheckFailure s

end Sys2Proof.Machine
end

