-- ==== Sys2Proof/Safety.lean ====
section
/-!
DEFINITION. The terms in which claims about runs are made: the form every state keeps, and what the emitter rail and the safety
outputs may be in.
-/
namespace Sys2Proof.Machine

/-- The memories are in canonical form and no write of an earlier step waits. -/
abbrev State.Inv (s : State) : Prop := Memory.wf s.ram = true ∧ s.dev.writes = []

/-- The device as a command's own effect finds it: what left in the step before and its memory writes are done. -/
def State.fresh (s : State) : Dev := { s.dev with out := [], writes := [] }

/-- No reset waits for its response, and no session outlives the device. -/
abbrev Calm (d : Dev) : Prop := d.sys.resetAfter = none ∧ (d.sys.op = .halted → d.kmp.session = none)

/-- What follows every command may touch these and nothing else: event records, Peat's waiting triggers and counts of missed ones,
trace units, the safety outputs, and what leaves the device. No condition raised in the frame is forgotten, and only levels of IRQ_N
leave the device after the command's own output. -/
def Aftermath (d d' : Dev) : Prop :=
  d' = { d with
    ev := { d.ev with raised := d'.ev.raised, fresh := d'.ev.fresh, queues := d'.ev.queues, saturatedOnce := d'.ev.saturatedOnce }
    peat := { d.peat with trigs := d'.peat.trigs, segs := d'.peat.segs }
    loops := { d.loops with traces := d'.loops.traces }
    saf := { d.saf with outs := d'.saf.outs }
    out := d'.out } ∧
  d.ev.raised <:+ d'.ev.raised ∧ ∃ levels : List Bool, d'.out = levels.map .irqN ++ d.out

/-- The command runs to a next state that holds `d`, up to the aftermath, with the memories written as `d` says. -/
def Completes (i : Instr) (s : State) (d : Dev) : Prop :=
  ∃ t, exec i s = .next t ∧ t.pending = s.pending ∧ t.ram = memWrites s.ram d.writes ∧
    Aftermath { d with writes := [] } t.dev

/-- The groups of the device's state, one for each field of `Dev`. -/
inductive Part where
  | sys
  | seq
  | prm
  | recv
  | rep
  | gauge
  | tim
  | histo
  | pts
  | emi
  | scan
  | sense
  | loops
  | saf
  | hst
  | sec
  | slu
  | peat
  | net
  | pcie
  | spi
  | sync
  | trig
  | kmp
  | diag
  | ev
  | writes
  | out
  | drawn
  deriving DecidableEq, Repr

/-- A group is the same in both devices. -/
def Part.same (d e : Dev) : Part → Prop
  | .sys => e.sys = d.sys
  | .seq => e.seq = d.seq
  | .prm => e.prm = d.prm
  | .recv => e.recv = d.recv
  | .rep => e.rep = d.rep
  | .gauge => e.gauge = d.gauge
  | .tim => e.tim = d.tim
  | .histo => e.histo = d.histo
  | .pts => e.pts = d.pts
  | .emi => e.emi = d.emi
  | .scan => e.scan = d.scan
  | .sense => e.sense = d.sense
  | .loops => e.loops = d.loops
  | .saf => e.saf = d.saf
  | .hst => e.hst = d.hst
  | .sec => e.sec = d.sec
  | .slu => e.slu = d.slu
  | .peat => e.peat = d.peat
  | .net => e.net = d.net
  | .pcie => e.pcie = d.pcie
  | .spi => e.spi = d.spi
  | .sync => e.sync = d.sync
  | .trig => e.trig = d.trig
  | .kmp => e.kmp = d.kmp
  | .diag => e.diag = d.diag
  | .ev => e.ev = d.ev
  | .writes => e.writes = d.writes
  | .out => e.out = d.out
  | .drawn => e.drawn = d.drawn

/-- Every group of the device is the same in both but those listed, which may differ. -/
def Only (ps : List Part) (d e : Dev) : Prop := ∀ p, p ∉ ps → p.same d e

/-- Mailbox `mb` next starts `c`, a command of opcode `op`, on a calm device. -/
abbrev Starts (s : State) (op mb : Nat) (c : Cmd) : Prop := Calm s.dev ∧ nextCmd op mb s.dev = some c

/-- The device with a mailbox's next command taken off those that wait. -/
def State.taken (s : State) (c : Cmd) (mb : Nat) : Dev := takeOff c mb s.fresh

/-- The command completes on `d` with the final status and payload given, and with nothing else. -/
def Answers (i : Instr) (s : State) (c : Cmd) (status : Nat) (payload : Bytes) (d : Dev) : Prop :=
  Completes i s (finish c status payload d)

/-- The command leaves the device HALTED with a cause (R31, R365): stage 0xE0, rail open with the inhibit asserted, the session ended,
the scanner stopped and both safety outputs de-energised. -/
def Halts (i : Instr) (s : State) (cause : Nat) : Prop :=
  ∃ t, exec i s = .next t ∧ t.pending = s.pending ∧ t.dev.sys.op = .halted ∧ t.dev.sys.boot = 0xE0 ∧ t.dev.sys.haltCause = cause ∧
    t.dev.sys.bootReady = true ∧ t.dev.saf.railClosed = false ∧ t.dev.emi.inhibit = true ∧ t.dev.kmp.session = none ∧
    t.dev.scan.started = false ∧ ∀ n, n < 2 → (safeOut t.dev n).energised = false


/-- The rail is closed in ARMED and RUNNING (R30), and for calibration firing at the end of cast-on (R176), and nowhere else. -/
abbrev State.railSafe (s : State) : Prop :=
  s.dev.saf.railClosed = true →
    s.dev.sys.op = .armed ∨ s.dev.sys.op = .running ∨ (s.dev.sys.op = .castOn ∧ s.dev.sys.boot = 0x60 ∧ s.dev.gauge.closed = true)

/-- Both safety outputs are de-energised. -/
abbrev State.outputsOff (s : State) : Prop := ∀ o ∈ s.dev.saf.outs, o.energised = false

end Sys2Proof.Machine
end

