-- ==== Sys2Proof/WellFormed.lean ====
section
/-!
DEFINITION. Which commands the outside world can send: every number of a thing lies among those that exist, every register value
fits its word. An ill-formed command still has a meaning, as an event that concerns nothing.
-/
namespace Sys2Proof

/-- A number lies below a bound. -/
def below (n x : Nat) : Bool := decide (x < n)

/-- Every number of a list does. -/
def allBelow (n : Nat) (l : List Nat) : Bool := l.all (below n)

/-- Every key of a list of readings does. -/
def keysBelow {α : Type} (n : Nat) (l : List (Nat × α)) : Bool := l.all (fun e => below n e.1)

/-- A mailbox number (R387). -/
def mbOk (mb : Nat) : Bool := below 10 mb

/-- A mailbox with a doorbell page: PCIe or SPI. -/
def pageMbOk (mb : Nat) : Bool := below 2 mb

/-- A mailbox of the backbone. -/
def udpMbOk (mb : Nat) : Bool := mbOk mb && !below 2 mb

/-- A port with a register space: PCIe or SPI. -/
def regPortOk (p : Nat) : Bool := p == 1 || p == 2

/-- The bytes of an IPv4 or IPv6 address. -/
def addrBytesOk (a : Bytes) : Bool := a.length == 4 || a.length == 16

/-- Groups with how many of their 64 channels were reduced. -/
def stallsOk (l : List (Nat × Nat)) : Bool := l.all (fun e => below 16 e.1 && below 65 e.2)

/-- Bin counts of lanes, 64 to a lane (R92). -/
def countsOk (l : List (Nat × List Nat)) : Bool := l.all (fun e => below 1096 e.1 && e.2.length == 64)

/-- The well-formed commands. -/
def WellFormed (i : Instr) : Bool :=
  match i with
  | .powerOnReset => true
  | .nresetAssert _ => true
  | .resetRelease _ _ _ => true
  | .pllLock => true
  | .bistComplete _ _ badSlices failedLanes failedStarts probes dark _ =>
    below 16 badSlices && allBelow 1088 failedLanes && below 256 failedStarts && keysBelow 264 probes && keysBelow 409600 dark
  | .repairMapBuilt => true
  | .romInfo mb => pageMbOk mb
  | .loadBegin mb => pageMbOk mb
  | .loadChunk mb => pageMbOk mb
  | .loadEnd mb => pageMbOk mb
  | .loaderClaimExpiry => true
  | .fwInitComplete => true
  | .castOnGaugeCollectionEnd counts => countsOk counts
  | .calibrationFiringEnd refMeans _ _ _ _ => keysBelow 1088 refMeans
  | .frameTick => true
  | .dwellTick lockLost stalled broken => allBelow 1088 lockLost && stallsOk stalled && allBelow 16 broken
  | .flushTick stalled => stallsOk stalled
  | .windowBias => true
  | .shotTick low obs => allBelow 136 low && keysBelow 272 obs
  | .startLaneEdge bank _ tap => below 8 bank && below 64 tap
  | .spadAvalanche row col spad _ _ readings => below 160 row && below 640 col && below 4 spad && keysBelow 1088 readings
  | .coarsePhaseClose => true
  | .pointFormat => true
  | .pointTagCheck flips tagXor => flips.all (fun f => below 256 f.2) && below 4294967296 tagXor
  | .tensionTick slow => allBelow 16 slow
  | .sedgeSlot code => decide (-32768 ≤ code ∧ code ≤ 32767)
  | .openWireTest => true
  | .probeRound round vf => below 17 round && keysBelow 8 vf
  | .probeConfirmSlot bank _ => below 8 bank
  | .probeBlockEnd => true
  | .darkCountPositionEnd counts => keysBelow 409600 counts
  | .gaugeRandomEdge lane _ => below 1096 lane
  | .gaugeCollectionEnd => true
  | .gaugeTableDerive lane _ => below 1096 lane
  | .testToneSlot group ohms _ => below 5 group && ohms.length == (if 3 ≤ group then 4 else 1)
  | .railSwitchTest switch _ => below 2 switch
  | .outputSwitchTest output switch _ _ => below 2 output && below 2 switch
  | .outputOvercurrent output => below 2 output
  | .emitterSelftestRun vf => keysBelow 768 vf
  | .pulseReport segment => below 136 segment
  | .pulseReportTimeout segment => below 136 segment
  | .accumulatorSubinterval base => below 5 base
  | .clockCrossCheck _ => true
  | .tussockInternalFault kind => below 4 kind
  | .tussockScrubBlock block readAt flips _ _ => below 128 block && below 128 readAt && flips.all (fun f => below 256 f.2)
  | .safetyInputSample levels => below 256 levels
  | .testPulse output readback => below 4 output && below 256 readback
  | .restartDelayExpiry output => below 2 output
  | .vsafeJudgementChange _ _ => true
  | .supplyOutOfRange _ => true
  | .unrecoverableFault => true
  | .driveStageTrip cause => below 8 cause
  | .bindOffComplete => true
  | .armLockTimeout => true
  | .ageingSlewComplete => true
  | .commitPoint => true
  | .leaseExpiry => true
  | .safePendingExpiry => true
  | .hookAJobComplete _ _ _ => true
  | .firmwareScrubBlock _ block readAt flips =>
    below 1048576 block && below 1048576 readAt && flips.all (fun f => below 256 f.2)
  | .patrolScrub region _ _ => below 3 region
  | .grantIssue port => below 3 port
  | .grantComplete port => below 3 port
  | .grantHoldWatchdog port => below 3 port
  | .ringModerationTimer ring => below 8 ring
  | .peatTriggerAccept => true
  | .peatRearm => true
  | .trigInEdge _ _ => true
  | .trigOutPulseEnd => true
  | .linkStateChange link _ => below 2 link
  | .prpFrameReceive link src seq lan sc an pn _ _ _ =>
    below 2 link && below (2 ^ 48) src && below 65536 seq && below 2 lan && below 8 sc && below 4 an && below (2 ^ 32) pn
  | .prpSupervisionSend => true
  | .gptpMessageReceive link domain kind gm _ _ _ => below 2 link && below 256 domain && below 3 kind && below (2 ^ 64) gm
  | .servoLockAchieved => true
  | .syncLossHoldover => true
  | .slavePortReselect => true
  | .arpNdReceive link kind target sender mac =>
    below 2 link && below 4 kind && addrBytesOk target && addrBytesOk sender && below (2 ^ 48) mac
  | .kmpDatagramReceive sc _ addr port _ _ => below 8 sc && addrBytesOk addr && below 65536 port
  | .kmpReassemblyTimeout mb => udpMbOk mb
  | .hstDatagramArrival _ addr port _ _ => addrBytesOk addr && below 65536 port
  | .hstReceiveCheck => true
  | .hstCycleSend conn => below 8 conn
  | .hstChangeSend conn => below 8 conn
  | .hstWatchdogExpiry conn => below 8 conn
  | .hstAutoRestart conn => below 8 conn
  | .syncCycleStart => true
  | .syncFollowerSlot => true
  | .syncBeaconMsg _ => true
  | .syncPrepareMsg _ => true
  | .syncReadyMsg _ => true
  | .syncRefuseMsg _ => true
  | .syncGoMsg _ => true
  | .syncCancelMsg _ => true
  | .syncCodeMsg _ => true
  | .syncXtrigMsg _ => true
  | .syncDeadline => true
  | .syncBeaconLoss => true
  | .doorbell mb value => pageMbOk mb && below (2 ^ 32) value
  | .rspCiWrite mb value => pageMbOk mb && below (2 ^ 32) value
  | .bulkRelease mb => pageMbOk mb
  | .irqStatusClear mb value => pageMbOk mb && below (2 ^ 32) value
  | .errInfoRead mb => pageMbOk mb
  | .errCountRead mb => pageMbOk mb
  | .devTimeRead mb => pageMbOk mb
  | .rptrWrite ring value => below 8 ring && below (2 ^ 32) value
  | .registerWrite port addr _ => regPortOk port && below 0x40000 addr
  | .pcieFunctionReset cause => below 5 cause
  | .spiWrite addr _ _ => below (2 ^ 32) addr
  | .spiRead addr _ _ => below (2 ^ 32) addr
  | .spiStatus _ => true
  | .spiStream _ _ => true
  | .spiStrapReset => true
  | .sysInfo mb => mbOk mb
  | .sysHealth mb => mbOk mb
  | .sysReset mb => mbOk mb
  | .arm mb => mbOk mb
  | .start mb => mbOk mb
  | .stop mb => mbOk mb
  | .disarm mb => mbOk mb
  | .bindOff mb => mbOk mb
  | .eventRoute mb => mbOk mb
  | .abort mb => mbOk mb
  | .getStatus mb => mbOk mb
  | .sessionOpen mb => mbOk mb
  | .sessionClose mb => mbOk mb
  | .sessionCommit mb => mbOk mb
  | .sessionRollback mb => mbOk mb
  | .sessionRenew mb => mbOk mb
  | .planWrite mb => mbOk mb
  | .planRead mb => mbOk mb
  | .planCheck mb => mbOk mb
  | .planColumns mb => mbOk mb
  | .syncStart mb => mbOk mb
  | .syncCancel mb => mbOk mb
  | .syncStatus mb => mbOk mb
  | .recvSet mb => mbOk mb
  | .recvGet mb => mbOk mb
  | .alignWrite mb => mbOk mb
  | .alignRead mb => mbOk mb
  | .gaugeRead mb => mbOk mb
  | .laneStats mb => mbOk mb
  | .laneStatus mb => mbOk mb
  | .laneClear mb => mbOk mb
  | .timeSet mb => mbOk mb
  | .timeGet mb => mbOk mb
  | .timeAgeing mb => mbOk mb
  | .timeStatus mb => mbOk mb
  | .pointSet mb => mbOk mb
  | .pointGet mb => mbOk mb
  | .intensityWrite mb => mbOk mb
  | .intensityRead mb => mbOk mb
  | .attestMeasure mb => mbOk mb
  | .attestExtend mb => mbOk mb
  | .attestPath mb => mbOk mb
  | .attestReport mb => mbOk mb
  | .debugChallenge mb => mbOk mb
  | .debugUnlock mb => mbOk mb
  | .mapRead mb => mbOk mb
  | .maskForce mb => mbOk mb
  | .retire mb => mbOk mb
  | .emitterSet mb => mbOk mb
  | .emitterGet mb => mbOk mb
  | .scannerSet mb => mbOk mb
  | .scannerGet mb => mbOk mb
  | .senseSet mb => mbOk mb
  | .senseGet mb => mbOk mb
  | .loopSet mb => mbOk mb
  | .loopGet mb => mbOk mb
  | .streamSet mb => mbOk mb
  | .streamGet mb => mbOk mb
  | .netSet mb => mbOk mb
  | .netGet mb => mbOk mb
  | .driveRead mb => mbOk mb
  | .emitStatus mb => mbOk mb
  | .emitCounters mb => mbOk mb
  | .scanStats mb => mbOk mb
  | .entryRead mb => mbOk mb
  | .senseValues mb => mbOk mb
  | .loopRead mb => mbOk mb
  | .loopStatus mb => mbOk mb
  | .subsRead mb => mbOk mb
  | .portStatus mb => mbOk mb
  | .portStats mb => mbOk mb
  | .peatConfigRead mb => mbOk mb
  | .peatDescriptors mb => mbOk mb
  | .hookResult mb => mbOk mb
  | .safeRead mb => mbOk mb
  | .safeStatus mb => mbOk mb
  | .hstStatus mb => mbOk mb
  | .ipGet mb => mbOk mb
  | .macsecStatus mb => mbOk mb
  | .netStatus mb => mbOk mb
  | .emitClear mb => mbOk mb
  | .scanClear mb => mbOk mb
  | .loopClear mb => mbOk mb
  | .portClear mb => mbOk mb
  | .safeClear mb => mbOk mb
  | .driveWrite mb => mbOk mb
  | .emitSelftest mb => mbOk mb
  | .scanStart mb => mbOk mb
  | .scanStop mb => mbOk mb
  | .entryWrite mb => mbOk mb
  | .ringRead mb => mbOk mb
  | .loopWrite mb => mbOk mb
  | .loopMode mb => mbOk mb
  | .traceArm mb => mbOk mb
  | .traceTrigger mb => mbOk mb
  | .traceRead mb => mbOk mb
  | .subscribe mb => mbOk mb
  | .poolSet mb => mbOk mb
  | .classSet mb => mbOk mb
  | .freeze mb => mbOk mb
  | .watchdogSet mb => mbOk mb
  | .peatConfig mb => mbOk mb
  | .peatArm mb => mbOk mb
  | .peatTrigger mb => mbOk mb
  | .peatRead mb => mbOk mb
  | .peatRelease mb => mbOk mb
  | .peatDisarm mb => mbOk mb
  | .hookStart mb => mbOk mb
  | .safeLoad mb => mbOk mb
  | .safeConfirm mb => mbOk mb
  | .safeResume mb => mbOk mb
  | .safeStop mb => mbOk mb
  | .outputAck mb => mbOk mb
  | .hstRestart mb => mbOk mb
  | .ipSet mb => mbOk mb
  | .saInstall mb => mbOk mb
  | .saDelete mb => mbOk mb
  | .saSwitch mb => mbOk mb
  | .destSet mb => mbOk mb
  | .hstPeer mb => mbOk mb
  | .syncCode mb => mbOk mb
  | .trigPulse mb => mbOk mb
  | .diagStamp mb => mbOk mb
  | .diagHist mb => mbOk mb
  | .pcieLinkTrained => true
  | .prpSupervisionLoss => true
  | .commitCheckFailure => true

end Sys2Proof
end

