-- ==== Sys2Proof/Certificates/Slice0/Obligations.lean ====
section
/-!
DEFINITION. The statements made for the provers.
-/

open Sys2Proof Sys2Proof.Machine

/-- A step takes the command at the front of the queue and runs it with the queue's rest; on an empty queue the block idles, which is
the model's choice (DESIGN CHOICE, assumption log, entry 4). -/
def Obligations.StepTakesTheFrontCommand : Prop :=
  (∀ (c : Instr) (rest : List Instr) (s : State), step { s with pending := c :: rest } = exec c { s with pending := rest }) ∧
  ∀ s : State, s.pending = [] → step s = .next s

/-- Right after reset the memories are in canonical form and no write waits, the rail is open, both safety outputs are de-energised, and
there is no session in HALTED. -/
def Obligations.ResetHasTheForm : Prop :=
  State.reset.Inv ∧ State.reset.dev.saf.railClosed = false ∧ State.reset.railSafe ∧ State.reset.outputsOff ∧
    (State.reset.dev.sys.op = .halted → State.reset.dev.kmp.session = none)

/-- From every state whose memories are in canonical form with no write waiting, and in which there is no session if the device is
HALTED, a step that answers a next state leaves one of that form (R403: HALTED ends the session). -/
def Obligations.EveryStepKeepsTheForm : Prop :=
  ∀ s t : State, s.Inv → (s.dev.sys.op = .halted → s.dev.kmp.session = none) → step s = .next t →
    t.Inv ∧ (t.dev.sys.op = .halted → t.dev.kmp.session = none)

/-- From every state in which the emitter rail is closed in ARMED, in RUNNING or for calibration firing alone (cast-on at stage 0x60 with
Gauge's collection at its end, R176), a step that answers a next state leaves one of that form. -/
def Obligations.RailIsClosedOnlyWhereEmissionIsPermitted : Prop :=
  ∀ s t : State, s.railSafe → step s = .next t → t.railSafe

/-- After every command an energised safety output meets its conditions: RUNNING, no field of its VIOLATED, no stop input at demand,
no lockout, VSAFE in range, and every HST condition mapped to it (R267); and a field set in force from a committed
configuration, outside debug scope 0x02 (R382). -/
def Obligations.EnergisedOutputsMeetTheirConditions : Prop :=
  ∀ (i : Instr) (s t : State), exec i s = .next t → ∀ n, n < 2 → (safeOut t.dev n).energised = true →
    t.dev.sys.op = .running ∧ outViolated t.dev n = false ∧
      (∀ k, k < 8 → inFunction t.dev k = 1 → inDemand t.dev k = false) ∧ (safeOut t.dev n).locked = false ∧
      t.dev.saf.vsafeOk = true ∧ hstPermits t.dev n = true ∧ t.dev.saf.set ≠ none ∧ t.dev.saf.committed ≠ none ∧
      bit t.dev.sec.scopes 1 = false

/-- Ending a command (`finish`) with a payload of at most 1 008 bytes. On a page with a free slot and nothing waiting: header and payload
are written into the slot of RSP_PI (slot 0 while the ROM serves it), RSP_PI moves on by one, the RSP cause is set, and once the
firmware serves the page the response also waits for a grant of requester 0x3 on the page's port. With no free slot the response
waits and nothing is written. A backbone mailbox queues a message to where its command came from on port 0. Each time the final
status is remembered first of sixteen, no other mailbox changes, and only mailboxes, ports' messages, MSI-X vectors, events, memory
writes and what leaves the device differ (R393, R394, R405, R407). -/
def Obligations.FinalResponsesReachTheirMailbox : Prop :=
  ∀ (c : Cmd) (status : Nat) (payload : Bytes) (d : Dev), payload.length ≤ 1008 → c.mb < d.kmp.mbs.length →
    let e := finish c status payload d
    let m := mbGet d c.mb
    let n := mbGet e c.mb
    let bytes := rspHeader c status payload.length true false ++ payload
    let msgs (x : Dev) (p : Nat) : List Msg := (portGet x.slu p).msgs
    (c.mb < 2 → m.rspQueue = [] → rspRoom m = true →
      e.writes = d.writes ++ [(rspSlotAddr c.mb (if m.rom then 0 else m.rspPi), bytes)] ∧
        n.rspPi = (m.rspPi + 1) % 65536 ∧ n.rspQueue = [] ∧ bit n.irqStatus 0 = true ∧
        (c.mb + 1 < d.slu.ports.length → msgs e (c.mb + 1) = msgs d (c.mb + 1) ++ (if m.rom then [] else
          [{ requester := 3, bytes := bytes, addr := [], udpPort := 0, srcPort := 0, mb := c.mb, tag := c.tag }]))) ∧
    (c.mb < 2 → rspRoom m = false →
      e.writes = d.writes ∧ n.rspPi = m.rspPi ∧ e.slu = d.slu ∧
        n.rspQueue = m.rspQueue ++ [⟨c.tag, rspHeader c status payload.length true false, payload, false, true⟩]) ∧
    (2 ≤ c.mb → 0 < d.slu.ports.length →
      e.writes = d.writes ∧ msgs e 0 = msgs d 0 ++
        [{ requester := 3, bytes := bytes, addr := c.src, udpPort := c.srcPort, srcPort := 51100, mb := c.mb, tag := c.tag }]) ∧
    n.finals = (⟨c.tag, c.op, status⟩ :: m.finals).take 16 ∧
    (∀ k, k ≠ c.mb → mbGet e k = mbGet d k) ∧ e.kmp.session = d.kmp.session ∧ e.kmp.staged = d.kmp.staged ∧
      Only [.kmp, .slu, .pcie, .ev, .writes, .out] d e

/-- Raising a condition of a source: a second time before the next frame it changes nothing; the first time, while the device produces
records for the source, it puts one record with the frame, the device time and the detail cut or filled to 16 bytes into the queue
of every port that the source's route names (port 0 only with a destination, 0x0B23), where the queue has room for it, and
counts it lost otherwise; 64 of the 512 places serve sources 512 to 639 alone (R458, R462, R463). The record stands after all
earlier ones but those of its own time stamp with a greater source or condition, which is the model's reading of "in one clock
cycle" (DEDUCED, assumption log, entry 79). Only event state changes. -/
def Obligations.EventsAreRecordedOnceAFrame : Prop :=
  ∀ (src cond : Nat) (detail : Bytes) (d : Dev),
    (∀ x : Bytes, raise src cond x (raise src cond detail d) = raise src cond detail d) ∧ Only [.ev] d (raise src cond detail d) ∧
    (evOpen d src = true → (src, cond) ∉ d.ev.raised → ∀ p, p < 3 →
      let q := evQueueOf d p
      let r := evQueueOf (raise src cond detail d) p
      let rec' : EvRec := ⟨src, cond, d.seq.frame, d.sys.now, fitTo 16 detail⟩
      let safety := 512 ≤ src ∧ src ≤ 639
      let others := (q.recs.filter (fun x => !evIsSafety x)).length
      if bit (evRoute d src) (evRouteBit p) = false ∨ (p = 0 ∧ prmGet d 0x0B23 = 0xFF) then r = q
      else if q.recs.length < 512 ∧ (safety ∨ others < 448) then
        ∃ before later, q.recs = before ++ later ∧ r = { q with recs := before ++ rec' :: later } ∧
          (∀ x ∈ later, x.time = d.sys.now ∧ (src < x.source ∨ (src = x.source ∧ cond < x.cond))) ∧
          ∀ x xs, before = xs ++ [x] → ¬ (x.time = d.sys.now ∧ (src < x.source ∨ (src = x.source ∧ cond < x.cond)))
      else r = { q with lost := true, lostCount := min (2 ^ 32 - 1) (q.lostCount + 1) })

/-- What the reads of the system, session, attestation and ROM groups answer, each ending OK: SYS_INFO, SESSION_RENEW and ROM_INFO their
whole payload; SYS_HEALTH a payload that begins with the fields given; ATTEST_MEASURE all of its payload but one byte of flags; GET_STATUS
the state, final status and opcode of its target, waiting, running, accepted, final or unknown. Each leaves the device as the taking
of the command left it, but for its response; ROM_INFO of the port that holds the loader's claim also keeps the claim alive. -/
def Obligations.SystemReadsAnswer : Prop :=
  ∀ (s : State) (mb : Nat) (c : Cmd),
    (Starts s 0x0100 mb c → Answers (.sysInfo mb) s c stOk
      (deviceId ++ le 4 romVersion ++ le 4 s.dev.sec.app.version ++ le 4 s.dev.sec.safety.version ++ le 4 s.dev.sec.app.pairId ++
        le 1 s.dev.sys.boot ++ le 1 (opCode s.dev.sys.op) ++ le 1 s.dev.sys.haltCause ++ zeros 1 ++ le 8 s.dev.sys.now ++ zeros 4)
      (s.taken c mb)) ∧
    (Starts s 0x0101 mb c → ∃ rest : Bytes, Answers (.sysHealth mb) s c stOk
      (le 4 0x4852E1A5 ++ le 2 1 ++ le 2 1344 ++ le 8 s.dev.sys.now ++ le 4 s.dev.seq.frame ++ le 1 s.dev.sys.boot ++
        le 1 (opCode s.dev.sys.op) ++ le 1 s.dev.sys.haltCause ++ le 1 (servoCode s.dev.tim.servo) ++ le 4 s.dev.seq.plan.planId ++
        le 4 s.dev.rep.number ++ leS 2 (hottest s.dev 0x1A 4) ++ leS 2 (hottest s.dev 0x1E 4) ++ rest)
      (s.taken c mb)) ∧
    (Starts s 0x0111 mb c → ∃ p : Bytes, Answers (.getStatus mb) s c stOk p (s.taken c mb) ∧
      let tag := rdU c.payload 0 2
      let m := mbGet (s.taken c mb) c.mb
      let waits := m.waiting.find? (fun x => x.tag == tag)
      let runs := m.running.find? (fun x => x.tag == tag)
      let ended := m.finals.find? (fun x => x.tag == tag)
      (∀ x, waits = some x → p = le 1 0 ++ zeros 1 ++ le 2 0 ++ le 2 x.op ++ zeros 2) ∧
      (∀ x, waits = none → runs = some x →
        p = le 1 (if overtakes x.op then 1 else 2) ++ zeros 1 ++ le 2 0 ++ le 2 x.op ++ zeros 2) ∧
      (∀ x, waits = none → runs = none → ended = some x → p = le 1 3 ++ zeros 1 ++ le 2 x.status ++ le 2 x.op ++ zeros 2) ∧
      (waits = none → runs = none → ended = none →
        p = if c.tag = tag then le 1 1 ++ zeros 1 ++ le 2 0 ++ le 2 c.op ++ zeros 2 else le 1 0xFF ++ zeros 1 ++ le 2 0 ++ le 2 0 ++ zeros 2)) ∧
    (Starts s 0x0204 mb c → Answers (.sessionRenew mb) s c stOk (le 4 (leaseLeft s.dev)) (s.taken c mb)) ∧
    (Starts s 0x1200 mb c → ∃ flags : Nat, Answers (.attestMeasure mb) s c stOk
      (s.dev.sec.measures.flatten ++ le 2 (fusesLeft s.dev) ++ le 2 (leafCode s.dev) ++ le 1 (leavesLeft s.dev) ++ le 1 flags ++ zeros 2)
      (s.taken c mb)) ∧
    (Starts s 0x01F0 mb c → Answers (.romInfo mb) s c stOk
      (le 4 romVersion ++ deviceId ++ le 1 s.dev.sys.boot ++ le 1 s.dev.sys.haltCause ++
        le 1 (s.dev.sec.owner + flag s.dev.sec.app.verified 2 + flag s.dev.sec.safety.verified 3) ++ le 1 s.dev.sec.lastReason ++
        le 2 s.dev.sec.burned.length ++ le 1 (slicesOn s.dev) ++ le 1 (segmentsFailed s.dev) ++
        le 2 s.dev.recv.lanesFailed.length ++ zeros 2 ++ le 8 s.dev.sys.now)
      (touchClaim (portOfMb c.mb) (s.taken c mb)))

/-- Where Tussock's self-tests have not passed, its present word is not zero, VSAFE is out of range or no safety configuration is
committed, and no state command waits, ARM ends NOT_PERMITTED, and the device is left as the taking of the command left it but for
the response. -/
def Obligations.ArmNeedsHealthyTussock : Prop :=
  ∀ (s : State) (mb : Nat) (c : Cmd), Starts s 0x0103 mb c → stateCmdWaits (s.taken c mb) = false →
    (s.dev.saf.tested = false ∨ presentWord s.dev ≠ 0 ∨ s.dev.saf.vsafeOk = false ∨ s.dev.saf.committed = none) →
    Answers (.arm mb) s c stNotPermitted [] (s.taken c mb)

/-- ARM, START, STOP and DISARM with no state command waiting: in the state of its card each answers ACCEPTED and runs on; ARM, which
also needs a healthy Tussock, the drive in a mode and not tripped, the scanner below its limits and a plan within the budget, clears
the switch tests, and with the scanner stopped asks for its start at the next frame tick; in another state START, STOP and DISARM end
NOT_PERMITTED. While a state command waits each of the four ends BUSY. A refused command has no effect but its response. -/
def Obligations.StateCommandsAreJudged : Prop :=
  ∀ (s : State) (mb : Nat) (c : Cmd),
    (stateCmdWaits (s.taken c mb) = false →
      (Starts s 0x0103 mb c → s.dev.sys.op = .ready → bit s.dev.sec.scopes 1 = false → healthy s.dev = true → driveMode s.dev ≠ 0 →
        s.dev.scan.tripped = false → anyAbove s.dev 90 = false → planFitsNow s.dev = true →
        (s.dev.scan.started = true → Completes (.arm mb) s (modSaf (fun x => { x with armTests := 0 }) (accept c (s.taken c mb)))) ∧
        (s.dev.scan.started = false → ∃ d, Completes (.arm mb) s d ∧ d.saf = { s.dev.saf with armTests := 0 } ∧
          d.scan.requests = s.dev.scan.requests ++ [(99, 0, true)] ∧ Only [.saf, .scan] (accept c (s.taken c mb)) d)) ∧
      (Starts s 0x0104 mb c → s.dev.sys.op = .armed → Completes (.start mb) s (accept c (s.taken c mb))) ∧
      (Starts s 0x0105 mb c → s.dev.sys.op = .running → Completes (.stop mb) s (accept c (s.taken c mb))) ∧
      (Starts s 0x0106 mb c → s.dev.sys.op = .armed ∨ s.dev.sys.op = .running →
        Completes (.disarm mb) s (accept c (s.taken c mb))) ∧
      (Starts s 0x0104 mb c → s.dev.sys.op ≠ .armed → Answers (.start mb) s c stNotPermitted [] (s.taken c mb)) ∧
      (Starts s 0x0105 mb c → s.dev.sys.op ≠ .running → Answers (.stop mb) s c stNotPermitted [] (s.taken c mb)) ∧
      (Starts s 0x0106 mb c → s.dev.sys.op ≠ .armed → s.dev.sys.op ≠ .running →
        Answers (.disarm mb) s c stNotPermitted [] (s.taken c mb))) ∧
    (stateCmdWaits (s.taken c mb) = true →
      (Starts s 0x0103 mb c → Answers (.arm mb) s c stBusy [] (s.taken c mb)) ∧
      (Starts s 0x0104 mb c → Answers (.start mb) s c stBusy [] (s.taken c mb)) ∧
      (Starts s 0x0105 mb c → Answers (.stop mb) s c stBusy [] (s.taken c mb)) ∧
      (Starts s 0x0106 mb c → Answers (.disarm mb) s c stBusy [] (s.taken c mb)))

/-- EVENT_ROUTE: on a run of sources within 0 to 1 023 it writes the route to every source of the run and to no other and ends OK, and
nothing else of the device changes; a run outside the sources, or one with the PCIe bit set and a vector below 10 that is not wholly
within 512 to 639, ends BAD_PARAM without effect. -/
def Obligations.EventRouteWritesItsRun : Prop :=
  ∀ (s : State) (mb : Nat) (c : Cmd), Starts s 0x0108 mb c →
    let first := rdU c.payload 0 2
    let count := rdU c.payload 2 2
    let route := rdU c.payload 4 1
    let judged := bit route 5 = true ∧ ¬ (512 ≤ first ∧ first + count ≤ 640)
    if first ≤ 1023 ∧ 1 ≤ count ∧ first + count ≤ 1024 ∧ ¬ (judged ∧ route % 32 < 10) then
      ∃ routes : Tab Nat,
        Answers (.eventRoute mb) s c stOk [] (modEv (fun e => { e with routes := routes }) (s.taken c mb)) ∧
        ∀ src, evRoute (modEv (fun e => { e with routes := routes }) s.dev) src =
          if first ≤ src ∧ src < first + count then route else evRoute s.dev src
    else Answers (.eventRoute mb) s c stBadParam [] (s.taken c mb)

/-- SESSION_OPEN: while a session exists it ends SESSION_HELD. With none, a lease of 500 to 60 000 ms, 2 000 ms where 0 is asked, opens one:
a non-zero 32-bit identifier unlike the sixteen before it, the deadline one lease away, an empty staged set, and event 640 + 8m + 1;
the answer carries identifier and lease. Another lease ends BAD_PARAM. Refusals have no effect. -/
def Obligations.SessionOpens : Prop :=
  ∀ (s : State) (mb : Nat) (c : Cmd), Starts s 0x0200 mb c → s.dev.sys.op ≠ .halted →
    let asked := rdU c.payload 0 4
    let lease := if asked = 0 then 2000 else asked
    (s.dev.kmp.session ≠ none → Answers (.sessionOpen mb) s c stSessionHeld [] (s.taken c mb)) ∧
    (s.dev.kmp.session = none →
      if 500 ≤ lease ∧ lease ≤ 60000 then
        ∃ ident, 1 ≤ ident ∧ ident < 2 ^ 32 ∧ ident ∉ s.dev.kmp.lastIds.take 16 ∧
          Answers (.sessionOpen mb) s c stOk (le 4 ident ++ le 4 lease)
            (raise (640 + 8 * c.mb + 1) 0 [] (draw (modKmp (fun k => { k with
              session := some ⟨ident, c.mb, lease, tussNow s.dev + lease * 1000000⟩, staged := ConfigSet.empty }) (s.taken c mb))))
      else Answers (.sessionOpen mb) s c stBadParam [] (s.taken c mb))

/-- LEASE_EXPIRY of a session, and SESSION_CLOSE with nothing staged and no commit running, leave: no session, nothing staged, no pending
safety configuration, no port frozen by it, no Peat readout of it, and its identifier first among the sixteen remembered.
LEASE_EXPIRY also ends a running commit, at the session's deadline; it and SESSION_CLOSE touch no group of the device but those named. -/
def Obligations.SessionEnds : Prop :=
  ∀ (s : State) (x : Session), s.dev.kmp.session = some x → s.dev.sys.resetAfter = none →
    let gone (d : Dev) : Prop := d.kmp.session = none ∧ d.kmp.staged = ConfigSet.empty ∧ d.saf.pending = none ∧
      (∀ p, p < 3 → (portGet d.slu p).freezeBy ≠ some x.ident) ∧ (∀ r, d.peat.readout = some r → r.session ≠ x.ident) ∧
      d.kmp.lastIds = (x.ident :: s.dev.kmp.lastIds).take 16
    (∃ d, Completes .leaseExpiry s d ∧ gone d ∧ d.kmp.commit = none ∧ d.sys = (advanceTuss x.deadline s.fresh).sys ∧
      Only [.sys, .saf, .slu, .peat, .pcie, .kmp, .ev, .writes, .out] s.fresh d) ∧
    (∀ mb c, Starts s 0x0201 mb c → s.dev.kmp.staged = ConfigSet.empty → s.dev.kmp.commit = none →
      ∃ d, Completes (.sessionClose mb) s d ∧ gone d ∧
        Only [.saf, .slu, .peat, .pcie, .kmp, .ev, .writes, .out] s.fresh d)

/-- SESSION_ROLLBACK empties the staged set and ends OK, and BUSY while a commit runs; SESSION_CLOSE is BUSY with a staged set or while a
commit runs. The refusals have no effect. -/
def Obligations.StagedSetIsDiscardedOnlyByRollback : Prop :=
  ∀ (s : State) (mb : Nat) (c : Cmd),
    (Starts s 0x0203 mb c → s.dev.kmp.commit = none →
      Answers (.sessionRollback mb) s c stOk [] (modKmp (fun k => { k with staged := ConfigSet.empty }) (s.taken c mb))) ∧
    (Starts s 0x0203 mb c → s.dev.kmp.commit ≠ none → Answers (.sessionRollback mb) s c stBusy [] (s.taken c mb)) ∧
    (Starts s 0x0201 mb c → s.dev.kmp.staged ≠ ConfigSet.empty ∨ s.dev.kmp.commit ≠ none →
      Answers (.sessionClose mb) s c stBusy [] (s.taken c mb))

/-- SESSION_COMMIT with no commit running and no set held, its flags and set identifier as the card admits them, answers ACCEPTED and
holds the outcome of the check pass on the staged set. COMMIT_POINT of a commit whose checks passed, with nothing to retire, empties
the staged set, ends the commit with OK and puts the set among those that wait for their frame, or holds it where the commit is a
synchronised one. COMMIT_CHECK_FAILURE of one whose checks failed ends it with that failure and leaves the set staged. -/
def Obligations.CommitRuns : Prop :=
  ∀ (s : State),
    (∀ mb c, Starts s 0x0202 mb c → s.dev.kmp.commit = none → s.dev.sync.held = none →
      let set := s.dev.kmp.staged
      let setId := rdU c.payload 4 4
      (if bit (rdU c.payload 0 2) 0 = true then prmGet s.dev 0x0F0A ≠ 0 ∧ { set with plan := none, drive := [] } = ConfigSet.empty ∧
        (set.plan ≠ none ∨ set.drive ≠ []) ∧ (setId ≠ 0 ↔ set.drive ≠ []) else setId = 0) →
      ∃ v : Verdict, v = checkSet (accept c (s.taken c mb)) set ∧
        Completes (.sessionCommit mb) s (modKmp (fun k => { k with
          commit := some ⟨c.mb, c.tag, bit (rdU c.payload 0 2) 0, setId, v.status, v.failed, v.reason, v.zone⟩ })
          (accept c (s.taken c mb)))) ∧
    (∀ k c, Calm s.dev → s.dev.kmp.commit = some k → k.status = stOk → checkReady s.fresh s.dev.kmp.staged = none →
      findTag s.fresh k.mb k.tag = some c → s.dev.kmp.staged.retire = [] →
      ∃ d, Completes .commitPoint s d ∧ d.kmp.commit = none ∧ d.kmp.staged = ConfigSet.empty ∧ d.kmp.session = s.dev.kmp.session ∧
        (k.sync = false → d.sync = s.dev.sync ∧
          d.prm = { s.dev.prm with pending := s.dev.prm.pending ++ [⟨s.dev.kmp.staged, applyFrame s.fresh s.dev.kmp.staged⟩] }) ∧
        (k.sync = true → d.prm = s.dev.prm ∧ ∃ h, d.sync = { s.dev.sync with held := some h } ∧ h.set = s.dev.kmp.staged ∧
          h.setId = k.setId ∧ h.state = 1) ∧
        Only [.prm, .slu, .pcie, .sync, .kmp, .ev, .writes, .out] s.fresh d) ∧
    (∀ k c, Calm s.dev → s.dev.kmp.commit = some k → k.status ≠ stOk → findTag s.fresh k.mb k.tag = some c →
      Completes .commitCheckFailure s
        (finishRunning c k.status (commitRsp s.fresh s.dev.kmp.staged 0xFFFFFFFF ⟨k.status, k.failed, k.reason, k.zone⟩)
          (raise (640 + 8 * k.mb + 5) 0 [] (modKmp (fun x => { x with commit := none }) s.fresh))))

/-- ABORT: a target that waits ends ABORTED and never starts, and so does an ARM that runs; one that runs and whose card has no abort
point runs on, and ABORT waits among the running commands; for one that is final ABORT ends ABORT_TOO_LATE with its status; an unknown
target, or one that is an ABORT or a GET_STATUS, ends BAD_PARAM. -/
def Obligations.AbortResolvesItsTarget : Prop :=
  ∀ (s : State) (mb : Nat) (c : Cmd), Starts s 0x0110 mb c →
    let d := s.taken c mb
    let tag := rdU c.payload 0 2
    let waits := (mbGet d c.mb).waiting.find? (fun x => x.tag == tag)
    let runs := (mbGet d c.mb).running.find? (fun x => x.tag == tag)
    let ended := (mbGet d c.mb).finals.find? (fun x => x.tag == tag)
    (∀ x, waits = some x → overtakes x.op = false →
      Answers (.abort mb) s c stOk (le 2 stAborted ++ zeros 2)
        (finish x stAborted [] (modMb c.mb (fun m => { m with waiting := m.waiting.filter (fun y => !sameCmd y x) }) d))) ∧
    (∀ x, waits = none → runs = some x → x.op = 0x0103 →
      Answers (.abort mb) s c stOk (le 2 stAborted ++ zeros 2) (finishRunning x stAborted [] d)) ∧
    (∀ x, waits = none → runs = some x → overtakes x.op = false →
      x.op ∉ [0x0103, 0x0202, 0x0304, 0x0707, 0x0A07, 0x0A09, 0x0C02, 0x0C05, 0x0D00, 0x1001] →
      Completes (.abort mb) s (modMb c.mb (fun m => { m with running := m.running ++ [c] }) d)) ∧
    (∀ x, waits = none → runs = none → ended = some x → overtakes x.op = false →
      Answers (.abort mb) s c stAbortTooLate (le 2 x.status ++ zeros 2) d) ∧
    (∀ op, overtakes op = true → (∃ x, waits = some x ∧ x.op = op) ∨ (waits = none ∧ ∃ x, runs = some x ∧ x.op = op) ∨
        (waits = none ∧ runs = none ∧ ∃ x, ended = some x ∧ x.op = op) → Answers (.abort mb) s c stBadParam [] d) ∧
    (waits = none → runs = none → ended = none → Answers (.abort mb) s c stBadParam [] d)

/-- SYS_RESET with another word than its confirmation word ends BAD_PARAM without effect. With it, sent on a page with a free slot and no
response waiting, the device is reset as soon as the response stands in its slot: every system register is at its reset value, NRESET
low, the SPIV strap kept; the mailboxes are as after reset, burned fuses are kept, and the response's header stands in memory. -/
def Obligations.SysResetFollowsItsResponse : Prop :=
  ∀ (s : State) (mb : Nat) (c : Cmd), Starts s 0x0102 mb c →
    (rdU c.payload 0 4 ≠ 0xE1A50001 → Answers (.sysReset mb) s c stBadParam [] (s.taken c mb)) ∧
    (rdU c.payload 0 4 = 0xE1A50001 → c.mb < 2 → c.mb < s.dev.kmp.mbs.length → (mbGet s.dev c.mb).rspQueue = [] →
      rspRoom (mbGet s.dev c.mb) = true →
      ∃ t, exec (.sysReset mb) s = .next t ∧ t.pending = s.pending ∧ t.dev.sys = 
        { Sys.reset with nresetLow := true, porHeld := false, strapSpiv := s.dev.sys.strapSpiv, vinOk := true } ∧
        t.dev.sec.burned = s.dev.sec.burned ∧ t.dev.kmp = Dev.reset.kmp ∧
        (Memory.wf s.ram = true → memRead t.ram (rspPlace c.mb (mbGet s.dev c.mb)) 16 = rspHeader c stOk 0 true false))

/-- BIND_OFF: with another word than its confirmation word it ends BAD_PARAM; in HALTED or cast-on NOT_PERMITTED; in BIND_OFF it ends OK;
none of these has an effect. In READY, ARMED, RUNNING and SAFE_STOP it brings BIND_OFF: the rail opens with the inhibit asserted, the
session ends, the safety outputs are de-energised, queued stream units and dwells to reduce or format are discarded, and Peat is IDLE;
no group of the device but those named is touched. -/
def Obligations.BindOffBegins : Prop :=
  ∀ (s : State) (mb : Nat) (c : Cmd), Starts s 0x0107 mb c →
    (rdU c.payload 0 4 ≠ 0xE1A50002 → Answers (.bindOff mb) s c stBadParam [] (s.taken c mb)) ∧
    (rdU c.payload 0 4 = 0xE1A50002 → s.dev.sys.op = .halted ∨ s.dev.sys.op = .castOn →
      Answers (.bindOff mb) s c stNotPermitted [] (s.taken c mb)) ∧
    (rdU c.payload 0 4 = 0xE1A50002 → s.dev.sys.op = .bindOff → Answers (.bindOff mb) s c stOk [] (s.taken c mb)) ∧
    (rdU c.payload 0 4 = 0xE1A50002 → ticking s.dev = true →
      ∃ d, Completes (.bindOff mb) s d ∧ d.sys.op = .bindOff ∧ d.sys.bindOffAt = tussNow s.dev ∧ d.saf.railClosed = false ∧
        d.emi.inhibit = true ∧ d.kmp.session = none ∧ d.slu.queues = [] ∧ d.peat.state = .idle ∧ d.pts.reduce = none ∧
        d.pts.format = none ∧ (∀ n, n < 2 → (safeOut d n).energised = false) ∧
        Only [.sys, .pts, .emi, .scan, .loops, .saf, .hst, .slu, .peat, .pcie, .kmp, .ev, .writes, .out] s.fresh d)

/-- ATTEST_EXTEND extends M6 or M7 by the 48 bytes given, answers the register's new value and changes no other register; another
register ends BAD_PARAM. ATTEST_PATH, with a leaf and the LMS keys usable, keeps a path for that leaf that climbs to the digest in OTP
and ends BAD_PARAM for another; without a leaf, or with LMS off, it ends NOT_PERMITTED. ATTEST_REPORT where no LMS signature is
possible answers its body and 96 bytes and spends no leaf; where one is, it answers the body and a signature and spends a leaf, with
event 15 condition 2 at the last one, but ends BAD_LENGTH without effect on a page whose command does not ask for the bulk window. -/
def Obligations.AttestationCommands : Prop :=
  ∀ (s : State) (mb : Nat) (c : Cmd),
    (Starts s 0x1201 mb c →
      let m := rdU c.payload 0 1
      if m = 6 ∨ m = 7 then
        Answers (.attestExtend mb) s c stOk
          ((listMod s.dev.sec.measures m (fun x => sha384 (x ++ slice c.payload 4 48))).getD m [])
          (modSec (fun x => { x with measures := listMod x.measures m (fun y => sha384 (y ++ slice c.payload 4 48)) }) (s.taken c mb))
      else Answers (.attestExtend mb) s c stBadParam [] (s.taken c mb)) ∧
    (∀ q, Starts s 0x1202 mb c → s.dev.sec.q = some q → s.dev.sec.lmsOff = false →
      let path := slice c.payload 4 480
      if rdU c.payload 0 2 = q ∧ sha384 (topKey q path) = otpDigest 2 then
        Answers (.attestPath mb) s c stOk [] (modSec (fun x => { x with path := some path }) (s.taken c mb))
      else Answers (.attestPath mb) s c stBadParam [] (s.taken c mb)) ∧
    (Starts s 0x1202 mb c → s.dev.sec.q = none ∨ s.dev.sec.lmsOff = true →
      Answers (.attestPath mb) s c stNotPermitted [] (s.taken c mb)) ∧
    (Starts s 0x1203 mb c → noLmsFlags s.dev ≠ 0 → ∃ sig : Bytes, sig.length = 96 ∧
      Answers (.attestReport mb) s c stOk (reportBody (s.taken c mb) (slice c.payload 0 32) ++ sig) (draw (s.taken c mb))) ∧
    (Starts s 0x1203 mb c → noLmsFlags s.dev = 0 →
      let spent := draw (modSec (fun x => { x with leaves := x.leaves + 1 }) (s.taken c mb))
      if c.mb < 2 ∧ bit c.flags 1 = false then Answers (.attestReport mb) s c stBadLength [] (s.taken c mb)
      else ∃ sig : Bytes, Answers (.attestReport mb) s c stOk (reportBody (s.taken c mb) (slice c.payload 0 32) ++ sig)
        (if s.dev.sec.leaves = 63 then raise 15 2 [] spent else spent))

/-- DEBUG_CHALLENGE in READY for scope 1 or 2 answers a 32-byte nonce and keeps it in the place of an earlier one; another scope ends
BAD_PARAM, another state NOT_PERMITTED. DEBUG_UNLOCK needs READY and a challenge, and uses the challenge up whatever its token is worth: a
malformed one ends BAD_PARAM, one of another device AUTH_FAILED, one that does not verify SIG_FAILED; a valid one unlocks the scope,
extends M4 by the digest of the token and raises event 17, and scope 2 de-energises both outputs and closes every HST connection.
What a token is worth is the device's own (assumption log, entry 61). -/
def Obligations.DebugPortUnlocks : Prop :=
  ∀ (s : State) (mb : Nat) (c : Cmd),
    (Starts s 0x1204 mb c → s.dev.sys.op ≠ .ready → Answers (.debugChallenge mb) s c stNotPermitted [] (s.taken c mb)) ∧
    (Starts s 0x1204 mb c → s.dev.sys.op = .ready →
      let scope := rdU c.payload 0 1
      if scope = 1 ∨ scope = 2 then ∃ nonce : Bytes, nonce.length = 32 ∧
        Answers (.debugChallenge mb) s c stOk
          (deviceId ++ nonce ++ le 1 scope ++ zeros 1 ++ le 2 (leafCode s.dev) ++ zeros 4)
          (draw (modSec (fun x => { x with challenge := some (scope, nonce) }) (s.taken c mb)))
      else Answers (.debugChallenge mb) s c stBadParam [] (s.taken c mb)) ∧
    (Starts s 0x1205 mb c → s.dev.sys.op ≠ .ready ∨ s.dev.sec.challenge = none →
      Answers (.debugUnlock mb) s c stNotPermitted [] (s.taken c mb)) ∧
    (∀ scope nonce, Starts s 0x1205 mb c → s.dev.sys.op = .ready → s.dev.sec.challenge = some (scope, nonce) →
      let v := Config.tokenVerdict c.payload (challengeDigest (s.taken c mb) scope nonce)
      let used := modSec (fun x => { x with challenge := none }) (s.taken c mb)
      (v = 1 → Answers (.debugUnlock mb) s c stBadParam [] used) ∧
      (v = 2 → Answers (.debugUnlock mb) s c stAuthFailed [] used) ∧
      (3 ≤ v → Answers (.debugUnlock mb) s c stSigFailed [] used) ∧
      (v = 0 → scope = 1 → Answers (.debugUnlock mb) s c stOk (le 1 1 ++ zeros 3)
        (raise 17 0 [] (modSec (fun x => { x with
          scopes := putBit x.scopes 0 true, measures := listMod x.measures 4 (fun m => sha384 (m ++ sha384 c.payload)) }) used))) ∧
      (v = 0 → scope = 2 → ∃ d, Answers (.debugUnlock mb) s c stOk (le 1 2 ++ zeros 3) d ∧
        d.sec = { s.dev.sec with challenge := none, scopes := putBit s.dev.sec.scopes 1 true,
                                 measures := listMod s.dev.sec.measures 4 (fun m => sha384 (m ++ sha384 c.payload)) } ∧
        (∀ n, n < 2 → (safeOut d n).energised = false) ∧ (∀ x ∈ d.hst.conns, x.state = .closed) ∧
        Only [.saf, .hst, .sec, .ev] (s.taken c mb) d))

/-- The loader at stages 0x30 and 0x40; at another stage LOAD_BEGIN, LOAD_CHUNK and LOAD_END end BAD_OPCODE, and for the port that does
not hold the claim BUSY, both without effect. LOAD_BEGIN of component 1 or 2 with a size it admits claims the loader and discards
what was delivered of that component, another ends BAD_PARAM; LOAD_CHUNK of a component begun, in whole 16-byte units within it, adds
its data; LOAD_END of a component that fails with reason r discards it, remembers r and ends with its status; a claim that expires
discards each component not yet verified. -/
def Obligations.LoaderDelivers : Prop :=
  ∀ (s : State),
    (∀ mb c, loaderOpen s.dev = false →
      (Starts s 0x01F1 mb c → Answers (.loadBegin mb) s c stBadOpcode [] (s.taken c mb)) ∧
      (Starts s 0x01F2 mb c → Answers (.loadChunk mb) s c stBadOpcode [] (s.taken c mb)) ∧
      (Starts s 0x01F3 mb c → Answers (.loadEnd mb) s c stBadOpcode [] (s.taken c mb))) ∧
    (∀ mb c, loaderOpen s.dev = true → loaderBusy s.dev (portOfMb c.mb) = true →
      (Starts s 0x01F1 mb c → Answers (.loadBegin mb) s c stBusy [] (s.taken c mb)) ∧
      (Starts s 0x01F2 mb c → Answers (.loadChunk mb) s c stBusy [] (s.taken c mb)) ∧
      (Starts s 0x01F3 mb c → Answers (.loadEnd mb) s c stBusy [] (s.taken c mb))) ∧
    (∀ mb c, Starts s 0x01F1 mb c → loaderOpen s.dev = true → loaderBusy s.dev (portOfMb c.mb) = false →
      let k := rdU c.payload 0 1
      let n := rdU c.payload 4 4
      let port := portOfMb c.mb
      if (k = 1 ∨ k = 2) ∧ totalOk k n = true then
        Answers (.loadBegin mb) s c stOk (le 1 s.dev.sys.boot ++ le 1 0 ++ zeros 2 ++ le 4 0)
          (modSec (fun x => { x with owner := port, claimAt := tussNow s.dev })
            (modComp k (fun _ => { Comp.none with total := some n }) (s.taken c mb)))
      else ∃ p, Answers (.loadBegin mb) s c stBadParam p (touchClaim port (s.taken c mb))) ∧
    (∀ mb c n, Starts s 0x01F2 mb c → loaderOpen s.dev = true →
      let k := rdU c.payload 0 1
      let off := rdU c.payload 4 4
      let len := rdU c.payload 8 4
      loaderBusy s.dev (portOfMb c.mb) = false → k = 1 ∨ k = 2 → (compOf s.dev.sec k).total = some n → off % 16 = 0 → off < n →
      len % 16 = 0 → 16 ≤ len → len ≤ 65536 → off + len ≤ n →
      ∃ got, Answers (.loadChunk mb) s c stOk (le 1 s.dev.sys.boot ++ le 1 0 ++ zeros 2 ++ le 4 got)
        (modComp k (fun x => { x with chunks := (off, fitTo len (c.payload.drop 12)) :: x.chunks })
          (touchClaim (portOfMb c.mb) (s.taken c mb)))) ∧
    (∀ mb c, Starts s 0x01F3 mb c → loaderOpen s.dev = true →
      let k := rdU c.payload 0 1
      loaderBusy s.dev (portOfMb c.mb) = false → k = 1 ∨ k = 2 →
      let r := loaderReason k (compOf s.dev.sec k) (compOf s.dev.sec (3 - k))
      r ≠ 0 → (compOf s.dev.sec k).total ≠ none →
      Answers (.loadEnd mb) s c (reasonStatus r) (le 1 0x30 ++ le 1 r ++ zeros 2 ++ le 4 (received (compOf s.dev.sec k)))
        (modSec (fun x => { x with lastReason := r }) (modComp k (fun _ => Comp.none) (touchClaim (portOfMb c.mb)
          (modSys (fun y => { y with boot := 0x30 }) (s.taken c mb)))))) ∧
    (Calm s.dev → s.dev.sec.owner ≠ 0 →
      Completes .loaderClaimExpiry s (modSec (fun x => { x with
        owner := 0, app := if x.app.verified then x.app else Comp.none,
        safety := if x.safety.verified then x.safety else Comp.none }) (advanceTuss (s.dev.sec.claimAt + 2000000000) s.fresh)))

/-- LOAD_END at stage 0x30 or 0x40, from the port that may load, for a component whose fellow is verified: one that passes is measured
into M1 or M2, and the firmware starts at stage 0x50 without a claim and takes over the mailboxes; one that fails answers its reason's
status and leaves the other component, the claim's owner and the measurements as they were, at stage 0x30. -/
def Obligations.SecondComponentStartsFirmware : Prop :=
  ∀ (s : State) (mb : Nat) (c : Cmd), Starts s 0x01F3 mb c → loaderOpen s.dev = true →
    let k := rdU c.payload 0 1
    let whole := compBytes (compOf s.dev.sec k) ((compOf s.dev.sec k).total.getD 0)
    let r := loaderReason k (compOf s.dev.sec k) (compOf s.dev.sec (3 - k))
    loaderBusy s.dev (portOfMb c.mb) = false → k = 1 ∨ k = 2 → (compOf s.dev.sec (3 - k)).verified = true →
    ∃ d p, Answers (.loadEnd mb) s c (reasonStatus r) p d ∧ Only [.sys, .sec, .kmp, .drawn] (s.taken c mb) d ∧
      (r = 0 → d.sys = { s.dev.sys with boot := 0x50, firmware := true } ∧ d.sec.owner = 0 ∧
        d.sec.app.verified = true ∧ d.sec.safety.verified = true ∧
        d.sec.measures = listMod s.dev.sec.measures k (fun m => sha384 (m ++ signedPart whole)) ∧
        ∀ i, i < 2 → i < s.dev.kmp.mbs.length → (mbGet d i).rom = false) ∧
      (r ≠ 0 → d.sys = { s.dev.sys with boot := 0x30 } ∧ d.sec.owner = s.dev.sec.owner ∧ d.sec.measures = s.dev.sec.measures ∧
        d.sec.lastReason = r ∧ compOf d.sec (3 - k) = compOf s.dev.sec (3 - k))

/-- The staging set commands of the receive, time, point, emitter, scanner, sense, loop and stream groups. While a commit runs they end
BUSY. Otherwise: without an entry, or with more than 125, BAD_PARAM; with an entry that is not of the group or out of its range,
BAD_PARAM with the first such entry's place; with all entries within their ranges and relations and permitted now, OK, and the entries
are staged in their order. But for the response and the staged parameters nothing changes. -/
def Obligations.ParameterSetsStage : Prop :=
  ∀ r ∈ [(Instr.recvSet, 0x0400, 4), (Instr.timeSet, 0x0500, 5), (Instr.pointSet, 0x0600, 6), (Instr.emitterSet, 0x0700, 7),
         (Instr.scannerSet, 0x0800, 8), (Instr.senseSet, 0x0900, 9), (Instr.loopSet, 0x0A00, 10), (Instr.streamSet, 0x0B00, 11)],
    ∀ (s : State) (mb : Nat) (c : Cmd), Starts s r.2.1 mb c →
      let es := prmEntries c.payload
      let fits (e : Nat × Nat) : Prop := e.1 / 256 = r.2.2 ∧ paramKnown e.1 = true ∧ paramOk e.1 e.2 = true
      (s.dev.kmp.commit ≠ none → Answers (r.1 mb) s c stBusy [] (s.taken c mb)) ∧
      (s.dev.kmp.commit = none → es.length = 0 ∨ 125 < es.length →
        Answers (r.1 mb) s c stBadParam (le 2 0xFFFF ++ zeros 2) (s.taken c mb)) ∧
      (∀ i e, s.dev.kmp.commit = none → es.length ≤ 125 → es[i]? = some e → ¬ fits e → (∀ x ∈ es.take i, fits x) →
        Answers (r.1 mb) s c stBadParam (le 2 i ++ zeros 2) (s.taken c mb)) ∧
      (s.dev.kmp.commit = none → 1 ≤ es.length → es.length ≤ 125 → (∀ e ∈ es, fits e) →
        relationHit (paramsWith (paramsAfter (s.taken c mb) s.dev.kmp.staged) es) es = none →
        (∀ e ∈ es, prmBarred (s.taken c mb) e.1 = false) →
        Answers (r.1 mb) s c stOk (le 2 0xFFFF ++ zeros 2) (modKmp (fun k => { k with
          staged := { k.staged with params := es.foldl (fun t e => tabPut e.1 e.2 t) k.staged.params } }) (s.taken c mb)))

/-- The get commands of those groups and of the network group: for 1 to 125 identifiers of the group, each with its value in force, or
with the staged one where it is asked for and staged; anything else ends BAD_PARAM. But for the response nothing changes. -/
def Obligations.ParameterGetsAnswer : Prop :=
  ∀ r ∈ [(Instr.recvGet, 0x0401, 4), (Instr.timeGet, 0x0501, 5), (Instr.pointGet, 0x0601, 6), (Instr.emitterGet, 0x0701, 7),
         (Instr.scannerGet, 0x0801, 8), (Instr.senseGet, 0x0901, 9), (Instr.loopGet, 0x0A01, 10), (Instr.streamGet, 0x0B01, 11),
         (Instr.netGet, 0x0F01, 15)],
    ∀ (s : State) (mb : Nat) (c : Cmd), Starts s r.2.1 mb c →
      let which := rdU c.payload 0 1
      let ids := (List.range (rdU c.payload 2 2)).map (fun i => rdU c.payload (4 + 2 * i) 2)
      if which ≤ 1 ∧ 1 ≤ ids.length ∧ ids.length ≤ 125 ∧ ∀ i ∈ ids, i / 256 = r.2.2 ∧ paramKnown i = true then
        Answers (r.1 mb) s c stOk (ids.flatMap (fun i => le 2 i ++ zeros 2 ++
          le 4 (if which = 1 then (tabFind s.dev.kmp.staged.params i).getD (prmGet s.dev i) else prmGet s.dev i))) (s.taken c mb)
      else Answers (r.1 mb) s c stBadParam [] (s.taken c mb)

/-- PLAN_WRITE, ALIGN_WRITE, INTENSITY_WRITE, MASK_FORCE and RETIRE while no commit runs: what their forms and ranges admit is staged and
the command ends OK; a plan of another form, a first entry of the alignment table out of its range or with its reserved field not
zero (its place is answered), a first mask entry out of its range (likewise) and a segment above 135 end BAD_PARAM, staging nothing.
But for the response and the staged set nothing changes. -/
def Obligations.PlanAndReceiveWritesStage : Prop :=
  ∀ (s : State) (mb : Nat) (c : Cmd), s.dev.kmp.commit = none →
    let d := s.taken c mb
    let p := c.payload
    let stages (set : ConfigSet) : Dev := modKmp (fun k => { k with staged := set }) d
    let now := s.dev.kmp.staged
    let alignOk (i : Nat) : Bool := alignEntryOk ((parseAlign p).getD i ⟨0, 0, 0⟩) && rdU p (8 * i + 6) 2 == 0
    let count := rdU p 0 2
    (Starts s 0x0300 mb c →
      if planFormOk p = true then Answers (.planWrite mb) s c stOk [] (stages { now with plan := some (parsePlan p) })
      else Answers (.planWrite mb) s c stBadParam [] d) ∧
    (Starts s 0x0402 mb c → (∀ i, i < 136 → alignOk i = true) →
      Answers (.alignWrite mb) s c stOk (le 2 0xFFFF ++ zeros 2) (stages { now with align := some (parseAlign p) })) ∧
    (∀ i, Starts s 0x0402 mb c → i < 136 → (∀ j, j < i → alignOk j = true) → alignOk i = false →
      Answers (.alignWrite mb) s c stBadParam (le 2 i ++ zeros 2) d) ∧
    (Starts s 0x0602 mb c → Answers (.intensityWrite mb) s c stOk []
      (stages { now with intensity := some ((List.range 136).map (fun i => rdU p (2 * i) 2)) })) ∧
    (Starts s 0x1101 mb c → 1 ≤ count → count ≤ 125 → (∀ i, i < count → maskEntryOk p i = true) →
      Answers (.maskForce mb) s c stOk (le 2 0xFFFF ++ zeros 2)
        (stages { now with masks := now.masks ++ (List.range count).flatMap (maskOps p) })) ∧
    (∀ i, Starts s 0x1101 mb c → count ≤ 125 → i < count → (∀ j, j < i → maskEntryOk p j = true) → maskEntryOk p i = false →
      Answers (.maskForce mb) s c stBadParam (le 2 i ++ zeros 2) d) ∧
    (Starts s 0x1101 mb c → count = 0 ∨ 125 < count → Answers (.maskForce mb) s c stBadParam (le 2 0xFFFF ++ zeros 2) d) ∧
    (Starts s 0x1102 mb c → rdU p 0 1 ≤ 135 → Answers (.retire mb) s c stOk []
      (stages { now with retire := if now.retire.contains (rdU p 0 1) then now.retire else now.retire ++ [rdU p 0 1] })) ∧
    (Starts s 0x1102 mb c → 135 < rdU p 0 1 → Answers (.retire mb) s c stBadParam [] d)

/-- DRIVE_WRITE, ENTRY_WRITE and LOOP_WRITE while no commit runs stage the words of their run, or the record of their slot, with the
reserved bits zero, and end OK; a run outside the objects, a first word that its rule does not admit (its place is answered), a slot
above 15 and a record out of its ranges end BAD_PARAM, and a record that does not keep what its slot fixes NOT_PERMITTED, staging
nothing. But for the response and the staged set nothing changes. -/
def Obligations.DriveWritesStage : Prop :=
  ∀ (s : State) (mb : Nat) (c : Cmd), s.dev.kmp.commit = none →
    let d := s.taken c mb
    let p := c.payload
    let stages (set : ConfigSet) : Dev := modKmp (fun k => { k with staged := set }) d
    let now := s.dev.kmp.staged
    let first := rdU p 0 1
    let count := rdU p 1 1
    let word (i : Nat) : Nat := rdU p (4 + 2 * i) 2 % 4096
    let entry (i : Nat) : Nat := clrBits 32 (rdU p (4 + 4 * i) 4) 0x1800
    let rec' := loopKept (slice p 4 128)
    (Starts s 0x0702 mb c → 1 ≤ count → first + count ≤ 136 → (∀ i, i < count → driveWordOk (word i) = true) →
      Answers (.driveWrite mb) s c stOk (le 2 0xFFFF ++ zeros 2)
        (stages { now with drive := (List.range count).foldl (fun t i => tabPut (first + i) (word i) t) now.drive })) ∧
    (∀ i, Starts s 0x0702 mb c → first + count ≤ 136 → i < count → (∀ j, j < i → driveWordOk (word j) = true) →
      driveWordOk (word i) = false → Answers (.driveWrite mb) s c stBadParam (le 2 i ++ zeros 2) d) ∧
    (Starts s 0x0702 mb c → count = 0 ∨ 136 < first + count → Answers (.driveWrite mb) s c stBadParam (le 2 0xFFFF ++ zeros 2) d) ∧
    (Starts s 0x0902 mb c → 1 ≤ count → first + count ≤ 16 → (∀ i, i < count → entryWordOk (entry i) = true) →
      Answers (.entryWrite mb) s c stOk (le 2 0xFFFF ++ zeros 2)
        (stages { now with entries := (List.range count).foldl (fun t i => tabPut (first + i) (entry i) t) now.entries })) ∧
    (∀ i, Starts s 0x0902 mb c → first + count ≤ 16 → i < count → (∀ j, j < i → entryWordOk (entry j) = true) →
      entryWordOk (entry i) = false → Answers (.entryWrite mb) s c stBadParam (le 2 i ++ zeros 2) d) ∧
    (Starts s 0x0902 mb c → count = 0 ∨ 16 < first + count → Answers (.entryWrite mb) s c stBadParam (le 2 0xFFFF ++ zeros 2) d) ∧
    (Starts s 0x0A02 mb c → first ≤ 15 → loopRecOk first rec' = true → loopRecFixed first rec' = true →
      Answers (.loopWrite mb) s c stOk [] (stages { now with loops := tabPut first rec' now.loops })) ∧
    (Starts s 0x0A02 mb c → first ≤ 15 → loopRecOk first rec' = true → loopRecFixed first rec' = false →
      Answers (.loopWrite mb) s c stNotPermitted [] d) ∧
    (Starts s 0x0A02 mb c → 15 < first ∨ loopRecOk first rec' = false → Answers (.loopWrite mb) s c stBadParam [] d)

/-- The reads of the plan, receive, time, point and repair groups: for arguments that their cards admit each ends OK with the payload
given, where the plan, table, lane, map or status that is asked for stands; PLAN_CHECK ends OK, BUDGET or INFEASIBLE by the check that
fails first, with a report that begins as given, and BAD_PARAM for a descriptor of another form; arguments outside the card end
BAD_PARAM. But for the response nothing changes. -/
def Obligations.PlanAndReceiveReadsAnswer : Prop :=
  ∀ (s : State) (mb : Nat) (c : Cmd),
    let d := s.taken c mb
    let p := c.payload
    let first := rdU p 0 2
    let count := rdU p 2 2
    let run {α : Type} (f : Nat → List α) : List α := (List.range count).flatMap (fun i => f (first + i))
    (Starts s 0x0301 mb c →
      (rdU p 0 1 = 0 → Answers (.planRead mb) s c stOk (planBytes s.dev.seq.plan) d) ∧
      (rdU p 0 1 = 1 → Answers (.planRead mb) s c stOk ((planCommitted s.dev).elim [] planBytes) d) ∧
      (rdU p 0 1 = 2 → Answers (.planRead mb) s c stOk ((planHeld s.dev).elim [] planBytes) d) ∧
      (rdU p 0 1 = 3 → Answers (.planRead mb) s c stOk (s.dev.kmp.staged.plan.elim [] planBytes) d) ∧
      (4 ≤ rdU p 0 1 → Answers (.planRead mb) s c stBadParam [] d)) ∧
    (Starts s 0x0302 mb c → planFormOk p = true → planChecks19 (planEnv s.dev.prm.vals) (courseComing d) (parsePlan p) = none →
      let share := predictPlan (aMaxOf s.dev.prm.vals) (planEnv s.dev.prm.vals).tick s.dev.saf.committed (driveWord d) (segOfRow d) (parsePlan p)
      let zone := predictZone (aMaxOf s.dev.prm.vals) (planEnv s.dev.prm.vals).tick s.dev.saf.committed (driveWord d) (segOfRow d) (parsePlan p)
      ∃ rest : Bytes, Answers (.planCheck mb) s c (if share.2 then stOk else stBudget)
        ((if share.2 then le 1 0 ++ le 1 0xFF else le 1 10 ++ le 1 zone) ++ zeros 2 ++ le 4 (activeNs (parsePlan p)) ++ rest) d) ∧
    (∀ r, Starts s 0x0302 mb c → planFormOk p = true → planChecks19 (planEnv s.dev.prm.vals) (courseComing d) (parsePlan p) = some r →
      ∃ rest : Bytes, Answers (.planCheck mb) s c stInfeasible (le 1 r.1 ++ le 1 r.2 ++ zeros 2 ++ rest) d) ∧
    (Starts s 0x0302 mb c → planFormOk p = false → Answers (.planCheck mb) s c stBadParam (zeros 36) d) ∧
    (∀ k, Starts s 0x0303 mb c → columnsOf d (rdU p 0 1) = some k →
      let n := planColumns k.plan
      if 1 ≤ rdU p 4 2 ∧ rdU p 4 2 ≤ 4096 ∧ rdU p 2 2 + rdU p 4 2 ≤ n then
        Answers (.planColumns mb) s c stOk (le 2 n ++ zeros 2 ++ le 4 k.plan.planId ++
          (List.range (rdU p 4 2)).flatMap (fun i => columnEntry k.aMax k.plan (rdU p 2 2 + i))) d
      else Answers (.planColumns mb) s c stBadParam [] d) ∧
    (Starts s 0x0303 mb c → columnsOf d (rdU p 0 1) = none → Answers (.planColumns mb) s c stBadParam [] d) ∧
    (Starts s 0x0306 mb c →
      (s.dev.sync.held = none → Answers (.syncStatus mb) s c stOk (zeros 1 ++ le 1 s.dev.sync.lastOutcome ++ zeros 14) d) ∧
      (∀ h, s.dev.sync.held = some h → Answers (.syncStatus mb) s c stOk
        (le 1 h.state ++ le 1 s.dev.sync.lastOutcome ++ le 1 h.kind ++ zeros 1 ++ le 4 h.planId ++ le 4 h.setId ++ le 4 h.frame) d)) ∧
    (Starts s 0x0403 mb c →
      (rdU p 0 1 = 0 → Answers (.alignRead mb) s c stOk (s.dev.recv.align.flatMap (fun e => alignBytes e e.rowPos)) d) ∧
      (rdU p 0 1 = 1 → Answers (.alignRead mb) s c stOk ((s.dev.recv.align.zip (refinedRows d)).flatMap (fun e =>
        alignBytes e.1 (if e.1.rowPos = 0xFFFF then 0xFFFF else e.2))) d) ∧
      (2 ≤ rdU p 0 1 → Answers (.alignRead mb) s c stBadParam [] d)) ∧
    (Starts s 0x0404 mb c →
      if 1 ≤ count ∧ first + count ≤ 1096 ∧ rdU p 4 1 ≤ 1 then
        Answers (.gaugeRead mb) s c stOk (run (fun k => gaugeBytes k
          (if rdU p 4 1 = 1 then (tabFind s.dev.gauge.shadow k).getD (gaugeOf d k) else gaugeOf d k))) d
      else Answers (.gaugeRead mb) s c stBadParam [] d) ∧
    (Starts s 0x0405 mb c →
      let banks := bitList 8 (rdU p 4 1)
      if first + count ≤ 1088 ∧ (1 ≤ count ∨ banks ≠ []) then
        Answers (.laneStats mb) s c stOk (le 4 s.dev.histo.latchedFrame ++ zeros 4 ++ run (laneBlock d) ++ banks.flatMap (bankBlock d)) d
      else Answers (.laneStats mb) s c stBadParam [] d) ∧
    (Starts s 0x0406 mb c →
      if 1 ≤ count ∧ first + count ≤ 1088 then Answers (.laneStatus mb) s c stOk (run (fun k => le 4 (laneWord d k))) d
      else Answers (.laneStatus mb) s c stBadParam [] d) ∧
    (Starts s 0x0503 mb c → ∃ (rec' : Int) (since : Nat), Answers (.timeStatus mb) s c stOk
      (le 8 s.dev.sys.now ++ le 1 (servoCode s.dev.tim.servo) ++
        le 1 (flag (prmGet s.dev 0x0501 == 1) 0 + flag s.dev.tim.alignLocked 1) ++ le 1 (s.dev.net.slave.getD 0xFF) ++ zeros 1 ++
        leS 4 s.dev.tim.offset ++ leS 4 s.dev.tim.rate ++ leS 4 s.dev.tim.phaseErr ++ leS 4 (ageingNow s.dev) ++ leS 4 rec' ++
        le 1 (flag (ageingRec s.dev).2.2.2 0) ++ zeros 3 ++ le 8 s.dev.tim.grandmaster ++ le 4 since) d) ∧
    (Starts s 0x0603 mb c → Answers (.intensityRead mb) s c stOk (s.dev.prm.intensity.flatMap (le 2)) d) ∧
    (Starts s 0x1100 mb c →
      if 1 ≤ rdU p 4 4 ∧ rdU p 4 4 ≤ 65528 ∧ rdU p 0 4 + rdU p 4 4 ≤ 103856 then
        Answers (.mapRead mb) s c stOk (le 4 s.dev.rep.number ++ le 4 s.dev.rep.frame ++ mapBytes d (rdU p 0 4) (rdU p 4 4)) d
      else Answers (.mapRead mb) s c stBadParam [] d)

/-- The reads of the emitter, scanner, sense and loop groups: for arguments their cards admit each ends OK with the words, blocks or
records given, of the units asked for, in force or staged; others end BAD_PARAM. RING_READ begins with the number of its first record,
the oldest held, the next number and the count of overwritten ones. But for the response nothing changes. -/
def Obligations.DriveReadsAnswer : Prop :=
  ∀ (s : State) (mb : Nat) (c : Cmd),
    let d := s.taken c mb
    let p := c.payload
    (Starts s 0x0703 mb c →
      (rdU p 0 1 = 0 → Answers (.driveRead mb) s c stOk ((List.range 136).flatMap (fun n => le 2 (driveWord d n))) d) ∧
      (rdU p 0 1 = 1 → Answers (.driveRead mb) s c stOk ((List.range 136).flatMap (fun n => le 2 (driveWith d s.dev.kmp.staged n))) d) ∧
      (2 ≤ rdU p 0 1 → Answers (.driveRead mb) s c stBadParam [] d)) ∧
    (Starts s 0x0704 mb c → Answers (.emitStatus mb) s c stOk
      ((List.range 136).flatMap (fun n => le 4 (segWord d n)) ++ (List.range 8).flatMap (fun b => le 4 (bankWord d b))) d) ∧
    (Starts s 0x0705 mb c → Answers (.emitCounters mb) s c stOk (le 4 s.dev.emi.latchedFrame ++ zeros 4 ++
      (List.range 136).flatMap (fun n => segBlock (tabGet SegStat.none s.dev.emi.latched n))) d) ∧
    (Starts s 0x0804 mb c → Answers (.scanStats mb) s c stOk (le 4 (driveWord215 d) ++ zeros 4 ++ scanBlock d) d) ∧
    (Starts s 0x0903 mb c →
      (rdU p 0 1 = 0 → Answers (.entryRead mb) s c stOk ((List.range 16).flatMap (fun e => le 4 (entryWord d e))) d) ∧
      (rdU p 0 1 = 1 → Answers (.entryRead mb) s c stOk ((List.range 16).flatMap (fun e => le 4 (entryWith d s.dev.kmp.staged e))) d) ∧
      (2 ≤ rdU p 0 1 → Answers (.entryRead mb) s c stBadParam [] d)) ∧
    (Starts s 0x0904 mb c →
      let e := rdU p 0 1
      (e ≤ 15 → Answers (.senseValues mb) s c stOk ((List.range (entryMembers (entryWord d e))).flatMap (fun k =>
        leS 4 (memberGet d e k).value ++ le 2 (memberGet d e k).flags ++ le 1 (entrySource (entryWord d e) + k) ++ zeros 1 ++
          le 8 (memberGet d e k).time)) d) ∧
      (16 ≤ e → Answers (.senseValues mb) s c stBadParam [] d)) ∧
    (Starts s 0x0905 mb c →
      let x := s.dev.sense
      let k := min ((x.ringNext + 2 ^ 32 - rdU p 0 4) % 2 ^ 32) x.ring.length
      if 1 ≤ rdU p 4 2 ∧ rdU p 4 2 ≤ 4096 ∧ laterThan 32 (rdU p 0 4) x.ringNext = false then
        Answers (.ringRead mb) s c stOk (le 4 (x.ringNext + 2 ^ 32 - k) ++ le 4 (x.ringNext + 2 ^ 32 - x.ring.length) ++
          le 4 x.ringNext ++ le 4 x.overwritten ++ ((x.ring.drop (x.ring.length - k)).take (rdU p 4 2)).flatMap sedgeRecBytes) d
      else Answers (.ringRead mb) s c stBadParam [] d) ∧
    (Starts s 0x0A03 mb c →
      (rdU p 0 1 ≤ 15 → rdU p 1 1 = 0 → Answers (.loopRead mb) s c stOk (loopRec d (rdU p 0 1)) d) ∧
      (rdU p 0 1 ≤ 15 → rdU p 1 1 = 1 → Answers (.loopRead mb) s c stOk (recWith d s.dev.kmp.staged (rdU p 0 1)) d) ∧
      (15 < rdU p 0 1 ∨ 1 < rdU p 1 1 → Answers (.loopRead mb) s c stBadParam [] d)) ∧
    (Starts s 0x0A05 mb c → Answers (.loopStatus mb) s c stOk ((List.range 16).flatMap (fun n => le 4 (slotWord (slotGet d n)))) d)

/-- SUBSCRIBE and POOL_SET while no commit runs. SUBSCRIBE of 1 to 8 192 entries on a port 0 to 2, all admitted, stages them in their order
and ends OK; a first entry not admitted ends with its status and place; another port or number of entries ends BAD_PARAM. POOL_SET in
READY of four sizes that sum to 65 536 cells, the first three at their floors or above, stages them and ends OK; other sizes end
BAD_PARAM, and those sizes in another state NOT_PERMITTED. What is refused stages nothing; nothing but the staged set changes. -/
def Obligations.SubscriptionsAndPoolsStage : Prop :=
  ∀ (s : State) (mb : Nat) (c : Cmd), s.dev.kmp.commit = none →
    let d := s.taken c mb
    let p := c.payload
    let stages (set : ConfigSet) : Dev := modKmp (fun k => { k with staged := set }) d
    let now := s.dev.kmp.staged
    let port := rdU p 0 1
    let count := rdU p 2 2
    let z := (List.range 4).map (fun i => rdU p (4 * i) 4)
    let fits : Prop := z.sum = 65536 ∧ 8192 ≤ z.getD 0 0 ∧ 1024 ≤ z.getD 1 0 ∧ 512 ≤ z.getD 2 0
    (Starts s 0x0B02 mb c → port ≤ 2 → 1 ≤ count → count ≤ 8192 → (∀ i, i < count → subStatus d port (subEntry p i) = stOk) →
      Answers (.subscribe mb) s c stOk (le 2 0xFFFF ++ zeros 2) (stages { now with
        subs := ((List.range count).map (subEntry p)).foldl (fun t e => tabPut (subKey port e.1) e.2 t) now.subs })) ∧
    (∀ i, Starts s 0x0B02 mb c → port ≤ 2 → count ≤ 8192 → i < count → (∀ j, j < i → subStatus d port (subEntry p j) = stOk) →
      subStatus d port (subEntry p i) ≠ stOk →
      Answers (.subscribe mb) s c (subStatus d port (subEntry p i)) (le 2 i ++ zeros 2) d) ∧
    (Starts s 0x0B02 mb c → 2 < port ∨ count = 0 ∨ 8192 < count →
      Answers (.subscribe mb) s c stBadParam (le 2 0xFFFF ++ zeros 2) d) ∧
    (Starts s 0x0B04 mb c →
      (¬ fits → Answers (.poolSet mb) s c stBadParam [] d) ∧
      (fits → s.dev.sys.op = .ready → Answers (.poolSet mb) s c stOk [] (stages { now with pools := some z })) ∧
      (fits → s.dev.sys.op ≠ .ready → Answers (.poolSet mb) s c stNotPermitted [] d))

/-- LANE_CLEAR, EMIT_CLEAR, SCAN_CLEAR, LOOP_CLEAR, PORT_CLEAR and SAFE_CLEAR clear the sticky bits named, of the objects named, and end OK;
CLASS_SET, FREEZE and WATCHDOG_SET set a requester's class, a port's freeze for the session and a port's watchdog, and end OK. A run
past the objects, an undefined bit or a value outside the card ends BAD_PARAM without effect. No other object changes; FREEZE also
follows whether the port is drained. -/
def Obligations.ClearsAndPortSettingsApply : Prop :=
  ∀ (s : State) (mb : Nat) (c : Cmd),
    let d := s.taken c mb
    let p := c.payload
    let port := rdU p 0 1
    (Starts s 0x0407 mb c →
      if 1 ≤ rdU p 2 2 ∧ rdU p 0 2 + rdU p 2 2 ≤ 1088 then
        Answers (.laneClear mb) s c stOk [] (modHisto (fun h => { h with status := (List.range (rdU p 2 2)).foldl (fun t i =>
          tabMod LaneStatus.none t (rdU p 0 2 + i) (fun w => { w with sat := false })) h.status }) d)
      else Answers (.laneClear mb) s c stBadParam [] d) ∧
    (Starts s 0x0706 mb c →
      if rdU p 0 1 + rdU p 1 1 ≤ 136 then Answers (.emitClear mb) s c stOk []
        ((bitList 8 (rdU p 2 1)).foldl (fun d b => modBank b (fun x => { x with resLow := false }) d)
          ((List.range (rdU p 1 1)).foldl (fun d i => modSeg (rdU p 0 1 + i) (fun x => { x with badSeen := false }) d) d))
      else Answers (.emitClear mb) s c stBadParam [] d) ∧
    (Starts s 0x0805 mb c → Answers (.scanClear mb) s c stOk [] (modScan (fun x => { x with tripSeen := false }) d)) ∧
    (Starts s 0x0A06 mb c →
      (7 < rdU p 2 1 → Answers (.loopClear mb) s c stBadParam [] d) ∧
      (rdU p 2 1 ≤ 7 → ∃ e, Answers (.loopClear mb) s c stOk [] e ∧ e = { d with loops := { d.loops with slots := e.loops.slots } } ∧
        ∀ n, n < 16 → n < d.loops.slots.length → slotGet e n = if bit (rdU p 0 2) n = true then { slotGet d n with
          ovrSeen := (slotGet d n).ovrSeen && !bit (rdU p 2 1) 0, sat := (slotGet d n).sat && !bit (rdU p 2 1) 1,
          bump := (slotGet d n).bump && !bit (rdU p 2 1) 2 } else slotGet d n)) ∧
    (Starts s 0x0B0A mb c →
      (7 < port ∨ 3 < rdU p 1 1 → Answers (.portClear mb) s c stBadParam [] d) ∧
      (port ≤ 7 → rdU p 1 1 ≤ 3 →
        ∃ e, Answers (.portClear mb) s c stOk [] e ∧ e = { d with slu := { d.slu with ports := e.slu.ports } } ∧
          ∀ n, n < 3 → n < d.slu.ports.length → portGet e.slu n = if bit port n = true then { portGet d.slu n with
            wdBite := (portGet d.slu n).wdBite && !bit (rdU p 1 1) 0, dropSeen := (portGet d.slu n).dropSeen && !bit (rdU p 1 1) 1 }
            else portGet d.slu n)) ∧
    (Starts s 0x0E09 mb c → ∃ e, Answers (.safeClear mb) s c stOk [] e ∧ e = { d with hst := { d.hst with conns := e.hst.conns } } ∧
      ∀ k, k < 8 → k < d.hst.conns.length → connGet e k = if bit port k = true then { connGet d k with seen := false } else connGet d k) ∧
    (Starts s 0x0B05 mb c →
      if portHas port (rdU p 1 1) = true ∧ rdU p 2 1 ≤ 3 then
        Answers (.classSet mb) s c stOk [] (modSlu (modPort port (fun x => { x with
          classes := listMod x.classes (rdU p 1 1) (fun _ => rdU p 2 1) })) d)
      else Answers (.classSet mb) s c stBadParam [] d) ∧
    (Starts s 0x0B06 mb c →
      (port ≤ 2 → rdU p 1 1 ≤ 1 →
        ∃ e, Answers (.freeze mb) s c stOk (le 4 (portWord e port)) e ∧ Only [.slu, .ev] d e ∧
          (∀ n, n ≠ port → portGet e.slu n = portGet d.slu n) ∧
          (port < d.slu.ports.length → ∃ b, portGet e.slu port = { portGet d.slu port with
            freezeBy := if rdU p 1 1 = 1 then some c.session else none, drained := b })) ∧
      (2 < port ∨ 1 < rdU p 1 1 → Answers (.freeze mb) s c stBadParam [] d)) ∧
    (Starts s 0x0B07 mb c →
      if port ≤ 2 ∧ 1 ≤ rdU p 2 2 ∧ rdU p 2 2 ≤ 100 then
        Answers (.watchdogSet mb) s c stOk [] (modSlu (modPort port (fun x => { x with watchdog := rdU p 2 2 })) d)
      else Answers (.watchdogSet mb) s c stBadParam [] d)

/-- The reads of the stream, Peat, Hook, safety and network groups, for arguments their cards admit, end OK with the words, records and
settings given, of the objects asked for; others end BAD_PARAM; SAFE_READ of a configuration that does not exist answers none. But for the
response nothing changes. -/
def Obligations.StreamSafetyAndNetworkReadsAnswer : Prop :=
  ∀ (s : State) (mb : Nat) (c : Cmd),
    let d := s.taken c mb
    let p := c.payload
    (Starts s 0x0B03 mb c →
      if rdU p 0 1 ≤ 2 ∧ 1 ≤ rdU p 4 2 ∧ rdU p 2 2 + rdU p 4 2 ≤ 8192 then
        Answers (.subsRead mb) s c stOk ((List.range (rdU p 4 2)).flatMap (fun i =>
          le 1 (weightOf d.slu (rdU p 0 1) (rdU p 2 2 + i)) ++ le 1 (targetOf d.slu (rdU p 0 1) (rdU p 2 2 + i)) ++
            leS 2 (tabGet 0 d.slu.credit (subKey (rdU p 0 1) (rdU p 2 2 + i))))) d
      else Answers (.subsRead mb) s c stBadParam [] d) ∧
    (Starts s 0x0B08 mb c → ∃ rest : Bytes, Answers (.portStatus mb) s c stOk ((List.range 3).flatMap (fun k =>
      le 4 (portWord d k) ++ le 4 (portGet d.slu k).lifeDrops ++
        le 4 ((List.range 7).foldl (fun w r => w + (portGet d.slu k).classes.getD r 0 * 16 ^ r) 0) ++
        le 1 (portGet d.slu k).watchdog ++ zeros 3) ++ rest) d ∧ rest.length = 16) ∧
    (Starts s 0x0B09 mb c → Answers (.portStats mb) s c stOk (le 4 s.dev.slu.latchedFrame ++ zeros 4 ++
      (List.range 3).flatMap (fun k => portBlock (portGet d.slu k).latched s.dev.slu.latchedFrame)) d) ∧
    (Starts s 0x0C01 mb c → Answers (.peatConfigRead mb) s c stOk s.dev.peat.config d) ∧
    (Starts s 0x0C04 mb c → Answers (.peatDescriptors mb) s c stOk
      (le 1 (peatStateCode s.dev.peat.state) ++ le 1 (maskOf (peatFree d)) ++ zeros 2 ++
        (List.range 8).flatMap (fun i => captureBytes i (peatSegGet d i))) d) ∧
    (Starts s 0x0D01 mb c → Answers (.hookResult mb) s c stOk (hookBytes s.dev.hst.hook) d) ∧
    (Starts s 0x0E02 mb c →
      (rdU p 0 1 = 0 → s.dev.saf.committed = none → Answers (.safeRead mb) s c stOk [] d) ∧
      (∀ b, rdU p 0 1 = 0 → s.dev.saf.committed = some b →
        Answers (.safeRead mb) s c stOk (le 4 (rdU b 8 4) ++ le 4 s.dev.saf.committedCheck ++ b) d) ∧
      (rdU p 0 1 = 1 → s.dev.saf.pending = none → Answers (.safeRead mb) s c stOk [] d) ∧
      (∀ b, rdU p 0 1 = 1 → s.dev.saf.pending = some b →
        Answers (.safeRead mb) s c stOk (le 4 (rdU b.1 8 4) ++ le 4 b.2.1 ++ b.1) d) ∧
      (2 ≤ rdU p 0 1 → Answers (.safeRead mb) s c stBadParam [] d)) ∧
    (Starts s 0x0E03 mb c → ∃ rest : Bytes, Answers (.safeStatus mb) s c stOk
      (le 4 s.dev.saf.latched ++ le 4 (presentWord d) ++ le 1 (opCode s.dev.sys.op) ++
        le 1 (maskOf ((List.range 2).filter (fun n => (safeOut d n).energised)) + 4 * lockedBits d) ++
        le 1 (s.dev.saf.set.getD 0xFF) ++ le 1 (violatedBits d) ++ rest) d ∧ rest.length = 20) ∧
    (Starts s 0x0E08 mb c → Answers (.hstStatus mb) s c stOk ((List.range 8).flatMap (fun k =>
      le 4 (connWord (connGet d k)) ++ (connGet d k).counters.flatMap (le 4))) d) ∧
    (Starts s 0x0F03 mb c → Answers (.ipGet mb) s c stOk (ipBytes 4 s.dev.net.ip4 ++ ipBytes 6 s.dev.net.ip6) d) ∧
    (Starts s 0x0F07 mb c → ∃ rest : Bytes, Answers (.macsecStatus mb) s c stOk
      (le 1 (prmGet d 0x0F08) ++ le 1 s.dev.net.txAn ++ rest) d) ∧
    (Starts s 0x0F0C mb c → ∃ rest : Bytes, rest.length = 4 ∧ Answers (.netStatus mb) s c stOk (rest ++ le 4 s.dev.net.dupDiscarded ++
      le 4 s.dev.net.dupPassed ++ le 4 s.dev.net.wrongLan ++ le 4 s.dev.net.unprotected ++ le 4 s.dev.net.udpDiscarded ++
      le 4 s.dev.sync.checkFails ++ le 4 s.dev.trig.overruns) d)

/-- PEAT_CONFIG in IDLE keeps a valid configuration with its reserved bits zero, and where it divides the store anew frees every capture;
an invalid one ends BAD_PARAM, another state NOT_PERMITTED. PEAT_TRIGGER is not permitted where the configuration does not admit it; where
it does, it joins the triggers that wait while Peat is armed. PEAT_RELEASE frees the segment of a closed capture, is BUSY while it is read
out, and BAD_PARAM for a segment without one. PEAT_DISARM leaves Peat IDLE with no trigger waiting and no PEAT_ARM that runs. -/
def Obligations.PeatCommandsApply : Prop :=
  ∀ (s : State) (mb : Nat) (c : Cmd),
    let d := s.taken c mb
    let p := c.payload
    let i := rdU p 0 1
    (Starts s 0x0C00 mb c →
      (peatConfigOk p = true → s.dev.peat.state = .idle → rdU p 0x0C 1 = peatSegs d →
        Answers (.peatConfig mb) s c stOk [] (modPeat (fun x => { x with config := peatConfigKept p }) d)) ∧
      (peatConfigOk p = true → s.dev.peat.state = .idle → rdU p 0x0C 1 ≠ peatSegs d → s.dev.peat.readout = none →
        Answers (.peatConfig mb) s c stOk []
          (modPeat (fun x => { x with config := peatConfigKept p, segs := List.replicate 8 PeatSeg.free }) d)) ∧
      (peatConfigOk p = false → Answers (.peatConfig mb) s c stBadParam [] d) ∧
      (peatConfigOk p = true → s.dev.peat.state ≠ .idle → Answers (.peatConfig mb) s c stNotPermitted [] d)) ∧
    (Starts s 0x0C03 mb c →
      (peatTrigOn d 3 = false → Answers (.peatTrigger mb) s c stNotPermitted [] d) ∧
      (peatTrigOn d 3 = true → s.dev.peat.state = .armed →
        Answers (.peatTrigger mb) s c stOk (le 1 2 ++ le 1 (flag s.dev.peat.trigs.isEmpty 0) ++ zeros 2)
          (modPeat (fun x => { x with trigs := x.trigs ++ [(4, 0, s.dev.sys.now)] }) d))) ∧
    (Starts s 0x0C06 mb c →
      let closed : Prop := i < 8 ∧ ∃ x, (peatSegGet d i).desc = some x ∧ x.status = stOk
      let read := s.dev.peat.readout.any (fun r => r.seg == i)
      (¬ closed → Answers (.peatRelease mb) s c stBadParam [] d) ∧
      (closed → read = true → Answers (.peatRelease mb) s c stBusy [] d) ∧
      (closed → read = false → s.dev.peat.state ≠ .full →
        Answers (.peatRelease mb) s c stOk [] (modPeatSeg i (fun _ => PeatSeg.free) d))) ∧
    (Starts s 0x0C07 mb c →
      (s.dev.peat.state = .idle → Answers (.peatDisarm mb) s c stOk (le 1 0 ++ zeros 3) d) ∧
      (s.dev.peat.state ≠ .idle → ∃ e, Answers (.peatDisarm mb) s c stOk (le 1 0 ++ zeros 3) e ∧ e.peat.state = .idle ∧
        e.peat.trigs = [] ∧ e.peat.arm = none ∧ e.peat.config = s.dev.peat.config ∧ e.peat.readout = s.dev.peat.readout ∧
        Only [.slu, .peat, .pcie, .kmp, .ev, .writes, .out] d e))

/-- SAFE_LOAD: a blob with no field wrong is held pending with its check and the time, in the place of an earlier one, and ends OK with
both; one with a wrong field ends BAD_PARAM with the first such field's offset and has no effect. -/
def Obligations.SafetyConfigurationLoads : Prop :=
  ∀ (s : State) (mb : Nat) (c : Cmd), Starts s 0x0E00 mb c →
    let b := c.payload
    let rsp (bad : Nat) : Bytes := le 4 (blobCheck b) ++ le 4 (rdU b 8 4) ++ le 4 bad ++ zeros 4
    (∀ off, blobBad b = some off → Answers (.safeLoad mb) s c stBadParam (rsp off) (s.taken c mb)) ∧
    (blobBad b = none → ∃ e, Answers (.safeLoad mb) s c stOk (rsp 0xFFFFFFFF) e ∧
      e.saf = { s.dev.saf with pending := some (b, blobCheck b, tussNow s.dev) } ∧ Only [.saf, .ev] (s.taken c mb) e)

/-- SAFE_CONFIRM with no configuration pending ends NOT_PERMITTED. With one, within ten seconds of its load: outside READY and SAFE_STOP it
ends NOT_PERMITTED and the configuration stays pending; in those states, with its identifier and check it ends OK, the pending
configuration becomes the committed one, M5 is extended by identifier and check, no field set is in force and every field starts
clear; with other numbers it ends BAD_PARAM and the pending configuration is discarded. -/
def Obligations.SafetyConfigurationCommits : Prop :=
  ∀ (s : State) (mb : Nat) (c : Cmd), Starts s 0x0E01 mb c →
    (s.dev.saf.pending = none → Answers (.safeConfirm mb) s c stNotPermitted [] (s.taken c mb)) ∧
    ∀ b check t, s.dev.saf.pending = some (b, check, t) → tussNow s.dev < t + 10000000000 →
      (s.dev.sys.op ≠ .ready → s.dev.sys.op ≠ .safeStop → Answers (.safeConfirm mb) s c stNotPermitted [] (s.taken c mb)) ∧
      (s.dev.sys.op = .ready ∨ s.dev.sys.op = .safeStop →
        (rdU c.payload 0 4 ≠ rdU b 8 4 ∨ rdU c.payload 4 4 ≠ check →
          Answers (.safeConfirm mb) s c stBadParam [] (dropPendingBlob (s.taken c mb))) ∧
        (rdU c.payload 0 4 = rdU b 8 4 → rdU c.payload 4 4 = check →
          ∃ e, Answers (.safeConfirm mb) s c stOk (le 4 (rdU b 8 4) ++ le 4 check ++ le 8 s.dev.sys.now) e ∧
            e.saf.committed = some b ∧ e.saf.committedCheck = check ∧ e.saf.pending = none ∧ e.saf.set = none ∧
            e.saf.fields = List.replicate 4 FieldRun.clear ∧ e.saf.railClosed = s.dev.saf.railClosed ∧
            e.saf.latched = s.dev.saf.latched ∧
            e.sec = { s.dev.sec with measures := listMod s.dev.sec.measures 5 (fun m => sha384 (m ++ (le 4 (rdU b 8 4) ++ le 4 check))) } ∧
            Only [.saf, .hst, .sec, .ev, .drawn] (s.taken c mb) e))

/-- SAFE_RESUME in SAFE_STOP with no cause present leaves it for READY, answers the latched causes and clears them; otherwise it ends
NOT_PERMITTED. SAFE_STOP in READY, ARMED and RUNNING latches HOST and brings SAFE_STOP with the rail open and the outputs de-energised;
in other states it latches HOST alone. OUTPUT_ACK of output 0 ends its lockout where both switches have passed since, and is not
permitted where it is locked and they have not; an undefined output ends BAD_PARAM. HST_RESTART of connection 0 starts it from FAULT in manual
mode, and is not permitted where it is not in FAULT. -/
def Obligations.SafetyCommandsAct : Prop :=
  ∀ (s : State) (mb : Nat) (c : Cmd),
    let d := s.taken c mb
    (Starts s 0x0E04 mb c →
      (s.dev.sys.op ≠ .safeStop ∨ presentWord d ≠ 0 → Answers (.safeResume mb) s c stNotPermitted [] d) ∧
      (s.dev.sys.op = .safeStop → presentWord d = 0 →
        ∃ e, Answers (.safeResume mb) s c stOk (le 4 s.dev.saf.latched) e ∧ e.sys = { s.dev.sys with op := .ready } ∧
          e.saf.latched = 0 ∧ e.saf.railClosed = s.dev.saf.railClosed ∧ Only [.sys, .scan, .saf, .ev] d e)) ∧
    (Starts s 0x0E05 mb c →
      (s.dev.sys.op = .ready ∨ s.dev.sys.op = .armed ∨ s.dev.sys.op = .running →
        ∃ e, Answers (.safeStop mb) s c stOk [] e ∧ e.sys.op = .safeStop ∧ e.saf.railClosed = false ∧ e.emi.inhibit = true ∧
          e.saf.latched = putBit s.dev.saf.latched 0 true ∧ (∀ n, n < 2 → (safeOut e n).energised = false) ∧
          Only [.sys, .pts, .emi, .saf, .slu, .pcie, .kmp, .ev, .writes, .out] d e) ∧
      (s.dev.sys.op ≠ .ready → s.dev.sys.op ≠ .armed → s.dev.sys.op ≠ .running → Answers (.safeStop mb) s c stOk []
        (modSaf (fun x => { x with latched := putBit x.latched 0 true }) d))) ∧
    (Starts s 0x0E06 mb c →
      (3 < rdU c.payload 0 1 → Answers (.outputAck mb) s c stBadParam [] d) ∧
      (rdU c.payload 0 1 = 1 → (safeOut d 0).locked = true → (safeOut d 0).passed ≠ 3 →
        Answers (.outputAck mb) s c stNotPermitted [] d) ∧
      (rdU c.payload 0 1 = 1 → (safeOut d 0).passed = 3 → ∃ q, Answers (.outputAck mb) s c stOk q
        (modOut 0 (fun o => { o with locked := false, passed := 0 }) d))) ∧
    (Starts s 0x0E07 mb c → rdU c.payload 0 1 = 1 →
      ((connGet d 0).state = .fault → connCfg d 0 0x0A 1 = 0 → Answers (.hstRestart mb) s c stOk [] (connStart 0 d)) ∧
      ((connGet d 0).state ≠ .fault → Answers (.hstRestart mb) s c stNotPermitted [] d))

/-- NET_SET of 1 to 125 entries of its group, in their ranges and relations: the command ends OK and then the values are in force; 0x0F0C also
sets the terminator, and a role written to 0x0F0A leaves nothing begun on the SYNC bus. Without an entry it ends BAD_PARAM. IP_SET with valid
fields ends OK and then the family's setting is in force; where that changes the address that the session's commands come through, the
session ends; bad fields end BAD_PARAM. DEST_SET and HST_PEER write one entry of their tables and end OK; a destination that a subscription
or the diagnostics name is not unset, and a bad index or address ends BAD_PARAM. Nothing else changes. -/
def Obligations.NetworkSettingsApply : Prop :=
  ∀ (s : State) (mb : Nat) (c : Cmd),
    let d := s.taken c mb
    let p := c.payload
    let i := rdU p 0 1
    let es := prmEntries p
    let family := rdU p 0 1
    let after (status : Nat) (rsp : Bytes) : Dev := finish c status rsp d
    (Starts s 0x0F00 mb c → 1 ≤ es.length → es.length ≤ 125 →
      (∀ e ∈ es, e.1 / 256 = 15 ∧ paramKnown e.1 = true ∧ paramOk e.1 e.2 = true ∧ prmBarred d e.1 = false) →
      relationHit (paramsWith s.dev.prm.vals es) es = none →
      let set := modPrm (fun x => { x with vals := paramsWith x.vals es }) (after stOk (le 2 0xFFFF ++ zeros 2))
      ((∀ e ∈ es, e.1 ≠ 0x0F08 ∧ e.1 ≠ 0x0F0A ∧ e.1 ≠ 0x0F0C) → Completes (.netSet mb) s set) ∧
      (∀ v, es = [(0x0F0C, v)] → Completes (.netSet mb) s (modSync (fun y => { y with term := v == 1 }) set)) ∧
      (∀ v, es = [(0x0F08, v)] → v ≠ 0 ∨ s.dev.kmp.session = none → Completes (.netSet mb) s set) ∧
      (∀ v, es = [(0x0F0A, v)] → ∃ e, Completes (.netSet mb) s e ∧ e.prm = set.prm ∧ e.sync.yielded = false ∧ e.sync.run = none ∧
        e.sync.codeLeft = 0 ∧ e.sync.answer = none ∧ e.sync.held = s.dev.sync.held ∧
        Only [.prm, .slu, .pcie, .sync, .kmp, .ev, .writes, .out] s.fresh e)) ∧
    (Starts s 0x0F00 mb c → es = [] → Answers (.netSet mb) s c stBadParam (le 2 0xFFFF ++ zeros 2) d) ∧
    (Starts s 0x0F02 mb c → ipSetOk p = false → Answers (.ipSet mb) s c stBadParam [] d) ∧
    (Starts s 0x0F02 mb c → ipSetOk p = true → s.dev.kmp.session = none ∨ (ipSetting p).addr = (ipOf s.dev family).addr →
      Completes (.ipSet mb) s (setIp family (ipSetting p) (after stOk []))) ∧
    (∀ x, Starts s 0x0F02 mb c → ipSetOk p = true → s.dev.kmp.session = some x → 2 ≤ x.mb → mbFamily s.dev x.mb = family →
      (ipSetting p).addr ≠ (ipOf s.dev family).addr →
      ∃ e, Completes (.ipSet mb) s e ∧ e.kmp.session = none ∧ ipOf e family = ipSetting p ∧
        Only [.saf, .slu, .peat, .net, .pcie, .kmp, .ev, .writes, .out] s.fresh e) ∧
    (destOk p = true →
      (Starts s 0x0F08 mb c → rdU p 1 1 ≠ 0 ∨ destNamed d i = false →
        Answers (.destSet mb) s c stOk [] (modNet (fun n => { n with dests := listMod n.dests i (fun _ => destOf p) }) d)) ∧
      (Starts s 0x0F08 mb c → rdU p 1 1 = 0 → destNamed d i = true → Answers (.destSet mb) s c stNotPermitted [] d) ∧
      (Starts s 0x0F09 mb c →
        Answers (.hstPeer mb) s c stOk [] (modNet (fun n => { n with peers := listMod n.peers i (fun _ => destOf p) }) d))) ∧
    (destOk p = false →
      (Starts s 0x0F08 mb c → Answers (.destSet mb) s c stBadParam [] d) ∧
      (Starts s 0x0F09 mb c → Answers (.hstPeer mb) s c stBadParam [] d))

/-- SA_INSTALL for transmission places a key that is not in use, under which a stopped port goes on, and is not permitted for the one in use;
for reception it places a key in the channel of its SCI, in an empty place creating channel and mailbox, and is not permitted in one of
another SCI. SA_SWITCH turns to an installed key. SA_DELETE removes a transmit key that is not in use, a receive key, or a whole channel with
its mailbox while no session exists. Each ends OK; a key or channel that is not there and a number out of range end BAD_PARAM. Nothing
else changes. -/
def Obligations.MacsecKeysAreManaged : Prop :=
  ∀ (s : State) (mb : Nat) (c : Cmd),
    let d := s.taken c mb
    let p := c.payload
    let dir := rdU p 0 1
    let sc := rdU p 1 1
    let an := rdU p 2 1
    let sa : Sa := { integrity := bit (rdU p 3 1) 0, pn := rdU p 12 4, key := slice p 16 32 }
    let placed := modRxSc sc (fun x => { x with sci := some (rdU p 4 8), sas := setSa an (some sa) x.sas }) d
    (Starts s 0x0F04 mb c →
      (dir = 0 → an ≤ 3 → txInUse d an = true → Answers (.saInstall mb) s c stNotPermitted [] d) ∧
      (dir = 0 → an ≤ 3 → txInUse d an = false → Answers (.saInstall mb) s c stOk [] (modNet (fun n => { n with
        txSas := setSa an (some sa) n.txSas, txAn := if n.txStopped then an else n.txAn, txStopped := false }) d)) ∧
      (dir = 1 → an ≤ 3 → sc ≤ 7 → (rxSc d sc).sci = none → Answers (.saInstall mb) s c stOk []
        (modMb (2 + sc) (fun _ => { Mailbox.reset with present := true, rom := false, sci := rdU p 4 8 }) placed)) ∧
      (dir = 1 → an ≤ 3 → sc ≤ 7 → (rxSc d sc).sci = some (rdU p 4 8) → Answers (.saInstall mb) s c stOk [] placed) ∧
      (∀ x, dir = 1 → an ≤ 3 → sc ≤ 7 → (rxSc d sc).sci = some x → x ≠ rdU p 4 8 →
        Answers (.saInstall mb) s c stNotPermitted [] d) ∧
      (1 < dir ∨ 3 < an ∨ (dir = 1 ∧ 7 < sc) → Answers (.saInstall mb) s c stBadParam [] d)) ∧
    (Starts s 0x0F05 mb c →
      (dir = 0 → an ≤ 3 → netSa d an = none → Answers (.saDelete mb) s c stBadParam [] d) ∧
      (dir = 0 → an ≤ 3 → netSa d an ≠ none → txInUse d an = true → Answers (.saDelete mb) s c stNotPermitted [] d) ∧
      (dir = 0 → an ≤ 3 → netSa d an ≠ none → txInUse d an = false → Completes (.saDelete mb) s
        (modNet (fun n => { n with txSas := setSa an none n.txSas }) (finish c stOk [] d))) ∧
      (dir = 1 → an ≤ 3 → sc ≤ 7 → bit (rdU p 3 1) 0 = false → (rxSc d sc).sas.getD an none ≠ none → Completes (.saDelete mb) s
        (modRxSc sc (fun x => { x with sas := setSa an none x.sas }) (finish c stOk [] d))) ∧
      (dir = 1 → an ≤ 3 → sc ≤ 7 → bit (rdU p 3 1) 0 = true → (rxSc d sc).sci ≠ none → s.dev.kmp.session = none →
        Completes (.saDelete mb) s (modMb (2 + sc) (fun _ => Mailbox.reset)
          (modRxSc sc (fun _ => ⟨none, List.replicate 4 none, 0⟩) (finish c stOk [] d)))) ∧
      (1 < dir ∨ 3 < an ∨ (dir = 1 ∧ 7 < sc) → Answers (.saDelete mb) s c stBadParam [] d)) ∧
    (Starts s 0x0F06 mb c →
      if rdU p 0 1 ≤ 3 ∧ netSa d (rdU p 0 1) ≠ none then
        Answers (.saSwitch mb) s c stOk [] (modNet (fun n => { n with txAn := rdU p 0 1, txStopped := false }) d)
      else Answers (.saSwitch mb) s c stBadParam [] d)

/-- SYNC_START from the master, naming the held set, with none running and two frames ahead, answers ACCEPTED and waits for its window under
the frame given; a head that is not master is not permitted, a second one is BUSY. SYNC_CANCEL discards what is held, before it is bound,
and ends OK; with nothing held it is not permitted. SYNC_CODE from the master, two frames ahead and with no copies to send, answers
ACCEPTED with three copies to send. TRIG_PULSE drives TRIG_OUT for its width, or until the later end of two pulses, and ends OK. -/
def Obligations.SyncCommandsBegin : Prop :=
  ∀ (s : State) (mb : Nat) (c : Cmd),
    let d := s.taken c mb
    let p := c.payload
    (Starts s 0x0304 mb c →
      (∀ h, syncMaster d = true → s.dev.sync.run = none → s.dev.sync.held = some h → namesHeld p h = true →
        twoFramesTo d (nextWindow d) (rdU p 12 4) = true →
        Completes (.syncStart mb) s (modSync (fun y => { y with
          held := some { h with frame := rdU p 12 4 },
          run := some ⟨c.mb, c.tag, h.kind, heldIdent h, rdU p 12 4, none, 0, 0, 0, false⟩ }) (accept c d))) ∧
      (syncMaster d = false → Answers (.syncStart mb) s c stNotPermitted [] d) ∧
      (syncMaster d = true → s.dev.sync.run ≠ none → Answers (.syncStart mb) s c stBusy [] d)) ∧
    (Starts s 0x0305 mb c →
      (s.dev.sync.held = none → Answers (.syncCancel mb) s c stNotPermitted [] d) ∧
      (∀ h, s.dev.sync.held = some h → h.state = 3 → Answers (.syncCancel mb) s c stNotPermitted [] d) ∧
      (∀ h, s.dev.sync.held = some h → h.state ≠ 3 →
        Answers (.syncCancel mb) s c stOk [] (modSync (fun y => { y with
          held := none, lastOutcome := 4, run := y.run.map (fun r => { r with cancel := true }) }) d))) ∧
    (Starts s 0x0F0A mb c →
      (syncMaster d = true → twoFramesTo d s.dev.sys.now (rdU p 0 4) = true → s.dev.sync.codeLeft = 0 →
        Completes (.syncCode mb) s (modSync (fun y => { y with
          codeFrame := rdU p 0 4, codeLeft := 3, codeCmd := some (c.mb, c.tag) }) (accept c d))) ∧
      (syncMaster d = false → Answers (.syncCode mb) s c stNotPermitted [] d)) ∧
    (Starts s 0x0F0B mb c →
      let until_ := tussNow s.dev + prmGet s.dev 0x0F12 * 1000
      Answers (.trigPulse mb) s c stOk [] (modTrig (fun x => { x with
        outActive := true, outEnd := if x.outActive then max x.outEnd until_ else until_ }) d))

/-- TIME_AGEING, EMIT_SELFTEST, SCAN_START, SCAN_STOP, LOOP_MODE, TRACE_ARM, TRACE_READ, DIAG_STAMP, DIAG_HIST, PEAT_ARM, PEAT_READ and
HOOK_START, each where the conditions given hold, answer ACCEPTED and leave the state given; TRACE_TRIGGER of units 0 to 3 triggers them
and ends OK, and SCAN_START with the scanner started ends OK with the frame it started at. But for responses nothing else changes. -/
def Obligations.AsynchronousCommandsBegin : Prop :=
  ∀ (s : State) (mb : Nat) (c : Cmd),
    let d := s.taken c mb
    let a := accept c d
    let p := c.payload
    let room : Prop := s.dev.diag.bulk = none ∧ s.dev.diag.hist = none ∧ (2 ≤ c.mb → prmGet s.dev 0x0B23 ≠ 0xFF)
    (Starts s 0x0502 mb c → -200000 ≤ rdS p 0 4 → rdS p 0 4 ≤ 200000 → (∀ x ∈ allRunning a, x.op = 0x0502 → sameCmd x c = true) →
      Completes (.timeAgeing mb) s (modTim (fun t => { t with
        ageing := ageingNow d, ageingFrom := ageingNow d, ageingTarget := rdS p 0 4, ageingSince := tussNow s.dev, slewing := true }) a)) ∧
    (Starts s 0x0707 mb c → (2 ≤ c.mb ∨ bit c.flags 1 = true) → s.dev.emi.selfTest = none → 200000 ≤ idleTime s.dev.seq.plan →
      Completes (.emitSelftest mb) s (modEmi (fun e => { e with selfTest := some ⟨c.mb, c.tag, false, false, []⟩ }) a)) ∧
    (Starts s 0x0802 mb c → s.dev.sys.op = .ready → driveMode d ≠ 0 → s.dev.scan.tripped = false → s.dev.scan.held = false →
      (s.dev.scan.started = true → Answers (.scanStart mb) s c stOk (le 4 s.dev.scan.startFrame) d) ∧
      (s.dev.scan.started = false → Completes (.scanStart mb) s
        (modScan (fun x => { x with requests := x.requests ++ [(c.mb, c.tag, true)] }) a))) ∧
    (Starts s 0x0803 mb c → s.dev.sys.op = .ready → Completes (.scanStop mb) s
      (modScan (fun x => { x with requests := x.requests ++ [(c.mb, c.tag, false)] }) a)) ∧
    (Starts s 0x0A04 mb c → rdU p 0 1 ≤ 15 → rdU p 1 1 ≤ 2 → (∀ q ∈ s.dev.loops.requests, q.slot ≠ rdU p 0 1) →
      (slotGet s.dev (rdU p 0 1)).mode ≠ .held → (slotGet s.dev (rdU p 0 1)).mode ≠ .fallback →
      Completes (.loopMode mb) s (modLoops (fun l => { l with requests := l.requests ++ [⟨c.mb, c.tag, rdU p 0 1, rdU p 1 1,
        if bit (rdU p 2 1) 0 then some (recM p 4) else none⟩] }) a)) ∧
    (Starts s 0x0A07 mb c → rdU p 0 1 ≤ 3 → tapOk (rdU p 1 1) (rdU p 2 1) = true → 1 ≤ rdU p 3 1 → rdU p 3 1 ≤ 5 →
      1 ≤ rdU p 4 2 → rdU p 4 2 ≤ 256 → rdU p 6 2 ≤ 4095 → (rdU p 3 1 = 3 → rdU p 8 2 ≤ 1023) →
      ((traceGet s.dev (rdU p 0 1)).state = 0 ∨ 4 ≤ (traceGet s.dev (rdU p 0 1)).state) →
      Completes (.traceArm mb) s (modTrace (rdU p 0 1) (fun _ => { Trace.reset with
        state := 1, mb := c.mb, tag := c.tag, slot := rdU p 1 1, node := rdU p 2 1, source := rdU p 3 1, div := rdU p 4 2,
        post := rdU p 6 2, detail := rdU p 8 2, threshold := rdS p 12 4 }) a)) ∧
    (Starts s 0x0A08 mb c → rdU p 0 1 ≤ 15 → ∃ q, Answers (.traceTrigger mb) s c stOk q
      ((bitList 4 (rdU p 0 1)).foldl (fun d u => traceTrigger u 4 s.dev.sys.now d) d)) ∧
    (Starts s 0x0A08 mb c → 15 < rdU p 0 1 → Answers (.traceTrigger mb) s c stBadParam [] d) ∧
    (Starts s 0x0A09 mb c →
      let t := traceGet s.dev (rdU p 0 1)
      let data := traceDesc (rdU p 0 1) (if t.state = 5 then stAborted else stOk) t ++
        ((t.samples.drop (rdU p 2 2)).take (rdU p 4 2)).flatMap (·.2)
      rdU p 0 1 ≤ 3 → 1 ≤ rdU p 4 2 → rdU p 4 2 ≤ 4096 → (t.state = 0 ∨ 4 ≤ t.state) → rdU p 2 2 + rdU p 4 2 ≤ t.samples.length →
      room → Completes (.traceRead mb) s (modDiag (fun g => { g with bulk := some ⟨c.mb, c.tag, c.op, data, 0, bulkParts data.length⟩ })
        (modTrace (rdU p 0 1) (fun t => { t with read := true }) a))) ∧
    (Starts s 0x1000 mb c → rdU p 0 2 ≤ 1087 → 1 ≤ rdU p 2 1 → rdU p 2 1 ≤ 64 → rdU p 4 4 + rdU p 8 4 ≤ 614400 →
      s.dev.diag.stamp = none → Completes (.diagStamp mb) s (modDiag (fun g => { g with
        stamp := some ⟨c.mb, c.tag, rdU p 0 2, rdU p 4 4, rdU p 8 4, rdU p 2 1, false, false, Stat.none⟩ }) a)) ∧
    (Starts s 0x1001 mb c → rdU p 0 2 ≤ 1087 → room → Completes (.diagHist mb) s
      (modDiag (fun g => { g with hist := some ⟨c.mb, c.tag, rdU p 0 2, rdU p 2 2, false⟩ }) a)) ∧
    (Starts s 0x0C02 mb c → peatEmpty d = false → s.dev.peat.state = .idle → Completes (.peatArm mb) s
      (modPeat (fun x => { x with state := .arming, arm := some (c.mb, c.tag), trigs := [] }) a)) ∧
    (∀ i, Starts s 0x0C05 mb c → c.mb ≠ 1 → s.dev.peat.readout = none → closedSegment d (rdU p 0 4) = some i →
      rdU p 4 4 % 16 = 0 → rdU p 8 4 % 16 = 0 → 16 ≤ rdU p 8 4 → rdU p 4 4 + rdU p 8 4 ≤ bytesHeld (peatSegGet d i).entries →
      Completes (.peatRead mb) s
        (modPeat (fun x => { x with readout := some ⟨c.mb, c.tag, c.session, rdU p 0 4, i, rdU p 4 4, rdU p 4 4 + rdU p 8 4, 0,
          c.src, c.srcPort⟩ }) (modNet (fun n => { n with peatSeq := 0 }) a))) ∧
    (Starts s 0x0D00 mb c → hookJobOk (rdU p 0 4) (rdU p 4 4) = true → s.dev.hst.hook.run = none → Completes (.hookStart mb) s
      (modHst (fun x => { x with hook := { x.hook with
        job := (x.hook.job + 1) % 2 ^ 32, check := 0, addr := rdU p 0 4, length := rdU p 4 4, a := rdU p 8 4, s := rdU p 12 4,
        status := 0xFFFF, corrected := 0, tEnd := 0, run := some (c.mb, c.tag) } }) a))

/-- The resets. POWER_ON_RESET, and NRESET low for 25 µs or more while no power-on reset holds, take the device into reset: in cast-on at
stage 0 with device time 0, rail open, outputs de-energised, no session, mailbox indices 0, the alignment table and parameters at their
defaults, the Sluice and PCIe at their reset values, the burned fuses kept. NRESET low for less than 10 µs, or under a power-on
reset, changes nothing; between 10 and 25 µs it does either. RESET_RELEASE ends reset, with device time 0, the straps as sampled, SPIV
at power-on alone, and the accumulators at their reset fill; of the rest only measurement 0 changes, and out of reset it changes nothing. -/
def Obligations.ResetsReturnTheDevice : Prop :=
  ∀ s : State,
    let anew (t : State) : Prop := t.pending = s.pending ∧ t.dev.sys.inReset = true ∧ t.dev.sys.op = .castOn ∧ t.dev.sys.boot = 0 ∧
      t.dev.sys.bootReady = false ∧ t.dev.sys.now = 0 ∧ t.dev.saf.railClosed = false ∧ t.dev.emi.inhibit = true ∧ t.outputsOff ∧
      t.dev.kmp.session = none ∧ (∀ mb, (mbGet t.dev mb).cmdPi = 0 ∧ (mbGet t.dev mb).cmdCi = 0 ∧ (mbGet t.dev mb).rspPi = 0 ∧
        (mbGet t.dev mb).rspCi = 0) ∧ t.dev.recv.align = alignDefault ∧ t.dev.sec.burned = s.dev.sec.burned ∧
      t.dev.prm = Prm.reset ∧ t.dev.slu = Slu.reset ∧ t.dev.pcie = Pcie.reset
    (∃ t, exec .powerOnReset s = .next t ∧ anew t ∧ t.dev.sys.porHeld = true) ∧
    (∀ lowNs, 25000 ≤ lowNs → s.dev.sys.porHeld = false →
      ∃ t, exec (.nresetAssert lowNs) s = .next t ∧ anew t ∧ t.dev.sys.strapSpiv = s.dev.sys.strapSpiv) ∧
    (∀ lowNs, lowNs < 10000 ∨ (25000 ≤ lowNs ∧ s.dev.sys.porHeld = true) → Calm s.dev → Completes (.nresetAssert lowNs) s s.fresh) ∧
    (∀ lowNs, 10000 ≤ lowNs → lowNs < 25000 → s.dev.sys.porHeld = false → Calm s.dev →
      (∃ t, exec (.nresetAssert lowNs) s = .next t ∧ anew t) ∨
      ∃ d, Completes (.nresetAssert lowNs) s d ∧ Only [.drawn] s.fresh d) ∧
    (∀ spiv refclk pcie, Calm s.dev → s.dev.sys.inReset = true →
      ∃ d, Completes (.resetRelease spiv refclk pcie) s d ∧
        d.sys = { s.dev.sys with inReset := false, strapRefclk := refclk, strapPcie := pcie, porHeld := false, nresetLow := false,
                                 vinOk := true, now := 0,
                                 strapSpiv := if s.dev.sys.porHeld = true then spiv else s.dev.sys.strapSpiv } ∧
        d.saf = { s.dev.saf with fill := startFill } ∧ (∃ m, d.sec = { s.dev.sec with measures := m } ∧
          ∀ k, k ≠ 0 → m[k]? = s.dev.sec.measures[k]?) ∧ Only [.sys, .saf, .sec] s.fresh d) ∧
    (∀ spiv refclk pcie, Calm s.dev → s.dev.sys.inReset = false → Completes (.resetRelease spiv refclk pcie) s s.fresh)

/-- The stages of cast-on, each at its own stage: PLL_LOCK, BIST_COMPLETE without a fatal finding and with at most four lanes failed in
every group, REPAIR_MAP_BUILT (BOOT_READY rises with WAIT_IMAGE), FW_INIT_COMPLETE, the end of Gauge's collection 200 ms on with the tables
in shadow, a failing table's lane marked with its bound, and calibration firing begun, and its end: READY at stage 0x70 with the rail
open, V_bd0, T₀ and clock ratios as measured, the fill charged, L2 to L11 in AUTO and the first frame tick 1 ms ahead. -/
def Obligations.CastOnStagesAdvance : Prop :=
  ∀ s : State, Calm s.dev → s.dev.sys.inReset = false → s.dev.sys.op = .castOn →
    (s.dev.sys.boot = 0 → Completes .pllLock s (modSys (fun y => { y with boot := 0x10 }) s.fresh)) ∧
    (∀ bad lanes starts probes dark repairs, s.dev.sys.boot = 0x10 → s.dev.recv.gated = 0 → bad % 16 ≠ 15 →
      (∀ g, g < 16 → (((lanes.filter (fun p => decide (p < 1088))).eraseDups).filter (fun p => groupOfLane p == g)).length ≤ 4) →
      ∃ d, Completes (.bistComplete false false bad lanes starts probes dark repairs) s d ∧
        d.sys = { s.dev.sys with boot := 0x20 } ∧ d.saf = { s.dev.saf with tested := true } ∧
        d.rep = { s.dev.rep with sram := repairs % 65536 } ∧ d.recv.gated = bad % 16 ∧
        d.recv.lanesFailed = (lanes.filter (fun p => decide (p < 1088))).eraseDups ∧
        d.gauge = { s.dev.gauge with startsFailed := bitList 8 starts } ∧
        Only [.sys, .recv, .rep, .gauge, .emi, .saf] s.fresh d) ∧
    (s.dev.sys.boot = 0x20 → Completes .repairMapBuilt s (modSys (fun y => { y with boot := 0x30, bootReady := true }) s.fresh)) ∧
    (s.dev.sys.boot = 0x50 → Completes .fwInitComplete s (modSys (fun y => { y with boot := 0x60 }) s.fresh)) ∧
    (∀ counts, s.dev.sys.boot = 0x60 → s.dev.gauge.closed = false → s.dev.recv.gated = 0 →
      let t := castOnTables counts
      let lanes := (s.dev.recv.lanesFailed ++ (t.2.map (·.1)).filter (fun p => decide (p < 1088))).eraseDups
      (∀ g, g < 16 → (lanes.filter (fun p => groupOfLane p == g)).length ≤ 4) →
      ∃ d, Completes (.castOnGaugeCollectionEnd counts) s d ∧ d.gauge.closed = true ∧ d.gauge.shadow = t.1 ∧
        (∀ f ∈ t.2, (gaugeOf d f.1).boundFail = true ∧ (gaugeOf d f.1).failBound = f.2) ∧ d.recv.lanesFailed = lanes ∧
        d.sys = { s.dev.sys with now := s.dev.sys.now + 200000000 } ∧ d.saf = { s.dev.saf with railClosed := true } ∧
        d.emi = { s.dev.emi with inhibit := false, closedAt := some (tussNow d), calAt := tussNow d, calShots := 0 } ∧
        Only [.sys, .recv, .gauge, .histo, .emi, .saf, .ev] s.fresh d) ∧
    (∀ refs vbd temp ratios charged, s.dev.sys.boot = 0x60 → s.dev.gauge.closed = true → 3 ≤ ratios.length → 0 ∉ ratios →
      s.dev.loops.slots.length = 16 →
      ∃ d, Completes (.calibrationFiringEnd refs vbd temp ratios charged) s d ∧ d.sys.op = .ready ∧ d.sys.boot = 0x70 ∧
        d.sys.now = max s.dev.sys.now ((s.dev.emi.calAt + 200000000 : Int) + s.dev.sys.stepSum).toNat ∧
        d.seq = { s.dev.seq with nextFrame := d.sys.now + 1000000, tickTime := d.sys.now } ∧
        d.recv = { s.dev.recv with vbd0 := vbd, t0 := temp } ∧ d.saf.railClosed = false ∧ d.emi.inhibit = true ∧
        d.saf.clockRatios = [ratios.getD 0 0, ratios.getD 1 0, ratios.getD 2 0] ∧
        (s.dev.emi.inhibit = false → s.dev.emi.calShots = 0 → d.saf.fill = addFill s.dev.saf.fill (calFill 2500)) ∧
        (∀ n, 2 ≤ n → n ≤ 11 → (slotGet d n).mode = .auto) ∧
        Only [.sys, .seq, .recv, .tim, .histo, .pts, .emi, .sense, .loops, .saf, .sec, .slu, .pcie, .kmp, .ev, .writes, .out] s.fresh d)

/-- What halts the device, and with which cause: an unrecoverable fault, Tussock's internal fault of any kind, a block of Tussock's SRAM that
is uncorrectable or differs from its reference, a firmware block that differs from the verified image, an uncorrectable error in
the Carr SRAM, a Tussock self-test, a block without redundancy or all four slices failed in BIST, a clock ratio not measured at the end
of calibration firing, and the end of bind-off, which takes port 0's links down and leaves PCIe's as it is. -/
def Obligations.FaultsHalt : Prop :=
  ∀ s : State, s.dev.sys.resetAfter = none → s.dev.sys.inReset = false → s.dev.sys.op ≠ .halted →
    Halts .unrecoverableFault s 5 ∧ (∀ kind, Halts (.tussockInternalFault kind) s 3) ∧
    (∀ block readAt flips corrected, hookBWaits s.dev = false → Halts (.tussockScrubBlock block readAt flips corrected true) s 3) ∧
    (∀ block readAt flips corrected, hookBWaits s.dev = false → scrubHasRef s.dev block = true →
      hookDiffers (4096 * block) (4096 * readAt) 0 4096 flips 0 = true →
      Halts (.tussockScrubBlock block readAt flips corrected false) s 3) ∧
    (∀ last block readAt flips, s.dev.sys.firmware = true →
      hookDiffers (4096 * block) (4096 * readAt) s.dev.sec.app.version 4096 flips 0 = true →
      Halts (.firmwareScrubBlock last block readAt flips) s 4) ∧
    (∀ addr, ticking s.dev = true → Halts (.patrolScrub 0 addr false) s 5) ∧
    (∀ fatal slices lanes starts probes dark repairs, s.dev.sys.op = .castOn → s.dev.sys.boot = 0x10 →
      Halts (.bistComplete true fatal slices lanes starts probes dark repairs) s 2 ∧
      Halts (.bistComplete false true slices lanes starts probes dark repairs) s 1 ∧
      (slices % 16 = 15 → Halts (.bistComplete false false slices lanes starts probes dark repairs) s 1)) ∧
    (∀ refs vbd temp ratios charged, s.dev.sys.op = .castOn → s.dev.sys.boot = 0x60 → s.dev.gauge.closed = true →
      ratios.length < 3 ∨ 0 ∈ ratios → Halts (.calibrationFiringEnd refs vbd temp ratios charged) s 2) ∧
    (s.dev.sys.op = .bindOff → Halts .bindOffComplete s 7 ∧
      ∀ t, exec .bindOffComplete s = .next t → t.dev.net.linkUp = [false, false] ∧ t.dev.pcie.linkUp = s.dev.pcie.linkUp)

/-- A supply out of range before BOOT_STAGE 0x70 halts with cause 0x06; a power-on reset taken then is the device's reset; cast-on needs
no VSAFE, and without it the outputs are de-energised after every command and ARM is refused (R366). -/
def Obligations.SupplyLossInCastOnHalts : Prop :=
  ∀ s : State,
    (∀ vin, s.dev.sys.resetAfter = none → s.dev.sys.inReset = false → s.dev.sys.op = .castOn → Halts (.supplyOutOfRange vin) s 6) ∧
    (∃ t, exec .powerOnReset s = .next t ∧ t.dev.sys.inReset = true ∧ t.dev.sys.porHeld = true ∧ t.dev.sys.op = .castOn) ∧
    (∀ refs vbd temp ratios charged, Calm s.dev → s.dev.sys.inReset = false → s.dev.sys.op = .castOn → s.dev.sys.boot = 0x60 →
      s.dev.gauge.closed = true → 3 ≤ ratios.length → 0 ∉ ratios → s.dev.saf.vsafeOk = false →
      ∃ d, Completes (.calibrationFiringEnd refs vbd temp ratios charged) s d ∧ d.sys.op = .ready ∧ d.saf.vsafeOk = false) ∧
    (∀ i t, exec i s = .next t → t.dev.saf.vsafeOk = false → ∀ n, n < 2 → (safeOut t.dev n).energised = false) ∧
    (∀ mb c, Starts s 0x0103 mb c → stateCmdWaits (s.taken c mb) = false → s.dev.saf.vsafeOk = false →
      Answers (.arm mb) s c stNotPermitted [] (s.taken c mb))

/-- Supplies, timeouts and scrubs that do not halt. A supply out of range in an operating state begins BIND_OFF. An ARM without lock ends
HW_FAULT, two seconds after its acceptance in elapsed time. A Hook A job ends with its record: HW_FAULT on an uncorrectable error
or a bad word, else OK with the check of the bytes read, of the job's length. A firmware block equal to the image and a Tussock block
without error count a round at the last block, a corrected one is counted and reported, and so is a correction of the patrol scrub. An
uncorrectable word of the Peat store is marked and reported, and one of the egress buffer where no unit lies is reported. -/
def Obligations.ScrubsAndTimeoutsAreRecorded : Prop :=
  ∀ s : State, Calm s.dev →
    let job (status check corrected : Nat) : HookRec := { s.dev.hst.hook with
      status := status, check := check, corrected := satU 16 corrected, tEnd := s.dev.sys.now, run := none }
    let ended (c : Cmd) (h : HookRec) : Dev :=
      finishRunning c h.status (hookBytes h) (modHst (fun x => { x with hook := h }) s.fresh)
    let counted (d : Dev) : Dev := modEv (fun e => { e with eccCorrected := incSat 32 e.eccCorrected }) d
    (∀ vin, ticking s.dev = true → s.dev.sys.inReset = false →
      ∃ d, Completes (.supplyOutOfRange vin) s d ∧ d.sys.op = .bindOff ∧ d.saf.railClosed = false ∧ d.emi.inhibit = true ∧
        d.kmp.session = none ∧ d.slu.queues = [] ∧ (∀ n, n < 2 → (safeOut d n).energised = false) ∧
        Only [.sys, .pts, .emi, .scan, .loops, .saf, .hst, .slu, .peat, .pcie, .kmp, .ev, .writes, .out] s.fresh d) ∧
    (∀ c, findRunning s.dev 0x0103 = some c →
      Completes .armLockTimeout s (finishRunning c stHwFault [] (advanceTuss (c.t + 2000000000) s.fresh))) ∧
    (∀ r c corrected data, s.dev.hst.hook.run = some r → findTag s.dev r.1 r.2 = some c →
      let h := s.dev.hst.hook
      let faulty := hookBadWord s.dev h.addr h.length
      Completes (.hookAJobComplete corrected true data) s (ended c (job stHwFault h.check corrected)) ∧
      (faulty = true → Completes (.hookAJobComplete corrected false data) s (ended c (job stHwFault h.check corrected))) ∧
      (faulty = false → data.length = h.length → Completes (.hookAJobComplete corrected false data) s
        (ended c (job stOk (hookCheck h.a h.s (hookReads s.dev h.addr data)) corrected)))) ∧
    (∀ block readAt flips, s.dev.sys.firmware = true → s.dev.sys.op ≠ .halted →
      hookDiffers (4096 * block) (4096 * readAt) s.dev.sec.app.version 4096 flips 0 = false →
      Completes (.firmwareScrubBlock true block readAt flips) s (modEv (fun e => { e with fwRounds := incSat 32 e.fwRounds }) s.fresh) ∧
      Completes (.firmwareScrubBlock false block readAt flips) s s.fresh) ∧
    (∀ block readAt flips, s.dev.sys.op ≠ .halted → s.dev.sys.inReset = false → hookBWaits s.dev = false →
      scrubHasRef s.dev block = false ∨ hookDiffers (4096 * block) (4096 * readAt) 0 4096 flips 0 = false →
      let round (d : Dev) : Dev := if block = 127 then modEv (fun e => { e with tussockRounds := incSat 32 e.tussockRounds }) d else d
      Completes (.tussockScrubBlock block readAt flips false false) s (round s.fresh) ∧
      Completes (.tussockScrubBlock block readAt flips true false) s (round (raise 516 0 [] (counted s.fresh)))) ∧
    (∀ region addr, ticking s.dev = true → region < 3 →
      Completes (.patrolScrub region addr true) s (raise 14 0 (le 1 region ++ le 4 addr) (counted s.fresh))) ∧
    (∀ addr, ticking s.dev = true → addr ∉ s.dev.peat.badWords →
      Completes (.patrolScrub 2 addr false) s
        (modPeat (fun p => { p with badWords := p.badWords ++ [addr] }) (raise 14 1 (le 1 2 ++ le 4 addr) s.fresh))) ∧
    (∀ addr, ticking s.dev = true → unitAt s.dev addr = none →
      Completes (.patrolScrub 1 addr false) s (raise 14 1 (le 1 1 ++ le 4 addr) s.fresh))

/-- The frame tick of an operating device starts frame 0, or the one after the frame in progress: the sweep begins at the instant set for
it, the counters of the frame that ends are latched with its number and restart, the tables in shadow come into force with the new
frame's number, the sets committed for this frame wait no longer, and without alignment the next tick is a period later. In the part of
the tick that takes state commands START runs, else STOP arms, else DISARM makes ready with the rail open. Outside the operating states a
frame tick changes nothing. -/
def Obligations.FrameTickBeginsAFrame : Prop :=
  (∀ s : State, Calm s.dev → ticking s.dev = true →
    ∃ d, Completes .frameTick s d ∧ d.seq.started = true ∧
      d.seq.frame = (if s.dev.seq.started = true then (s.dev.seq.frame + 1) % 2 ^ 32 else 0) ∧
      d.seq.frameTime = s.dev.seq.nextFrame ∧ d.sys.now = max s.dev.sys.now s.dev.seq.nextFrame ∧ d.sys.boot = 0x80 ∧
      (prmGet d 0x0501 = 0 → d.seq.nextFrame = d.seq.frameTime + d.seq.plan.period) ∧
      d.seq.phase = .sweep ∧ d.seq.dwell = 0 ∧ d.seq.dwellOpen = false ∧ d.seq.shot = 0 ∧ d.seq.flushes = 0 ∧
      d.gauge.shadow = [] ∧ d.gauge.closed = false ∧
      (∀ e ∈ s.dev.gauge.shadow, (gaugeOf d e.1).frame = d.seq.frame) ∧
      d.prm.pending = s.dev.prm.pending.filter (fun p => p.frame != d.seq.frame) ∧
      (s.dev.seq.started = true → d.histo.latched = s.dev.histo.lanes ∧ d.histo.latchedFrame = s.dev.seq.frame ∧
        d.histo.latchedShots = s.dev.histo.shots ∧ d.histo.lanes = [] ∧ d.histo.banks = [] ∧ d.histo.shots = 0 ∧
        d.emi.latched = s.dev.emi.stats ∧ d.emi.latchedFrame = s.dev.seq.frame ∧ d.slu.latchedFrame = s.dev.seq.frame) ∧
      Only [.sys, .seq, .prm, .recv, .rep, .gauge, .tim, .histo, .pts, .emi, .scan, .sense, .loops, .saf, .slu, .peat, .pcie, .sync,
        .trig, .kmp, .diag, .ev, .writes, .out] s.fresh d) ∧
  (∀ s : State, Calm s.dev → ticking s.dev = false → Completes .frameTick s s.fresh) ∧
  (∀ d : Dev, findRunning d 0x0104 ≠ none → (stateFrame d).sys.op = .running) ∧
  (∀ d : Dev, findRunning d 0x0104 = none → findRunning d 0x0105 ≠ none →
    (stateFrame d).sys.op = .armed ∧ (stateFrame d).saf = d.saf) ∧
  (∀ d : Dev, findRunning d 0x0104 = none → findRunning d 0x0105 = none → findRunning d 0x0106 ≠ none →
    (stateFrame d).sys.op = .ready ∧ (stateFrame d).saf.railClosed = false ∧ (stateFrame d).scan.tripped = false)

/-- Dwell and flush ticks: the sweep's dwells follow each other by their lengths, the first at the frame tick; the first flush tick follows
the last dwell by its length, begins the turnaround and darkens the window, the second follows by the same length. Outside
RUNNING they hand nothing to be reduced. A group reported broken puts its slice among those to gate. A tick out of place changes
nothing. WINDOW_BIAS powers the window of the dwell to come, in the last dwell of a sweep none. -/
def Obligations.DwellsFollowThePlan : Prop :=
  ∀ s : State, Calm s.dev →
    let q := s.dev.seq
    let next := q.dwellTime + dwellLen (dwellZone s.dev)
    let touched : List Part := [.sys, .seq, .recv, .tim, .histo, .pts, .emi, .saf, .slu, .peat, .pcie, .kmp, .ev, .writes, .out]
    let window (w : Option Window) : Dev := modRecv (fun r => { r with window := w }) s.fresh
    (∀ lost stalled broken, dwellDue s.dev = true →
      ∃ d, Completes (.dwellTick lost stalled broken) s d ∧
        (q.dwellOpen = false → d.sys.now = s.dev.sys.now ∧ d.seq = { q with
          dwellOpen := true, dwell := 0, shot := 0, dwellTime := q.frameTime, dwellNo := wrapU 32 (q.dwellNo + 1) }) ∧
        (q.dwellOpen = true → d.sys.now = max s.dev.sys.now next ∧ d.seq = { q with
          dwell := q.dwell + 1, shot := 0, dwellTime := next, dwellNo := wrapU 32 (q.dwellNo + 1) }) ∧
        (s.dev.sys.op ≠ .running → d.pts.reduce = none) ∧
        (∀ g ∈ broken, g < 16 → sliceOn s.dev g = true → (g / 4, 1) ∈ d.recv.slicePend) ∧ Only touched s.fresh d) ∧
    (∀ lost stalled, dwellDue s.dev = false → Completes (.dwellTick lost stalled []) s s.fresh) ∧
    (∀ stalled, ticking s.dev = true → q.phase = .sweep → q.dwellOpen = true → planColumns q.plan ≤ q.dwell + 1 →
      ∃ d, Completes (.flushTick stalled) s d ∧ d.sys.now = max s.dev.sys.now next ∧ d.recv.window = none ∧
        d.seq = { q with phase := .turnaround, dwellOpen := false, dwellTime := next, flushes := 1, shot := 0 } ∧
        (s.dev.sys.op ≠ .running → d.pts.reduce = none) ∧ Only touched s.fresh d) ∧
    (∀ stalled, ticking s.dev = true → q.phase = .turnaround → q.flushes = 1 →
      ∃ d, Completes (.flushTick stalled) s d ∧ d.sys.now = max s.dev.sys.now next ∧
        d.seq = { q with dwellTime := next, flushes := 2 } ∧ d.pts.reduce = none ∧ d.recv = s.dev.recv ∧ Only touched s.fresh d) ∧
    (∀ stalled, ticking s.dev = false ∨ (q.phase = .sweep ∧ q.dwellOpen = false) ∨
        (q.phase = .sweep ∧ q.dwell + 1 < planColumns q.plan) ∨ (q.phase = .turnaround ∧ q.flushes ≠ 1) ∨ q.phase = .idle →
      Completes (.flushTick stalled) s s.fresh) ∧
    (ticking s.dev = true →
      (q.phase = .sweep → q.dwell + 1 < planColumns q.plan → q.dwellOpen = true →
        Completes .windowBias s (window (some ⟨colOfDwell q.plan q.frame (q.dwell + 1)⟩))) ∧
      (q.phase = .sweep → q.dwell + 1 < planColumns q.plan → q.dwellOpen = false →
        Completes .windowBias s (window (some ⟨colOfDwell q.plan q.frame 0⟩))) ∧
      (q.phase = .sweep → planColumns q.plan ≤ q.dwell + 1 → Completes .windowBias s (window none)) ∧
      (q.phase = .turnaround → Completes .windowBias s (window (some ⟨colOfDwell (planAfter s.dev) ((q.frame + 1) % 2 ^ 32) 0⟩))) ∧
      (q.phase = .idle → Completes .windowBias s (window (some ⟨colOfDwell (planAfter s.dev) 0 0⟩))))

/-- A shot tick begins the next shot of the open dwell at its place: no start edge stamped, no recharge timed, the dither generator seven
steps on. In RUNNING, with the inhibit off, every reservoir full and no alignment sample, each segment that serves an enabled row received
there and is not locked out fires with the shot's dither; under the inhibit, and outside RUNNING, none fires. After the dwell's last
shot a tick changes nothing. In calibration firing shot k comes 10 µs · k after its start and fires the 16 service segments of bank
k mod 8. -/
def Obligations.ShotsFollowTheDwell : Prop :=
  ∀ (s : State) (low : List Nat) (obs : List (Nat × Nat × Nat)), Calm s.dev →
    let z := dwellZone s.dev
    let dith := ditherAdvance s.dev.histo
    let uninhibited : Prop := s.dev.emi.inhibit = false ∧ s.dev.emi.testEnd = 0
    (ticking s.dev = true → s.dev.seq.dwellOpen = true → s.dev.seq.shot < z.shots →
      ∃ d, Completes (.shotTick low obs) s d ∧ d.seq = { s.dev.seq with shot := s.dev.seq.shot + 1 } ∧
        d.sys = { s.dev.sys with now := max s.dev.sys.now (s.dev.seq.dwellTime + s.dev.seq.shot * z.period) } ∧
        d.histo.lfsr = dith.lfsr ∧ d.histo.dither = dith.dither ∧
        (∀ b, (startOf d b).first = none ∧ (startOf d b).second = none) ∧
        d.recv.lanes = s.dev.recv.lanes.map (fun e => (e.1, { e.2 with timed := 0 })) ∧
        (s.dev.sys.op ≠ .running → d.emi = s.dev.emi ∧ d.histo.shots = s.dev.histo.shots ∧ ∀ b, (startOf d b).fired = false) ∧
        (s.dev.emi.inhibit = true → d.emi = { s.dev.emi with reports := d.emi.reports } ∧ d.histo.shots = s.dev.histo.shots ∧
          ∀ b, (startOf d b).fired = false) ∧
        (s.dev.sys.op = .running → uninhibited → d.histo.shots = s.dev.histo.shots + 1) ∧
        (s.dev.sys.op = .running → uninhibited → low = [] → sampleDwell s.dev = false →
          ∀ r, r < 128 → rowEnabled s.dev.seq.plan r = true → rowReceived z (dwellCol s.dev) r = true →
            segOfRow s.dev r ≠ 0xFF → (segGet s.dev (segOfRow s.dev r)).lockout = false →
            Out.fire (segOfRow s.dev r) dith.dither ∈ d.out) ∧
        Only [.sys, .seq, .recv, .tim, .histo, .emi, .ev, .out] s.fresh d) ∧
    (ticking s.dev = true → z.shots ≤ s.dev.seq.shot → Completes (.shotTick low obs) s s.fresh) ∧
    (calFiring s.dev = true → s.dev.emi.calShots < 20000 →
      let k := s.dev.emi.calShots
      ∃ d, Completes (.shotTick low obs) s d ∧ d.emi.calShots = k + 1 ∧
        d.sys = { s.dev.sys with now := max s.dev.sys.now ((s.dev.emi.calAt + 10000 * k : Int) + s.dev.sys.stepSum).toNat } ∧
        d.histo.lfsr = dith.lfsr ∧ d.histo.dither = dith.dither ∧
        (uninhibited → low = [] → ∀ i, i < 16 → (segGet s.dev (17 * (k % 8) + i)).lockout = false →
          Out.fire (17 * (k % 8) + i) dith.dither ∈ d.out) ∧
        Only [.sys, .tim, .histo, .emi, .ev, .out] s.fresh d) ∧
    (calFiring s.dev = true → 20000 ≤ s.dev.emi.calShots → Completes (.shotTick low obs) s s.fresh)

/-- Within a shot. A working start lane keeps the corrected times of its first two edges and counts the rest. A SPAD that is not powered, is
blind, or fires outside the shot changes nothing; a powered one is blind for τ_d, and each lane its macropixel feeds, where the SPAD is
unmasked and no hold-off runs, keeps the firing with those of the window, or, with k distinct SPADs among them, detects: it holds off
2.0 ns from the first. The other lanes keep theirs. The close of the coarse phase fixes every lane's candidates, and copies the counts
that a DIAG_HIST waits for. -/
def Obligations.DetectionsReachTheirLanes : Prop :=
  ∀ s : State, Calm s.dev →
    let z := dwellZone s.dev
    let inShot : Prop := ticking s.dev = true ∧ s.dev.seq.dwellOpen = true ∧ s.dev.seq.shot ≠ 0
    (∀ b coarse tap, inShot ∨ (calFiring s.dev = true ∧ s.dev.emi.calShots ≠ 0) → coarse < 48 → tap < 64 → b < 8 →
      b ∉ s.dev.gauge.startsFailed →
      let t := corrected (gaugeOf s.dev (1088 + b)) (coarse * 64 + tap)
      let x := startOf s.dev b
      let extra (e : Dev) (k : Nat) : Nat := (tabGet BankStat.none e.histo.banks k).extra
      (x.first = none → Completes (.startLaneEdge b coarse tap) s (modStart b (fun y => { y with first := some t }) s.fresh)) ∧
      (x.first ≠ none → x.second = none →
        Completes (.startLaneEdge b coarse tap) s (modStart b (fun y => { y with second := some t }) s.fresh)) ∧
      (x.first ≠ none → x.second ≠ none →
        ∃ d, Completes (.startLaneEdge b coarse tap) s d ∧ extra d b = min (2 ^ 32 - 1) (extra s.dev b + 1) ∧
          (∀ k, k ≠ b → tabGet BankStat.none d.histo.banks k = tabGet BankStat.none s.dev.histo.banks k) ∧
          Only [.histo] s.fresh d)) ∧
    (∀ y x spad ps recharge readings,
      let key := (y * 640 + x) * 4 + spad
      let t := shotPs s.dev + ps
      (powered s.dev y x = false ∨ z.period * 1000 ≤ ps ∨ 4 ≤ spad ∨ t < tabGet 0 s.dev.recv.blind key ∨ s.dev.seq.shot = 0 →
        Completes (.spadAvalanche y x spad ps recharge readings) s s.fresh) ∧
      (inShot → powered s.dev y x = true → ps < z.period * 1000 → spad < 4 → tabGet 0 s.dev.recv.blind key ≤ t →
        (lanesFed s.dev y x).Nodup →
        ∃ d, Completes (.spadAvalanche y x spad ps recharge readings) s d ∧
          d.recv.blind = tabPut key (t + deadPs s.dev) s.dev.recv.blind ∧ d.recv.masks = s.dev.recv.masks ∧
          (∀ p, p ∉ lanesFed s.dev y x → laneGet d p = laneGet s.dev p) ∧
          (∀ p ∈ lanesFed s.dev y x,
            let l := laneGet s.dev p
            let raw := ((readings.find? (fun e => e.1 == p)).map (fun e => e.2 % 2 ^ 22)).getD (nominalCode ps)
            let fs := recentFires (prmGet s.dev 0x0401 * 125) t l.live (y * 640 + x) l.fires ++
              [(t, key, raw + 64 * (shotPs s.dev / 1000))]
            (bit l.live spad = false → laneGet d p = l) ∧
            (bit l.live spad = true → t < l.hold → (laneGet d p).fires = l.fires ∧ (laneGet d p).hold = l.hold) ∧
            (bit l.live spad = true → l.hold ≤ t → distinctSpads fs < l.k →
              (laneGet d p).fires = fs ∧ (laneGet d p).hold = l.hold) ∧
            (bit l.live spad = true → l.hold ≤ t → l.k ≤ distinctSpads fs → ∀ f rest, fs = f :: rest →
              (laneGet d p).fires = fs.filter (fun e => decide (f.1 + 2000 ≤ e.1)) ∧ (laneGet d p).hold = f.1 + 2000)) ∧
          Only [.recv, .tim, .histo, .diag, .ev] s.fresh d)) ∧
    (ticking s.dev = true → s.dev.seq.dwellOpen = true → s.dev.histo.phaseClosed = false → z.coarse ≤ s.dev.seq.shot →
      let shut := modHisto (fun h => { h with phaseClosed := true })
        (modRecv (fun r => { r with lanes := r.lanes.map (fun e => (e.1, { e.2 with cands := candidates e.2.slots })) }) s.fresh)
      (s.dev.diag.hist = none → Completes .coarsePhaseClose s shut) ∧
      (∀ h, s.dev.diag.hist = some h → h.begun = false ∨ h.column ≠ dwellCol s.dev → Completes .coarsePhaseClose s shut) ∧
      (∀ h, s.dev.diag.hist = some h → h.begun = true → h.column = dwellCol s.dev →
        let data := histData shut h
        Completes .coarsePhaseClose s (modDiag (fun g => { g with
          hist := none, bulk := some ⟨h.mb, h.tag, 0x1001, data, 0, bulkParts data.length⟩ }) shut)))

/-- The formatter writes the dwell that waits and hands it to Tussock with its number and column; with none it changes nothing. The tag check
takes the oldest of these: where the tag over the records as they came differs, or a number was skipped, the dwell is counted as
mismatched and the fourth in a frame trips with cause TAG; otherwise it is not counted and nothing trips. With none waiting it changes
nothing. -/
def Obligations.PointsAreFormattedAndChecked : Prop :=
  ∀ s : State, Calm s.dev →
    (s.dev.pts.format = none → Completes .pointFormat s s.fresh) ∧
    (∀ w, s.dev.pts.format = some w →
      ∃ d, Completes .pointFormat s d ∧ d.pts.format = none ∧ d.pts.reduce = s.dev.pts.reduce ∧
        d.pts.evalDwells = s.dev.pts.evalDwells ++ [(w.dwellNo, w.col, dwellPoints s.fresh w)] ∧
        Only [.pts, .slu, .peat, .pcie, .kmp, .ev, .writes, .out] s.fresh d) ∧
    (∀ flips tagXor, s.dev.pts.evalDwells = [] → Completes (.pointTagCheck flips tagXor) s s.fresh) ∧
    (∀ flips tagXor e rest, s.dev.pts.evalDwells = e :: rest →
      let differs := hookDiffers 0 0 e.1 (recordBlockLen e.2.2) flips tagXor
      let bad : Prop := differs = true ∨ (∃ n, s.dev.saf.lastDwell = some n ∧ (n + 1) % 2 ^ 32 ≠ e.1)
      ∃ d, Completes (.pointTagCheck flips tagXor) s d ∧ d.pts.evalDwells = rest ∧ d.saf.lastDwell = some e.1 ∧
        (bad → d.saf.tagBad = s.dev.saf.tagBad + 1) ∧
        (¬ bad → d.saf.tagBad = s.dev.saf.tagBad ∧ Only [.pts, .saf, .ev] s.fresh d) ∧
        (bad → s.dev.saf.tagBad = 3 → bit d.saf.latched 10 = true ∧ d.saf.railClosed = false ∧
          (s.dev.sys.op = .ready ∨ s.dev.sys.op = .armed ∨ s.dev.sys.op = .running → d.sys.op = .safeStop)) ∧
        Only [.sys, .pts, .emi, .saf, .slu, .pcie, .kmp, .ev, .writes, .out] s.fresh d)

/-- A Tension tick of an operating state or BIND_OFF ends the tick at hand and begins the next at its instant with no conversion done; in
HALTED it ramps the drive's output. A Sedge slot takes 500 ns for the due urgent conversion, a second of a pair first, else the diagnostic
due, else the sequence's next entry; one too near the tick is aborted. Two failing open-wire tests of a pin confirm it open and mark the
suspect records, two passing clear it, a void one says nothing. A test-tone slot judges its group, two bad runs confirming and three
good clearing, a confirmed short of the drive pair tripping the stage. A trip takes the output off. ARM waiting in READY, with
lock and both switch tests, arms and closes the rail. -/
def Obligations.TensionSenseAndDriveStep : Prop :=
  (∀ s : State, Calm s.dev →
    let next := nextTick s.dev
    let slot (d : Dev) : Dev := advanceTo (s.dev.sys.now + 500) d
    let sensed (f : Sense → Sense) : Dev := slot (modSense f s.fresh)
    (∀ slow, ticking s.dev = true ∨ s.dev.sys.op = .bindOff →
      ∃ d, Completes (.tensionTick slow) s d ∧ d.seq = { s.dev.seq with tickNo := s.dev.seq.tickNo + 1, tickTime := next } ∧
        d.sys.now = max s.dev.sys.now next ∧ d.sense.done = [] ∧
        Only [.sys, .seq, .prm, .pts, .emi, .scan, .sense, .loops, .saf, .slu, .peat, .pcie, .kmp, .ev, .writes, .out] s.fresh d) ∧
    (∀ slow, s.dev.sys.op = .halted → s.dev.scan.out ≠ 0 →
      ∃ d, Completes (.tensionTick slow) s d ∧ d.seq = { s.dev.seq with tickTime := next } ∧
        d.scan = { s.dev.scan with out := rampCode (advanceTo next s.dev) } ∧ Only [.sys, .seq, .prm, .scan] s.fresh d) ∧
    (∀ slow, s.dev.sys.op = .castOn ∨ (s.dev.sys.op = .halted ∧ s.dev.scan.out = 0) → Completes (.tensionTick slow) s s.fresh) ∧
    (∀ code, ticking s.dev = true → s.dev.seq.tickNo ≠ 0 → next < s.dev.sys.now + 500 →
      Completes (.sedgeSlot code) s (advanceTo next s.fresh)) ∧
    (∀ code, ticking s.dev = true → s.dev.seq.tickNo = 0 ∨ s.dev.sys.now + 500 ≤ next →
      let k := clampI (-32768) 32767 code
      let conv (u : Nat × Nat) : Conv := ⟨u.1, u.2, k, (sourceValue s.dev u.1 (urgentGain u.1) k).1, false, tussNow s.dev⟩
      let idle : Prop := s.dev.sense.diag = none ∧ s.dev.sense.diagQueue = [] ∧
        tussNow s.dev < s.dev.sense.diagAt + 1000000 * prmGet s.dev 0x0901
      (∀ u us, idle → s.dev.sense.urgent = u :: us → u.2 = 0 →
        s.dev.sys.now < secondAt s.dev ∨ (∀ v ∈ us, v.2 ≠ 1) →
        Completes (.sedgeSlot code) s (sensed (fun x => { x with urgent := us, done := x.done ++ [conv u] }))) ∧
      (∀ v, idle → s.dev.sense.urgent.find? (fun u => u.2 == 1) = some v → secondAt s.dev ≤ s.dev.sys.now →
        Completes (.sedgeSlot code) s
          (sensed (fun x => { x with urgent := x.urgent.erase v, done := x.done ++ [conv v] }))) ∧
      (∀ g, s.dev.sense.urgent = [] → s.dev.sense.diag = some g → g.phase = 0 → Completes (.sedgeSlot code) s
        (sensed (fun x => { x with diag := some { g with
          base := codeMicrovolts (diagGain s.dev g.source) k, phase := 1, since := tussNow s.dev + 500 } }))) ∧
      (∀ g, s.dev.sense.urgent = [] → s.dev.sense.diag = some g → g.phase = 1 → g.since + settleNs s.dev ≤ tussNow s.dev →
        Completes (.sedgeSlot code) s (sensed (fun x => { x with diag := some { g with
          test := codeMicrovolts (diagGain s.dev g.source) k, full := fullScale k, phase := 2, since := tussNow s.dev + 500 } }))) ∧
      (∀ e, idle → s.dev.sense.urgent = [] → nextEntry s.dev = some e →
        ∃ d, Completes (.sedgeSlot code) s d ∧ d.sense.next = (e + 1) % 16 ∧
          tabGet 0 d.sense.visits e = tabGet 0 s.dev.sense.visits e + 1 ∧ d.sys.now = s.dev.sys.now + 500 ∧
          d.sense.done = s.dev.sense.done ∧ d.sense.urgent = [] ∧
          Only [.sys, .recv, .emi, .scan, .sense, .slu, .peat, .pcie, .kmp, .ev, .writes, .out] s.fresh d)) ∧
    (∀ g, ticking s.dev = true → s.dev.sense.diag = some g → g.phase = 2 →
      let w := wireGet s.dev g.source g.pin
      let judged (d : Dev) : Prop := d.sense.diag = some { g with phase := 3 } ∧ Only [.sense, .ev] s.fresh d ∧
        ∀ src pin, 2 * src + pin ≠ 2 * g.source + g.pin → wireGet d src pin = wireGet s.dev src pin
      (g.void = true → ∃ d, Completes .openWireTest s d ∧ judged d ∧ d.sense.wires = s.dev.sense.wires ∧ d.sense.ring = s.dev.sense.ring) ∧
      (g.void = false → diagFails s.dev g = false → ∃ d, Completes .openWireTest s d ∧ judged d ∧ d.sense.ring = s.dev.sense.ring ∧
        wireGet d g.source g.pin = ⟨0, w.passes + 1, w.opened && decide (w.passes + 1 < 2), s.dev.sys.now⟩) ∧
      (g.void = false → diagFails s.dev g = true → ∃ d, Completes .openWireTest s d ∧ judged d ∧
        wireGet d g.source g.pin = { w with fails := w.fails + 1, passes := 0, opened := w.opened || decide (2 ≤ w.fails + 1) } ∧
        d.sense.ring = if w.opened = false ∧ 2 ≤ w.fails + 1 then markSuspect g.source w.lastPass s.dev.sense.ring
          else s.dev.sense.ring)) ∧
    (s.dev.sense.diag = none → Completes .openWireTest s s.fresh) ∧
    (∀ g ohms cross t, toneDue s.dev = true → g = s.dev.scan.tonePhase → g < 5 → s.dev.scan.tones[g]? = some t →
      let read := (List.range (toneLeads g)).map (ohms.getD · 0)
      let base := if t.base = [] then read else t.base
      let short : Prop := cross ≠ 0 ∨ ∃ p ∈ base.zip read, toneLow p.1 p.2 = true
      let fault : Prop := short ∨ ∃ p ∈ base.zip read, toneOpen p.1 p.2 = true
      ∃ d, Completes (.testToneSlot g ohms cross) s d ∧ d.scan.tonePhase = g + 1 ∧
        (fault → d.scan.tones[g]? = some ⟨base, t.fails + 1, 0, t.bad || decide (2 ≤ t.fails + 1)⟩) ∧
        (¬ fault → d.scan.tones[g]? = some ⟨base, 0, t.passes + 1, t.bad && decide (t.passes + 1 < 3)⟩) ∧
        (∀ k, k ≠ g → d.scan.tones[k]? = s.dev.scan.tones[k]?) ∧
        (g = 0 → short → t.bad = true ∨ 1 ≤ t.fails → d.scan.tripped = true) ∧
        d.sys.now = max s.dev.sys.now (diagStart s.dev + 850000 + 40000 * (g + 1)) ∧
        Only [.sys, .emi, .scan, .loops, .ev] s.fresh d) ∧
    (∀ cause, s.dev.sys.inReset = false → s.dev.scan.tripped = false → (cause % 4 = 0 → driveMode s.dev ≠ 0) →
      (cause % 4 = 3 → driveMode s.dev = 2) →
      ∃ d, Completes (.driveStageTrip cause) s d ∧ d.scan.tripped = true ∧ d.scan.tripSeen = true ∧ d.scan.tripCause = cause % 4 ∧
        d.scan.out = 0 ∧ d.scan.started = false ∧ Only [.emi, .scan, .loops, .ev] s.fresh d) ∧
    (∀ cause, s.dev.scan.tripped = true → Completes (.driveStageTrip cause) s s.fresh)) ∧
  ∀ (d : Dev) (c : Cmd), findRunning d 0x0103 = some c → d.sys.op = .ready → d.scan.lock = true → d.saf.armTests = 3 →
    (armNow d).sys.op = .armed ∧ (armNow d).saf.railClosed = true ∧ (armNow d).emi.inhibit = false

/-- The turnaround's diagnostics: a probe round notes what fails, a confirmation slot judges it where it fails again and counts it where it
passes, the block's end judges what is left; a dark-count position changes no mask yet; the self-test keeps its samples; a random
edge counts in its tap; the end of collection completes the refresh of each lane with hits and frames enough. In the frame after, a table
within its bounds waits in shadow, one outside them marks its lane, and Tussock's differing verdict trips with cause GAUGE. Ageing ends
its slew at the target, and its commands end OK. -/
def Obligations.TurnaroundDiagnosticsAct : Prop :=
  ∀ s : State, Calm s.dev →
    let f := diagStart s.dev
    let spare (b : Nat) (stripe : Nat) : Prop := spareRow s.dev b ≠ 0xFF ∧ (bankGet s.dev b).sub = stripe
    let judged (d : Dev) (b i : Nat) : Prop :=
      (i < 16 → (segGet d (17 * b + i)).failed = true) ∧ (16 ≤ i → spare b (i - 16) → (segGet d (17 * b + 16)).failed = true) ∧
      (16 ≤ i → ¬ spare b (i - 16) → bit (bankGet d b).spareBad (i - 16) = true)
    (∀ round vf, inTurnaround s.dev = true → round < 17 →
      let mv (b : Nat) : Nat := ((vf.find? (fun e => e.1 == b)).map (·.2)).getD 1550
      let idx (b : Nat) : Nat := if round < 16 then round else 16 + probedStripe s.dev b
      ∃ d, Completes (.probeRound round vf) s d ∧ d.sys.now = max s.dev.sys.now (f + 2000 * round) ∧
        d.emi.probeFails = s.dev.emi.probeFails ++ ((List.range 8).filter (fun b => probeClass (mv b) != 0)).map
          (fun b => (b, idx b, probeClass (mv b))) ∧ Only [.sys, .emi, .ev] s.fresh d) ∧
    (∀ b mv x, inTurnaround s.dev = true → s.dev.emi.probeFails.find? (fun e => e.1 == b) = some x →
      tabGet 0 s.dev.emi.confirmed b < 7 →
      ∃ d, Completes (.probeConfirmSlot b mv) s d ∧ d.emi.probeFails = s.dev.emi.probeFails.erase x ∧
        d.sys.now = max s.dev.sys.now (f + 34000 + 2000 * tabGet 0 s.dev.emi.confirmed b) ∧
        (probeClass mv = 0 → d.emi.unconfirmed = min (2 ^ 32 - 1) (s.dev.emi.unconfirmed + 1) ∧ d.emi.banks = s.dev.emi.banks ∧
          ∀ n, (segGet d n).failed = (segGet s.dev n).failed) ∧
        (probeClass mv ≠ 0 → judged d b x.2.1 ∧ d.emi.unconfirmed = s.dev.emi.unconfirmed) ∧ Only [.sys, .emi, .ev] s.fresh d) ∧
    (inTurnaround s.dev = true →
      ∃ d, Completes .probeBlockEnd s d ∧ d.emi.probeFails = [] ∧ d.emi.confirmed = [] ∧
        (∀ x ∈ s.dev.emi.probeFails, judged d x.1 x.2.1) ∧ Only [.sys, .emi, .ev] s.fresh d) ∧
    (∀ counts, inTurnaround s.dev = true → s.dev.recv.mapPos < 8 →
      ∃ d, Completes (.darkCountPositionEnd counts) s d ∧ d.recv.mapPos = s.dev.recv.mapPos + 1 ∧ d.recv.masks = s.dev.recv.masks ∧
        d.sys.now = max s.dev.sys.now (f + 50000 + 100000 * (s.dev.recv.mapPos + 1)) ∧ Only [.sys, .recv] s.fresh d) ∧
    (∀ vf x, inTurnaround s.dev = true → s.dev.emi.selfTest = some x → x.due = true → x.ran = false →
      ∃ d v, Completes (.emitterSelftestRun vf) s d ∧ d.emi = { s.dev.emi with selfTest := some { x with ran := true, vf := v } } ∧
        Only [.sys, .emi] s.fresh d) ∧
    (∀ lane code, inTurnaround s.dev = true → s.dev.gauge.closed = false → gaugeRuns s.dev lane = true →
      let hits (d : Dev) (k tap : Nat) : Nat := tabGet 0 (accGet d k).hits tap
      ∃ d, Completes (.gaugeRandomEdge lane code) s d ∧ d.gauge = { s.dev.gauge with acc := d.gauge.acc } ∧
        hits d lane (code % 64) = min (2 ^ 20 - 1) (hits s.dev lane (code % 64) + 1) ∧
        (∀ k tap, k ≠ lane ∨ tap ≠ code % 64 → hits d k tap = hits s.dev k tap) ∧ Only [.gauge] s.fresh d) ∧
    (inTurnaround s.dev = true → s.dev.gauge.closed = false →
      let completes (lane : Nat) : Prop := lane < 1096 ∧ gaugeRuns s.dev lane = true ∧ (accGet s.dev lane).ready = none ∧
        prmGet s.dev 0x0429 ≤ gaugeAge s.dev lane ∧ 65536 ≤ totalHits (accGet s.dev lane).hits
      ∃ d, Completes .gaugeCollectionEnd s d ∧ d.gauge.closed = true ∧ d.sys.now = max s.dev.sys.now (f + 1850000) ∧
        d.gauge.shadow = s.dev.gauge.shadow ∧
        (∀ lane, completes lane → (accGet d lane).ready = some s.dev.seq.frame) ∧
        (∀ lane, ¬ completes lane → (accGet d lane).ready = (accGet s.dev lane).ready) ∧ Only [.sys, .gauge, .ev] s.fresh d) ∧
    (∀ lane n, ticking s.dev = true → (accGet s.dev lane).ready = some n → (n + 1) % 2 ^ 32 = s.dev.seq.frame →
      let hits := (List.range 64).map (tabGet 0 (accGet s.dev lane).hits)
      let ws := deriveWidths hits
      let old := gaugeOf s.dev lane
      let bound := gaugeBound old hits ws
      (∃ d, Completes (.gaugeTableDerive lane false) s d ∧
        (tabWf GaugeAcc.none s.dev.gauge.acc = true → (accGet d lane).ready = none ∧ (accGet d lane).hits = []) ∧
        (bound = 0 → d.gauge.shadow = tabPut lane ⟨ws, true, false, false, old.failBound, satU 24 hits.sum, 0⟩ s.dev.gauge.shadow) ∧
        (bound ≠ 0 → d.gauge.shadow = s.dev.gauge.shadow ∧ gaugeOf d lane = { old with boundFail := true, failBound := bound }) ∧
        Only [.recv, .gauge, .ev] s.fresh d) ∧
      ∃ d, Completes (.gaugeTableDerive lane true) s d ∧ bit d.saf.latched 11 = true ∧ d.saf.railClosed = false ∧
        (s.dev.sys.op ≠ .safeStop → d.sys.op = .safeStop) ∧
        Only [.sys, .recv, .gauge, .pts, .emi, .saf, .slu, .pcie, .kmp, .ev, .writes, .out] s.fresh d) ∧
    (s.dev.tim.slewing = true →
      Completes .ageingSlewComplete s (finishWhere (fun c => c.op == 0x0502) stOk (leS 4 s.dev.tim.ageingTarget)
        (modTim (fun t => { t with ageing := t.ageingTarget, slewing := false }) (advanceTuss (slewEnd s.dev) s.fresh)))) ∧
    (s.dev.tim.slewing = false → Completes .ageingSlewComplete s s.fresh)

/-- Switches, pulses and clocks as Tussock judges them. A failed rail switch test trips with cause RAIL; a passed one clears its own
failure with the rail open, and may end a waiting ARM, and inhibits for 20 µs with it closed. A failed or overloaded output is locked out,
and passed tests count in lockout alone. The oldest report of a segment's pulse is charged to its cells and no others at every time base,
calibration firing's to every azimuth of its bank; OUT_OF_SPAN and a budget passed trip. A missing report is charged at worst
case and counted, the eighth trips. A sub-interval ages out of one base. Two bad clock windows in a row trip. -/
def Obligations.TussockJudgesSwitchesPulsesAndClocks : Prop :=
  ∀ s : State, Calm s.dev →
    let tripTouched : List Part := [.sys, .pts, .emi, .saf, .slu, .pcie, .kmp, .ev, .writes, .out]
    let stops (d : Dev) : Prop := d.saf.railClosed = false ∧ d.emi.inhibit = true ∧ Only tripTouched s.fresh d ∧
      (s.dev.sys.op = .ready ∨ s.dev.sys.op = .armed ∨ s.dev.sys.op = .running → d.sys.op = .safeStop)
    let cc := cellCentre s.dev.saf.committed
    let a := pulseAngle s.dev
    let cells (r : PulseRep) : List Nat := if r.still = true then List.range 32 else cellsCharged cc a.1 a.2
    let charged (d : Dev) (r : PulseRep) (e : Nat) : Prop :=
      (r.still = false → 256000 < outsideSpan cc a.1 → stops d ∧ bit d.saf.latched 2 = true ∧ d.saf.cells = s.dev.saf.cells) ∧
      (r.still = true ∨ outsideSpan cc a.1 ≤ 256000 → r.seg < 136 → 0 < e → ∀ base, base < 5 →
        (∀ x ∈ cells r, accSum d base (8 * x + r.seg / 17) = accSum s.dev base (8 * x + r.seg / 17) + e) ∧
        (∀ k, k < 256 → (∀ x ∈ cells r, k ≠ 8 * x + r.seg / 17) → accSum d base k = accSum s.dev base k) ∧
        ((∃ x ∈ cells r, budgetOf s.dev base < accSum s.dev base (8 * x + r.seg / 17) + e) → stops d ∧ bit d.saf.latched 1 = true))
    let oldest (n : Nat) : Option PulseRep := s.dev.emi.reports.find? (fun r => r.seg == n)
    (∀ k, ticking s.dev = true → k < 2 → s.dev.saf.railClosed = false →
      (∃ d, Completes (.railSwitchTest k false) s d ∧ stops d ∧ bit d.saf.latched 7 = true ∧ d.saf.railFail = 3) ∧
      (findRunning s.dev 0x0103 = none → Completes (.railSwitchTest k true) s
        (modSaf (fun x => { x with railFail := putBit x.railFail k false }) s.fresh)) ∧
      (∀ c, findRunning s.dev 0x0103 = some c → s.dev.sys.op = .ready → s.dev.scan.lock = true →
        putBit s.dev.saf.armTests k true = 3 →
        ∃ d, Completes (.railSwitchTest k true) s d ∧ d.sys.op = .armed ∧ d.saf.railClosed = true ∧ d.emi.inhibit = false)) ∧
    (∀ k, ticking s.dev = true → k < 2 → s.dev.saf.railClosed = true → inTurnaround s.dev = true → k = s.dev.seq.frame % 2 →
      let d0 := advanceTo (diagStart s.dev + 10000) s.fresh
      Completes (.railSwitchTest k true) s (modEmi (fun e => { e with testEnd := tussNow d0 + 20000 }) d0) ∧
      ∃ d, Completes (.railSwitchTest k false) s d ∧ stops d ∧ bit d.saf.latched 7 = true ∧ d.saf.railFail = 3) ∧
    (∀ k pass, s.dev.saf.railClosed = true → inTurnaround s.dev = false ∨ k ≠ s.dev.seq.frame % 2 →
      Completes (.railSwitchTest k pass) s s.fresh) ∧
    (∀ n k, ticking s.dev = true → n < 2 → k < 2 → n < s.dev.saf.outs.length →
      (∀ pass shorted, pass = false ∨ shorted = true →
        ∃ d t, Completes (.outputSwitchTest n k pass shorted) s d ∧ Only [.saf, .ev] s.fresh d ∧
          exec (.outputSwitchTest n k pass shorted) s = .next t ∧ (safeOut t.dev n).locked = true ∧
          (safeOut t.dev n).energised = false ∧ (safeOut t.dev n).passed = 0) ∧
      ((safeOut s.dev n).energised = false → (safeOut s.dev n).locked = true →
        ∃ d t, Completes (.outputSwitchTest n k true false) s d ∧ Only [.saf] s.fresh d ∧
          exec (.outputSwitchTest n k true false) s = .next t ∧ (safeOut t.dev n).locked = true ∧
          (safeOut t.dev n).passed = putBit (safeOut s.dev n).passed k true) ∧
      ((safeOut s.dev n).energised = true → Completes (.outputSwitchTest n k true false) s s.fresh)) ∧
    (∀ n, n < 2 → n < s.dev.saf.outs.length → (safeOut s.dev n).energised = true →
      ∃ d t, Completes (.outputOvercurrent n) s d ∧ Only [.saf, .ev] s.fresh d ∧ exec (.outputOvercurrent n) s = .next t ∧
        (safeOut t.dev n).locked = true ∧ (safeOut t.dev n).energised = false) ∧
    (∀ n, (safeOut s.dev n).energised = false → Completes (.outputOvercurrent n) s s.fresh) ∧
    (∀ n, oldest n = none → Completes (.pulseReport n) s s.fresh ∧ Completes (.pulseReportTimeout n) s s.fresh) ∧
    (∀ n r, oldest n = some r →
      (∃ d, Completes (.pulseReport n) s d ∧ d.emi.reports = s.dev.emi.reports.erase r ∧ charged d r (reportedFj r) ∧
        Only tripTouched s.fresh d) ∧
      ∃ d, Completes (.pulseReportTimeout n) s d ∧ d.emi.reports = s.dev.emi.reports.erase r ∧ charged d r 59856000 ∧
        d.saf.missing = s.dev.saf.missing + 1 ∧ (s.dev.saf.missing = 7 → stops d ∧ bit d.saf.latched 9 = true) ∧
        Only tripTouched s.fresh d) ∧
    (∀ base, base < 5 → s.dev.sys.inReset = false →
      ∃ d, Completes (.accumulatorSubinterval base) s d ∧
        d.saf = { s.dev.saf with fill := listMod s.dev.saf.fill base (fun l => (0 :: l).take 17), cells := d.saf.cells } ∧
        (∀ e, e ∈ d.saf.cells ↔ e.2 ≠ List.replicate 17 0 ∧ ∃ e' ∈ s.dev.saf.cells, e.1 = e'.1 ∧
          e.2 = if e'.1 / 256 = base then (0 :: e'.2).take 17 else e'.2) ∧ Only [.saf] s.fresh d) ∧
    (∀ ratios, ticking s.dev = true ∨ s.dev.sys.op = .bindOff →
      let bad := (List.range 3).any (fun i => ratioBad (s.dev.saf.clockRatios.getD i 0) (ratios.getD i 0))
      let t := s.dev.saf.clockAt + 1000000
      (bad = false ∨ s.dev.saf.clockBad = false → Completes (.clockCrossCheck ratios) s (advanceTuss t
        (modSaf (fun x => { x with clockAt := t, clockBad := bad, clockPresent := bad }) s.fresh))) ∧
      (bad = true → s.dev.saf.clockBad = true → ∃ d, Completes (.clockCrossCheck ratios) s d ∧ stops d ∧ bit d.saf.latched 8 = true ∧
        d.saf.clockPresent = true ∧ d.saf.clockAt = t)) ∧
    (∀ ratios, s.dev.sys.op = .castOn ∨ s.dev.sys.op = .halted → Completes (.clockCrossCheck ratios) s s.fresh)

/-- Inputs, restart and VSAFE. An input takes a level that has lasted its filter time outside its own source's test pulses, and keeps its
level within them; one that stays high in its pulse a second time running is faulty. A test pulse drops at its next place and its
readback judges it. An automatic output energises when its delay is over and its conditions hold, and not otherwise. VSAFE is in range
from 17.0 V to 29.7 V, out of it below 16.8 V and above 30.0 V, between them as judged. A pending configuration that is not confirmed is
dropped at its deadline. -/
def Obligations.SafetyInputsAndOutputsFollow : Prop :=
  ∀ s : State, Calm s.dev →
    let clock (t : Nat) : Nat := max s.dev.sys.now ((t : Int) + s.dev.sys.stepSum).toNat
    (∀ levels i, ticking s.dev = true → i < 8 →
      let x := safeIn s.dev i
      let t := max (tussNow s.dev) (s.dev.saf.sampleAt + 50000)
      ∃ d, Completes (.safetyInputSample levels) s d ∧ d.saf.sampleAt = t ∧ d.sys = { s.dev.sys with now := clock t } ∧
        (ownPulse s.dev i t = none → (safeIn d i).filt =
          if bit levels i ≠ x.filt ∧ x.since + cfgU s.dev (0x43 + 8 * i) 1 * 1000000 ≤ t then bit levels i else x.filt) ∧
        (∀ p, ownPulse s.dev i t = some p → (safeIn d i).filt = x.filt ∧
          (x.judged = false → p + 300000 ≤ t → t < p + 400000 → x.filt = true → bit levels i = false → (safeIn d i).missed = 0) ∧
          (x.judged = false → p + 300000 ≤ t → t < p + 400000 → x.filt = true → bit levels i = true → 1 ≤ x.missed →
            (safeIn d i).fault = true)) ∧
        d.saf.committed = s.dev.saf.committed ∧ d.saf.railClosed = s.dev.saf.railClosed ∧ Only [.sys, .saf, .ev] s.fresh d) ∧
    (∀ k readback, ticking s.dev = true → k < 4 →
      let t := pulsePlace (tussNow s.dev) k
      ∃ d, Completes (.testPulse k readback) s d ∧ d.sys = { s.dev.sys with now := clock t } ∧ d.saf = { s.dev.saf with
        pulses := listMod s.dev.saf.pulses k (fun _ => some t), tpFault := putBit s.dev.saf.tpFault k (decide (readback ≠ 0)),
        inputs := s.dev.saf.inputs.map (fun x => { x with judged := false }) } ∧ Only [.sys, .saf, .ev] s.fresh d) ∧
    (∀ n, n < 2 → n < s.dev.saf.outs.length → restartAuto s.dev n = true → (safeOut s.dev n).energised = false →
      (∀ since, outConditions s.dev n = true → (safeOut s.dev n).condSince = some since →
        ∃ d t, Completes (.restartDelayExpiry n) s d ∧ d.sys = { s.dev.sys with now := clock (since + restartDelay s.dev n) } ∧
          Only [.sys, .saf, .ev] s.fresh d ∧ exec (.restartDelayExpiry n) s = .next t ∧ (safeOut t.dev n).energised = true) ∧
      (outConditions s.dev n = false ∨ (safeOut s.dev n).condSince = none → Completes (.restartDelayExpiry n) s s.fresh)) ∧
    (∀ ok mv,
      let j := decide (17000 ≤ mv ∧ mv ≤ 29700) || (ok && !decide (mv < 16800 ∨ 30000 < mv))
      ∃ d, Completes (.vsafeJudgementChange ok mv) s d ∧ d.saf = { s.dev.saf with vsafeOk := j, vsafeMv := min mv 65535 } ∧
        Only [.saf, .ev] s.fresh d) ∧
    (∀ p, s.dev.saf.pending = some p →
      ∃ d, Completes .safePendingExpiry s d ∧ d.saf = { s.dev.saf with pending := none } ∧
        d.sys = { s.dev.sys with now := clock (p.2.2 + 10000000000) } ∧ Only [.sys, .saf, .ev] s.fresh d) ∧
    (s.dev.saf.pending = none → Completes .safePendingExpiry s s.fresh)

/-- Hahild Safe Transport. A whole datagram of a connection queues its check, one to no service is counted. With no point tag waiting the
oldest check ends: in CLOSED and FAULT without effect, after the watchdog's interval as fault 1; in START a malformed message
counts as a check failure alone, a good one with a SYNC's stamp brings RUN; in RUN a good one is accepted, one not later is
discarded and counted, a SYNC is fault 5, a stale one fault 2. While Hook B is idle messages leave each cycle in START and RUN, and
when the data change in RUN, with the next sequence number. The watchdog brings FAULT, cause 1; an automatic connection
restarts from an open sequence number. -/
def Obligations.SafeTransportConnectionsStep : Prop :=
  ∀ s : State, Calm s.dev →
    let others (k : Nat) (d : Dev) : Prop := ∀ c, c ≠ k → connGet d c = connGet s.dev c
    let clock (t : Nat) : Nat := max s.dev.sys.now ((t : Int) + s.dev.sys.stepSum).toNat
    let bumped (l : List Nat) (i : Nat) : List Nat := listMod l i (fun v => min (v + 1) (2 ^ 32 - 1))
    (∀ k addr port data, s.dev.sys.inReset = false → s.dev.net.linkUp.any id = true →
      (8 ≤ k → Completes (.hstDatagramArrival k addr port data false) s
        (modNet (fun n => { n with udpDiscarded := min (2 ^ 32 - 1) (n.udpDiscarded + 1) }) s.fresh)) ∧
      (k < 8 → hstServes s.dev = true → Completes (.hstDatagramArrival k addr port data false) s
        (modHst (fun h => { h with jobs := h.jobs ++ [(k, data)] }) s.fresh))) ∧
    (s.dev.hst.jobs = [] ∨ tagsWait s.dev = true → Completes .hstReceiveCheck s s.fresh) ∧
    (∀ j js, s.dev.hst.jobs = j :: js → tagsWait s.dev = false → hstServes s.dev = true → j.1 < s.dev.hst.conns.length →
      let x := connGet s.dev j.1
      let m := j.2
      let ident := connCfg s.dev j.1 0 4
      let seq := rdU m 4 4
      let stamp := rdU m 0x0C 4
      let timely : Prop := wrapU 32 (stampNow s.dev + 2 ^ 32 - stamp) ≤ connWd s.dev j.1 / 1000
      let good : Prop := hstForm m = true ∧ rdU m 0 4 = ident ∧ hookCheck ident seq (m.take 88) = rdU m 0x58 4
      let live : Prop := tussNow s.dev < x.acceptedAt + connWd s.dev j.1
      let ends (P : Conn → Prop) : Prop := ∃ d, Completes .hstReceiveCheck s d ∧ d.hst.jobs = js ∧ P (connGet d j.1) ∧ others j.1 d ∧
        Only [.saf, .hst, .ev] s.fresh d
      let accepted (y : Conn) : Prop := y.state = .run ∧ y.rxSeq = some seq ∧ y.echo = rdU m 8 4 ∧ y.acceptedAt = tussNow s.dev
      let faulty (cause : Nat) (y : Conn) : Prop := y.state = .fault ∧ y.cause = cause ∧ y.seen = true
      (x.state = .closed ∨ x.state = .fault → Completes .hstReceiveCheck s (modHst (fun h => { h with jobs := js }) s.fresh)) ∧
      (x.state = .start → ¬ good ∨ ¬ timely ∨ (stamp, 2) ∉ x.stamps →
        ends (fun y => y.state = .start ∧ y.rxSeq = x.rxSeq ∧ y.counters = bumped x.counters 2)) ∧
      (x.state = .start → good → timely → (stamp, 2) ∈ x.stamps → ends accepted) ∧
      (x.state = .run → ¬ live → ends (faulty 1)) ∧
      (x.state = .run → live → good → laterThan 32 seq (x.rxSeq.getD 0) = false →
        ends (fun y => y.state = .run ∧ y.rxSeq = x.rxSeq ∧ y.acceptedAt = x.acceptedAt ∧ y.counters = bumped x.counters 3)) ∧
      (∀ last, x.state = .run → live → good → x.rxSeq = some last → last < 2 ^ 32 → seq = wrapU 32 (last + 1) →
        (rdU m 0x10 1 = 2 → ends (faulty 5)) ∧
        (rdU m 0x10 1 = 1 → ¬ timely ∨ stamp ∉ x.stamps.map (·.1) → ends (faulty 2)) ∧
        (rdU m 0x10 1 = 1 → timely → stamp ∈ x.stamps.map (·.1) →
          ends (fun y => accepted y ∧ y.permit = rdU m 0x18 1 % 4 ∧ y.set = rdU m 0x19 1)))) ∧
    (∀ k, hstServes s.dev = true → k < s.dev.hst.conns.length →
      let x := connGet s.dev k
      let sent (d : Dev) : Prop := (connGet d k).txSeq = wrapU 32 (x.txSeq + 1) ∧ (connGet d k).state = x.state ∧ others k d ∧
        Only [.sys, .hst, .slu, .ev] s.fresh d ∧
        ((s.dev.net.peers.getD k Dest.unset).family ≠ 0 → 0 < s.dev.slu.ports.length →
          ∃ msg, msg.requester = 1 ∧ (portGet d.slu 0).msgs = (portGet s.dev.slu 0).msgs ++ [msg] ∧
            msg.srcPort = 51200 + k ∧ msg.bytes.length = 92)
      (x.state = .start ∨ x.state = .run → hookBWaits s.dev = false →
        ∃ d, Completes (.hstCycleSend k) s d ∧ sent d ∧ d.sys.now = clock x.cycleAt ∧
          (connGet d k).cycleAt = x.cycleAt + connCfg s.dev k 6 2 * 1000000) ∧
      (x.state = .run → (hstData s.dev).take 4 ≠ x.sent → hookBWaits s.dev = false →
        ∃ d, Completes (.hstChangeSend k) s d ∧ sent d ∧ d.sys.now = clock (x.extraAt + 1000000) ∧
          (connGet d k).cycleAt = x.cycleAt) ∧
      (x.state ≠ .run ∨ (hstData s.dev).take 4 = x.sent ∨ hookBWaits s.dev = true → Completes (.hstChangeSend k) s s.fresh) ∧
      (x.state = .closed ∨ x.state = .fault ∨ hookBWaits s.dev = true → Completes (.hstCycleSend k) s s.fresh) ∧
      (x.state = .run →
        ∃ d, Completes (.hstWatchdogExpiry k) s d ∧ (connGet d k).state = .fault ∧ (connGet d k).cause = 1 ∧ (connGet d k).seen = true ∧
          d.sys.now = clock (x.acceptedAt + connWd s.dev k) ∧ others k d ∧ Only [.sys, .saf, .hst, .ev] s.fresh d) ∧
      (x.state = .fault → connCfg s.dev k 0x0A 1 = 1 →
        ∃ d, Completes (.hstAutoRestart k) s d ∧ (connGet d k).state = .start ∧ (connGet d k).rxSeq = none ∧
          (connGet d k).stamps = [] ∧ (connGet d k).txSeq = wrapU 32 (Config.jitter s.dev.drawn) ∧ (connGet d k).counters = x.counters ∧
          d.sys.now = clock (x.faultAt + connWd s.dev k) ∧ others k d ∧ Only [.sys, .saf, .hst, .ev, .drawn] s.fresh d))

/-- Grants. A port with a grant in flight issues none; one without takes what its arbiter chooses, holds it with the requester remembered
in its class, and takes the message or the event records off their queue. A port that cannot send completes nothing. Completed, a
grant is over: port 0 sends every datagram, port 1 writes every entry to the host, the FIFO takes the entries whole, and a KMP response on
ports 1 and 2, already in its slot, sends nothing. The hold watchdog takes an overdue grant away, marked and reported. A ring's
moderation time fires its vector for the entries it holds. -/
def Obligations.GrantsAreIssuedAndEnded : Prop :=
  ∀ s : State, Calm s.dev →
    let otherGrants (p : Nat) (d : Dev) : Prop := ∀ k, k ≠ p → (portGet d.slu k).grant = (portGet s.dev.slu k).grant
    let clock (t : Nat) : Nat := max s.dev.sys.now ((t : Int) + s.dev.sys.stepSum).toNat
    (∀ p, 2 < p ∨ (portGet s.dev.slu p).grant ≠ none → Completes (.grantIssue p) s s.fresh) ∧
    (∀ p, p < 3 → p < s.dev.slu.ports.length → (portGet s.dev.slu p).grant = none →
      (∀ g, arbitrate (notePools p s.fresh) p = some g →
        ∃ d, Completes (.grantIssue p) s d ∧ (portGet d.slu p).grant = some g ∧
          (portGet d.slu p).lastServed = listMod (portGet s.dev.slu p).lastServed ((portGet s.dev.slu p).classes.getD g.requester 3)
            (fun _ => g.requester) ∧
          (1 ≤ g.requester → g.requester ≤ 3 → (portGet d.slu p).msgs = dropMsg g.requester (portGet s.dev.slu p).msgs) ∧
          (g.requester = 4 → (evQueueOf d p).recs = (evQueueOf (notePools p s.fresh) p).recs.drop 32) ∧
          otherGrants p d ∧ Only [.slu, .peat, .net, .pcie, .spi, .kmp, .diag, .ev, .writes, .out] s.fresh d) ∧
      (arbitrate (notePools p s.fresh) p = none → Completes (.grantIssue p) s (notePools p s.fresh) ∧
        Only [.ev] s.fresh (notePools p s.fresh))) ∧
    (∀ p, (portGet s.dev.slu p).grant = none → Completes (.grantComplete p) s s.fresh ∧ Completes (.grantHoldWatchdog p) s s.fresh) ∧
    (∀ p g, p < s.dev.slu.ports.length → (portGet s.dev.slu p).grant = some g →
      let ended (d : Dev) : Prop := (portGet d.slu p).grant = none ∧ otherGrants p d
      (g.requester ≠ 3 ∨ p = 0 → txReady s.dev p = false ∨ 2 < p → Completes (.grantComplete p) s s.fresh) ∧
      (g.requester = 3 → p ≠ 0 → msgReady s.dev p = false → Completes (.grantComplete p) s s.fresh) ∧
      (g.requester = 3 → p ≠ 0 → msgReady s.dev p = true →
        ∃ d, Completes (.grantComplete p) s d ∧ ended d ∧ Only [.slu, .ev] s.fresh d) ∧
      (p = 0 → txReady s.dev 0 = true → prmGet s.dev 0x0F08 = 0 →
        ∃ d, Completes (.grantComplete 0) s d ∧ ended d ∧ Only [.slu, .net, .ev, .out] s.fresh d ∧
          ∀ e ∈ g.entries, ∃ f, Out.udp (grantTo s.dev g).1 (grantTo s.dev g).2.1 (grantTo s.dev g).2.2 e f ∈ d.out) ∧
      (p = 1 → txReady s.dev 1 = true → g.requester ≠ 3 →
        ∃ d, Completes (.grantComplete 1) s d ∧ ended d ∧ Only [.slu, .pcie, .ev, .out] s.fresh d ∧
          ∀ e ∈ g.entries, ∃ addr, Out.dma addr e ∈ d.out) ∧
      (p = 2 → txReady s.dev 2 = true → g.requester ≠ 3 →
        ∃ d, Completes (.grantComplete 2) s d ∧ ended d ∧ Only [.slu, .spi, .ev] s.fresh d ∧
          d.spi = { s.dev.spi with fifo := s.dev.spi.fifo ++ g.entries.flatten,
                                   entries := s.dev.spi.entries ++ g.entries.map (·.length) }) ∧
      ∃ d, Completes (.grantHoldWatchdog p) s d ∧ ended d ∧ (portGet d.slu p).wdBite = true ∧
        d.sys = { s.dev.sys with now := clock (g.issued + g.hold * 1000000) } ∧ Only [.sys, .slu, .ev] s.fresh d) ∧
    (∀ r first, r < s.dev.pcie.rings.length → (ringGet s.dev r).firstAt = some first → (ringGet s.dev r).mod / 65536 ≠ 0 →
      ∃ d, Completes (.ringModerationTimer r) s d ∧ ringGet d r = { ringGet s.dev r with entries := 0, firstAt := none } ∧
        (∀ k, k ≠ r → ringGet d k = ringGet s.dev k) ∧
        d.sys = { s.dev.sys with now := clock (first + (ringGet s.dev r).mod / 65536 * 1000) } ∧ Only [.sys, .pcie, .out] s.fresh d) ∧
    (∀ r, (ringGet s.dev r).firstAt = none ∨ (ringGet s.dev r).mod / 65536 = 0 → Completes (.ringModerationTimer r) s s.fresh)

/-- Triggers. In ARMED Peat accepts the first of the triggers that wait and fills for the post frames configured, or closes at once where
there are none; a trigger of the SYNC bus goes no further, another is forwarded as enabled. After a close in repeat mode a free segment
is armed under the next number, and with none free Peat is FULL. TRIG_IN takes the edge configured; one within 2 µs of an accepted one
is an overrun, another reaches an armed Peat with its stamp where it is enabled. TRIG_OUT ends at its time. Else each changes nothing. -/
def Obligations.TriggersAreAcceptedAndForwarded : Prop :=
  ∀ s : State, Calm s.dev →
    let touched : List Part := [.slu, .peat, .pcie, .sync, .trig, .kmp, .ev, .writes, .out]
    (s.dev.peat.state ≠ .armed ∨ s.dev.peat.trigs = [] → Completes .peatTriggerAccept s s.fresh) ∧
    (∀ t, s.dev.peat.state = .armed → firstTrig s.dev.peat.trigs = some t →
      ∃ d, Completes .peatTriggerAccept s d ∧ d.peat.trigs = [] ∧
        d.peat.closeFrame = wrapU 32 (s.dev.seq.frame + peatPost s.dev - 1) ∧
        (peatPost s.dev ≠ 0 → d.peat.state = .filling) ∧
        (peatPost s.dev = 0 → d.peat.state = if peatRepeat s.dev = true then .dead else .idle) ∧
        (t.1 = 2 → d.sync = s.dev.sync ∧ d.trig = s.dev.trig) ∧
        (t.1 ≠ 2 → bit (peatField s.dev 0x10 1) 0 = true →
          d.sync = { s.dev.sync with xtrig := some (le 1 t.1 ++ zeros 3 ++ le 8 t.2.2) }) ∧
        (t.1 ≠ 2 → bit (peatField s.dev 0x10 1) 0 = false → d.sync = s.dev.sync) ∧
        (t.1 ≠ 2 → d.trig.outActive = (s.dev.trig.outActive || bit (peatField s.dev 0x10 1) 1)) ∧ Only touched s.fresh d) ∧
    (∀ k ks, s.dev.peat.state = .dead → peatFree s.dev = k :: ks →
      ∃ d, Completes .peatRearm s d ∧ d.peat.state = .armed ∧ d.peat.seg = k ∧ d.peat.number = wrapU 32 (s.dev.peat.number + 1) ∧
        Only [.peat, .ev] s.fresh d) ∧
    (s.dev.peat.state = .dead → peatFree s.dev = [] →
      Completes .peatRearm s (raise 466 0 [] (modPeat (fun p => { p with state := .full }) s.fresh))) ∧
    (s.dev.peat.state ≠ .dead → Completes .peatRearm s s.fresh) ∧
    (∀ (rising : Bool) (t : Nat), s.dev.sys.inReset = false →
      let at_ : Int := (t : Int) - s.dev.sys.stepSum
      (rising ≠ decide (prmGet s.dev 0x0F10 = 0) → Completes (.trigInEdge rising t) s s.fresh) ∧
      (rising = decide (prmGet s.dev 0x0F10 = 0) →
        (∀ u, s.dev.trig.lastIn = some u → at_ < u + 2000 → Completes (.trigInEdge rising t) s
          (raise 115 0 [] (modTrig (fun x => { x with overruns := min (2 ^ 32 - 1) (x.overruns + 1) }) (advanceTo t s.fresh)))) ∧
        ((∀ u, s.dev.trig.lastIn = some u → (u : Int) + 2000 ≤ at_) →
          ∃ d, Completes (.trigInEdge rising t) s d ∧ d.sys = { s.dev.sys with now := max s.dev.sys.now t } ∧
            d.trig = { s.dev.trig with lastIn := some at_.toNat } ∧
            (peatTrigOn s.dev 0 = true → s.dev.peat.state = .armed →
              d.peat = { s.dev.peat with trigs := s.dev.peat.trigs ++ [(1, if rising = true then 0 else 1, t)] }) ∧
            (peatTrigOn s.dev 0 = false → d.peat = s.dev.peat) ∧ Only [.sys, .loops, .peat, .trig, .ev] s.fresh d))) ∧
    (s.dev.trig.outActive = true → Completes .trigOutPulseEnd s
      (modTrig (fun x => { x with outActive := false }) (advanceTuss s.dev.trig.outEnd s.fresh))) ∧
    (s.dev.trig.outActive = false → Completes .trigOutPulseEnd s s.fresh)

/-- The backbone port. A link's change is noted, a link going down is not asCapable, and with both down the grant in flight and port
0's session end. A frame on a link that is down or of over 2 100 bytes does nothing; another is counted where it names the other LAN,
discarded where its sequence was seen, remembered else, and its MACsec fields move its receive channel where MACsec is on. A
supervision frame leaves on each link that is up, 2 s apart. 802.1AS messages of another domain, of a Sync interval not allowed, of
another kind or on a link that is down do nothing; the others set the neighbour delay, the grandmaster and, on the slave port, the
servo, which a Sync leaves locked within 1 µs and brings from free-running or holdover to locking, stepping the time beyond 100 µs.
The slave port is one with the best grandmaster; it moves to the other link only under the same one. The servo locks and holds over at
its times. Another station with this node's address is a conflict, and a request to it is answered on both links. -/
def Obligations.BackboneEventsAct : Prop :=
  ∀ s : State, Calm s.dev →
    let net := s.dev.net
    let up (l : Nat) : Prop := net.linkUp.getD l false = true
    let clock (t : Nat) : Nat := max s.dev.sys.now ((t : Int) + s.dev.sys.stepSum).toNat
    (∀ l v, 1 < l ∨ physOff s.dev = true ∨ net.linkUp.getD l false = v → Completes (.linkStateChange l v) s s.fresh) ∧
    (∀ l v, l ≤ 1 → physOff s.dev = false → l < net.linkUp.length → net.linkUp.getD l false ≠ v →
      ∃ d, Completes (.linkStateChange l v) s d ∧
        d.net = { net with linkUp := listMod net.linkUp l (fun _ => v), gptp := d.net.gptp } ∧
        (v = true → d.net.gptp = net.gptp) ∧ (v = false → (gptpGet d l).asCapable = false) ∧
        (d.net.linkUp.any id = true → Only [.net, .ev] s.fresh d) ∧
        (d.net.linkUp.any id = false → (portGet d.slu 0).grant = none ∧ (∀ x, d.kmp.session = some x → portOfMb x.mb ≠ 0) ∧
          Only [.saf, .slu, .peat, .net, .pcie, .kmp, .ev, .writes, .out] s.fresh d)) ∧
    (∀ l src seq lan sc an pn len sec valid, ¬ up l ∨ 2100 < len →
      Completes (.prpFrameReceive l src seq lan sc an pn len sec valid) s s.fresh) ∧
    (∀ l src seq lan sc an pn len sec valid, up l → len ≤ 2100 →
      let nodes := freshNodes (tussNow s.dev) net.prp
      let seen := nodes.find? (fun n => n.mac == src)
      let repeated := seen.any (fun n => n.seqs.any (fun e => e.1 == seq))
      let good (sa : Sa) : Prop := valid = true ∧ pn ≠ 0 ∧ sa.pn ≤ pn + prmGet s.dev 0x0F09
      ∃ d, Completes (.prpFrameReceive l src seq lan sc an pn len sec valid) s d ∧ Only [.net, .ev] s.fresh d ∧
        d.net.wrongLan = (if lan = l then net.wrongLan else min (2 ^ 32 - 1) (net.wrongLan + 1)) ∧
        (repeated = true → d.net = { net with prp := nodes, wrongLan := d.net.wrongLan,
                                              dupDiscarded := min (2 ^ 32 - 1) (net.dupDiscarded + 1) }) ∧
        (repeated = false →
          d.net.dupDiscarded = net.dupDiscarded ∧
          (seen.isSome = true ∨ nodes.length < 256 → (∃ x ∈ d.net.prp, x.mac = src ∧ (seq, tussNow s.dev) ∈ x.seqs) ∧
            d.net.dupPassed = net.dupPassed) ∧
          (seen = none → 256 ≤ nodes.length → d.net.prp = nodes ∧ d.net.dupPassed = min (2 ^ 32 - 1) (net.dupPassed + 1)) ∧
          (prmGet s.dev 0x0F08 = 0 ∨ sec = false → d.net.rxScs = net.rxScs) ∧
          (prmGet s.dev 0x0F08 ≠ 0 → sec = true → sc < net.rxScs.length →
            (∀ sa, (rxSc s.dev sc).sas.getD an none = some sa → good sa → rxSc d sc =
              { rxSc s.dev sc with sas := setSa an (some { sa with pn := max sa.pn (pn + 1) }) (rxSc s.dev sc).sas }) ∧
            ((∀ sa, (rxSc s.dev sc).sas.getD an none = some sa → ¬ good sa) → rxSc d sc =
              { rxSc s.dev sc with failures := min (2 ^ 32 - 1) ((rxSc s.dev sc).failures + 1) })))) ∧
    (net.linkUp.any id = false → Completes .prpSupervisionSend s s.fresh) ∧
    (net.linkUp.any id = true →
      ∃ d, Completes .prpSupervisionSend s d ∧ d.sys = { s.dev.sys with now := clock net.supervisionAt } ∧
        d.net = { net with prpSeq := wrapU 16 (net.prpSeq + 1), rctSeq := wrapU 16 (net.rctSeq + 1),
                           supervisionAt := tussNow d + 2000000000 } ∧
        (∀ l, l ≤ 1 → up l → ∃ f, Out.link l (be 2 1 ++ be 2 net.prpSeq ++ le 1 20 ++ le 1 6 ++ macBytes s.dev ++ zeros 2) f ∈ d.out) ∧
        Only [.sys, .net, .out] s.fresh d) ∧
    Completes .prpSupervisionLoss s (raise 98 1 [] s.fresh) ∧
    (∀ l domain kind gm (interval value rate : Int),
      ¬ up l ∨ domain ≠ 0 ∨ 2 < kind ∨ (kind = 0 ∧ (interval < -5 ∨ 0 < interval)) ∨
          (kind = 0 ∧ (net.slave ≠ some l ∨ (gptpGet s.dev l).asCapable = false)) →
        Completes (.gptpMessageReceive l domain kind gm interval value rate) s s.fresh) ∧
    (∀ l gm (interval value rate : Int), up l → l < net.gptp.length →
      let selected (d : Dev) : Prop := (bestPort d = none → d.net.slave = net.slave) ∧
        ∀ b, bestPort d = some b → ∃ k, d.net.slave = some k ∧ (gptpGet d k).asCapable = true ∧ (gptpGet d k).gm = (gptpGet d b).gm
      (∃ d, Completes (.gptpMessageReceive l 0 1 gm interval value rate) s d ∧ selected d ∧
        d.net = { net with slave := d.net.slave
                           gptp := listMod net.gptp l (fun g => { g with delay := value.toNat, asCapable := decide (value < 800) }) } ∧
        d.tim = { s.dev.tim with grandmaster := d.tim.grandmaster } ∧ Only [.net, .tim, .ev] s.fresh d) ∧
      (∃ d, Completes (.gptpMessageReceive l 0 2 gm interval value rate) s d ∧ selected d ∧
        d.net = { net with slave := d.net.slave, gptp := listMod net.gptp l (fun g => { g with gm := gm }) } ∧
        d.tim = { s.dev.tim with grandmaster := d.tim.grandmaster } ∧ Only [.net, .tim, .ev] s.fresh d) ∧
      (-5 ≤ interval → interval ≤ 0 → net.slave = some l → (gptpGet s.dev l).asCapable = true →
        (s.dev.tim.servo = .locked → -1000 ≤ value → value ≤ 1000 →
          ∃ d, Completes (.gptpMessageReceive l 0 0 gm interval value rate) s d ∧
            d.tim = { s.dev.tim with
              lastSync := tussNow s.dev, offset := value, rate := max (-200000) (min 200000 rate), bigOffsets := 0,
              inBandSince := some (s.dev.tim.inBandSince.getD (tussNow s.dev)), rateSamples := d.tim.rateSamples } ∧
            d.tim.rateSamples.head? = some (tussNow s.dev, max (-200000) (min 200000 rate), rxTemp s.dev) ∧
            Only [.tim, .ev] s.fresh d) ∧
        (s.dev.tim.servo = .free ∨ s.dev.tim.servo = .holdover →
          ∃ d, Completes (.gptpMessageReceive l 0 0 gm interval value rate) s d ∧ d.tim.servo = .locking ∧ d.tim.offset = value ∧
            d.tim.rate = max (-200000) (min 200000 rate) ∧ Only [.sys, .seq, .tim, .loops, .sync, .ev] s.fresh d ∧
            (-100000 ≤ value → value ≤ 100000 → d.tim.stepUsed = false ∧ Only [.tim, .ev] s.fresh d) ∧
            (value < -100000 ∨ 100000 < value → d.tim.stepUsed = true ∧ d.sys.now = ((s.dev.sys.now : Int) - value).toNat)))) ∧
    (∀ since, s.dev.tim.servo = .locking → s.dev.tim.inBandSince = some since →
      ∃ d, Completes .servoLockAchieved s d ∧ d.sys = { s.dev.sys with now := clock (since + 10000000000) } ∧
        d.tim = { s.dev.tim with servo := .locked, lockSince := tussNow d, rateSamples := [], bigOffsets := 0 } ∧
        Only [.sys, .tim, .ev] s.fresh d) ∧
    (s.dev.tim.servo ≠ .locking ∨ s.dev.tim.inBandSince = none → Completes .servoLockAchieved s s.fresh) ∧
    (s.dev.tim.servo = .locked ∨ s.dev.tim.servo = .locking →
      ∃ d, Completes .syncLossHoldover s d ∧ d.sys = { s.dev.sys with now := clock (s.dev.tim.lastSync + 3000000000) } ∧
        d.tim = { s.dev.tim with servo := .holdover } ∧ Only [.sys, .tim, .ev] s.fresh d) ∧
    (s.dev.tim.servo = .free ∨ s.dev.tim.servo = .holdover → Completes .syncLossHoldover s s.fresh) ∧
    (net.slave = none → Completes .slavePortReselect s s.fresh) ∧
    (∀ l, net.slave = some l →
      if (gptpGet s.dev (1 - l)).asCapable = true ∧ (gptpGet s.dev (1 - l)).gm = (gptpGet s.dev l).gm then
        Completes .slavePortReselect s (raise 104 0 [] (modNet (fun n => { n with slave := some (1 - l) }) s.fresh))
      else Completes .slavePortReselect s s.fresh) ∧
    (∀ l kind target sender mac,
      let own := if kind = 0 ∨ kind = 2 then net.ip4.addr.take 4 else net.ip6.addr
      let conflict : Prop := sender = own ∧ be 6 mac ≠ macBytes s.dev
      (¬ up l ∨ own.all (· == 0#8) = true ∨ 3 < kind → Completes (.arpNdReceive l kind target sender mac) s s.fresh) ∧
      (up l → own.all (· == 0#8) = false → kind ≤ 3 →
        (conflict → Completes (.arpNdReceive l kind target sender mac) s (raise 105 0 [] s.fresh)) ∧
        (¬ conflict → target ≠ own ∨ txReady s.dev 0 = false → Completes (.arpNdReceive l kind target sender mac) s s.fresh) ∧
        (¬ conflict → target = own → txReady s.dev 0 = true →
          ∃ d, Completes (.arpNdReceive l kind target sender mac) s d ∧ Only [.net, .ev, .out] s.fresh d ∧
            ∀ k, k ≤ 1 → up k → ∃ f, Out.link k (le 1 kind ++ own ++ macBytes s.dev ++ sender ++ be 6 mac) f ∈ d.out)))

/-- PCIe and SPI out of reset. The link trains once, masters the bus and raises 106. A function reset with the link up takes port 1's
grant and session away, returns the endpoint's registers to their reset values but for the ring sequences, and leaves the link up only
after a function-level reset or D3hot; with the link down it does nothing. RPTR takes a multiple of 16 inside its ring, and another value
stops the ring with ERR. A write through a port acts as the command of the register it writes, on RPTR, CMD_PI, RSP_CI, IRQ_STATUS and
RELEASE, sets SPI's IRQ_ENABLE, and reaches the mailbox memory whole; with PCIe's link down or on another port it does nothing. SPI's status
word clears the framing error it shows, its stream takes what it reads off the FIFO, and a cut sets the framing error. The strap reset
empties the port, counts the entries lost and ends port 2's session. An SPI write off the word grid or beyond the space is a framing
error alone, one of whole words inside it acts as the same register write, and a read of the mailbox memory answers its bytes. -/
def Obligations.PcieAndSpiTransactionsAct : Prop :=
  ∀ s : State, Calm s.dev → s.dev.sys.inReset = false →
    let mastered (d : Dev) : Prop := d.pcie.busMaster = true
    (s.dev.pcie.linkUp = false →
      Completes .pcieLinkTrained s (raise 106 0 [] (modPcie (fun p => { p with linkUp := true, busMaster := true }) s.fresh))) ∧
    (s.dev.pcie.linkUp = true → Completes .pcieLinkTrained s s.fresh) ∧
    (∀ cause, s.dev.pcie.linkUp = true →
      ∃ d, Completes (.pcieFunctionReset cause) s d ∧ (portGet d.slu 1).grant = none ∧
        (∀ x, d.kmp.session = some x → portOfMb x.mb ≠ 1) ∧
        d.pcie = { Pcie.reset with
          linkUp := !(cause == 1 || cause == 2 || cause == 4), vecs := d.pcie.vecs,
          rings := s.dev.pcie.rings.map (fun x => { Ring.reset with seq := x.seq }) } ∧
        ((∀ x, s.dev.kmp.session = some x → portOfMb x.mb ≠ 1) → d.kmp = s.dev.kmp ∧ d.pcie.vecs = Pcie.reset.vecs) ∧
        Only [.saf, .slu, .peat, .pcie, .kmp, .ev, .writes, .out] s.fresh d) ∧
    (∀ cause, s.dev.pcie.linkUp = false → Completes (.pcieFunctionReset cause) s s.fresh) ∧
    (∀ r v, s.dev.pcie.linkUp = true → r < 8 → r < s.dev.pcie.rings.length →
      ∃ d, Completes (.rptrWrite r v) s d ∧ mastered d ∧ d.pcie.rings = listMod s.dev.pcie.rings r (fun x =>
          if wrapU 32 v % 16 = 0 ∧ wrapU 32 v < 2 ^ x.size then { x with rptr := wrapU 32 v } else { x with err := true, en := false }) ∧
        Only [.pcie, .ev, .out] s.fresh d) ∧
    (∀ r v, s.dev.pcie.linkUp = true → 7 < r →
      ∃ d, Completes (.rptrWrite r v) s d ∧ mastered d ∧ d.pcie.rings = s.dev.pcie.rings ∧ Only [.pcie, .out] s.fresh d) ∧
    (∀ r v, s.dev.pcie.linkUp = false → Completes (.rptrWrite r v) s s.fresh) ∧
    (∀ r data, s.dev.pcie.linkUp = true → r < 8 → data.length = 4 →
      exec (.registerWrite 1 (0x22018 + 64 * r) data) s = exec (.rptrWrite r (ofLe data)) s) ∧
    (∀ mb data, pageLive mb s.dev = true → data.length = 4 →
      exec (.registerWrite (mb + 1) 0x08 data) s = exec (.doorbell mb (ofLe data)) s ∧
      exec (.registerWrite (mb + 1) 0x14 data) s = exec (.rspCiWrite mb (ofLe data)) s ∧
      exec (.registerWrite (mb + 1) 0x18 data) s = exec (.irqStatusClear mb (ofLe data)) s ∧
      (bit (ofLe data) 29 = true → exec (.registerWrite (mb + 1) 0x24 data) s = exec (.bulkRelease mb) s) ∧
      (mb = 1 → Completes (.registerWrite 2 0x1C data) s (modMb 1 (fun m => { m with irqEnable := ofLe data % 32 }) s.fresh))) ∧
    (∀ mb addr data, pageLive mb s.dev = true → (mb = 0 → s.dev.pcie.busMaster = true) → data ≠ [] → 0x1000 ≤ addr →
      addr + data.length ≤ 0x9000 → Completes (.registerWrite (mb + 1) addr data) s (ramPut (ramBase mb + addr) data s.fresh)) ∧
    (∀ port addr data, port = 0 ∨ 2 < port ∨ (port = 1 ∧ s.dev.pcie.linkUp = false) →
      Completes (.registerWrite port addr data) s s.fresh) ∧
    (∀ cut, ∃ d, Completes (.spiStatus cut) s d ∧ d.spi = { s.dev.spi with framingErr := cut } ∧
      Out.read 2 (le 4 (spiWord s.dev)) ∈ d.out ∧ Only [.spi, .ev, .out] s.fresh d) ∧
    (∀ len cut, ∃ d, Completes (.spiStream len cut) s d ∧ Out.read 2 (fitTo len s.dev.spi.fifo) ∈ d.out ∧
      d.spi = { s.dev.spi with fifo := s.dev.spi.fifo.drop len, entries := leftEntries len s.dev.spi.entries,
                               framingErr := s.dev.spi.framingErr || cut } ∧ Only [.spi, .ev, .out] s.fresh d) ∧
    (∃ d, Completes .spiStrapReset s d ∧
      d.spi = { s.dev.spi with
        fifo := [], entries := [], threshold := 64, framingErr := false,
        lostEntries := min (2 ^ 32 - 1) (s.dev.spi.lostEntries + s.dev.spi.entries.length) } ∧
      (∀ x, d.kmp.session = some x → portOfMb x.mb ≠ 2) ∧
      ((∀ x, s.dev.kmp.session = some x → portOfMb x.mb ≠ 2) → Only [.spi, .ev] s.fresh d) ∧
      Only [.saf, .slu, .peat, .pcie, .spi, .kmp, .ev, .writes, .out] s.fresh d) ∧
    (∀ addr data cut, addr % 4 ≠ 0 ∨ 0x20000 ≤ addr →
      Completes (.spiWrite addr data cut) s (raise 109 0 [] (modSpi (fun x => { x with framingErr := true }) s.fresh))) ∧
    (∀ addr data, addr % 4 = 0 → data.length % 4 = 0 → data ≠ [] → data.length ≤ 4096 → addr + data.length ≤ 0x20000 →
      exec (.spiWrite addr data false) s = exec (.registerWrite 2 addr data) s) ∧
    (∀ addr data, addr % 4 = 0 → data.length % 4 = 0 → data ≠ [] → data.length ≤ 4096 → 0x1000 ≤ addr →
      addr + data.length ≤ 0x9000 → pageLive 1 s.dev = true →
      Completes (.spiWrite addr data false) s (ramPut (ramBase 1 + addr) data s.fresh)) ∧
    (∀ addr len, 0x1000 ≤ addr → addr + len ≤ 0x9000 → pageLive 1 s.dev = true →
      Completes (.spiRead addr len false) s
        (emit (.read 2 ((List.range len).map (fun i => memGet s.ram (ramBase 1 + (addr + i))))) s.fresh))

/-- The mailbox page and the backbone's mailboxes. Before the page exists nothing on it acts. An index past the ring, the release of a
window that holds no response and a malformed datagram are transport errors, which change the page's error registers and cause alone.
A write through PCIe masters the bus again. A
doorbell that posts nothing changes CMD_PI alone; one that posts a command without BULK has it taken: put behind those that wait, or
refused with its final status. RSP_CI frees its slots, asks for no grant for the responses in them, and lets a waiting response be
posted; RELEASE frees the window; IRQ_STATUS clears the bits written; ERR_INFO and ERR_COUNT are read and cleared; DEV_TIME's low word
latches the high one. A datagram in reset, without a link, fragmented or for no mailbox does nothing, one outside a receive channel is
counted and reported, the first fragment of several waits for the others, and a message of one fragment is taken under a later tag and
otherwise answers with the response remembered for its tag, or is a transport error. Reassembly ends after 100 ms as an error. -/
def Obligations.MailboxPagesAndDatagramsAct : Prop :=
  ∀ s : State, Calm s.dev →
    let clock (t : Nat) : Nat := max s.dev.sys.now ((t : Int) + s.dev.sys.stepSum).toNat
    let change (mb : Nat) (f : Mailbox → Mailbox) (d : Dev) : Prop := d.kmp = { s.dev.kmp with mbs := listMod s.dev.kmp.mbs mb f }
    let failed (code index : Nat) (m : Mailbox) : Mailbox :=
      { m with errInfo := code + 0x10000 * (index % 65536), errCount := min (2 ^ 32 - 1) (m.errCount + 1),
               irqStatus := putBit m.irqStatus 2 true }
    let bad (i : Instr) (mb code index : Nat) : Prop :=
      ∃ d, Completes i s d ∧ change mb (failed code index) d ∧ Only [.pcie, .kmp, .ev, .out] s.fresh d
    (∀ mb v, pageLive mb s.dev = false → Completes (.doorbell mb v) s s.fresh ∧ Completes (.rspCiWrite mb v) s s.fresh ∧
      Completes (.bulkRelease mb) s s.fresh ∧ Completes (.irqStatusClear mb v) s s.fresh ∧ Completes (.errInfoRead mb) s s.fresh ∧
      Completes (.errCountRead mb) s s.fresh ∧ Completes (.devTimeRead mb) s s.fresh) ∧
    (∀ mb v, pageLive mb s.dev = true → mb < s.dev.kmp.mbs.length →
      let m := mbGet s.dev mb
      let idle : Prop := m.cmdCi = m.cmdPi ∧ m.cmdCi < 65536
      ((if m.rom = true then 1 else 16) < (v % 65536 + 65536 - m.cmdCi) % 65536 → bad (.doorbell mb v) mb 1 v) ∧
      (v % 65536 = m.cmdCi →
        ∃ d, Completes (.doorbell mb v) s d ∧ change mb (fun m => { m with cmdPi := v % 65536 }) d ∧ Only [.pcie, .kmp, .out] s.fresh d) ∧
      (let h := memRead s.ram (cmdPlace mb m m.cmdCi) 16
       let c : Cmd := { mb := mb, tag := rdU h 2 2, op := rdU h 0 2, session := rdU h 8 4, flags := rdU h 12 2,
                        payload := memRead s.ram (cmdPlace mb m m.cmdCi + 16) (min (rdU h 4 4) 1008), t := tussNow s.dev,
                        src := [], srcPort := 0 }
       m.cmdCi < 65536 → v % 65536 = (m.cmdCi + 1) % 65536 → rspWaiting m = false → hasBulk h = false → rdU h 0 2 ≠ 0x01F2 →
         (takeStatus s.dev c h false = none →
           ∃ d, Completes (.doorbell mb v) s d ∧ Only [.sys, .pcie, .kmp, .out] s.fresh d ∧
             mbGet d mb = { m with cmdPi := v % 65536, cmdCi := v % 65536, irqStatus := putBit m.irqStatus 1 true,
                                   waiting := m.waiting ++ [c] }) ∧
         (∀ st, takeStatus s.dev c h false = some st →
           ∃ d, Completes (.doorbell mb v) s d ∧ Only [.slu, .pcie, .kmp, .ev, .writes, .out] s.fresh d ∧
             (mbGet d mb).cmdCi = v % 65536 ∧ (mbGet d mb).waiting = m.waiting ∧
             (mbGet d mb).finals.head? = some ⟨c.tag, c.op, st⟩)) ∧
      (16 < (m.rspPi + 65536 - v % 65536) % 65536 → bad (.rspCiWrite mb v) mb 2 v) ∧
      ((m.rspPi + 65536 - v % 65536) % 65536 ≤ 16 → m.rspQueue = [] → idle →
        ∃ d, Completes (.rspCiWrite mb v) s d ∧ change mb (fun m => { m with rspCi := v % 65536 }) d ∧
          ((portGet d.slu (mb + 1)).msgs.filter (fun x => x.requester == 3)).length ≤ (m.rspPi + 65536 - v % 65536) % 65536 ∧
          Only [.slu, .pcie, .kmp, .out] s.fresh d) ∧
      (∀ r, (m.rspPi + 65536 - v % 65536) % 65536 < 16 → m.rspQueue = [r] → r.bulk = false → idle →
        ∃ d, Completes (.rspCiWrite mb v) s d ∧ (mbGet d mb).rspCi = v % 65536 ∧ (mbGet d mb).rspPi = (m.rspPi + 1) % 65536 ∧
          (mbGet d mb).rspQueue = [] ∧ bit (mbGet d mb).irqStatus 0 = true ∧ d.writes = [(rspPlace mb m, r.header ++ r.payload)] ∧
          Only [.slu, .pcie, .kmp, .writes, .out] s.fresh d) ∧
      (m.bulkRsp = false → bad (.bulkRelease mb) mb 3 0) ∧
      (m.bulkRsp = true → m.rspQueue = [] → idle →
        ∃ d, Completes (.bulkRelease mb) s d ∧ Only [.pcie, .kmp, .out] s.fresh d ∧
          change mb (fun m => { m with bulkBusy := false, bulkRsp := false, bulkOwner := 0,
                                       irqStatus := putBit m.irqStatus 3 true }) d) ∧
      (∃ d, Completes (.irqStatusClear mb v) s d ∧ change mb (fun m => { m with irqStatus := clrBits 5 m.irqStatus v }) d ∧
        Only [.pcie, .kmp, .out] s.fresh d) ∧
      Completes (.errInfoRead mb) s (modMb mb (fun x => { x with errInfo := 0 }) (emit (.read (portOfMb mb) (le 4 m.errInfo)) s.fresh)) ∧
      Completes (.errCountRead mb) s (modMb mb (fun x => { x with errCount := 0 }) (emit (.read (portOfMb mb) (le 4 m.errCount)) s.fresh)) ∧
      Completes (.devTimeRead mb) s (modMb mb (fun x => { x with devTimeHi := s.dev.sys.now / 2 ^ 32 % 2 ^ 32 })
        (emit (.read (portOfMb mb) (le 4 (s.dev.sys.now % 2 ^ 32))) s.fresh))) ∧
    (∀ sc prot addr port data frag,
      let i : Instr := .kmpDatagramReceive sc prot addr port data frag
      let mb := 2 + sc
      let m := mbGet s.dev mb
      let closed : Prop := prot = false ∨ prmGet s.dev 0x0F08 = 0
      let form := fragmentOk (datagramLimit s.dev (if addr.length = 4 then 4 else 6)) data
      (s.dev.sys.inReset = true ∨ s.dev.net.linkUp.any id = false ∨ frag = true → Completes i s s.fresh) ∧
      (s.dev.sys.inReset = false → s.dev.net.linkUp.any id = true → frag = false →
        (closed → Completes i s
          (raise 103 0 [] (modNet (fun n => { n with unprotected := min (2 ^ 32 - 1) (n.unprotected + 1) }) s.fresh))) ∧
        (¬ closed → m.present = false → Completes i s s.fresh) ∧
        (¬ closed → m.present = true → form = false → bad i mb 4 0) ∧
        (¬ closed → m.present = true → form = true → m.assembling = none → rdU data 7 1 ≠ 0 →
          let first : Partial := { tag := rdU data 4 2, total := rdU data 12 4, count := rdU data 7 1 + 1,
                                   frags := [(rdU data 6 1, data.drop 16)], since := tussNow s.dev }
          Completes i s (modMb mb (fun m => { m with assembling := some first }) s.fresh)) ∧
        (¬ closed → m.present = true → form = true → m.assembling = none → rdU data 7 1 = 0 → mb < s.dev.kmp.mbs.length →
          let msg := data.drop 16
          let tag := rdU data 4 2
          let later := m.highTag.elim true (fun h => laterThan 16 tag h)
          let c : Cmd := { mb := mb, tag := tag, op := rdU msg 0 2, session := rdU msg 8 4, flags := rdU msg 12 2,
                           payload := msg.drop 16, t := tussNow s.dev, src := addr, srcPort := port }
          (rdU msg 2 2 ≠ tag ∨ rdU msg 4 4 + 16 ≠ msg.length → bad i mb 4 0) ∧
          (rdU msg 2 2 = tag → rdU msg 4 4 + 16 = msg.length →
            (later = true → takeStatus s.dev c (msg.take 16) false = none →
              ∃ d, Completes i s d ∧ Only [.sys, .kmp] s.fresh d ∧
                mbGet d mb = { m with highTag := some tag, recent := (⟨tag, []⟩ :: m.recent).take 16, srcAddr := addr, srcPort := port,
                                      waiting := m.waiting ++ [c] }) ∧
            (later = false → m.recent.find? (fun r => r.tag == tag) = none → bad i mb 5 0) ∧
            (∀ r, later = false → m.recent.find? (fun r => r.tag == tag) = some r →
              (r.response = [] → Completes i s s.fresh) ∧
              (r.response ≠ [] → Completes i s (queueMsg 0
                { requester := 3, bytes := r.response, addr := addr, udpPort := port, srcPort := 51100, mb := mb, tag := tag } s.fresh))))))) ∧
    (∀ mb, (mbGet s.dev mb).assembling = none → Completes (.kmpReassemblyTimeout mb) s s.fresh) ∧
    (∀ mb p, (mbGet s.dev mb).assembling = some p →
      ∃ d, Completes (.kmpReassemblyTimeout mb) s d ∧ change mb (fun m => failed 4 0 { m with assembling := none }) d ∧
        d.sys = { s.dev.sys with now := clock (p.since + 100000000) } ∧ Only [.sys, .pcie, .kmp, .ev, .out] s.fresh d)

/-- The SYNC bus. With the port OFF or no ticks running nothing on it acts. A message that fails its check is counted and reported, one of
an unknown type or length is counted, one of another type than its command's, or from no head, does nothing, and each other is heard. A
beacon brings the follower's cycle, and at cycle 0 its frame offset; at a master it is a
conflict, and a master whose head number is not below the sender's yields.
PREPARE is answered READY for the set this head holds while its marker is fresh, else REFUSE. GO in time binds the prepared set to its
frame; CANCEL discards a set not bound; so does the deadline, reported. Answers count for the change that runs. A code for a frame ahead
waits for it; a cross-trigger reaches an armed Peat with its sender. A master's window of the frame sends its beacon, a cross-trigger
that waits, PREPARE for a change just begun, whose outcome is decided 300 µs later, and a copy of a code. A follower's slot sends the
answer due, else a cross-trigger. A window or slot that would not end before the frame tick, and a beacon's loss said again, do nothing. -/
def Obligations.SyncMessagesAct : Prop :=
  ∀ s : State, Calm s.dev →
    let sync := s.dev.sync
    let kinds (m : Bytes) : List (Nat × Instr) := [(1, .syncBeaconMsg m), (2, .syncPrepareMsg m), (3, .syncReadyMsg m),
      (4, .syncRefuseMsg m), (5, .syncGoMsg m), (6, .syncCancelMsg m), (7, .syncCodeMsg m), (8, .syncXtrigMsg m)]
    let on_ : Prop := prmGet s.dev 0x0F0A ≠ 0 ∧ ticking s.dev = true
    let good (type : Nat) (m : Bytes) : Prop :=
      on_ ∧ syncGood m = true ∧ rdU m 1 1 = type ∧ syncLen type = some (rdU m 2 1) ∧ rdU m 0 1 < 8
    let body (m : Bytes) : Bytes := slice m 4 (rdU m 2 1)
    let heardBy (m : Bytes) (y : Sync) : Sync := { y with heardNow := putBit y.heardNow (rdU m 0 1) true }
    let onlyHeard (i : Instr) (m : Bytes) : Prop := Completes i s (modSync (heardBy m) s.fresh)
    let sent (type : Nat) (p : Bytes) : Out := .sync (syncMessage (headNo s.dev) type p)
    let clock (t : Nat) : Nat := max s.dev.sys.now t
    (∀ m, ¬ on_ → ∀ i ∈ kinds m, Completes i.2 s s.fresh) ∧
    (∀ m, on_ → syncGood m = false → ∀ i ∈ kinds m, Completes i.2 s (raise 113 0 []
      (modSync (fun y => { y with checkFails := min (2 ^ 32 - 1) (y.checkFails + 1) }) s.fresh))) ∧
    (∀ m, on_ → syncGood m = true → syncLen (rdU m 1 1) ≠ some (rdU m 2 1) → ∀ i ∈ kinds m, Completes i.2 s
      (modSync (fun y => { y with unknown := min (2 ^ 32 - 1) (y.unknown + 1) }) s.fresh)) ∧
    (∀ m, on_ → syncGood m = true → syncLen (rdU m 1 1) = some (rdU m 2 1) → ∀ i ∈ kinds m,
      rdU m 1 1 ≠ i.1 ∨ 8 ≤ rdU m 0 1 → Completes i.2 s s.fresh) ∧
    (∀ m, good 1 m → prmGet s.dev 0x0F0A ≠ 2 →
      let z : Sync := { heardBy m sync with beaconHeard := true, beaconLost := false, cycleAt := s.dev.sys.now - 1000 }
      ∃ d, Completes (.syncBeaconMsg m) s d ∧ Only [.sync, .ev] s.fresh d ∧
        (rdU (body m) 4 2 ≠ 0 → d.sync = z) ∧
        (rdU (body m) 4 2 = 0 → d.sync = { z with
          markerFrame := some (rdU (body m) 0 4), markerLocal := s.dev.seq.frame, markerAt := s.dev.sys.now })) ∧
    (∀ m, good 1 m → prmGet s.dev 0x0F0A = 2 →
      (headNo s.dev < rdU m 0 1 ∨ sync.yielded = true → Completes (.syncBeaconMsg m) s (raise 112 0 [] (modSync (heardBy m) s.fresh))) ∧
      (rdU m 0 1 ≤ headNo s.dev → sync.yielded = false → ∃ d, Completes (.syncBeaconMsg m) s d ∧
        d.sync = { heardBy m sync with yielded := true, xtrig := none, run := none, codeLeft := 0, codeCmd := none } ∧
        Only [.slu, .pcie, .sync, .kmp, .ev, .writes, .out] s.fresh d)) ∧
    (∀ m, good 2 m → (syncFollower s.dev = false → onlyHeard (.syncPrepareMsg m) m) ∧
      (syncFollower s.dev = true →
        let ident := rdU (body m) 4 4
        let n := rdU (body m) 8 4
        let answer (type : Nat) : Option Bytes := some (le 1 type ++ le 4 ident ++ le 4 n)
        let ready (h : Held) : Prop := markerFresh s.dev = true ∧ (h.state = 1 ∨ h.state = 2) ∧ h.kind = rdU (body m) 0 1 ∧
          heldIdent h = ident
        (∀ h, sync.held = some h → ready h → Completes (.syncPrepareMsg m) s (modSync (fun y => { heardBy m y with
          answer := answer 3, answerAt := y.cycleAt,
          held := some { h with state := 2, frame := n, bound := (localFrame s.dev n).getD 0 } }) s.fresh)) ∧
        ((∀ h, sync.held = some h → ¬ ready h) → Completes (.syncPrepareMsg m) s (modSync (fun y => { heardBy m y with
          answer := answer 4, answerAt := y.cycleAt, lastOutcome := 5 }) s.fresh)))) ∧
    (∀ m, good 5 m →
      let taken (h : Held) (f : Nat) : Prop := sync.held = some h ∧ syncFollower s.dev = true ∧ h.state = 2 ∧
        heldIdent h = rdU (body m) 0 4 ∧ h.frame = rdU (body m) 4 4 ∧ localFrame s.dev (rdU (body m) 4 4) = some f ∧
        goInTime s.dev f = true
      (∀ h f, taken h f → Completes (.syncGoMsg m) s (modPrm (fun p => { p with pending := p.pending ++ [⟨h.set, f⟩] })
        (modSync (fun y => { heardBy m y with held := some { h with state := 3, bound := f } }) s.fresh))) ∧
      ((∀ h f, ¬ taken h f) → onlyHeard (.syncGoMsg m) m)) ∧
    (∀ m, good 6 m →
      let named : Prop := syncFollower s.dev = true ∧ ∃ h, sync.held = some h ∧ h.state ≠ 3 ∧ heldIdent h = rdU (body m) 0 4
      (named → Completes (.syncCancelMsg m) s (modSync (fun y => { heardBy m y with held := none, lastOutcome := 2 }) s.fresh)) ∧
      (¬ named → onlyHeard (.syncCancelMsg m) m)) ∧
    (let due (h : Held) : Prop := sync.held = some h ∧ h.state = 2 ∧ syncFollower s.dev = true ∧ ticking s.dev = true
     (∀ h, due h → Completes .syncDeadline s (raise 7 0 (le 4 h.planId ++ le 4 h.frame)
       (modSync (fun y => { y with held := none, lastOutcome := 3 }) (advanceTo (goDeadline s.dev h.bound) s.fresh)))) ∧
     ((∀ h, ¬ due h) → Completes .syncDeadline s s.fresh)) ∧
    (∀ m type, type = 3 ∨ type = 4 → good type m →
      let i : Instr := if type = 3 then .syncReadyMsg m else .syncRefuseMsg m
      let counts (r : SyncRun) : Prop := syncMaster s.dev = true ∧ sync.run = some r ∧ r.prepareAt ≠ none ∧
        rdU (body m) 0 4 = r.ident ∧ rdU (body m) 4 4 = r.frame
      (∀ r, counts r → Completes i s (modSync (fun y => { heardBy m y with
        run := some (if type = 3 then { r with ready := putBit r.ready (rdU m 0 1) true }
          else { r with refused := putBit r.refused (rdU m 0 1) true }) }) s.fresh)) ∧
      ((∀ r, ¬ counts r) → onlyHeard i m)) ∧
    (∀ m, good 7 m →
      let e := 8 + 8 * headNo s.dev
      let ahead (f : Nat) : Prop := syncFollower s.dev = true ∧ prmGet s.dev 0x0423 = 1 ∧
        localFrame s.dev (rdU (body m) 0 4) = some f ∧ laterThan 32 f s.dev.seq.frame = true
      (∀ f, ahead f → Completes (.syncCodeMsg m) s (modHisto (fun h => { h with
        assign := some ⟨rdU (body m) e 1, rdU (body m) (e + 1) 1, rdU (body m) (e + 4) 4, f⟩ }) (modSync (heardBy m) s.fresh))) ∧
      ((∀ f, ¬ ahead f) → onlyHeard (.syncCodeMsg m) m)) ∧
    (∀ m, good 8 m →
      ∃ d, Completes (.syncXtrigMsg m) s d ∧ d.sync = heardBy m sync ∧ Only [.loops, .peat, .sync, .ev] s.fresh d ∧
        (peatTrigOn s.dev 1 = false → d.peat = s.dev.peat) ∧
        (peatTrigOn s.dev 1 = true → s.dev.peat.state = .armed →
          d.peat = { s.dev.peat with trigs := s.dev.peat.trigs ++ [(2, rdU m 0 1, s.dev.sys.now)] })) ∧
    (let due : Prop := syncFollower s.dev = true ∧ ticking s.dev = true ∧ sync.beaconLost = false
     (due → ∃ d, Completes .syncBeaconLoss s d ∧ d.sync = { sync with beaconLost := true, beaconHeard := false, markerFrame := none } ∧
       d.sys = { s.dev.sys with now := if sync.beaconHeard = true then clock (sync.cycleAt + 301000) else s.dev.sys.now } ∧
       Only [.sys, .sync, .ev] s.fresh d) ∧
     (¬ due → Completes .syncBeaconLoss s s.fresh)) ∧
    (let t := s.dev.seq.frameTime + 100000 * sync.cycle
     let due : Prop := syncMaster s.dev = true ∧ ticking s.dev = true ∧ s.dev.seq.started = true ∧ t + 40000 < s.dev.seq.nextFrame
     (¬ due → Completes .syncCycleStart s s.fresh) ∧
     (due → ∃ d, Completes .syncCycleStart s d ∧ Only [.sys, .prm, .histo, .slu, .pcie, .sync, .kmp, .ev, .writes, .out] s.fresh d ∧
       d.sync.cycle = sync.cycle + 1 ∧ d.sync.cycleAt = t ∧ d.sync.xtrig = none ∧ d.sys = { s.dev.sys with now := clock (t + 1000) } ∧
       sent 1 (le 4 s.dev.seq.frame ++ le 2 sync.cycle ++ zeros 2) ∈ d.out ∧
       (∀ p, sync.xtrig = some p → sent 8 p ∈ d.out) ∧
       (sync.run = none → d.sync.run = none ∧ d.sync.held = sync.held ∧ d.prm = s.dev.prm) ∧
       (∀ r, sync.run = some r → r.prepareAt = none →
         d.sync.run = some { r with prepareAt := some t, expect := clrBits 8 (prmGet s.dev 0x0F0D) (2 ^ headNo s.dev) } ∧
         sent 2 (le 1 r.kind ++ zeros 3 ++ le 4 r.ident ++ le 4 r.frame) ∈ d.out) ∧
       (∀ r u, sync.run = some r → r.prepareAt = some u →
         (t < u + 300000 → d.sync.run = some r ∧ d.sync.held = sync.held ∧ d.prm = s.dev.prm) ∧
         (u + 300000 ≤ t → d.sync.run = none ∧
           let go : Prop := r.cancel = false ∧ andBits 8 r.expect r.ready = r.expect ∧ andBits 8 r.expect r.refused = 0 ∧
             ∃ h, sync.held = some h ∧ h.state = 1 ∧ heldIdent h = r.ident
           (go → sent 5 (le 4 r.ident ++ le 4 r.frame) ∈ d.out ∧
             ∀ h, sync.held = some h → d.sync.held = some { h with state := 3, bound := r.frame } ∧
               d.prm = { s.dev.prm with pending := s.dev.prm.pending ++ [⟨h.set, r.frame⟩] }) ∧
           (¬ go → sent 6 (le 4 r.ident ++ le 4 r.frame) ∈ d.out ∧ d.sync.held = none ∧ d.prm = s.dev.prm))) ∧
       (sync.codeLeft = 0 → d.sync.codeLeft = 0 ∧ d.histo = s.dev.histo) ∧
       (sync.codeLeft ≠ 0 → d.sync.codeLeft = sync.codeLeft - 1 ∧ sent 7 (codePayload s.dev) ∈ d.out))) ∧
    (let t := sync.cycleAt + 40000 + 7500 * headNo s.dev
     let due : Prop := syncFollower s.dev = true ∧ ticking s.dev = true ∧ sync.beaconHeard = true ∧ t + 7500 < s.dev.seq.nextFrame
     let later : Prop := sync.answerAt ≠ sync.cycleAt
     (¬ due → Completes .syncFollowerSlot s s.fresh) ∧
     (∀ a, due → sync.answer = some a → later → Completes .syncFollowerSlot s (emit (sent (rdU a 0 1) (a.drop 1))
       (modSync (fun y => { y with answer := none }) (advanceTo t s.fresh)))) ∧
     (due → sync.answer = none ∨ ¬ later →
       (sync.xtrig = none → Completes .syncFollowerSlot s (advanceTo t s.fresh)) ∧
       (∀ p, sync.xtrig = some p → Completes .syncFollowerSlot s (emit (sent 8 p)
         (modSync (fun y => { y with xtrig := none }) (advanceTo t s.fresh))))))
end

