-- ==== Sys2Proof/Laws/Bytes.lean ====
section
/-!
SUPPORT. How long the encodings are, and what a field reads back as.
-/
namespace Sys2Proof.Laws

open Sys2Proof.Machine

@[simp] theorem le_length (k : Nat) : ∀ n, (le k n).length = k := by
  induction k with
  | zero => intro n; rfl
  | succ k ih => intro n; simp [le, ih]

@[simp] theorem be_length (k n : Nat) : (be k n).length = k := by simp [be]

@[simp] theorem leS_length (k : Nat) (x : Int) : (leS k x).length = k := by simp [leS]

@[simp] theorem zeros_length (k : Nat) : (zeros k).length = k := by simp [zeros]

@[simp] theorem fitTo_length (k : Nat) (b : Bytes) : (fitTo k b).length = k := by
  simp only [fitTo, List.length_take, List.length_append, zeros_length]; omega

@[simp] theorem deviceId_length : deviceId.length = 16 := by simp [deviceId]

/-- A number that fits reads back from its own encoding. -/
theorem ofLe_le (k : Nat) : ∀ n, n < 256 ^ k → ofLe (le k n) = n := by
  induction k with
  | zero => intro n h; simp at h; simp [le, ofLe, h]
  | succ k ih =>
    intro n h
    have h1 : n / 256 < 256 ^ k := by
      rw [Nat.div_lt_iff_lt_mul (by norm_num)]; rw [pow_succ] at h; exact h
    simp only [le, ofLe, ih _ h1, BitVec.toNat_ofNat]
    omega

/-- A field of a table whose entries are all alike. -/
theorem rdU_alike (e : Bytes) (n i k m : Nat) (hi : i < n) (hk : k + m ≤ e.length) :
    rdU (List.replicate n e).flatten (e.length * i + k) m = rdU e k m := by
  have drops : ∀ i n, i < n → (List.replicate n e).flatten.drop (e.length * i) = e ++ (List.replicate (n - i - 1) e).flatten := by
    intro i
    induction i with
    | zero => intro n hn; obtain ⟨n, rfl⟩ : ∃ j, n = j + 1 := ⟨n - 1, by omega⟩; simp [List.replicate_succ]
    | succ i ih =>
      intro n hn
      obtain ⟨n, rfl⟩ : ∃ j, n = j + 1 := ⟨n - 1, by omega⟩
      rw [List.replicate_succ, List.flatten_cons, Nat.mul_succ, Nat.add_comm, ← List.drop_drop, List.drop_left, ih n (by omega)]
      congr 3; omega
  unfold rdU slice
  rw [← List.drop_drop, drops i n hi, List.drop_append_of_le_length (by omega), List.take_append_of_le_length (by simp; omega)]

end Sys2Proof.Laws
end

