-- ==== Sys2Proof/Laws/Memory.lean ====
section
/-!
SUPPORT. Sparse tables and the mailbox memories: every write keeps the canonical form, and what a byte reads as after a write.
-/
namespace Sys2Proof.Laws

open Sys2Proof.Machine

/-- Every key of a table lies above `k`, as far as its first entry tells. -/
def headAbove {α : Type} (k : Nat) : Tab α → Prop
  | [] => True
  | (j, _) :: _ => k < j

theorem tabWf_cons {α : Type} [DecidableEq α] (d : α) (k : Nat) (v : α) (t : Tab α) :
    tabWf d ((k, v) :: t) = true ↔ v ≠ d ∧ headAbove k t ∧ tabWf d t = true := by
  cases t with
  | nil => simp [tabWf, headAbove]
  | cons e t => obtain ⟨j, w⟩ := e; simp only [tabWf, headAbove, Bool.and_eq_true, decide_eq_true_eq, Bool.not_eq_true',
                  decide_eq_false_iff_not]; tauto

/-- Below the first key a table reads as its default. -/
theorem tabGet_of_headAbove {α : Type} (d : α) (k : Nat) (t : Tab α) (h : headAbove k t) (i : Nat) (hi : i ≤ k) :
    tabGet d t i = d := by
  cases t with
  | nil => rfl
  | cons e t =>
    obtain ⟨j, w⟩ := e
    simp only [headAbove] at h
    simp [tabGet, show ¬ j = i by omega, show i < j by omega]

theorem headAbove_tabPut {α : Type} (j k : Nat) (v : α) (t : Tab α) (hjk : j < k) (h : headAbove j t) : headAbove j (tabPut k v t) := by
  cases t with
  | nil => exact hjk
  | cons e t =>
    obtain ⟨i, w⟩ := e
    simp only [tabPut]
    split
    · exact h
    · split <;> exact hjk

theorem tabWf_tabPut {α : Type} [DecidableEq α] (d : α) (k : Nat) (v : α) (hv : v ≠ d) (t : Tab α) (h : tabWf d t = true) :
    tabWf d (tabPut k v t) = true := by
  induction t with
  | nil => simpa [tabPut, tabWf] using hv
  | cons e t ih =>
    obtain ⟨j, w⟩ := e
    rw [tabWf_cons] at h
    simp only [tabPut]
    split
    · rw [tabWf_cons]; exact ⟨h.1, headAbove_tabPut j k v t (by assumption) h.2.1, ih h.2.2⟩
    · split
      · rename_i hjk; subst hjk; rw [tabWf_cons]; exact ⟨hv, h.2.1, h.2.2⟩
      · rw [tabWf_cons, tabWf_cons]
        exact ⟨hv, by simp only [headAbove]; omega, h⟩

theorem headAbove_of_wf {α : Type} [DecidableEq α] (d : α) (i j : Nat) (w : α) (t : Tab α) (hij : i < j)
    (h : tabWf d ((j, w) :: t) = true) : headAbove i t := by
  rw [tabWf_cons] at h
  cases t with
  | nil => trivial
  | cons e t => obtain ⟨m, x⟩ := e; simp only [headAbove] at *; omega

theorem headAbove_tabDel {α : Type} [DecidableEq α] (d : α) (j k : Nat) (t : Tab α) (hw : tabWf d t = true) (h : headAbove j t) :
    headAbove j (tabDel k t) := by
  cases t with
  | nil => trivial
  | cons e t =>
    obtain ⟨i, w⟩ := e
    simp only [tabDel]
    split
    · exact headAbove_of_wf d j i w t h hw
    · exact h

theorem tabWf_tabDel {α : Type} [DecidableEq α] (d : α) (k : Nat) (t : Tab α) (h : tabWf d t = true) : tabWf d (tabDel k t) = true := by
  induction t with
  | nil => rfl
  | cons e t ih =>
    obtain ⟨j, w⟩ := e
    have h' := (tabWf_cons d j w t).mp h
    simp only [tabDel]
    split
    · exact h'.2.2
    · rw [tabWf_cons]; exact ⟨h'.1, headAbove_tabDel d j k t h'.2.2 h'.2.1, ih h'.2.2⟩

theorem tabWf_tabSet {α : Type} [DecidableEq α] (d : α) (t : Tab α) (k : Nat) (v : α) (h : tabWf d t = true) :
    tabWf d (tabSet d t k v) = true := by
  unfold tabSet
  split
  · exact tabWf_tabDel d k t h
  · exact tabWf_tabPut d k v (by assumption) t h

theorem tabGet_tabPut {α : Type} (d : α) (t : Tab α) (k i : Nat) (v : α) :
    tabGet d (tabPut k v t) i = if i = k then v else tabGet d t i := by
  induction t with
  | nil =>
    by_cases h : i = k
    · subst h; simp [tabPut, tabGet]
    · simp [tabPut, tabGet, h, Ne.symm h]
  | cons e t ih =>
    obtain ⟨j, w⟩ := e
    simp only [tabPut]
    split_ifs <;> simp only [tabGet, ih] <;> split_ifs <;> first | rfl | omega

theorem tabGet_tabDel {α : Type} [DecidableEq α] (d : α) (t : Tab α) (k i : Nat) (h : tabWf d t = true) :
    tabGet d (tabDel k t) i = if i = k then d else tabGet d t i := by
  induction t with
  | nil => simp [tabDel, tabGet]
  | cons e t ih =>
    obtain ⟨j, w⟩ := e
    have h' := (tabWf_cons d j w t).mp h
    simp only [tabDel]
    by_cases hjk : j = k
    · subst hjk
      rw [if_pos rfl]
      by_cases hij : i ≤ j
      · rw [tabGet_of_headAbove d j t h'.2.1 i hij]
        split_ifs with hi
        · rfl
        · simp [tabGet, Ne.symm hi, show i < j by omega]
      · simp [tabGet, show ¬ i = j by omega, show ¬ j = i by omega, show ¬ i < j by omega]
    · rw [if_neg hjk]
      simp only [tabGet, ih h'.2.2]
      split_ifs <;> first | rfl | omega

theorem tabGet_tabSet {α : Type} [DecidableEq α] (d : α) (t : Tab α) (k i : Nat) (v : α) (h : tabWf d t = true) :
    tabGet d (tabSet d t k v) i = if i = k then v else tabGet d t i := by
  unfold tabSet
  by_cases hv : v = d
  · rw [if_pos hv, tabGet_tabDel d t k i h, hv]
  · rw [if_neg hv, tabGet_tabPut]

/-! ### Memory -/

theorem memSet_wf (m : List Host.Cell) (a : Nat) (b : Byte) (h : Memory.wf m = true) : Memory.wf (memSet m a b) = true :=
  tabWf_tabSet _ m a b h

theorem memWrite_wf (bs : Bytes) : ∀ (m : List Host.Cell) (a : Nat), Memory.wf m = true → Memory.wf (memWrite m a bs) = true := by
  induction bs with
  | nil => intro m a h; exact h
  | cons b bs ih => intro m a h; exact ih _ _ (memSet_wf m a b h)

theorem memWrites_wf (ws : List (Nat × Bytes)) : ∀ (m : List Host.Cell), Memory.wf m = true → Memory.wf (memWrites m ws) = true := by
  induction ws with
  | nil => intro m h; exact h
  | cons w ws ih => intro m h; exact ih _ (memWrite_wf w.2 m w.1 h)

theorem memGet_memSet (m : List Host.Cell) (a x : Nat) (b : Byte) (h : Memory.wf m = true) :
    memGet (memSet m a b) x = if x = a then b else memGet m x := tabGet_tabSet _ m a x b h

/-- A run of bytes reads back where it was written, and every other byte as before. -/
theorem memGet_memWrite (bs : Bytes) : ∀ (m : List Host.Cell) (a x : Nat), Memory.wf m = true →
    memGet (memWrite m a bs) x = if a ≤ x ∧ x < a + bs.length then bs.getD (x - a) 0#8 else memGet m x := by
  induction bs with
  | nil => intro m a x _; simp [memWrite]
  | cons b bs ih =>
    intro m a x h
    rw [memWrite, ih _ _ _ (memSet_wf m a b h), memGet_memSet m a x b h]
    by_cases hx : x = a
    · subst hx; simp
    · by_cases h1 : a + 1 ≤ x ∧ x < a + 1 + bs.length
      · rw [if_pos h1, if_pos (by simp; omega), show x - a = (x - (a + 1)) + 1 by omega]; simp
      · rw [if_neg h1, if_neg hx, if_neg (by simp; omega)]

theorem memRead_memWrite (bs : Bytes) (m : List Host.Cell) (a : Nat) (h : Memory.wf m = true) :
    memRead (memWrite m a bs) a bs.length = bs := by
  apply List.ext_getElem
  · simp [memRead]
  · intro i h1 h2
    simp only [memRead, List.length_map, List.length_range] at h1
    simp [memRead, memGet_memWrite bs m a _ h, h1]

/-- A byte that no write of a step covers reads as before. -/
theorem memGet_memWrites (ws : List (Nat × Bytes)) : ∀ (m : List Host.Cell) (x : Nat), Memory.wf m = true →
    (∀ w ∈ ws, ¬ (w.1 ≤ x ∧ x < w.1 + w.2.length)) → memGet (memWrites m ws) x = memGet m x := by
  induction ws with
  | nil => intro m x _ _; rfl
  | cons w ws ih =>
    intro m x h hw
    have hs : memWrites m (w :: ws) = memWrites (memWrite m w.1 w.2) ws := rfl
    rw [hs, ih _ _ (memWrite_wf _ _ _ h) (fun v hv => hw v (List.mem_cons_of_mem _ hv)),
      memGet_memWrite _ _ _ _ h, if_neg (hw w List.mem_cons_self)]

theorem memWrites_append (m : List Host.Cell) (a b : List (Nat × Bytes)) : memWrites m (a ++ b) = memWrites (memWrites m a) b :=
  List.foldl_append

end Sys2Proof.Laws
end

