-- ==== Sys2Proof/Laws/State.lean ====
section
/-!
SUPPORT. One lemma per group per update, true by `rfl`.
-/
namespace Sys2Proof.Laws

open Sys2Proof.Machine

variable (d : Dev)

@[simp] theorem modSys_sys (f : Sys → Sys) : (modSys f d).sys = f d.sys := rfl
@[simp] theorem modSys_seq (f : Sys → Sys) : (modSys f d).seq = d.seq := rfl
@[simp] theorem modSys_prm (f : Sys → Sys) : (modSys f d).prm = d.prm := rfl
@[simp] theorem modSys_recv (f : Sys → Sys) : (modSys f d).recv = d.recv := rfl
@[simp] theorem modSys_rep (f : Sys → Sys) : (modSys f d).rep = d.rep := rfl
@[simp] theorem modSys_gauge (f : Sys → Sys) : (modSys f d).gauge = d.gauge := rfl
@[simp] theorem modSys_tim (f : Sys → Sys) : (modSys f d).tim = d.tim := rfl
@[simp] theorem modSys_histo (f : Sys → Sys) : (modSys f d).histo = d.histo := rfl
@[simp] theorem modSys_pts (f : Sys → Sys) : (modSys f d).pts = d.pts := rfl
@[simp] theorem modSys_emi (f : Sys → Sys) : (modSys f d).emi = d.emi := rfl
@[simp] theorem modSys_scan (f : Sys → Sys) : (modSys f d).scan = d.scan := rfl
@[simp] theorem modSys_sense (f : Sys → Sys) : (modSys f d).sense = d.sense := rfl
@[simp] theorem modSys_loops (f : Sys → Sys) : (modSys f d).loops = d.loops := rfl
@[simp] theorem modSys_saf (f : Sys → Sys) : (modSys f d).saf = d.saf := rfl
@[simp] theorem modSys_hst (f : Sys → Sys) : (modSys f d).hst = d.hst := rfl
@[simp] theorem modSys_sec (f : Sys → Sys) : (modSys f d).sec = d.sec := rfl
@[simp] theorem modSys_slu (f : Sys → Sys) : (modSys f d).slu = d.slu := rfl
@[simp] theorem modSys_peat (f : Sys → Sys) : (modSys f d).peat = d.peat := rfl
@[simp] theorem modSys_net (f : Sys → Sys) : (modSys f d).net = d.net := rfl
@[simp] theorem modSys_pcie (f : Sys → Sys) : (modSys f d).pcie = d.pcie := rfl
@[simp] theorem modSys_spi (f : Sys → Sys) : (modSys f d).spi = d.spi := rfl
@[simp] theorem modSys_sync (f : Sys → Sys) : (modSys f d).sync = d.sync := rfl
@[simp] theorem modSys_trig (f : Sys → Sys) : (modSys f d).trig = d.trig := rfl
@[simp] theorem modSys_kmp (f : Sys → Sys) : (modSys f d).kmp = d.kmp := rfl
@[simp] theorem modSys_diag (f : Sys → Sys) : (modSys f d).diag = d.diag := rfl
@[simp] theorem modSys_ev (f : Sys → Sys) : (modSys f d).ev = d.ev := rfl
@[simp] theorem modSys_writes (f : Sys → Sys) : (modSys f d).writes = d.writes := rfl
@[simp] theorem modSys_out (f : Sys → Sys) : (modSys f d).out = d.out := rfl
@[simp] theorem modSys_drawn (f : Sys → Sys) : (modSys f d).drawn = d.drawn := rfl
@[simp] theorem modSeq_sys (f : Seq → Seq) : (modSeq f d).sys = d.sys := rfl
@[simp] theorem modSeq_seq (f : Seq → Seq) : (modSeq f d).seq = f d.seq := rfl
@[simp] theorem modSeq_prm (f : Seq → Seq) : (modSeq f d).prm = d.prm := rfl
@[simp] theorem modSeq_recv (f : Seq → Seq) : (modSeq f d).recv = d.recv := rfl
@[simp] theorem modSeq_rep (f : Seq → Seq) : (modSeq f d).rep = d.rep := rfl
@[simp] theorem modSeq_gauge (f : Seq → Seq) : (modSeq f d).gauge = d.gauge := rfl
@[simp] theorem modSeq_tim (f : Seq → Seq) : (modSeq f d).tim = d.tim := rfl
@[simp] theorem modSeq_histo (f : Seq → Seq) : (modSeq f d).histo = d.histo := rfl
@[simp] theorem modSeq_pts (f : Seq → Seq) : (modSeq f d).pts = d.pts := rfl
@[simp] theorem modSeq_emi (f : Seq → Seq) : (modSeq f d).emi = d.emi := rfl
@[simp] theorem modSeq_scan (f : Seq → Seq) : (modSeq f d).scan = d.scan := rfl
@[simp] theorem modSeq_sense (f : Seq → Seq) : (modSeq f d).sense = d.sense := rfl
@[simp] theorem modSeq_loops (f : Seq → Seq) : (modSeq f d).loops = d.loops := rfl
@[simp] theorem modSeq_saf (f : Seq → Seq) : (modSeq f d).saf = d.saf := rfl
@[simp] theorem modSeq_hst (f : Seq → Seq) : (modSeq f d).hst = d.hst := rfl
@[simp] theorem modSeq_sec (f : Seq → Seq) : (modSeq f d).sec = d.sec := rfl
@[simp] theorem modSeq_slu (f : Seq → Seq) : (modSeq f d).slu = d.slu := rfl
@[simp] theorem modSeq_peat (f : Seq → Seq) : (modSeq f d).peat = d.peat := rfl
@[simp] theorem modSeq_net (f : Seq → Seq) : (modSeq f d).net = d.net := rfl
@[simp] theorem modSeq_pcie (f : Seq → Seq) : (modSeq f d).pcie = d.pcie := rfl
@[simp] theorem modSeq_spi (f : Seq → Seq) : (modSeq f d).spi = d.spi := rfl
@[simp] theorem modSeq_sync (f : Seq → Seq) : (modSeq f d).sync = d.sync := rfl
@[simp] theorem modSeq_trig (f : Seq → Seq) : (modSeq f d).trig = d.trig := rfl
@[simp] theorem modSeq_kmp (f : Seq → Seq) : (modSeq f d).kmp = d.kmp := rfl
@[simp] theorem modSeq_diag (f : Seq → Seq) : (modSeq f d).diag = d.diag := rfl
@[simp] theorem modSeq_ev (f : Seq → Seq) : (modSeq f d).ev = d.ev := rfl
@[simp] theorem modSeq_writes (f : Seq → Seq) : (modSeq f d).writes = d.writes := rfl
@[simp] theorem modSeq_out (f : Seq → Seq) : (modSeq f d).out = d.out := rfl
@[simp] theorem modSeq_drawn (f : Seq → Seq) : (modSeq f d).drawn = d.drawn := rfl
@[simp] theorem modPrm_sys (f : Prm → Prm) : (modPrm f d).sys = d.sys := rfl
@[simp] theorem modPrm_seq (f : Prm → Prm) : (modPrm f d).seq = d.seq := rfl
@[simp] theorem modPrm_prm (f : Prm → Prm) : (modPrm f d).prm = f d.prm := rfl
@[simp] theorem modPrm_recv (f : Prm → Prm) : (modPrm f d).recv = d.recv := rfl
@[simp] theorem modPrm_rep (f : Prm → Prm) : (modPrm f d).rep = d.rep := rfl
@[simp] theorem modPrm_gauge (f : Prm → Prm) : (modPrm f d).gauge = d.gauge := rfl
@[simp] theorem modPrm_tim (f : Prm → Prm) : (modPrm f d).tim = d.tim := rfl
@[simp] theorem modPrm_histo (f : Prm → Prm) : (modPrm f d).histo = d.histo := rfl
@[simp] theorem modPrm_pts (f : Prm → Prm) : (modPrm f d).pts = d.pts := rfl
@[simp] theorem modPrm_emi (f : Prm → Prm) : (modPrm f d).emi = d.emi := rfl
@[simp] theorem modPrm_scan (f : Prm → Prm) : (modPrm f d).scan = d.scan := rfl
@[simp] theorem modPrm_sense (f : Prm → Prm) : (modPrm f d).sense = d.sense := rfl
@[simp] theorem modPrm_loops (f : Prm → Prm) : (modPrm f d).loops = d.loops := rfl
@[simp] theorem modPrm_saf (f : Prm → Prm) : (modPrm f d).saf = d.saf := rfl
@[simp] theorem modPrm_hst (f : Prm → Prm) : (modPrm f d).hst = d.hst := rfl
@[simp] theorem modPrm_sec (f : Prm → Prm) : (modPrm f d).sec = d.sec := rfl
@[simp] theorem modPrm_slu (f : Prm → Prm) : (modPrm f d).slu = d.slu := rfl
@[simp] theorem modPrm_peat (f : Prm → Prm) : (modPrm f d).peat = d.peat := rfl
@[simp] theorem modPrm_net (f : Prm → Prm) : (modPrm f d).net = d.net := rfl
@[simp] theorem modPrm_pcie (f : Prm → Prm) : (modPrm f d).pcie = d.pcie := rfl
@[simp] theorem modPrm_spi (f : Prm → Prm) : (modPrm f d).spi = d.spi := rfl
@[simp] theorem modPrm_sync (f : Prm → Prm) : (modPrm f d).sync = d.sync := rfl
@[simp] theorem modPrm_trig (f : Prm → Prm) : (modPrm f d).trig = d.trig := rfl
@[simp] theorem modPrm_kmp (f : Prm → Prm) : (modPrm f d).kmp = d.kmp := rfl
@[simp] theorem modPrm_diag (f : Prm → Prm) : (modPrm f d).diag = d.diag := rfl
@[simp] theorem modPrm_ev (f : Prm → Prm) : (modPrm f d).ev = d.ev := rfl
@[simp] theorem modPrm_writes (f : Prm → Prm) : (modPrm f d).writes = d.writes := rfl
@[simp] theorem modPrm_out (f : Prm → Prm) : (modPrm f d).out = d.out := rfl
@[simp] theorem modPrm_drawn (f : Prm → Prm) : (modPrm f d).drawn = d.drawn := rfl
@[simp] theorem modRecv_sys (f : Recv → Recv) : (modRecv f d).sys = d.sys := rfl
@[simp] theorem modRecv_seq (f : Recv → Recv) : (modRecv f d).seq = d.seq := rfl
@[simp] theorem modRecv_prm (f : Recv → Recv) : (modRecv f d).prm = d.prm := rfl
@[simp] theorem modRecv_recv (f : Recv → Recv) : (modRecv f d).recv = f d.recv := rfl
@[simp] theorem modRecv_rep (f : Recv → Recv) : (modRecv f d).rep = d.rep := rfl
@[simp] theorem modRecv_gauge (f : Recv → Recv) : (modRecv f d).gauge = d.gauge := rfl
@[simp] theorem modRecv_tim (f : Recv → Recv) : (modRecv f d).tim = d.tim := rfl
@[simp] theorem modRecv_histo (f : Recv → Recv) : (modRecv f d).histo = d.histo := rfl
@[simp] theorem modRecv_pts (f : Recv → Recv) : (modRecv f d).pts = d.pts := rfl
@[simp] theorem modRecv_emi (f : Recv → Recv) : (modRecv f d).emi = d.emi := rfl
@[simp] theorem modRecv_scan (f : Recv → Recv) : (modRecv f d).scan = d.scan := rfl
@[simp] theorem modRecv_sense (f : Recv → Recv) : (modRecv f d).sense = d.sense := rfl
@[simp] theorem modRecv_loops (f : Recv → Recv) : (modRecv f d).loops = d.loops := rfl
@[simp] theorem modRecv_saf (f : Recv → Recv) : (modRecv f d).saf = d.saf := rfl
@[simp] theorem modRecv_hst (f : Recv → Recv) : (modRecv f d).hst = d.hst := rfl
@[simp] theorem modRecv_sec (f : Recv → Recv) : (modRecv f d).sec = d.sec := rfl
@[simp] theorem modRecv_slu (f : Recv → Recv) : (modRecv f d).slu = d.slu := rfl
@[simp] theorem modRecv_peat (f : Recv → Recv) : (modRecv f d).peat = d.peat := rfl
@[simp] theorem modRecv_net (f : Recv → Recv) : (modRecv f d).net = d.net := rfl
@[simp] theorem modRecv_pcie (f : Recv → Recv) : (modRecv f d).pcie = d.pcie := rfl
@[simp] theorem modRecv_spi (f : Recv → Recv) : (modRecv f d).spi = d.spi := rfl
@[simp] theorem modRecv_sync (f : Recv → Recv) : (modRecv f d).sync = d.sync := rfl
@[simp] theorem modRecv_trig (f : Recv → Recv) : (modRecv f d).trig = d.trig := rfl
@[simp] theorem modRecv_kmp (f : Recv → Recv) : (modRecv f d).kmp = d.kmp := rfl
@[simp] theorem modRecv_diag (f : Recv → Recv) : (modRecv f d).diag = d.diag := rfl
@[simp] theorem modRecv_ev (f : Recv → Recv) : (modRecv f d).ev = d.ev := rfl
@[simp] theorem modRecv_writes (f : Recv → Recv) : (modRecv f d).writes = d.writes := rfl
@[simp] theorem modRecv_out (f : Recv → Recv) : (modRecv f d).out = d.out := rfl
@[simp] theorem modRecv_drawn (f : Recv → Recv) : (modRecv f d).drawn = d.drawn := rfl
@[simp] theorem modRep_sys (f : Rep → Rep) : (modRep f d).sys = d.sys := rfl
@[simp] theorem modRep_seq (f : Rep → Rep) : (modRep f d).seq = d.seq := rfl
@[simp] theorem modRep_prm (f : Rep → Rep) : (modRep f d).prm = d.prm := rfl
@[simp] theorem modRep_recv (f : Rep → Rep) : (modRep f d).recv = d.recv := rfl
@[simp] theorem modRep_rep (f : Rep → Rep) : (modRep f d).rep = f d.rep := rfl
@[simp] theorem modRep_gauge (f : Rep → Rep) : (modRep f d).gauge = d.gauge := rfl
@[simp] theorem modRep_tim (f : Rep → Rep) : (modRep f d).tim = d.tim := rfl
@[simp] theorem modRep_histo (f : Rep → Rep) : (modRep f d).histo = d.histo := rfl
@[simp] theorem modRep_pts (f : Rep → Rep) : (modRep f d).pts = d.pts := rfl
@[simp] theorem modRep_emi (f : Rep → Rep) : (modRep f d).emi = d.emi := rfl
@[simp] theorem modRep_scan (f : Rep → Rep) : (modRep f d).scan = d.scan := rfl
@[simp] theorem modRep_sense (f : Rep → Rep) : (modRep f d).sense = d.sense := rfl
@[simp] theorem modRep_loops (f : Rep → Rep) : (modRep f d).loops = d.loops := rfl
@[simp] theorem modRep_saf (f : Rep → Rep) : (modRep f d).saf = d.saf := rfl
@[simp] theorem modRep_hst (f : Rep → Rep) : (modRep f d).hst = d.hst := rfl
@[simp] theorem modRep_sec (f : Rep → Rep) : (modRep f d).sec = d.sec := rfl
@[simp] theorem modRep_slu (f : Rep → Rep) : (modRep f d).slu = d.slu := rfl
@[simp] theorem modRep_peat (f : Rep → Rep) : (modRep f d).peat = d.peat := rfl
@[simp] theorem modRep_net (f : Rep → Rep) : (modRep f d).net = d.net := rfl
@[simp] theorem modRep_pcie (f : Rep → Rep) : (modRep f d).pcie = d.pcie := rfl
@[simp] theorem modRep_spi (f : Rep → Rep) : (modRep f d).spi = d.spi := rfl
@[simp] theorem modRep_sync (f : Rep → Rep) : (modRep f d).sync = d.sync := rfl
@[simp] theorem modRep_trig (f : Rep → Rep) : (modRep f d).trig = d.trig := rfl
@[simp] theorem modRep_kmp (f : Rep → Rep) : (modRep f d).kmp = d.kmp := rfl
@[simp] theorem modRep_diag (f : Rep → Rep) : (modRep f d).diag = d.diag := rfl
@[simp] theorem modRep_ev (f : Rep → Rep) : (modRep f d).ev = d.ev := rfl
@[simp] theorem modRep_writes (f : Rep → Rep) : (modRep f d).writes = d.writes := rfl
@[simp] theorem modRep_out (f : Rep → Rep) : (modRep f d).out = d.out := rfl
@[simp] theorem modRep_drawn (f : Rep → Rep) : (modRep f d).drawn = d.drawn := rfl
@[simp] theorem modGauge_sys (f : Gauge → Gauge) : (modGauge f d).sys = d.sys := rfl
@[simp] theorem modGauge_seq (f : Gauge → Gauge) : (modGauge f d).seq = d.seq := rfl
@[simp] theorem modGauge_prm (f : Gauge → Gauge) : (modGauge f d).prm = d.prm := rfl
@[simp] theorem modGauge_recv (f : Gauge → Gauge) : (modGauge f d).recv = d.recv := rfl
@[simp] theorem modGauge_rep (f : Gauge → Gauge) : (modGauge f d).rep = d.rep := rfl
@[simp] theorem modGauge_gauge (f : Gauge → Gauge) : (modGauge f d).gauge = f d.gauge := rfl
@[simp] theorem modGauge_tim (f : Gauge → Gauge) : (modGauge f d).tim = d.tim := rfl
@[simp] theorem modGauge_histo (f : Gauge → Gauge) : (modGauge f d).histo = d.histo := rfl
@[simp] theorem modGauge_pts (f : Gauge → Gauge) : (modGauge f d).pts = d.pts := rfl
@[simp] theorem modGauge_emi (f : Gauge → Gauge) : (modGauge f d).emi = d.emi := rfl
@[simp] theorem modGauge_scan (f : Gauge → Gauge) : (modGauge f d).scan = d.scan := rfl
@[simp] theorem modGauge_sense (f : Gauge → Gauge) : (modGauge f d).sense = d.sense := rfl
@[simp] theorem modGauge_loops (f : Gauge → Gauge) : (modGauge f d).loops = d.loops := rfl
@[simp] theorem modGauge_saf (f : Gauge → Gauge) : (modGauge f d).saf = d.saf := rfl
@[simp] theorem modGauge_hst (f : Gauge → Gauge) : (modGauge f d).hst = d.hst := rfl
@[simp] theorem modGauge_sec (f : Gauge → Gauge) : (modGauge f d).sec = d.sec := rfl
@[simp] theorem modGauge_slu (f : Gauge → Gauge) : (modGauge f d).slu = d.slu := rfl
@[simp] theorem modGauge_peat (f : Gauge → Gauge) : (modGauge f d).peat = d.peat := rfl
@[simp] theorem modGauge_net (f : Gauge → Gauge) : (modGauge f d).net = d.net := rfl
@[simp] theorem modGauge_pcie (f : Gauge → Gauge) : (modGauge f d).pcie = d.pcie := rfl
@[simp] theorem modGauge_spi (f : Gauge → Gauge) : (modGauge f d).spi = d.spi := rfl
@[simp] theorem modGauge_sync (f : Gauge → Gauge) : (modGauge f d).sync = d.sync := rfl
@[simp] theorem modGauge_trig (f : Gauge → Gauge) : (modGauge f d).trig = d.trig := rfl
@[simp] theorem modGauge_kmp (f : Gauge → Gauge) : (modGauge f d).kmp = d.kmp := rfl
@[simp] theorem modGauge_diag (f : Gauge → Gauge) : (modGauge f d).diag = d.diag := rfl
@[simp] theorem modGauge_ev (f : Gauge → Gauge) : (modGauge f d).ev = d.ev := rfl
@[simp] theorem modGauge_writes (f : Gauge → Gauge) : (modGauge f d).writes = d.writes := rfl
@[simp] theorem modGauge_out (f : Gauge → Gauge) : (modGauge f d).out = d.out := rfl
@[simp] theorem modGauge_drawn (f : Gauge → Gauge) : (modGauge f d).drawn = d.drawn := rfl
@[simp] theorem modTim_sys (f : Tim → Tim) : (modTim f d).sys = d.sys := rfl
@[simp] theorem modTim_seq (f : Tim → Tim) : (modTim f d).seq = d.seq := rfl
@[simp] theorem modTim_prm (f : Tim → Tim) : (modTim f d).prm = d.prm := rfl
@[simp] theorem modTim_recv (f : Tim → Tim) : (modTim f d).recv = d.recv := rfl
@[simp] theorem modTim_rep (f : Tim → Tim) : (modTim f d).rep = d.rep := rfl
@[simp] theorem modTim_gauge (f : Tim → Tim) : (modTim f d).gauge = d.gauge := rfl
@[simp] theorem modTim_tim (f : Tim → Tim) : (modTim f d).tim = f d.tim := rfl
@[simp] theorem modTim_histo (f : Tim → Tim) : (modTim f d).histo = d.histo := rfl
@[simp] theorem modTim_pts (f : Tim → Tim) : (modTim f d).pts = d.pts := rfl
@[simp] theorem modTim_emi (f : Tim → Tim) : (modTim f d).emi = d.emi := rfl
@[simp] theorem modTim_scan (f : Tim → Tim) : (modTim f d).scan = d.scan := rfl
@[simp] theorem modTim_sense (f : Tim → Tim) : (modTim f d).sense = d.sense := rfl
@[simp] theorem modTim_loops (f : Tim → Tim) : (modTim f d).loops = d.loops := rfl
@[simp] theorem modTim_saf (f : Tim → Tim) : (modTim f d).saf = d.saf := rfl
@[simp] theorem modTim_hst (f : Tim → Tim) : (modTim f d).hst = d.hst := rfl
@[simp] theorem modTim_sec (f : Tim → Tim) : (modTim f d).sec = d.sec := rfl
@[simp] theorem modTim_slu (f : Tim → Tim) : (modTim f d).slu = d.slu := rfl
@[simp] theorem modTim_peat (f : Tim → Tim) : (modTim f d).peat = d.peat := rfl
@[simp] theorem modTim_net (f : Tim → Tim) : (modTim f d).net = d.net := rfl
@[simp] theorem modTim_pcie (f : Tim → Tim) : (modTim f d).pcie = d.pcie := rfl
@[simp] theorem modTim_spi (f : Tim → Tim) : (modTim f d).spi = d.spi := rfl
@[simp] theorem modTim_sync (f : Tim → Tim) : (modTim f d).sync = d.sync := rfl
@[simp] theorem modTim_trig (f : Tim → Tim) : (modTim f d).trig = d.trig := rfl
@[simp] theorem modTim_kmp (f : Tim → Tim) : (modTim f d).kmp = d.kmp := rfl
@[simp] theorem modTim_diag (f : Tim → Tim) : (modTim f d).diag = d.diag := rfl
@[simp] theorem modTim_ev (f : Tim → Tim) : (modTim f d).ev = d.ev := rfl
@[simp] theorem modTim_writes (f : Tim → Tim) : (modTim f d).writes = d.writes := rfl
@[simp] theorem modTim_out (f : Tim → Tim) : (modTim f d).out = d.out := rfl
@[simp] theorem modTim_drawn (f : Tim → Tim) : (modTim f d).drawn = d.drawn := rfl
@[simp] theorem modHisto_sys (f : Histo → Histo) : (modHisto f d).sys = d.sys := rfl
@[simp] theorem modHisto_seq (f : Histo → Histo) : (modHisto f d).seq = d.seq := rfl
@[simp] theorem modHisto_prm (f : Histo → Histo) : (modHisto f d).prm = d.prm := rfl
@[simp] theorem modHisto_recv (f : Histo → Histo) : (modHisto f d).recv = d.recv := rfl
@[simp] theorem modHisto_rep (f : Histo → Histo) : (modHisto f d).rep = d.rep := rfl
@[simp] theorem modHisto_gauge (f : Histo → Histo) : (modHisto f d).gauge = d.gauge := rfl
@[simp] theorem modHisto_tim (f : Histo → Histo) : (modHisto f d).tim = d.tim := rfl
@[simp] theorem modHisto_histo (f : Histo → Histo) : (modHisto f d).histo = f d.histo := rfl
@[simp] theorem modHisto_pts (f : Histo → Histo) : (modHisto f d).pts = d.pts := rfl
@[simp] theorem modHisto_emi (f : Histo → Histo) : (modHisto f d).emi = d.emi := rfl
@[simp] theorem modHisto_scan (f : Histo → Histo) : (modHisto f d).scan = d.scan := rfl
@[simp] theorem modHisto_sense (f : Histo → Histo) : (modHisto f d).sense = d.sense := rfl
@[simp] theorem modHisto_loops (f : Histo → Histo) : (modHisto f d).loops = d.loops := rfl
@[simp] theorem modHisto_saf (f : Histo → Histo) : (modHisto f d).saf = d.saf := rfl
@[simp] theorem modHisto_hst (f : Histo → Histo) : (modHisto f d).hst = d.hst := rfl
@[simp] theorem modHisto_sec (f : Histo → Histo) : (modHisto f d).sec = d.sec := rfl
@[simp] theorem modHisto_slu (f : Histo → Histo) : (modHisto f d).slu = d.slu := rfl
@[simp] theorem modHisto_peat (f : Histo → Histo) : (modHisto f d).peat = d.peat := rfl
@[simp] theorem modHisto_net (f : Histo → Histo) : (modHisto f d).net = d.net := rfl
@[simp] theorem modHisto_pcie (f : Histo → Histo) : (modHisto f d).pcie = d.pcie := rfl
@[simp] theorem modHisto_spi (f : Histo → Histo) : (modHisto f d).spi = d.spi := rfl
@[simp] theorem modHisto_sync (f : Histo → Histo) : (modHisto f d).sync = d.sync := rfl
@[simp] theorem modHisto_trig (f : Histo → Histo) : (modHisto f d).trig = d.trig := rfl
@[simp] theorem modHisto_kmp (f : Histo → Histo) : (modHisto f d).kmp = d.kmp := rfl
@[simp] theorem modHisto_diag (f : Histo → Histo) : (modHisto f d).diag = d.diag := rfl
@[simp] theorem modHisto_ev (f : Histo → Histo) : (modHisto f d).ev = d.ev := rfl
@[simp] theorem modHisto_writes (f : Histo → Histo) : (modHisto f d).writes = d.writes := rfl
@[simp] theorem modHisto_out (f : Histo → Histo) : (modHisto f d).out = d.out := rfl
@[simp] theorem modHisto_drawn (f : Histo → Histo) : (modHisto f d).drawn = d.drawn := rfl
@[simp] theorem modPts_sys (f : Pts → Pts) : (modPts f d).sys = d.sys := rfl
@[simp] theorem modPts_seq (f : Pts → Pts) : (modPts f d).seq = d.seq := rfl
@[simp] theorem modPts_prm (f : Pts → Pts) : (modPts f d).prm = d.prm := rfl
@[simp] theorem modPts_recv (f : Pts → Pts) : (modPts f d).recv = d.recv := rfl
@[simp] theorem modPts_rep (f : Pts → Pts) : (modPts f d).rep = d.rep := rfl
@[simp] theorem modPts_gauge (f : Pts → Pts) : (modPts f d).gauge = d.gauge := rfl
@[simp] theorem modPts_tim (f : Pts → Pts) : (modPts f d).tim = d.tim := rfl
@[simp] theorem modPts_histo (f : Pts → Pts) : (modPts f d).histo = d.histo := rfl
@[simp] theorem modPts_pts (f : Pts → Pts) : (modPts f d).pts = f d.pts := rfl
@[simp] theorem modPts_emi (f : Pts → Pts) : (modPts f d).emi = d.emi := rfl
@[simp] theorem modPts_scan (f : Pts → Pts) : (modPts f d).scan = d.scan := rfl
@[simp] theorem modPts_sense (f : Pts → Pts) : (modPts f d).sense = d.sense := rfl
@[simp] theorem modPts_loops (f : Pts → Pts) : (modPts f d).loops = d.loops := rfl
@[simp] theorem modPts_saf (f : Pts → Pts) : (modPts f d).saf = d.saf := rfl
@[simp] theorem modPts_hst (f : Pts → Pts) : (modPts f d).hst = d.hst := rfl
@[simp] theorem modPts_sec (f : Pts → Pts) : (modPts f d).sec = d.sec := rfl
@[simp] theorem modPts_slu (f : Pts → Pts) : (modPts f d).slu = d.slu := rfl
@[simp] theorem modPts_peat (f : Pts → Pts) : (modPts f d).peat = d.peat := rfl
@[simp] theorem modPts_net (f : Pts → Pts) : (modPts f d).net = d.net := rfl
@[simp] theorem modPts_pcie (f : Pts → Pts) : (modPts f d).pcie = d.pcie := rfl
@[simp] theorem modPts_spi (f : Pts → Pts) : (modPts f d).spi = d.spi := rfl
@[simp] theorem modPts_sync (f : Pts → Pts) : (modPts f d).sync = d.sync := rfl
@[simp] theorem modPts_trig (f : Pts → Pts) : (modPts f d).trig = d.trig := rfl
@[simp] theorem modPts_kmp (f : Pts → Pts) : (modPts f d).kmp = d.kmp := rfl
@[simp] theorem modPts_diag (f : Pts → Pts) : (modPts f d).diag = d.diag := rfl
@[simp] theorem modPts_ev (f : Pts → Pts) : (modPts f d).ev = d.ev := rfl
@[simp] theorem modPts_writes (f : Pts → Pts) : (modPts f d).writes = d.writes := rfl
@[simp] theorem modPts_out (f : Pts → Pts) : (modPts f d).out = d.out := rfl
@[simp] theorem modPts_drawn (f : Pts → Pts) : (modPts f d).drawn = d.drawn := rfl
@[simp] theorem modEmi_sys (f : Emi → Emi) : (modEmi f d).sys = d.sys := rfl
@[simp] theorem modEmi_seq (f : Emi → Emi) : (modEmi f d).seq = d.seq := rfl
@[simp] theorem modEmi_prm (f : Emi → Emi) : (modEmi f d).prm = d.prm := rfl
@[simp] theorem modEmi_recv (f : Emi → Emi) : (modEmi f d).recv = d.recv := rfl
@[simp] theorem modEmi_rep (f : Emi → Emi) : (modEmi f d).rep = d.rep := rfl
@[simp] theorem modEmi_gauge (f : Emi → Emi) : (modEmi f d).gauge = d.gauge := rfl
@[simp] theorem modEmi_tim (f : Emi → Emi) : (modEmi f d).tim = d.tim := rfl
@[simp] theorem modEmi_histo (f : Emi → Emi) : (modEmi f d).histo = d.histo := rfl
@[simp] theorem modEmi_pts (f : Emi → Emi) : (modEmi f d).pts = d.pts := rfl
@[simp] theorem modEmi_emi (f : Emi → Emi) : (modEmi f d).emi = f d.emi := rfl
@[simp] theorem modEmi_scan (f : Emi → Emi) : (modEmi f d).scan = d.scan := rfl
@[simp] theorem modEmi_sense (f : Emi → Emi) : (modEmi f d).sense = d.sense := rfl
@[simp] theorem modEmi_loops (f : Emi → Emi) : (modEmi f d).loops = d.loops := rfl
@[simp] theorem modEmi_saf (f : Emi → Emi) : (modEmi f d).saf = d.saf := rfl
@[simp] theorem modEmi_hst (f : Emi → Emi) : (modEmi f d).hst = d.hst := rfl
@[simp] theorem modEmi_sec (f : Emi → Emi) : (modEmi f d).sec = d.sec := rfl
@[simp] theorem modEmi_slu (f : Emi → Emi) : (modEmi f d).slu = d.slu := rfl
@[simp] theorem modEmi_peat (f : Emi → Emi) : (modEmi f d).peat = d.peat := rfl
@[simp] theorem modEmi_net (f : Emi → Emi) : (modEmi f d).net = d.net := rfl
@[simp] theorem modEmi_pcie (f : Emi → Emi) : (modEmi f d).pcie = d.pcie := rfl
@[simp] theorem modEmi_spi (f : Emi → Emi) : (modEmi f d).spi = d.spi := rfl
@[simp] theorem modEmi_sync (f : Emi → Emi) : (modEmi f d).sync = d.sync := rfl
@[simp] theorem modEmi_trig (f : Emi → Emi) : (modEmi f d).trig = d.trig := rfl
@[simp] theorem modEmi_kmp (f : Emi → Emi) : (modEmi f d).kmp = d.kmp := rfl
@[simp] theorem modEmi_diag (f : Emi → Emi) : (modEmi f d).diag = d.diag := rfl
@[simp] theorem modEmi_ev (f : Emi → Emi) : (modEmi f d).ev = d.ev := rfl
@[simp] theorem modEmi_writes (f : Emi → Emi) : (modEmi f d).writes = d.writes := rfl
@[simp] theorem modEmi_out (f : Emi → Emi) : (modEmi f d).out = d.out := rfl
@[simp] theorem modEmi_drawn (f : Emi → Emi) : (modEmi f d).drawn = d.drawn := rfl
@[simp] theorem modScan_sys (f : Scan → Scan) : (modScan f d).sys = d.sys := rfl
@[simp] theorem modScan_seq (f : Scan → Scan) : (modScan f d).seq = d.seq := rfl
@[simp] theorem modScan_prm (f : Scan → Scan) : (modScan f d).prm = d.prm := rfl
@[simp] theorem modScan_recv (f : Scan → Scan) : (modScan f d).recv = d.recv := rfl
@[simp] theorem modScan_rep (f : Scan → Scan) : (modScan f d).rep = d.rep := rfl
@[simp] theorem modScan_gauge (f : Scan → Scan) : (modScan f d).gauge = d.gauge := rfl
@[simp] theorem modScan_tim (f : Scan → Scan) : (modScan f d).tim = d.tim := rfl
@[simp] theorem modScan_histo (f : Scan → Scan) : (modScan f d).histo = d.histo := rfl
@[simp] theorem modScan_pts (f : Scan → Scan) : (modScan f d).pts = d.pts := rfl
@[simp] theorem modScan_emi (f : Scan → Scan) : (modScan f d).emi = d.emi := rfl
@[simp] theorem modScan_scan (f : Scan → Scan) : (modScan f d).scan = f d.scan := rfl
@[simp] theorem modScan_sense (f : Scan → Scan) : (modScan f d).sense = d.sense := rfl
@[simp] theorem modScan_loops (f : Scan → Scan) : (modScan f d).loops = d.loops := rfl
@[simp] theorem modScan_saf (f : Scan → Scan) : (modScan f d).saf = d.saf := rfl
@[simp] theorem modScan_hst (f : Scan → Scan) : (modScan f d).hst = d.hst := rfl
@[simp] theorem modScan_sec (f : Scan → Scan) : (modScan f d).sec = d.sec := rfl
@[simp] theorem modScan_slu (f : Scan → Scan) : (modScan f d).slu = d.slu := rfl
@[simp] theorem modScan_peat (f : Scan → Scan) : (modScan f d).peat = d.peat := rfl
@[simp] theorem modScan_net (f : Scan → Scan) : (modScan f d).net = d.net := rfl
@[simp] theorem modScan_pcie (f : Scan → Scan) : (modScan f d).pcie = d.pcie := rfl
@[simp] theorem modScan_spi (f : Scan → Scan) : (modScan f d).spi = d.spi := rfl
@[simp] theorem modScan_sync (f : Scan → Scan) : (modScan f d).sync = d.sync := rfl
@[simp] theorem modScan_trig (f : Scan → Scan) : (modScan f d).trig = d.trig := rfl
@[simp] theorem modScan_kmp (f : Scan → Scan) : (modScan f d).kmp = d.kmp := rfl
@[simp] theorem modScan_diag (f : Scan → Scan) : (modScan f d).diag = d.diag := rfl
@[simp] theorem modScan_ev (f : Scan → Scan) : (modScan f d).ev = d.ev := rfl
@[simp] theorem modScan_writes (f : Scan → Scan) : (modScan f d).writes = d.writes := rfl
@[simp] theorem modScan_out (f : Scan → Scan) : (modScan f d).out = d.out := rfl
@[simp] theorem modScan_drawn (f : Scan → Scan) : (modScan f d).drawn = d.drawn := rfl
@[simp] theorem modSense_sys (f : Sense → Sense) : (modSense f d).sys = d.sys := rfl
@[simp] theorem modSense_seq (f : Sense → Sense) : (modSense f d).seq = d.seq := rfl
@[simp] theorem modSense_prm (f : Sense → Sense) : (modSense f d).prm = d.prm := rfl
@[simp] theorem modSense_recv (f : Sense → Sense) : (modSense f d).recv = d.recv := rfl
@[simp] theorem modSense_rep (f : Sense → Sense) : (modSense f d).rep = d.rep := rfl
@[simp] theorem modSense_gauge (f : Sense → Sense) : (modSense f d).gauge = d.gauge := rfl
@[simp] theorem modSense_tim (f : Sense → Sense) : (modSense f d).tim = d.tim := rfl
@[simp] theorem modSense_histo (f : Sense → Sense) : (modSense f d).histo = d.histo := rfl
@[simp] theorem modSense_pts (f : Sense → Sense) : (modSense f d).pts = d.pts := rfl
@[simp] theorem modSense_emi (f : Sense → Sense) : (modSense f d).emi = d.emi := rfl
@[simp] theorem modSense_scan (f : Sense → Sense) : (modSense f d).scan = d.scan := rfl
@[simp] theorem modSense_sense (f : Sense → Sense) : (modSense f d).sense = f d.sense := rfl
@[simp] theorem modSense_loops (f : Sense → Sense) : (modSense f d).loops = d.loops := rfl
@[simp] theorem modSense_saf (f : Sense → Sense) : (modSense f d).saf = d.saf := rfl
@[simp] theorem modSense_hst (f : Sense → Sense) : (modSense f d).hst = d.hst := rfl
@[simp] theorem modSense_sec (f : Sense → Sense) : (modSense f d).sec = d.sec := rfl
@[simp] theorem modSense_slu (f : Sense → Sense) : (modSense f d).slu = d.slu := rfl
@[simp] theorem modSense_peat (f : Sense → Sense) : (modSense f d).peat = d.peat := rfl
@[simp] theorem modSense_net (f : Sense → Sense) : (modSense f d).net = d.net := rfl
@[simp] theorem modSense_pcie (f : Sense → Sense) : (modSense f d).pcie = d.pcie := rfl
@[simp] theorem modSense_spi (f : Sense → Sense) : (modSense f d).spi = d.spi := rfl
@[simp] theorem modSense_sync (f : Sense → Sense) : (modSense f d).sync = d.sync := rfl
@[simp] theorem modSense_trig (f : Sense → Sense) : (modSense f d).trig = d.trig := rfl
@[simp] theorem modSense_kmp (f : Sense → Sense) : (modSense f d).kmp = d.kmp := rfl
@[simp] theorem modSense_diag (f : Sense → Sense) : (modSense f d).diag = d.diag := rfl
@[simp] theorem modSense_ev (f : Sense → Sense) : (modSense f d).ev = d.ev := rfl
@[simp] theorem modSense_writes (f : Sense → Sense) : (modSense f d).writes = d.writes := rfl
@[simp] theorem modSense_out (f : Sense → Sense) : (modSense f d).out = d.out := rfl
@[simp] theorem modSense_drawn (f : Sense → Sense) : (modSense f d).drawn = d.drawn := rfl
@[simp] theorem modLoops_sys (f : Loops → Loops) : (modLoops f d).sys = d.sys := rfl
@[simp] theorem modLoops_seq (f : Loops → Loops) : (modLoops f d).seq = d.seq := rfl
@[simp] theorem modLoops_prm (f : Loops → Loops) : (modLoops f d).prm = d.prm := rfl
@[simp] theorem modLoops_recv (f : Loops → Loops) : (modLoops f d).recv = d.recv := rfl
@[simp] theorem modLoops_rep (f : Loops → Loops) : (modLoops f d).rep = d.rep := rfl
@[simp] theorem modLoops_gauge (f : Loops → Loops) : (modLoops f d).gauge = d.gauge := rfl
@[simp] theorem modLoops_tim (f : Loops → Loops) : (modLoops f d).tim = d.tim := rfl
@[simp] theorem modLoops_histo (f : Loops → Loops) : (modLoops f d).histo = d.histo := rfl
@[simp] theorem modLoops_pts (f : Loops → Loops) : (modLoops f d).pts = d.pts := rfl
@[simp] theorem modLoops_emi (f : Loops → Loops) : (modLoops f d).emi = d.emi := rfl
@[simp] theorem modLoops_scan (f : Loops → Loops) : (modLoops f d).scan = d.scan := rfl
@[simp] theorem modLoops_sense (f : Loops → Loops) : (modLoops f d).sense = d.sense := rfl
@[simp] theorem modLoops_loops (f : Loops → Loops) : (modLoops f d).loops = f d.loops := rfl
@[simp] theorem modLoops_saf (f : Loops → Loops) : (modLoops f d).saf = d.saf := rfl
@[simp] theorem modLoops_hst (f : Loops → Loops) : (modLoops f d).hst = d.hst := rfl
@[simp] theorem modLoops_sec (f : Loops → Loops) : (modLoops f d).sec = d.sec := rfl
@[simp] theorem modLoops_slu (f : Loops → Loops) : (modLoops f d).slu = d.slu := rfl
@[simp] theorem modLoops_peat (f : Loops → Loops) : (modLoops f d).peat = d.peat := rfl
@[simp] theorem modLoops_net (f : Loops → Loops) : (modLoops f d).net = d.net := rfl
@[simp] theorem modLoops_pcie (f : Loops → Loops) : (modLoops f d).pcie = d.pcie := rfl
@[simp] theorem modLoops_spi (f : Loops → Loops) : (modLoops f d).spi = d.spi := rfl
@[simp] theorem modLoops_sync (f : Loops → Loops) : (modLoops f d).sync = d.sync := rfl
@[simp] theorem modLoops_trig (f : Loops → Loops) : (modLoops f d).trig = d.trig := rfl
@[simp] theorem modLoops_kmp (f : Loops → Loops) : (modLoops f d).kmp = d.kmp := rfl
@[simp] theorem modLoops_diag (f : Loops → Loops) : (modLoops f d).diag = d.diag := rfl
@[simp] theorem modLoops_ev (f : Loops → Loops) : (modLoops f d).ev = d.ev := rfl
@[simp] theorem modLoops_writes (f : Loops → Loops) : (modLoops f d).writes = d.writes := rfl
@[simp] theorem modLoops_out (f : Loops → Loops) : (modLoops f d).out = d.out := rfl
@[simp] theorem modLoops_drawn (f : Loops → Loops) : (modLoops f d).drawn = d.drawn := rfl
@[simp] theorem modSaf_sys (f : Saf → Saf) : (modSaf f d).sys = d.sys := rfl
@[simp] theorem modSaf_seq (f : Saf → Saf) : (modSaf f d).seq = d.seq := rfl
@[simp] theorem modSaf_prm (f : Saf → Saf) : (modSaf f d).prm = d.prm := rfl
@[simp] theorem modSaf_recv (f : Saf → Saf) : (modSaf f d).recv = d.recv := rfl
@[simp] theorem modSaf_rep (f : Saf → Saf) : (modSaf f d).rep = d.rep := rfl
@[simp] theorem modSaf_gauge (f : Saf → Saf) : (modSaf f d).gauge = d.gauge := rfl
@[simp] theorem modSaf_tim (f : Saf → Saf) : (modSaf f d).tim = d.tim := rfl
@[simp] theorem modSaf_histo (f : Saf → Saf) : (modSaf f d).histo = d.histo := rfl
@[simp] theorem modSaf_pts (f : Saf → Saf) : (modSaf f d).pts = d.pts := rfl
@[simp] theorem modSaf_emi (f : Saf → Saf) : (modSaf f d).emi = d.emi := rfl
@[simp] theorem modSaf_scan (f : Saf → Saf) : (modSaf f d).scan = d.scan := rfl
@[simp] theorem modSaf_sense (f : Saf → Saf) : (modSaf f d).sense = d.sense := rfl
@[simp] theorem modSaf_loops (f : Saf → Saf) : (modSaf f d).loops = d.loops := rfl
@[simp] theorem modSaf_saf (f : Saf → Saf) : (modSaf f d).saf = f d.saf := rfl
@[simp] theorem modSaf_hst (f : Saf → Saf) : (modSaf f d).hst = d.hst := rfl
@[simp] theorem modSaf_sec (f : Saf → Saf) : (modSaf f d).sec = d.sec := rfl
@[simp] theorem modSaf_slu (f : Saf → Saf) : (modSaf f d).slu = d.slu := rfl
@[simp] theorem modSaf_peat (f : Saf → Saf) : (modSaf f d).peat = d.peat := rfl
@[simp] theorem modSaf_net (f : Saf → Saf) : (modSaf f d).net = d.net := rfl
@[simp] theorem modSaf_pcie (f : Saf → Saf) : (modSaf f d).pcie = d.pcie := rfl
@[simp] theorem modSaf_spi (f : Saf → Saf) : (modSaf f d).spi = d.spi := rfl
@[simp] theorem modSaf_sync (f : Saf → Saf) : (modSaf f d).sync = d.sync := rfl
@[simp] theorem modSaf_trig (f : Saf → Saf) : (modSaf f d).trig = d.trig := rfl
@[simp] theorem modSaf_kmp (f : Saf → Saf) : (modSaf f d).kmp = d.kmp := rfl
@[simp] theorem modSaf_diag (f : Saf → Saf) : (modSaf f d).diag = d.diag := rfl
@[simp] theorem modSaf_ev (f : Saf → Saf) : (modSaf f d).ev = d.ev := rfl
@[simp] theorem modSaf_writes (f : Saf → Saf) : (modSaf f d).writes = d.writes := rfl
@[simp] theorem modSaf_out (f : Saf → Saf) : (modSaf f d).out = d.out := rfl
@[simp] theorem modSaf_drawn (f : Saf → Saf) : (modSaf f d).drawn = d.drawn := rfl
@[simp] theorem modHst_sys (f : Hst → Hst) : (modHst f d).sys = d.sys := rfl
@[simp] theorem modHst_seq (f : Hst → Hst) : (modHst f d).seq = d.seq := rfl
@[simp] theorem modHst_prm (f : Hst → Hst) : (modHst f d).prm = d.prm := rfl
@[simp] theorem modHst_recv (f : Hst → Hst) : (modHst f d).recv = d.recv := rfl
@[simp] theorem modHst_rep (f : Hst → Hst) : (modHst f d).rep = d.rep := rfl
@[simp] theorem modHst_gauge (f : Hst → Hst) : (modHst f d).gauge = d.gauge := rfl
@[simp] theorem modHst_tim (f : Hst → Hst) : (modHst f d).tim = d.tim := rfl
@[simp] theorem modHst_histo (f : Hst → Hst) : (modHst f d).histo = d.histo := rfl
@[simp] theorem modHst_pts (f : Hst → Hst) : (modHst f d).pts = d.pts := rfl
@[simp] theorem modHst_emi (f : Hst → Hst) : (modHst f d).emi = d.emi := rfl
@[simp] theorem modHst_scan (f : Hst → Hst) : (modHst f d).scan = d.scan := rfl
@[simp] theorem modHst_sense (f : Hst → Hst) : (modHst f d).sense = d.sense := rfl
@[simp] theorem modHst_loops (f : Hst → Hst) : (modHst f d).loops = d.loops := rfl
@[simp] theorem modHst_saf (f : Hst → Hst) : (modHst f d).saf = d.saf := rfl
@[simp] theorem modHst_hst (f : Hst → Hst) : (modHst f d).hst = f d.hst := rfl
@[simp] theorem modHst_sec (f : Hst → Hst) : (modHst f d).sec = d.sec := rfl
@[simp] theorem modHst_slu (f : Hst → Hst) : (modHst f d).slu = d.slu := rfl
@[simp] theorem modHst_peat (f : Hst → Hst) : (modHst f d).peat = d.peat := rfl
@[simp] theorem modHst_net (f : Hst → Hst) : (modHst f d).net = d.net := rfl
@[simp] theorem modHst_pcie (f : Hst → Hst) : (modHst f d).pcie = d.pcie := rfl
@[simp] theorem modHst_spi (f : Hst → Hst) : (modHst f d).spi = d.spi := rfl
@[simp] theorem modHst_sync (f : Hst → Hst) : (modHst f d).sync = d.sync := rfl
@[simp] theorem modHst_trig (f : Hst → Hst) : (modHst f d).trig = d.trig := rfl
@[simp] theorem modHst_kmp (f : Hst → Hst) : (modHst f d).kmp = d.kmp := rfl
@[simp] theorem modHst_diag (f : Hst → Hst) : (modHst f d).diag = d.diag := rfl
@[simp] theorem modHst_ev (f : Hst → Hst) : (modHst f d).ev = d.ev := rfl
@[simp] theorem modHst_writes (f : Hst → Hst) : (modHst f d).writes = d.writes := rfl
@[simp] theorem modHst_out (f : Hst → Hst) : (modHst f d).out = d.out := rfl
@[simp] theorem modHst_drawn (f : Hst → Hst) : (modHst f d).drawn = d.drawn := rfl
@[simp] theorem modSec_sys (f : Sec → Sec) : (modSec f d).sys = d.sys := rfl
@[simp] theorem modSec_seq (f : Sec → Sec) : (modSec f d).seq = d.seq := rfl
@[simp] theorem modSec_prm (f : Sec → Sec) : (modSec f d).prm = d.prm := rfl
@[simp] theorem modSec_recv (f : Sec → Sec) : (modSec f d).recv = d.recv := rfl
@[simp] theorem modSec_rep (f : Sec → Sec) : (modSec f d).rep = d.rep := rfl
@[simp] theorem modSec_gauge (f : Sec → Sec) : (modSec f d).gauge = d.gauge := rfl
@[simp] theorem modSec_tim (f : Sec → Sec) : (modSec f d).tim = d.tim := rfl
@[simp] theorem modSec_histo (f : Sec → Sec) : (modSec f d).histo = d.histo := rfl
@[simp] theorem modSec_pts (f : Sec → Sec) : (modSec f d).pts = d.pts := rfl
@[simp] theorem modSec_emi (f : Sec → Sec) : (modSec f d).emi = d.emi := rfl
@[simp] theorem modSec_scan (f : Sec → Sec) : (modSec f d).scan = d.scan := rfl
@[simp] theorem modSec_sense (f : Sec → Sec) : (modSec f d).sense = d.sense := rfl
@[simp] theorem modSec_loops (f : Sec → Sec) : (modSec f d).loops = d.loops := rfl
@[simp] theorem modSec_saf (f : Sec → Sec) : (modSec f d).saf = d.saf := rfl
@[simp] theorem modSec_hst (f : Sec → Sec) : (modSec f d).hst = d.hst := rfl
@[simp] theorem modSec_sec (f : Sec → Sec) : (modSec f d).sec = f d.sec := rfl
@[simp] theorem modSec_slu (f : Sec → Sec) : (modSec f d).slu = d.slu := rfl
@[simp] theorem modSec_peat (f : Sec → Sec) : (modSec f d).peat = d.peat := rfl
@[simp] theorem modSec_net (f : Sec → Sec) : (modSec f d).net = d.net := rfl
@[simp] theorem modSec_pcie (f : Sec → Sec) : (modSec f d).pcie = d.pcie := rfl
@[simp] theorem modSec_spi (f : Sec → Sec) : (modSec f d).spi = d.spi := rfl
@[simp] theorem modSec_sync (f : Sec → Sec) : (modSec f d).sync = d.sync := rfl
@[simp] theorem modSec_trig (f : Sec → Sec) : (modSec f d).trig = d.trig := rfl
@[simp] theorem modSec_kmp (f : Sec → Sec) : (modSec f d).kmp = d.kmp := rfl
@[simp] theorem modSec_diag (f : Sec → Sec) : (modSec f d).diag = d.diag := rfl
@[simp] theorem modSec_ev (f : Sec → Sec) : (modSec f d).ev = d.ev := rfl
@[simp] theorem modSec_writes (f : Sec → Sec) : (modSec f d).writes = d.writes := rfl
@[simp] theorem modSec_out (f : Sec → Sec) : (modSec f d).out = d.out := rfl
@[simp] theorem modSec_drawn (f : Sec → Sec) : (modSec f d).drawn = d.drawn := rfl
@[simp] theorem modSlu_sys (f : Slu → Slu) : (modSlu f d).sys = d.sys := rfl
@[simp] theorem modSlu_seq (f : Slu → Slu) : (modSlu f d).seq = d.seq := rfl
@[simp] theorem modSlu_prm (f : Slu → Slu) : (modSlu f d).prm = d.prm := rfl
@[simp] theorem modSlu_recv (f : Slu → Slu) : (modSlu f d).recv = d.recv := rfl
@[simp] theorem modSlu_rep (f : Slu → Slu) : (modSlu f d).rep = d.rep := rfl
@[simp] theorem modSlu_gauge (f : Slu → Slu) : (modSlu f d).gauge = d.gauge := rfl
@[simp] theorem modSlu_tim (f : Slu → Slu) : (modSlu f d).tim = d.tim := rfl
@[simp] theorem modSlu_histo (f : Slu → Slu) : (modSlu f d).histo = d.histo := rfl
@[simp] theorem modSlu_pts (f : Slu → Slu) : (modSlu f d).pts = d.pts := rfl
@[simp] theorem modSlu_emi (f : Slu → Slu) : (modSlu f d).emi = d.emi := rfl
@[simp] theorem modSlu_scan (f : Slu → Slu) : (modSlu f d).scan = d.scan := rfl
@[simp] theorem modSlu_sense (f : Slu → Slu) : (modSlu f d).sense = d.sense := rfl
@[simp] theorem modSlu_loops (f : Slu → Slu) : (modSlu f d).loops = d.loops := rfl
@[simp] theorem modSlu_saf (f : Slu → Slu) : (modSlu f d).saf = d.saf := rfl
@[simp] theorem modSlu_hst (f : Slu → Slu) : (modSlu f d).hst = d.hst := rfl
@[simp] theorem modSlu_sec (f : Slu → Slu) : (modSlu f d).sec = d.sec := rfl
@[simp] theorem modSlu_slu (f : Slu → Slu) : (modSlu f d).slu = f d.slu := rfl
@[simp] theorem modSlu_peat (f : Slu → Slu) : (modSlu f d).peat = d.peat := rfl
@[simp] theorem modSlu_net (f : Slu → Slu) : (modSlu f d).net = d.net := rfl
@[simp] theorem modSlu_pcie (f : Slu → Slu) : (modSlu f d).pcie = d.pcie := rfl
@[simp] theorem modSlu_spi (f : Slu → Slu) : (modSlu f d).spi = d.spi := rfl
@[simp] theorem modSlu_sync (f : Slu → Slu) : (modSlu f d).sync = d.sync := rfl
@[simp] theorem modSlu_trig (f : Slu → Slu) : (modSlu f d).trig = d.trig := rfl
@[simp] theorem modSlu_kmp (f : Slu → Slu) : (modSlu f d).kmp = d.kmp := rfl
@[simp] theorem modSlu_diag (f : Slu → Slu) : (modSlu f d).diag = d.diag := rfl
@[simp] theorem modSlu_ev (f : Slu → Slu) : (modSlu f d).ev = d.ev := rfl
@[simp] theorem modSlu_writes (f : Slu → Slu) : (modSlu f d).writes = d.writes := rfl
@[simp] theorem modSlu_out (f : Slu → Slu) : (modSlu f d).out = d.out := rfl
@[simp] theorem modSlu_drawn (f : Slu → Slu) : (modSlu f d).drawn = d.drawn := rfl
@[simp] theorem modPeat_sys (f : Peat → Peat) : (modPeat f d).sys = d.sys := rfl
@[simp] theorem modPeat_seq (f : Peat → Peat) : (modPeat f d).seq = d.seq := rfl
@[simp] theorem modPeat_prm (f : Peat → Peat) : (modPeat f d).prm = d.prm := rfl
@[simp] theorem modPeat_recv (f : Peat → Peat) : (modPeat f d).recv = d.recv := rfl
@[simp] theorem modPeat_rep (f : Peat → Peat) : (modPeat f d).rep = d.rep := rfl
@[simp] theorem modPeat_gauge (f : Peat → Peat) : (modPeat f d).gauge = d.gauge := rfl
@[simp] theorem modPeat_tim (f : Peat → Peat) : (modPeat f d).tim = d.tim := rfl
@[simp] theorem modPeat_histo (f : Peat → Peat) : (modPeat f d).histo = d.histo := rfl
@[simp] theorem modPeat_pts (f : Peat → Peat) : (modPeat f d).pts = d.pts := rfl
@[simp] theorem modPeat_emi (f : Peat → Peat) : (modPeat f d).emi = d.emi := rfl
@[simp] theorem modPeat_scan (f : Peat → Peat) : (modPeat f d).scan = d.scan := rfl
@[simp] theorem modPeat_sense (f : Peat → Peat) : (modPeat f d).sense = d.sense := rfl
@[simp] theorem modPeat_loops (f : Peat → Peat) : (modPeat f d).loops = d.loops := rfl
@[simp] theorem modPeat_saf (f : Peat → Peat) : (modPeat f d).saf = d.saf := rfl
@[simp] theorem modPeat_hst (f : Peat → Peat) : (modPeat f d).hst = d.hst := rfl
@[simp] theorem modPeat_sec (f : Peat → Peat) : (modPeat f d).sec = d.sec := rfl
@[simp] theorem modPeat_slu (f : Peat → Peat) : (modPeat f d).slu = d.slu := rfl
@[simp] theorem modPeat_peat (f : Peat → Peat) : (modPeat f d).peat = f d.peat := rfl
@[simp] theorem modPeat_net (f : Peat → Peat) : (modPeat f d).net = d.net := rfl
@[simp] theorem modPeat_pcie (f : Peat → Peat) : (modPeat f d).pcie = d.pcie := rfl
@[simp] theorem modPeat_spi (f : Peat → Peat) : (modPeat f d).spi = d.spi := rfl
@[simp] theorem modPeat_sync (f : Peat → Peat) : (modPeat f d).sync = d.sync := rfl
@[simp] theorem modPeat_trig (f : Peat → Peat) : (modPeat f d).trig = d.trig := rfl
@[simp] theorem modPeat_kmp (f : Peat → Peat) : (modPeat f d).kmp = d.kmp := rfl
@[simp] theorem modPeat_diag (f : Peat → Peat) : (modPeat f d).diag = d.diag := rfl
@[simp] theorem modPeat_ev (f : Peat → Peat) : (modPeat f d).ev = d.ev := rfl
@[simp] theorem modPeat_writes (f : Peat → Peat) : (modPeat f d).writes = d.writes := rfl
@[simp] theorem modPeat_out (f : Peat → Peat) : (modPeat f d).out = d.out := rfl
@[simp] theorem modPeat_drawn (f : Peat → Peat) : (modPeat f d).drawn = d.drawn := rfl
@[simp] theorem modNet_sys (f : Net → Net) : (modNet f d).sys = d.sys := rfl
@[simp] theorem modNet_seq (f : Net → Net) : (modNet f d).seq = d.seq := rfl
@[simp] theorem modNet_prm (f : Net → Net) : (modNet f d).prm = d.prm := rfl
@[simp] theorem modNet_recv (f : Net → Net) : (modNet f d).recv = d.recv := rfl
@[simp] theorem modNet_rep (f : Net → Net) : (modNet f d).rep = d.rep := rfl
@[simp] theorem modNet_gauge (f : Net → Net) : (modNet f d).gauge = d.gauge := rfl
@[simp] theorem modNet_tim (f : Net → Net) : (modNet f d).tim = d.tim := rfl
@[simp] theorem modNet_histo (f : Net → Net) : (modNet f d).histo = d.histo := rfl
@[simp] theorem modNet_pts (f : Net → Net) : (modNet f d).pts = d.pts := rfl
@[simp] theorem modNet_emi (f : Net → Net) : (modNet f d).emi = d.emi := rfl
@[simp] theorem modNet_scan (f : Net → Net) : (modNet f d).scan = d.scan := rfl
@[simp] theorem modNet_sense (f : Net → Net) : (modNet f d).sense = d.sense := rfl
@[simp] theorem modNet_loops (f : Net → Net) : (modNet f d).loops = d.loops := rfl
@[simp] theorem modNet_saf (f : Net → Net) : (modNet f d).saf = d.saf := rfl
@[simp] theorem modNet_hst (f : Net → Net) : (modNet f d).hst = d.hst := rfl
@[simp] theorem modNet_sec (f : Net → Net) : (modNet f d).sec = d.sec := rfl
@[simp] theorem modNet_slu (f : Net → Net) : (modNet f d).slu = d.slu := rfl
@[simp] theorem modNet_peat (f : Net → Net) : (modNet f d).peat = d.peat := rfl
@[simp] theorem modNet_net (f : Net → Net) : (modNet f d).net = f d.net := rfl
@[simp] theorem modNet_pcie (f : Net → Net) : (modNet f d).pcie = d.pcie := rfl
@[simp] theorem modNet_spi (f : Net → Net) : (modNet f d).spi = d.spi := rfl
@[simp] theorem modNet_sync (f : Net → Net) : (modNet f d).sync = d.sync := rfl
@[simp] theorem modNet_trig (f : Net → Net) : (modNet f d).trig = d.trig := rfl
@[simp] theorem modNet_kmp (f : Net → Net) : (modNet f d).kmp = d.kmp := rfl
@[simp] theorem modNet_diag (f : Net → Net) : (modNet f d).diag = d.diag := rfl
@[simp] theorem modNet_ev (f : Net → Net) : (modNet f d).ev = d.ev := rfl
@[simp] theorem modNet_writes (f : Net → Net) : (modNet f d).writes = d.writes := rfl
@[simp] theorem modNet_out (f : Net → Net) : (modNet f d).out = d.out := rfl
@[simp] theorem modNet_drawn (f : Net → Net) : (modNet f d).drawn = d.drawn := rfl
@[simp] theorem modPcie_sys (f : Pcie → Pcie) : (modPcie f d).sys = d.sys := rfl
@[simp] theorem modPcie_seq (f : Pcie → Pcie) : (modPcie f d).seq = d.seq := rfl
@[simp] theorem modPcie_prm (f : Pcie → Pcie) : (modPcie f d).prm = d.prm := rfl
@[simp] theorem modPcie_recv (f : Pcie → Pcie) : (modPcie f d).recv = d.recv := rfl
@[simp] theorem modPcie_rep (f : Pcie → Pcie) : (modPcie f d).rep = d.rep := rfl
@[simp] theorem modPcie_gauge (f : Pcie → Pcie) : (modPcie f d).gauge = d.gauge := rfl
@[simp] theorem modPcie_tim (f : Pcie → Pcie) : (modPcie f d).tim = d.tim := rfl
@[simp] theorem modPcie_histo (f : Pcie → Pcie) : (modPcie f d).histo = d.histo := rfl
@[simp] theorem modPcie_pts (f : Pcie → Pcie) : (modPcie f d).pts = d.pts := rfl
@[simp] theorem modPcie_emi (f : Pcie → Pcie) : (modPcie f d).emi = d.emi := rfl
@[simp] theorem modPcie_scan (f : Pcie → Pcie) : (modPcie f d).scan = d.scan := rfl
@[simp] theorem modPcie_sense (f : Pcie → Pcie) : (modPcie f d).sense = d.sense := rfl
@[simp] theorem modPcie_loops (f : Pcie → Pcie) : (modPcie f d).loops = d.loops := rfl
@[simp] theorem modPcie_saf (f : Pcie → Pcie) : (modPcie f d).saf = d.saf := rfl
@[simp] theorem modPcie_hst (f : Pcie → Pcie) : (modPcie f d).hst = d.hst := rfl
@[simp] theorem modPcie_sec (f : Pcie → Pcie) : (modPcie f d).sec = d.sec := rfl
@[simp] theorem modPcie_slu (f : Pcie → Pcie) : (modPcie f d).slu = d.slu := rfl
@[simp] theorem modPcie_peat (f : Pcie → Pcie) : (modPcie f d).peat = d.peat := rfl
@[simp] theorem modPcie_net (f : Pcie → Pcie) : (modPcie f d).net = d.net := rfl
@[simp] theorem modPcie_pcie (f : Pcie → Pcie) : (modPcie f d).pcie = f d.pcie := rfl
@[simp] theorem modPcie_spi (f : Pcie → Pcie) : (modPcie f d).spi = d.spi := rfl
@[simp] theorem modPcie_sync (f : Pcie → Pcie) : (modPcie f d).sync = d.sync := rfl
@[simp] theorem modPcie_trig (f : Pcie → Pcie) : (modPcie f d).trig = d.trig := rfl
@[simp] theorem modPcie_kmp (f : Pcie → Pcie) : (modPcie f d).kmp = d.kmp := rfl
@[simp] theorem modPcie_diag (f : Pcie → Pcie) : (modPcie f d).diag = d.diag := rfl
@[simp] theorem modPcie_ev (f : Pcie → Pcie) : (modPcie f d).ev = d.ev := rfl
@[simp] theorem modPcie_writes (f : Pcie → Pcie) : (modPcie f d).writes = d.writes := rfl
@[simp] theorem modPcie_out (f : Pcie → Pcie) : (modPcie f d).out = d.out := rfl
@[simp] theorem modPcie_drawn (f : Pcie → Pcie) : (modPcie f d).drawn = d.drawn := rfl
@[simp] theorem modSpi_sys (f : Spi → Spi) : (modSpi f d).sys = d.sys := rfl
@[simp] theorem modSpi_seq (f : Spi → Spi) : (modSpi f d).seq = d.seq := rfl
@[simp] theorem modSpi_prm (f : Spi → Spi) : (modSpi f d).prm = d.prm := rfl
@[simp] theorem modSpi_recv (f : Spi → Spi) : (modSpi f d).recv = d.recv := rfl
@[simp] theorem modSpi_rep (f : Spi → Spi) : (modSpi f d).rep = d.rep := rfl
@[simp] theorem modSpi_gauge (f : Spi → Spi) : (modSpi f d).gauge = d.gauge := rfl
@[simp] theorem modSpi_tim (f : Spi → Spi) : (modSpi f d).tim = d.tim := rfl
@[simp] theorem modSpi_histo (f : Spi → Spi) : (modSpi f d).histo = d.histo := rfl
@[simp] theorem modSpi_pts (f : Spi → Spi) : (modSpi f d).pts = d.pts := rfl
@[simp] theorem modSpi_emi (f : Spi → Spi) : (modSpi f d).emi = d.emi := rfl
@[simp] theorem modSpi_scan (f : Spi → Spi) : (modSpi f d).scan = d.scan := rfl
@[simp] theorem modSpi_sense (f : Spi → Spi) : (modSpi f d).sense = d.sense := rfl
@[simp] theorem modSpi_loops (f : Spi → Spi) : (modSpi f d).loops = d.loops := rfl
@[simp] theorem modSpi_saf (f : Spi → Spi) : (modSpi f d).saf = d.saf := rfl
@[simp] theorem modSpi_hst (f : Spi → Spi) : (modSpi f d).hst = d.hst := rfl
@[simp] theorem modSpi_sec (f : Spi → Spi) : (modSpi f d).sec = d.sec := rfl
@[simp] theorem modSpi_slu (f : Spi → Spi) : (modSpi f d).slu = d.slu := rfl
@[simp] theorem modSpi_peat (f : Spi → Spi) : (modSpi f d).peat = d.peat := rfl
@[simp] theorem modSpi_net (f : Spi → Spi) : (modSpi f d).net = d.net := rfl
@[simp] theorem modSpi_pcie (f : Spi → Spi) : (modSpi f d).pcie = d.pcie := rfl
@[simp] theorem modSpi_spi (f : Spi → Spi) : (modSpi f d).spi = f d.spi := rfl
@[simp] theorem modSpi_sync (f : Spi → Spi) : (modSpi f d).sync = d.sync := rfl
@[simp] theorem modSpi_trig (f : Spi → Spi) : (modSpi f d).trig = d.trig := rfl
@[simp] theorem modSpi_kmp (f : Spi → Spi) : (modSpi f d).kmp = d.kmp := rfl
@[simp] theorem modSpi_diag (f : Spi → Spi) : (modSpi f d).diag = d.diag := rfl
@[simp] theorem modSpi_ev (f : Spi → Spi) : (modSpi f d).ev = d.ev := rfl
@[simp] theorem modSpi_writes (f : Spi → Spi) : (modSpi f d).writes = d.writes := rfl
@[simp] theorem modSpi_out (f : Spi → Spi) : (modSpi f d).out = d.out := rfl
@[simp] theorem modSpi_drawn (f : Spi → Spi) : (modSpi f d).drawn = d.drawn := rfl
@[simp] theorem modSync_sys (f : Sync → Sync) : (modSync f d).sys = d.sys := rfl
@[simp] theorem modSync_seq (f : Sync → Sync) : (modSync f d).seq = d.seq := rfl
@[simp] theorem modSync_prm (f : Sync → Sync) : (modSync f d).prm = d.prm := rfl
@[simp] theorem modSync_recv (f : Sync → Sync) : (modSync f d).recv = d.recv := rfl
@[simp] theorem modSync_rep (f : Sync → Sync) : (modSync f d).rep = d.rep := rfl
@[simp] theorem modSync_gauge (f : Sync → Sync) : (modSync f d).gauge = d.gauge := rfl
@[simp] theorem modSync_tim (f : Sync → Sync) : (modSync f d).tim = d.tim := rfl
@[simp] theorem modSync_histo (f : Sync → Sync) : (modSync f d).histo = d.histo := rfl
@[simp] theorem modSync_pts (f : Sync → Sync) : (modSync f d).pts = d.pts := rfl
@[simp] theorem modSync_emi (f : Sync → Sync) : (modSync f d).emi = d.emi := rfl
@[simp] theorem modSync_scan (f : Sync → Sync) : (modSync f d).scan = d.scan := rfl
@[simp] theorem modSync_sense (f : Sync → Sync) : (modSync f d).sense = d.sense := rfl
@[simp] theorem modSync_loops (f : Sync → Sync) : (modSync f d).loops = d.loops := rfl
@[simp] theorem modSync_saf (f : Sync → Sync) : (modSync f d).saf = d.saf := rfl
@[simp] theorem modSync_hst (f : Sync → Sync) : (modSync f d).hst = d.hst := rfl
@[simp] theorem modSync_sec (f : Sync → Sync) : (modSync f d).sec = d.sec := rfl
@[simp] theorem modSync_slu (f : Sync → Sync) : (modSync f d).slu = d.slu := rfl
@[simp] theorem modSync_peat (f : Sync → Sync) : (modSync f d).peat = d.peat := rfl
@[simp] theorem modSync_net (f : Sync → Sync) : (modSync f d).net = d.net := rfl
@[simp] theorem modSync_pcie (f : Sync → Sync) : (modSync f d).pcie = d.pcie := rfl
@[simp] theorem modSync_spi (f : Sync → Sync) : (modSync f d).spi = d.spi := rfl
@[simp] theorem modSync_sync (f : Sync → Sync) : (modSync f d).sync = f d.sync := rfl
@[simp] theorem modSync_trig (f : Sync → Sync) : (modSync f d).trig = d.trig := rfl
@[simp] theorem modSync_kmp (f : Sync → Sync) : (modSync f d).kmp = d.kmp := rfl
@[simp] theorem modSync_diag (f : Sync → Sync) : (modSync f d).diag = d.diag := rfl
@[simp] theorem modSync_ev (f : Sync → Sync) : (modSync f d).ev = d.ev := rfl
@[simp] theorem modSync_writes (f : Sync → Sync) : (modSync f d).writes = d.writes := rfl
@[simp] theorem modSync_out (f : Sync → Sync) : (modSync f d).out = d.out := rfl
@[simp] theorem modSync_drawn (f : Sync → Sync) : (modSync f d).drawn = d.drawn := rfl
@[simp] theorem modTrig_sys (f : Trig → Trig) : (modTrig f d).sys = d.sys := rfl
@[simp] theorem modTrig_seq (f : Trig → Trig) : (modTrig f d).seq = d.seq := rfl
@[simp] theorem modTrig_prm (f : Trig → Trig) : (modTrig f d).prm = d.prm := rfl
@[simp] theorem modTrig_recv (f : Trig → Trig) : (modTrig f d).recv = d.recv := rfl
@[simp] theorem modTrig_rep (f : Trig → Trig) : (modTrig f d).rep = d.rep := rfl
@[simp] theorem modTrig_gauge (f : Trig → Trig) : (modTrig f d).gauge = d.gauge := rfl
@[simp] theorem modTrig_tim (f : Trig → Trig) : (modTrig f d).tim = d.tim := rfl
@[simp] theorem modTrig_histo (f : Trig → Trig) : (modTrig f d).histo = d.histo := rfl
@[simp] theorem modTrig_pts (f : Trig → Trig) : (modTrig f d).pts = d.pts := rfl
@[simp] theorem modTrig_emi (f : Trig → Trig) : (modTrig f d).emi = d.emi := rfl
@[simp] theorem modTrig_scan (f : Trig → Trig) : (modTrig f d).scan = d.scan := rfl
@[simp] theorem modTrig_sense (f : Trig → Trig) : (modTrig f d).sense = d.sense := rfl
@[simp] theorem modTrig_loops (f : Trig → Trig) : (modTrig f d).loops = d.loops := rfl
@[simp] theorem modTrig_saf (f : Trig → Trig) : (modTrig f d).saf = d.saf := rfl
@[simp] theorem modTrig_hst (f : Trig → Trig) : (modTrig f d).hst = d.hst := rfl
@[simp] theorem modTrig_sec (f : Trig → Trig) : (modTrig f d).sec = d.sec := rfl
@[simp] theorem modTrig_slu (f : Trig → Trig) : (modTrig f d).slu = d.slu := rfl
@[simp] theorem modTrig_peat (f : Trig → Trig) : (modTrig f d).peat = d.peat := rfl
@[simp] theorem modTrig_net (f : Trig → Trig) : (modTrig f d).net = d.net := rfl
@[simp] theorem modTrig_pcie (f : Trig → Trig) : (modTrig f d).pcie = d.pcie := rfl
@[simp] theorem modTrig_spi (f : Trig → Trig) : (modTrig f d).spi = d.spi := rfl
@[simp] theorem modTrig_sync (f : Trig → Trig) : (modTrig f d).sync = d.sync := rfl
@[simp] theorem modTrig_trig (f : Trig → Trig) : (modTrig f d).trig = f d.trig := rfl
@[simp] theorem modTrig_kmp (f : Trig → Trig) : (modTrig f d).kmp = d.kmp := rfl
@[simp] theorem modTrig_diag (f : Trig → Trig) : (modTrig f d).diag = d.diag := rfl
@[simp] theorem modTrig_ev (f : Trig → Trig) : (modTrig f d).ev = d.ev := rfl
@[simp] theorem modTrig_writes (f : Trig → Trig) : (modTrig f d).writes = d.writes := rfl
@[simp] theorem modTrig_out (f : Trig → Trig) : (modTrig f d).out = d.out := rfl
@[simp] theorem modTrig_drawn (f : Trig → Trig) : (modTrig f d).drawn = d.drawn := rfl
@[simp] theorem modKmp_sys (f : Kmp → Kmp) : (modKmp f d).sys = d.sys := rfl
@[simp] theorem modKmp_seq (f : Kmp → Kmp) : (modKmp f d).seq = d.seq := rfl
@[simp] theorem modKmp_prm (f : Kmp → Kmp) : (modKmp f d).prm = d.prm := rfl
@[simp] theorem modKmp_recv (f : Kmp → Kmp) : (modKmp f d).recv = d.recv := rfl
@[simp] theorem modKmp_rep (f : Kmp → Kmp) : (modKmp f d).rep = d.rep := rfl
@[simp] theorem modKmp_gauge (f : Kmp → Kmp) : (modKmp f d).gauge = d.gauge := rfl
@[simp] theorem modKmp_tim (f : Kmp → Kmp) : (modKmp f d).tim = d.tim := rfl
@[simp] theorem modKmp_histo (f : Kmp → Kmp) : (modKmp f d).histo = d.histo := rfl
@[simp] theorem modKmp_pts (f : Kmp → Kmp) : (modKmp f d).pts = d.pts := rfl
@[simp] theorem modKmp_emi (f : Kmp → Kmp) : (modKmp f d).emi = d.emi := rfl
@[simp] theorem modKmp_scan (f : Kmp → Kmp) : (modKmp f d).scan = d.scan := rfl
@[simp] theorem modKmp_sense (f : Kmp → Kmp) : (modKmp f d).sense = d.sense := rfl
@[simp] theorem modKmp_loops (f : Kmp → Kmp) : (modKmp f d).loops = d.loops := rfl
@[simp] theorem modKmp_saf (f : Kmp → Kmp) : (modKmp f d).saf = d.saf := rfl
@[simp] theorem modKmp_hst (f : Kmp → Kmp) : (modKmp f d).hst = d.hst := rfl
@[simp] theorem modKmp_sec (f : Kmp → Kmp) : (modKmp f d).sec = d.sec := rfl
@[simp] theorem modKmp_slu (f : Kmp → Kmp) : (modKmp f d).slu = d.slu := rfl
@[simp] theorem modKmp_peat (f : Kmp → Kmp) : (modKmp f d).peat = d.peat := rfl
@[simp] theorem modKmp_net (f : Kmp → Kmp) : (modKmp f d).net = d.net := rfl
@[simp] theorem modKmp_pcie (f : Kmp → Kmp) : (modKmp f d).pcie = d.pcie := rfl
@[simp] theorem modKmp_spi (f : Kmp → Kmp) : (modKmp f d).spi = d.spi := rfl
@[simp] theorem modKmp_sync (f : Kmp → Kmp) : (modKmp f d).sync = d.sync := rfl
@[simp] theorem modKmp_trig (f : Kmp → Kmp) : (modKmp f d).trig = d.trig := rfl
@[simp] theorem modKmp_kmp (f : Kmp → Kmp) : (modKmp f d).kmp = f d.kmp := rfl
@[simp] theorem modKmp_diag (f : Kmp → Kmp) : (modKmp f d).diag = d.diag := rfl
@[simp] theorem modKmp_ev (f : Kmp → Kmp) : (modKmp f d).ev = d.ev := rfl
@[simp] theorem modKmp_writes (f : Kmp → Kmp) : (modKmp f d).writes = d.writes := rfl
@[simp] theorem modKmp_out (f : Kmp → Kmp) : (modKmp f d).out = d.out := rfl
@[simp] theorem modKmp_drawn (f : Kmp → Kmp) : (modKmp f d).drawn = d.drawn := rfl
@[simp] theorem modDiag_sys (f : Diag → Diag) : (modDiag f d).sys = d.sys := rfl
@[simp] theorem modDiag_seq (f : Diag → Diag) : (modDiag f d).seq = d.seq := rfl
@[simp] theorem modDiag_prm (f : Diag → Diag) : (modDiag f d).prm = d.prm := rfl
@[simp] theorem modDiag_recv (f : Diag → Diag) : (modDiag f d).recv = d.recv := rfl
@[simp] theorem modDiag_rep (f : Diag → Diag) : (modDiag f d).rep = d.rep := rfl
@[simp] theorem modDiag_gauge (f : Diag → Diag) : (modDiag f d).gauge = d.gauge := rfl
@[simp] theorem modDiag_tim (f : Diag → Diag) : (modDiag f d).tim = d.tim := rfl
@[simp] theorem modDiag_histo (f : Diag → Diag) : (modDiag f d).histo = d.histo := rfl
@[simp] theorem modDiag_pts (f : Diag → Diag) : (modDiag f d).pts = d.pts := rfl
@[simp] theorem modDiag_emi (f : Diag → Diag) : (modDiag f d).emi = d.emi := rfl
@[simp] theorem modDiag_scan (f : Diag → Diag) : (modDiag f d).scan = d.scan := rfl
@[simp] theorem modDiag_sense (f : Diag → Diag) : (modDiag f d).sense = d.sense := rfl
@[simp] theorem modDiag_loops (f : Diag → Diag) : (modDiag f d).loops = d.loops := rfl
@[simp] theorem modDiag_saf (f : Diag → Diag) : (modDiag f d).saf = d.saf := rfl
@[simp] theorem modDiag_hst (f : Diag → Diag) : (modDiag f d).hst = d.hst := rfl
@[simp] theorem modDiag_sec (f : Diag → Diag) : (modDiag f d).sec = d.sec := rfl
@[simp] theorem modDiag_slu (f : Diag → Diag) : (modDiag f d).slu = d.slu := rfl
@[simp] theorem modDiag_peat (f : Diag → Diag) : (modDiag f d).peat = d.peat := rfl
@[simp] theorem modDiag_net (f : Diag → Diag) : (modDiag f d).net = d.net := rfl
@[simp] theorem modDiag_pcie (f : Diag → Diag) : (modDiag f d).pcie = d.pcie := rfl
@[simp] theorem modDiag_spi (f : Diag → Diag) : (modDiag f d).spi = d.spi := rfl
@[simp] theorem modDiag_sync (f : Diag → Diag) : (modDiag f d).sync = d.sync := rfl
@[simp] theorem modDiag_trig (f : Diag → Diag) : (modDiag f d).trig = d.trig := rfl
@[simp] theorem modDiag_kmp (f : Diag → Diag) : (modDiag f d).kmp = d.kmp := rfl
@[simp] theorem modDiag_diag (f : Diag → Diag) : (modDiag f d).diag = f d.diag := rfl
@[simp] theorem modDiag_ev (f : Diag → Diag) : (modDiag f d).ev = d.ev := rfl
@[simp] theorem modDiag_writes (f : Diag → Diag) : (modDiag f d).writes = d.writes := rfl
@[simp] theorem modDiag_out (f : Diag → Diag) : (modDiag f d).out = d.out := rfl
@[simp] theorem modDiag_drawn (f : Diag → Diag) : (modDiag f d).drawn = d.drawn := rfl
@[simp] theorem modEv_sys (f : Ev → Ev) : (modEv f d).sys = d.sys := rfl
@[simp] theorem modEv_seq (f : Ev → Ev) : (modEv f d).seq = d.seq := rfl
@[simp] theorem modEv_prm (f : Ev → Ev) : (modEv f d).prm = d.prm := rfl
@[simp] theorem modEv_recv (f : Ev → Ev) : (modEv f d).recv = d.recv := rfl
@[simp] theorem modEv_rep (f : Ev → Ev) : (modEv f d).rep = d.rep := rfl
@[simp] theorem modEv_gauge (f : Ev → Ev) : (modEv f d).gauge = d.gauge := rfl
@[simp] theorem modEv_tim (f : Ev → Ev) : (modEv f d).tim = d.tim := rfl
@[simp] theorem modEv_histo (f : Ev → Ev) : (modEv f d).histo = d.histo := rfl
@[simp] theorem modEv_pts (f : Ev → Ev) : (modEv f d).pts = d.pts := rfl
@[simp] theorem modEv_emi (f : Ev → Ev) : (modEv f d).emi = d.emi := rfl
@[simp] theorem modEv_scan (f : Ev → Ev) : (modEv f d).scan = d.scan := rfl
@[simp] theorem modEv_sense (f : Ev → Ev) : (modEv f d).sense = d.sense := rfl
@[simp] theorem modEv_loops (f : Ev → Ev) : (modEv f d).loops = d.loops := rfl
@[simp] theorem modEv_saf (f : Ev → Ev) : (modEv f d).saf = d.saf := rfl
@[simp] theorem modEv_hst (f : Ev → Ev) : (modEv f d).hst = d.hst := rfl
@[simp] theorem modEv_sec (f : Ev → Ev) : (modEv f d).sec = d.sec := rfl
@[simp] theorem modEv_slu (f : Ev → Ev) : (modEv f d).slu = d.slu := rfl
@[simp] theorem modEv_peat (f : Ev → Ev) : (modEv f d).peat = d.peat := rfl
@[simp] theorem modEv_net (f : Ev → Ev) : (modEv f d).net = d.net := rfl
@[simp] theorem modEv_pcie (f : Ev → Ev) : (modEv f d).pcie = d.pcie := rfl
@[simp] theorem modEv_spi (f : Ev → Ev) : (modEv f d).spi = d.spi := rfl
@[simp] theorem modEv_sync (f : Ev → Ev) : (modEv f d).sync = d.sync := rfl
@[simp] theorem modEv_trig (f : Ev → Ev) : (modEv f d).trig = d.trig := rfl
@[simp] theorem modEv_kmp (f : Ev → Ev) : (modEv f d).kmp = d.kmp := rfl
@[simp] theorem modEv_diag (f : Ev → Ev) : (modEv f d).diag = d.diag := rfl
@[simp] theorem modEv_ev (f : Ev → Ev) : (modEv f d).ev = f d.ev := rfl
@[simp] theorem modEv_writes (f : Ev → Ev) : (modEv f d).writes = d.writes := rfl
@[simp] theorem modEv_out (f : Ev → Ev) : (modEv f d).out = d.out := rfl
@[simp] theorem modEv_drawn (f : Ev → Ev) : (modEv f d).drawn = d.drawn := rfl
@[simp] theorem emit_sys (o : Out) : (emit o d).sys = d.sys := rfl
@[simp] theorem ramPut_sys (a : Nat) (b : Bytes) : (ramPut a b d).sys = d.sys := rfl
@[simp] theorem draw_sys : (draw d).sys = d.sys := rfl
@[simp] theorem emit_seq (o : Out) : (emit o d).seq = d.seq := rfl
@[simp] theorem ramPut_seq (a : Nat) (b : Bytes) : (ramPut a b d).seq = d.seq := rfl
@[simp] theorem draw_seq : (draw d).seq = d.seq := rfl
@[simp] theorem emit_prm (o : Out) : (emit o d).prm = d.prm := rfl
@[simp] theorem ramPut_prm (a : Nat) (b : Bytes) : (ramPut a b d).prm = d.prm := rfl
@[simp] theorem draw_prm : (draw d).prm = d.prm := rfl
@[simp] theorem emit_recv (o : Out) : (emit o d).recv = d.recv := rfl
@[simp] theorem ramPut_recv (a : Nat) (b : Bytes) : (ramPut a b d).recv = d.recv := rfl
@[simp] theorem draw_recv : (draw d).recv = d.recv := rfl
@[simp] theorem emit_rep (o : Out) : (emit o d).rep = d.rep := rfl
@[simp] theorem ramPut_rep (a : Nat) (b : Bytes) : (ramPut a b d).rep = d.rep := rfl
@[simp] theorem draw_rep : (draw d).rep = d.rep := rfl
@[simp] theorem emit_gauge (o : Out) : (emit o d).gauge = d.gauge := rfl
@[simp] theorem ramPut_gauge (a : Nat) (b : Bytes) : (ramPut a b d).gauge = d.gauge := rfl
@[simp] theorem draw_gauge : (draw d).gauge = d.gauge := rfl
@[simp] theorem emit_tim (o : Out) : (emit o d).tim = d.tim := rfl
@[simp] theorem ramPut_tim (a : Nat) (b : Bytes) : (ramPut a b d).tim = d.tim := rfl
@[simp] theorem draw_tim : (draw d).tim = d.tim := rfl
@[simp] theorem emit_histo (o : Out) : (emit o d).histo = d.histo := rfl
@[simp] theorem ramPut_histo (a : Nat) (b : Bytes) : (ramPut a b d).histo = d.histo := rfl
@[simp] theorem draw_histo : (draw d).histo = d.histo := rfl
@[simp] theorem emit_pts (o : Out) : (emit o d).pts = d.pts := rfl
@[simp] theorem ramPut_pts (a : Nat) (b : Bytes) : (ramPut a b d).pts = d.pts := rfl
@[simp] theorem draw_pts : (draw d).pts = d.pts := rfl
@[simp] theorem emit_emi (o : Out) : (emit o d).emi = d.emi := rfl
@[simp] theorem ramPut_emi (a : Nat) (b : Bytes) : (ramPut a b d).emi = d.emi := rfl
@[simp] theorem draw_emi : (draw d).emi = d.emi := rfl
@[simp] theorem emit_scan (o : Out) : (emit o d).scan = d.scan := rfl
@[simp] theorem ramPut_scan (a : Nat) (b : Bytes) : (ramPut a b d).scan = d.scan := rfl
@[simp] theorem draw_scan : (draw d).scan = d.scan := rfl
@[simp] theorem emit_sense (o : Out) : (emit o d).sense = d.sense := rfl
@[simp] theorem ramPut_sense (a : Nat) (b : Bytes) : (ramPut a b d).sense = d.sense := rfl
@[simp] theorem draw_sense : (draw d).sense = d.sense := rfl
@[simp] theorem emit_loops (o : Out) : (emit o d).loops = d.loops := rfl
@[simp] theorem ramPut_loops (a : Nat) (b : Bytes) : (ramPut a b d).loops = d.loops := rfl
@[simp] theorem draw_loops : (draw d).loops = d.loops := rfl
@[simp] theorem emit_saf (o : Out) : (emit o d).saf = d.saf := rfl
@[simp] theorem ramPut_saf (a : Nat) (b : Bytes) : (ramPut a b d).saf = d.saf := rfl
@[simp] theorem draw_saf : (draw d).saf = d.saf := rfl
@[simp] theorem emit_hst (o : Out) : (emit o d).hst = d.hst := rfl
@[simp] theorem ramPut_hst (a : Nat) (b : Bytes) : (ramPut a b d).hst = d.hst := rfl
@[simp] theorem draw_hst : (draw d).hst = d.hst := rfl
@[simp] theorem emit_sec (o : Out) : (emit o d).sec = d.sec := rfl
@[simp] theorem ramPut_sec (a : Nat) (b : Bytes) : (ramPut a b d).sec = d.sec := rfl
@[simp] theorem draw_sec : (draw d).sec = d.sec := rfl
@[simp] theorem emit_slu (o : Out) : (emit o d).slu = d.slu := rfl
@[simp] theorem ramPut_slu (a : Nat) (b : Bytes) : (ramPut a b d).slu = d.slu := rfl
@[simp] theorem draw_slu : (draw d).slu = d.slu := rfl
@[simp] theorem emit_peat (o : Out) : (emit o d).peat = d.peat := rfl
@[simp] theorem ramPut_peat (a : Nat) (b : Bytes) : (ramPut a b d).peat = d.peat := rfl
@[simp] theorem draw_peat : (draw d).peat = d.peat := rfl
@[simp] theorem emit_net (o : Out) : (emit o d).net = d.net := rfl
@[simp] theorem ramPut_net (a : Nat) (b : Bytes) : (ramPut a b d).net = d.net := rfl
@[simp] theorem draw_net : (draw d).net = d.net := rfl
@[simp] theorem emit_pcie (o : Out) : (emit o d).pcie = d.pcie := rfl
@[simp] theorem ramPut_pcie (a : Nat) (b : Bytes) : (ramPut a b d).pcie = d.pcie := rfl
@[simp] theorem draw_pcie : (draw d).pcie = d.pcie := rfl
@[simp] theorem emit_spi (o : Out) : (emit o d).spi = d.spi := rfl
@[simp] theorem ramPut_spi (a : Nat) (b : Bytes) : (ramPut a b d).spi = d.spi := rfl
@[simp] theorem draw_spi : (draw d).spi = d.spi := rfl
@[simp] theorem emit_sync (o : Out) : (emit o d).sync = d.sync := rfl
@[simp] theorem ramPut_sync (a : Nat) (b : Bytes) : (ramPut a b d).sync = d.sync := rfl
@[simp] theorem draw_sync : (draw d).sync = d.sync := rfl
@[simp] theorem emit_trig (o : Out) : (emit o d).trig = d.trig := rfl
@[simp] theorem ramPut_trig (a : Nat) (b : Bytes) : (ramPut a b d).trig = d.trig := rfl
@[simp] theorem draw_trig : (draw d).trig = d.trig := rfl
@[simp] theorem emit_kmp (o : Out) : (emit o d).kmp = d.kmp := rfl
@[simp] theorem ramPut_kmp (a : Nat) (b : Bytes) : (ramPut a b d).kmp = d.kmp := rfl
@[simp] theorem draw_kmp : (draw d).kmp = d.kmp := rfl
@[simp] theorem emit_diag (o : Out) : (emit o d).diag = d.diag := rfl
@[simp] theorem ramPut_diag (a : Nat) (b : Bytes) : (ramPut a b d).diag = d.diag := rfl
@[simp] theorem draw_diag : (draw d).diag = d.diag := rfl
@[simp] theorem emit_ev (o : Out) : (emit o d).ev = d.ev := rfl
@[simp] theorem ramPut_ev (a : Nat) (b : Bytes) : (ramPut a b d).ev = d.ev := rfl
@[simp] theorem draw_ev : (draw d).ev = d.ev := rfl
@[simp] theorem emit_out (o : Out) : (emit o d).out = o :: d.out := rfl
@[simp] theorem emit_writes (o : Out) : (emit o d).writes = d.writes := rfl
@[simp] theorem draw_drawn : (draw d).drawn = d.drawn + 1 := rfl
@[simp] theorem ramPut_writes (a : Nat) (b : Bytes) : (ramPut a b d).writes = d.writes ++ [(a, b)] := rfl

end Sys2Proof.Laws
end

