-- ==== Sys2Proof/Laws/Settle.lean ====
section
/-!
SUPPORT. What follows every command touches only event records, Peat's and the trace units' triggers, the safety outputs and the
outgoing list; and the answer of a command in those terms.
-/
namespace Sys2Proof.Laws

open Sys2Proof.Machine

/-! ### Events -/

/-- Only event records changed, and no condition raised was forgotten. -/
def EvOnly (d d' : Dev) : Prop :=
  d' = { d with ev := { d.ev with
    raised := d'.ev.raised, fresh := d'.ev.fresh, queues := d'.ev.queues, saturatedOnce := d'.ev.saturatedOnce } } ∧
  d.ev.raised <:+ d'.ev.raised

theorem EvOnly.refl (d : Dev) : EvOnly d d := ⟨rfl, List.suffix_refl _⟩

theorem EvOnly.trans {a b c : Dev} (h : EvOnly a b) (k : EvOnly b c) : EvOnly a c :=
  ⟨Eq.trans k.1 (congrArg (fun z : Dev => { z with ev := { z.ev with
    raised := c.ev.raised, fresh := c.ev.fresh, queues := c.ev.queues, saturatedOnce := c.ev.saturatedOnce } }) h.1), h.2.trans k.2⟩

theorem raise_evOnly (src cond : Nat) (x : Bytes) (d : Dev) : EvOnly d (raise src cond x d) := by
  unfold raise
  split
  · exact EvOnly.refl d
  · exact ⟨rfl, List.suffix_cons _ _⟩

theorem raiseSaturated_evOnly (src key : Nat) (d : Dev) : EvOnly d (raiseSaturated src key d) := by
  unfold raiseSaturated
  split
  · exact EvOnly.refl d
  · exact EvOnly.trans (b := modEv (fun e => { e with saturatedOnce := key :: e.saturatedOnce }) d)
      ⟨rfl, List.suffix_refl _⟩ (raise_evOnly _ _ _ _)

theorem foldl_evOnly {α : Type} (f : Dev → α → Dev) (h : ∀ d a, EvOnly d (f d a)) (l : List α) : ∀ d, EvOnly d (l.foldl f d) := by
  induction l with
  | nil => exact EvOnly.refl
  | cons a l ih => exact fun d => (h d a).trans (ih _)

theorem noteLifetimes_evOnly (d : Dev) : EvOnly d (noteLifetimes d) :=
  ((foldl_evOnly _ (fun d _ => raiseSaturated_evOnly _ _ d) _ _).trans (foldl_evOnly _ (fun d _ => raiseSaturated_evOnly _ _ d) _ _)).trans
    (foldl_evOnly _ (fun d _ => raiseSaturated_evOnly _ _ d) _ _)

/-! ### What follows a command -/

theorem aftermath_refl (d : Dev) : Aftermath d d := ⟨rfl, List.suffix_refl _, [], rfl⟩

theorem aftermath_trans {a b c : Dev} (h : Aftermath a b) (k : Aftermath b c) : Aftermath a c := by
  obtain ⟨h1, h2, l, hl⟩ := h
  obtain ⟨k1, k2, m, hm⟩ := k
  refine ⟨Eq.trans k1 (congrArg (fun z : Dev => { z with
    ev := { z.ev with raised := c.ev.raised, fresh := c.ev.fresh, queues := c.ev.queues, saturatedOnce := c.ev.saturatedOnce }
    peat := { z.peat with trigs := c.peat.trigs, segs := c.peat.segs }
    loops := { z.loops with traces := c.loops.traces }
    saf := { z.saf with outs := c.saf.outs }
    out := c.out }) h1), h2.trans k2, m ++ l, ?_⟩
  rw [hm, hl, List.map_append, List.append_assoc]

theorem aftermath_writes {a b : Dev} (h : Aftermath a b) : b.writes = a.writes := by rw [h.1]

theorem aftermath_setWrites {a b : Dev} (h : Aftermath a b) (w : List (Nat × Bytes)) :
    Aftermath { a with writes := w } { b with writes := w } := by
  have e : b = _ := h.1
  have k := congrArg (fun z : Dev => { z with writes := w }) e
  exact ⟨k, h.2⟩

theorem EvOnly.aftermath {a b : Dev} (h : EvOnly a b) : Aftermath a b := by
  have e : b = _ := h.1
  have k := congrArg (fun z : Dev => z.out) e
  refine ⟨?_, h.2, [], k⟩
  rw [e]

theorem foldl_aftermath {α : Type} (f : Dev → α → Dev) (h : ∀ d a, Aftermath d (f d a)) (l : List α) : ∀ d, Aftermath d (l.foldl f d) := by
  induction l with
  | nil => exact aftermath_refl
  | cons a l ih => exact fun d => aftermath_trans (h d a) (ih _)

theorem modTrace_aftermath (u : Nat) (f : Trace → Trace) (d : Dev) : Aftermath d (modTrace u f d) := ⟨rfl, List.suffix_refl _, [], rfl⟩

theorem peatTrigger_aftermath (source detail : Nat) (d : Dev) : Aftermath d (peatTrigger source detail d) := by
  have h : ∀ f, Aftermath d (modCapture d.peat.seg f d) := fun _ => ⟨rfl, List.suffix_refl _, [], rfl⟩
  have k : ∀ f, Aftermath d (raise 465 0 [] (modCapture d.peat.seg f d)) := fun f => aftermath_trans (h f) (raise_evOnly _ _ _ _).aftermath
  unfold peatTrigger peatTriggerAt
  split
  · exact aftermath_refl d
  · exact aftermath_refl d
  · exact ⟨rfl, List.suffix_refl _, [], rfl⟩
  all_goals exact k _

theorem traceTrigger_aftermath (u source t : Nat) (d : Dev) : Aftermath d (traceTrigger u source t d) := by
  unfold traceTrigger
  simp only
  split
  · exact aftermath_refl d
  · split
    · exact modTrace_aftermath _ _ _
    · split
      · exact modTrace_aftermath _ _ _
      · exact aftermath_refl d

theorem eventTrigger_aftermath (e : Nat × Nat × Nat) (d : Dev) : Aftermath d (eventTrigger e d) := by
  unfold eventTrigger
  simp only
  refine aftermath_trans ?_ (foldl_aftermath _ (fun d u => ?_) _ _)
  · split
    · exact peatTrigger_aftermath _ _ _
    · exact aftermath_refl d
  · split
    · exact traceTrigger_aftermath _ _ _ _
    · exact aftermath_refl d

theorem eventTriggers_aftermath (n : Nat) : ∀ d, Aftermath d (eventTriggers n d) := by
  induction n with
  | zero => exact aftermath_refl
  | succ n ih =>
    intro d
    unfold eventTriggers
    split
    · exact aftermath_refl d
    · refine aftermath_trans ?_ (ih _)
      exact aftermath_trans (b := modEv (fun x => { x with fresh := [] }) d) ⟨rfl, List.suffix_refl _, [], rfl⟩
        (foldl_aftermath _ (fun d e => eventTrigger_aftermath e d) _ _)

theorem modOut_aftermath (n : Nat) (f : SafeOut → SafeOut) (d : Dev) : Aftermath d (modOut n f d) :=
  ⟨rfl, List.suffix_refl _, [], rfl⟩

theorem deEnergise_aftermath (n : Nat) (d : Dev) : Aftermath d (deEnergise n d) := by
  unfold deEnergise
  simp only
  split
  · exact aftermath_trans (modOut_aftermath _ _ _) (raise_evOnly _ _ _ _).aftermath
  · exact modOut_aftermath _ _ _

theorem followOut_aftermath (n : Nat) (d : Dev) : Aftermath d (followOut n d) := by
  unfold followOut
  split
  · exact modOut_aftermath _ _ _
  · exact aftermath_trans (deEnergise_aftermath n d) (modOut_aftermath _ _ _)

theorem followOuts_aftermath (d : Dev) : Aftermath d (followOuts d) := aftermath_trans (followOut_aftermath 0 d) (followOut_aftermath 1 _)

theorem noteIrq_aftermath (b : Bool) (d : Dev) : Aftermath d (noteIrq b d) := by
  unfold noteIrq
  split
  · exact aftermath_refl d
  · exact ⟨rfl, List.suffix_refl _, [irqLow d], rfl⟩

/-- Where no reset waits and no session outlives the device, what follows a command is its aftermath alone. -/
theorem settle_aftermath (b : Bool) (d : Dev) (h : Calm d) : Aftermath d (settle b d) := by
  have h1 : Aftermath d (followOuts (eventTriggers 16 d)) := aftermath_trans (eventTriggers_aftermath 16 d) (followOuts_aftermath _)
  have e1 : haltSession (followOuts (eventTriggers 16 d)) = followOuts (eventTriggers 16 d) := by
    rw [h1.1]
    unfold haltSession
    rw [if_neg]
    simp only [Bool.and_eq_true, beq_iff_eq, not_and, Bool.not_eq_true, Option.isSome_eq_false_iff, Option.isNone_iff_eq_none]
    exact h.2
  have e2 : resetDue (followOuts (eventTriggers 16 d)) = followOuts (eventTriggers 16 d) := by
    rw [h1.1]
    simp only [resetDue, h.1]
  unfold settle
  rw [e1, e2]
  exact aftermath_trans (aftermath_trans h1 (noteLifetimes_evOnly _).aftermath) (noteIrq_aftermath _ _)

/-- The answer of a meaning whose effect is `f`. -/
theorem runDev_completes (f : Dev → Dev) (s : State) (h : Calm (f s.fresh)) :
    ∃ t, runDev f s = .next t ∧ t.pending = s.pending ∧ t.ram = memWrites s.ram (f s.fresh).writes ∧
      Aftermath { f s.fresh with writes := [] } t.dev := by
  have k := settle_aftermath (irqLow s.dev) (f s.fresh) h
  refine ⟨_, rfl, rfl, ?_, aftermath_setWrites k []⟩
  exact congrArg (memWrites s.ram) (aftermath_writes k)

/-- A command whose meaning has the effect `f` completes with it. -/
theorem completes_of (i : Instr) (f : Dev → Dev) (s : State) (he : exec i s = runDev f s) (h : Calm (f s.fresh)) :
    Completes i s (f s.fresh) := by
  obtain ⟨t, h1, h2⟩ := runDev_completes f s h
  exact ⟨t, he.trans h1, h2⟩

end Sys2Proof.Laws
end

