-- ==== Sys2Proof/Laws/Frame.lean ====
section
/-!
SUPPORT. Frames: what keeps every group of the device's state but those listed.
-/
namespace Sys2Proof.Laws

open Sys2Proof.Machine

theorem part_refl (d : Dev) (p : Part) : p.same d d := by cases p <;> exact rfl

theorem part_trans {a b c : Dev} {p : Part} (h : p.same a b) (k : p.same b c) : p.same a c := by
  cases p <;> exact Eq.trans k h

theorem only_refl (ps : List Part) (d : Dev) : Only ps d d := fun p _ => part_refl d p

theorem only_trans {ps : List Part} {a b c : Dev} (h : Only ps a b) (k : Only ps b c) : Only ps a c :=
  fun p hp => part_trans (h p hp) (k p hp)

/-- A frame holds with more groups free. -/
theorem only_mono {ps qs : List Part} {a b : Dev} (hs : ∀ p, p ∈ ps → p ∈ qs) (h : Only ps a b) : Only qs a b :=
  fun p hp => h p (fun k => hp (hs p k))

theorem evOnly_only {a b : Dev} (h : EvOnly a b) : Only [.ev] a b := by
  intro p hp
  rw [h.1]
  cases p <;> first | exact rfl | exact absurd (List.mem_singleton.2 rfl) hp

theorem raise_only (src cond : Nat) (x : Bytes) (d : Dev) : Only [.ev] d (raise src cond x d) := evOnly_only (raise_evOnly src cond x d)

/-- A loop of steps that keep a frame keeps it. -/
theorem foldl_only {α : Type} {ps : List Part} (f : Dev → α → Dev) (h : ∀ d a, Only ps d (f d a)) (l : List α) :
    ∀ d, Only ps d (l.foldl f d) := by
  induction l with
  | nil => exact only_refl ps
  | cons a l ih => exact fun d => only_trans (h d a) (ih _)

end Sys2Proof.Laws
end

