-- ==== Sys2Proof/Laws/Hook.lean ====
section
/-!
SUPPORT. The Hook check (R278): a step of its register loses nothing, and so a block whose last byte alone is read otherwise is always
found.
-/
namespace Sys2Proof.Laws

open Sys2Proof.Machine

/-- The step backwards. -/
def crcUnbit (c : BitVec 32) : BitVec 32 :=
  if c.getLsbD 31 then ((c ^^^ 0x82F63B78#32) <<< 1) ||| 1#32 else c <<< 1

theorem crcUnbit_crcBit (c : BitVec 32) : crcUnbit (crcBit c) = c := by
  unfold crcBit crcUnbit
  split
  · rename_i h
    simp only [BitVec.xor_assoc, BitVec.xor_self, BitVec.xor_zero]
    ext i hi
    rcases i with _ | i
    · simpa using h
    · simp [hi, Nat.add_comm]
  · rename_i h
    simp only [BitVec.getLsbD_ushiftRight]
    ext i hi
    rcases i with _ | i
    · simpa using h
    · simp [hi, Nat.add_comm]

theorem crcBit_inj {c c' : BitVec 32} (h : crcBit c = crcBit c') : c = c' := by
  rw [← crcUnbit_crcBit c, h, crcUnbit_crcBit]

theorem crcByte_inj {c : BitVec 32} {b b' : Byte} (h : crcByte c b = crcByte c b') : b = b' := by
  unfold crcByte at h
  have h' := crcBit_inj (crcBit_inj (crcBit_inj (crcBit_inj (crcBit_inj (crcBit_inj (crcBit_inj (crcBit_inj h)))))))
  have h'' : b.setWidth 32 = b'.setWidth 32 := by
    have := congrArg (c ^^^ ·) h'
    simpa [← BitVec.xor_assoc] using this
  have := congrArg (BitVec.setWidth 8) h''
  simpa using this

/-- One wrong byte, the last. -/
theorem diffBytes_last (n v : Nat) : diffBytes (n + 1) [(n, v)] = List.replicate n 0#8 ++ [BitVec.ofNat 8 v] := by
  unfold diffBytes
  rw [List.range_succ, List.map_append]
  congr 1
  · rw [List.eq_replicate_iff]
    refine ⟨by simp, fun b hb => ?_⟩
    obtain ⟨i, hi, rfl⟩ := List.mem_map.1 hb
    have : ¬ n = i := by have := List.mem_range.1 hi; omega
    simp [this]
  · simp

/-- A block whose last byte alone is read otherwise differs, wherever it lies and whatever it holds. -/
theorem hookDiffers_last (a s n v : Nat) (hv : v % 256 ≠ 0) : hookDiffers a a s (n + 1) [(n, v)] 0 = true := by
  have hb : BitVec.ofNat 8 v ≠ 0#8 := fun h => hv (by simpa using congrArg BitVec.toNat h)
  simp only [hookDiffers, diffBytes_last, List.isEmpty_cons, Bool.and_false, Bool.false_and, Bool.not_false, Bool.true_and,
    bne_iff_ne, ne_eq]
  intro h
  have h' := Nat.xor_eq_zero_iff.1 h
  rw [List.replicate_succ'] at h'
  simp only [hookCheck, List.foldl_append, List.foldl_cons, List.foldl_nil] at h'
  have h'' := congrArg (· ^^^ 0xFFFFFFFF#32) (BitVec.eq_of_toNat_eq h')
  simp only [BitVec.xor_assoc, BitVec.xor_self, BitVec.xor_zero] at h''
  exact hb (crcByte_inj h'')

/-- The check of a message in two parts. -/
theorem hook_halves {a s : Nat} {m : Bytes} {x y : BitVec 32} (k : Nat) (front : (m.take k).foldl crcByte (hookInit a s) = x)
    (back : (m.drop k).foldl crcByte x = y) : hookCheck a s m = (y ^^^ 0xFFFFFFFF#32).toNat := by
  unfold hookCheck
  rw [← back, ← front, ← List.foldl_append, List.take_append_drop]

end Sys2Proof.Laws
end

