-- ==== Sys2Proof/Laws/Kmp.lean ====
section
/-!
SUPPORT. What producing a response, ending and accepting a command, and starting one may touch; and the answer of each shape of
command.
-/
namespace Sys2Proof.Laws

open Sys2Proof.Machine

/-- Only the mailboxes, the ports' messages, interrupts, event records and what leaves the device changed. -/
def RespOnly (d d' : Dev) : Prop :=
  d' = { d with
    kmp := { d.kmp with mbs := d'.kmp.mbs }
    slu := { d.slu with ports := d'.slu.ports }
    pcie := { d.pcie with vecs := d'.pcie.vecs }
    ev := { d.ev with raised := d'.ev.raised, fresh := d'.ev.fresh, queues := d'.ev.queues, saturatedOnce := d'.ev.saturatedOnce }
    out := d'.out
    writes := d'.writes }

theorem respOnly_refl (d : Dev) : RespOnly d d := rfl

theorem respOnly_trans {a b c : Dev} (h : RespOnly a b) (k : RespOnly b c) : RespOnly a c :=
  Eq.trans k (congrArg (fun z : Dev => { z with
    kmp := { z.kmp with mbs := c.kmp.mbs }
    slu := { z.slu with ports := c.slu.ports }
    pcie := { z.pcie with vecs := c.pcie.vecs }
    ev := { z.ev with raised := c.ev.raised, fresh := c.ev.fresh, queues := c.ev.queues, saturatedOnce := c.ev.saturatedOnce }
    out := c.out
    writes := c.writes }) h)

theorem evOnly_respOnly {a b : Dev} (h : EvOnly a b) : RespOnly a b := by
  unfold RespOnly
  rw [h.1]

theorem foldl_respOnly {α : Type} (f : Dev → α → Dev) (h : ∀ d a, RespOnly d (f d a)) (l : List α) : ∀ d, RespOnly d (l.foldl f d) := by
  induction l with
  | nil => exact respOnly_refl
  | cons a l ih => exact fun d => respOnly_trans (h d a) (ih _)

theorem respOnly_sys {a b : Dev} (h : RespOnly a b) : b.sys = a.sys := by rw [h]
theorem respOnly_session {a b : Dev} (h : RespOnly a b) : b.kmp.session = a.kmp.session := by rw [h]

theorem respOnly_calm {a b : Dev} (h : RespOnly a b) (k : Calm a) : Calm b := by
  unfold Calm
  rw [respOnly_sys h, respOnly_session h]
  exact k

theorem modMb_respOnly (mb : Nat) (f : Mailbox → Mailbox) (d : Dev) : RespOnly d (modMb mb f d) := rfl
theorem takeOff_respOnly (c : Cmd) (mb : Nat) (d : Dev) : RespOnly d (takeOff c mb d) := rfl
theorem dropRunning_respOnly (c : Cmd) (d : Dev) : RespOnly d (dropRunning c d) := rfl

theorem ramPut_respOnly (a : Nat) (b : Bytes) (d : Dev) : RespOnly d (ramPut a b d) := rfl

theorem fireVector_respOnly (v : Nat) (d : Dev) : RespOnly d (fireVector v d) := by
  unfold fireVector
  simp only
  split
  · exact rfl
  · exact rfl

theorem irqSet_respOnly (mb cause : Nat) (d : Dev) : RespOnly d (irqSet mb cause d) := by
  unfold irqSet
  simp only
  split
  · exact respOnly_trans (modMb_respOnly _ _ _) (fireVector_respOnly _ _)
  · exact modMb_respOnly _ _ _

theorem queueMsg_respOnly (p : Nat) (m : Msg) (d : Dev) : RespOnly d (queueMsg p m d) := rfl

theorem postOne_respOnly (mb : Nat) (r : Rsp) (d : Dev) : RespOnly d (postOne mb r d) := by
  unfold postOne
  simp only
  have slot : ∀ x : Bytes, RespOnly d (if r.bulk = true then ramPut (bulkAddr mb) r.payload (ramPut (rspPlace mb (mbGet d mb)) x d)
      else ramPut (rspPlace mb (mbGet d mb)) x d) := fun x => by
    split
    · exact respOnly_trans (ramPut_respOnly _ _ _) (ramPut_respOnly _ _ _)
    · exact ramPut_respOnly _ _ _
  refine respOnly_trans ?_ (irqSet_respOnly _ _ _)
  split
  · exact respOnly_trans (slot _) (modMb_respOnly _ _ _)
  · exact respOnly_trans (respOnly_trans (slot _) (modMb_respOnly _ _ _)) (queueMsg_respOnly _ _ _)

theorem postLoop_respOnly (mb n : Nat) : ∀ d, RespOnly d (postLoop mb n d) := by
  induction n with
  | zero => exact respOnly_refl
  | succ n ih =>
    intro d
    unfold postLoop
    simp only
    split
    · exact respOnly_refl d
    · split
      · exact respOnly_trans (postOne_respOnly _ _ _) (ih _)
      · exact respOnly_refl d

theorem postResponses_respOnly (mb : Nat) (d : Dev) : RespOnly d (postResponses mb d) := by
  unfold postResponses
  simp only
  split
  · exact respOnly_trans (postLoop_respOnly _ _ _) (evOnly_respOnly (raise_evOnly _ _ _ _))
  · exact postLoop_respOnly _ _ _

theorem respond_respOnly (c : Cmd) (status : Nat) (payload : Bytes) (final : Bool) (d : Dev) :
    RespOnly d (respond c status payload final d) := by
  unfold respond
  split
  · exact rfl
  · exact respOnly_trans (modMb_respOnly _ _ _) (postResponses_respOnly _ _)

theorem finish_respOnly (c : Cmd) (status : Nat) (payload : Bytes) (d : Dev) : RespOnly d (finish c status payload d) :=
  respOnly_trans (modMb_respOnly _ _ _) (respond_respOnly _ _ _ _ _)

theorem accept_respOnly (c : Cmd) (d : Dev) : RespOnly d (accept c d) :=
  respOnly_trans (modMb_respOnly _ _ _) (respond_respOnly _ _ _ _ _)

theorem endWaitingAborts_respOnly (c : Cmd) (status : Nat) (d : Dev) : RespOnly d (endWaitingAborts c status d) :=
  foldl_respOnly _ (fun _ _ => respOnly_trans (dropRunning_respOnly _ _) (finish_respOnly _ _ _ _)) _ _

theorem finishRunning_respOnly (c : Cmd) (status : Nat) (payload : Bytes) (d : Dev) : RespOnly d (finishRunning c status payload d) :=
  respOnly_trans (respOnly_trans (dropRunning_respOnly _ _) (finish_respOnly _ _ _ _)) (endWaitingAborts_respOnly _ _ _)

theorem finishWhere_respOnly (p : Cmd → Bool) (status : Nat) (payload : Bytes) (d : Dev) : RespOnly d (finishWhere p status payload d) :=
  foldl_respOnly _ (fun _ _ => finishRunning_respOnly _ _ _ _) _ _

/-! ### The shapes of a command's start -/

theorem startCmd_of_next (op mb : Nat) (body : Cmd → Dev → Dev) (d : Dev) (c : Cmd) (h : nextCmd op mb d = some c) :
    startCmd op mb body d = body c (takeOff c mb d) := by
  unfold startCmd
  rw [h]

theorem taken_eq (c : Cmd) (mb : Nat) (s : State) : s.taken c mb = takeOff c mb s.fresh := rfl

theorem nextCmd_fresh (op mb : Nat) (s : State) : nextCmd op mb s.fresh = nextCmd op mb s.dev := rfl

theorem calm_fresh {s : State} (h : Calm s.dev) : Calm s.fresh := h

theorem calm_taken {s : State} (c : Cmd) (mb : Nat) (h : Calm s.dev) : Calm (s.taken c mb) := h

/-- An answered command completes with its answer, where its own effect leaves the device calm. -/
theorem answer_completes (i : Instr) (op mb : Nat) (f : Cmd → Dev → Nat × Bytes × Dev) (s : State) (c : Cmd)
    (st : Nat) (p : Bytes) (d : Dev) (he : exec i s = runDev (answer op mb f) s) (hn : nextCmd op mb s.dev = some c)
    (hf : f c (s.taken c mb) = (st, p, d)) (hc : Calm d) : Completes i s (finish c st p d) := by
  have e : answer op mb f s.fresh = finish c st p d := by
    unfold answer
    rw [startCmd_of_next _ _ _ _ c (by rw [nextCmd_fresh]; exact hn)]
    simp only [← taken_eq, hf]
  rw [← e]
  exact completes_of i _ s he (by rw [e]; exact respOnly_calm (finish_respOnly _ _ _ _) hc)

/-- A read completes with its answer and no other effect. -/
theorem reader_completes (i : Instr) (op mb : Nat) (f : Cmd → Dev → Nat × Bytes) (s : State) (c : Cmd) (st : Nat) (p : Bytes)
    (he : exec i s = runDev (reader op mb f) s) (hn : nextCmd op mb s.dev = some c) (hs : Calm s.dev)
    (hf : f c (s.taken c mb) = (st, p)) : Completes i s (finish c st p (s.taken c mb)) :=
  answer_completes i op mb _ s c st p _ he hn (by rw [hf]) (calm_taken c mb hs)

/-- An accepted command completes with ACCEPTED and its beginning. -/
theorem launch_completes (i : Instr) (op mb : Nat) (check : Cmd → Dev → Option (Nat × Bytes)) (go : Cmd → Dev → Dev) (s : State) (c : Cmd)
    (he : exec i s = runDev (launch op mb check go) s) (hn : nextCmd op mb s.dev = some c)
    (hf : check c (s.taken c mb) = none) (hc : Calm (go c (accept c (s.taken c mb)))) :
    Completes i s (go c (accept c (s.taken c mb))) := by
  have e : launch op mb check go s.fresh = go c (accept c (s.taken c mb)) := by
    unfold launch
    rw [startCmd_of_next _ _ _ _ c (by rw [nextCmd_fresh]; exact hn)]
    simp only [← taken_eq, hf]
  rw [← e]
  exact completes_of i _ s he (by rw [e]; exact hc)

/-- A refused command completes with its refusal alone. -/
theorem launch_refused (i : Instr) (op mb : Nat) (check : Cmd → Dev → Option (Nat × Bytes)) (go : Cmd → Dev → Dev) (s : State) (c : Cmd)
    (st : Nat) (p : Bytes) (he : exec i s = runDev (launch op mb check go) s) (hn : nextCmd op mb s.dev = some c) (hs : Calm s.dev)
    (hf : check c (s.taken c mb) = some (st, p)) : Completes i s (finish c st p (s.taken c mb)) := by
  have e : launch op mb check go s.fresh = finish c st p (s.taken c mb) := by
    unfold launch
    rw [startCmd_of_next _ _ _ _ c (by rw [nextCmd_fresh]; exact hn)]
    simp only [← taken_eq, hf]
  rw [← e]
  exact completes_of i _ s he (by rw [e]; exact respOnly_calm (finish_respOnly _ _ _ _) (calm_taken c mb hs))

/-- A staging command completes with its response and the staged set, while no commit runs. -/
theorem stager_completes (i : Instr) (op mb : Nat) (f : Cmd → Dev → Nat × Bytes × ConfigSet) (s : State) (c : Cmd)
    (st : Nat) (p : Bytes) (set : ConfigSet) (he : exec i s = runDev (stager op mb f) s) (hn : nextCmd op mb s.dev = some c)
    (hs : Calm s.dev) (hk : s.dev.kmp.commit = none) (hf : f c (s.taken c mb) = (st, p, set)) :
    Completes i s (finish c st p (modKmp (fun k => { k with staged := set }) (s.taken c mb))) := by
  refine answer_completes i op mb _ s c st p _ he hn ?_ hs
  have e : (s.taken c mb).kmp.commit = none := hk
  simp only [e, Option.isSome_none, Bool.false_eq_true, if_false, hf]

end Sys2Proof.Laws
end

