-- ==== Sys2Proof/Laws/PerInstr.lean ====
section
/-!
SUPPORT. One fact about every command as syntax: a well-formed command names a mailbox that exists (R387: two pages and eight receive
channels).
-/
namespace Sys2Proof.Laws.WellFormedFields

/-- The mailbox a command of a mailbox concerns. -/
def mailboxOf (i : Instr) : Option Nat :=
  match i with
  | .powerOnReset => none
  | .nresetAssert _ => none
  | .resetRelease _ _ _ => none
  | .pllLock => none
  | .bistComplete _ _ _ _ _ _ _ _ => none
  | .repairMapBuilt => none
  | .romInfo mb => some mb
  | .loadBegin mb => some mb
  | .loadChunk mb => some mb
  | .loadEnd mb => some mb
  | .loaderClaimExpiry => none
  | .fwInitComplete => none
  | .castOnGaugeCollectionEnd _ => none
  | .calibrationFiringEnd _ _ _ _ _ => none
  | .frameTick => none
  | .dwellTick _ _ _ => none
  | .flushTick _ => none
  | .windowBias => none
  | .shotTick _ _ => none
  | .startLaneEdge _ _ _ => none
  | .spadAvalanche _ _ _ _ _ _ => none
  | .coarsePhaseClose => none
  | .pointFormat => none
  | .pointTagCheck _ _ => none
  | .tensionTick _ => none
  | .sedgeSlot _ => none
  | .openWireTest => none
  | .probeRound _ _ => none
  | .probeConfirmSlot _ _ => none
  | .probeBlockEnd => none
  | .darkCountPositionEnd _ => none
  | .gaugeRandomEdge _ _ => none
  | .gaugeCollectionEnd => none
  | .gaugeTableDerive _ _ => none
  | .testToneSlot _ _ _ => none
  | .railSwitchTest _ _ => none
  | .outputSwitchTest _ _ _ _ => none
  | .outputOvercurrent _ => none
  | .emitterSelftestRun _ => none
  | .pulseReport _ => none
  | .pulseReportTimeout _ => none
  | .accumulatorSubinterval _ => none
  | .clockCrossCheck _ => none
  | .tussockInternalFault _ => none
  | .tussockScrubBlock _ _ _ _ _ => none
  | .safetyInputSample _ => none
  | .testPulse _ _ => none
  | .restartDelayExpiry _ => none
  | .vsafeJudgementChange _ _ => none
  | .supplyOutOfRange _ => none
  | .unrecoverableFault => none
  | .driveStageTrip _ => none
  | .bindOffComplete => none
  | .armLockTimeout => none
  | .ageingSlewComplete => none
  | .commitPoint => none
  | .leaseExpiry => none
  | .safePendingExpiry => none
  | .hookAJobComplete _ _ _ => none
  | .firmwareScrubBlock _ _ _ _ => none
  | .patrolScrub _ _ _ => none
  | .grantIssue _ => none
  | .grantComplete _ => none
  | .grantHoldWatchdog _ => none
  | .ringModerationTimer _ => none
  | .peatTriggerAccept => none
  | .peatRearm => none
  | .trigInEdge _ _ => none
  | .trigOutPulseEnd => none
  | .linkStateChange _ _ => none
  | .prpFrameReceive _ _ _ _ _ _ _ _ _ _ => none
  | .prpSupervisionSend => none
  | .gptpMessageReceive _ _ _ _ _ _ _ => none
  | .servoLockAchieved => none
  | .syncLossHoldover => none
  | .slavePortReselect => none
  | .arpNdReceive _ _ _ _ _ => none
  | .kmpDatagramReceive _ _ _ _ _ _ => none
  | .kmpReassemblyTimeout mb => some mb
  | .hstDatagramArrival _ _ _ _ _ => none
  | .hstReceiveCheck => none
  | .hstCycleSend _ => none
  | .hstChangeSend _ => none
  | .hstWatchdogExpiry _ => none
  | .hstAutoRestart _ => none
  | .syncCycleStart => none
  | .syncFollowerSlot => none
  | .syncBeaconMsg _ => none
  | .syncPrepareMsg _ => none
  | .syncReadyMsg _ => none
  | .syncRefuseMsg _ => none
  | .syncGoMsg _ => none
  | .syncCancelMsg _ => none
  | .syncCodeMsg _ => none
  | .syncXtrigMsg _ => none
  | .syncDeadline => none
  | .syncBeaconLoss => none
  | .doorbell mb _ => some mb
  | .rspCiWrite mb _ => some mb
  | .bulkRelease mb => some mb
  | .irqStatusClear mb _ => some mb
  | .errInfoRead mb => some mb
  | .errCountRead mb => some mb
  | .devTimeRead mb => some mb
  | .rptrWrite _ _ => none
  | .registerWrite _ _ _ => none
  | .pcieFunctionReset _ => none
  | .spiWrite _ _ _ => none
  | .spiRead _ _ _ => none
  | .spiStatus _ => none
  | .spiStream _ _ => none
  | .spiStrapReset => none
  | .sysInfo mb => some mb
  | .sysHealth mb => some mb
  | .sysReset mb => some mb
  | .arm mb => some mb
  | .start mb => some mb
  | .stop mb => some mb
  | .disarm mb => some mb
  | .bindOff mb => some mb
  | .eventRoute mb => some mb
  | .abort mb => some mb
  | .getStatus mb => some mb
  | .sessionOpen mb => some mb
  | .sessionClose mb => some mb
  | .sessionCommit mb => some mb
  | .sessionRollback mb => some mb
  | .sessionRenew mb => some mb
  | .planWrite mb => some mb
  | .planRead mb => some mb
  | .planCheck mb => some mb
  | .planColumns mb => some mb
  | .syncStart mb => some mb
  | .syncCancel mb => some mb
  | .syncStatus mb => some mb
  | .recvSet mb => some mb
  | .recvGet mb => some mb
  | .alignWrite mb => some mb
  | .alignRead mb => some mb
  | .gaugeRead mb => some mb
  | .laneStats mb => some mb
  | .laneStatus mb => some mb
  | .laneClear mb => some mb
  | .timeSet mb => some mb
  | .timeGet mb => some mb
  | .timeAgeing mb => some mb
  | .timeStatus mb => some mb
  | .pointSet mb => some mb
  | .pointGet mb => some mb
  | .intensityWrite mb => some mb
  | .intensityRead mb => some mb
  | .attestMeasure mb => some mb
  | .attestExtend mb => some mb
  | .attestPath mb => some mb
  | .attestReport mb => some mb
  | .debugChallenge mb => some mb
  | .debugUnlock mb => some mb
  | .mapRead mb => some mb
  | .maskForce mb => some mb
  | .retire mb => some mb
  | .emitterSet mb => some mb
  | .emitterGet mb => some mb
  | .scannerSet mb => some mb
  | .scannerGet mb => some mb
  | .senseSet mb => some mb
  | .senseGet mb => some mb
  | .loopSet mb => some mb
  | .loopGet mb => some mb
  | .streamSet mb => some mb
  | .streamGet mb => some mb
  | .netSet mb => some mb
  | .netGet mb => some mb
  | .driveRead mb => some mb
  | .emitStatus mb => some mb
  | .emitCounters mb => some mb
  | .scanStats mb => some mb
  | .entryRead mb => some mb
  | .senseValues mb => some mb
  | .loopRead mb => some mb
  | .loopStatus mb => some mb
  | .subsRead mb => some mb
  | .portStatus mb => some mb
  | .portStats mb => some mb
  | .peatConfigRead mb => some mb
  | .peatDescriptors mb => some mb
  | .hookResult mb => some mb
  | .safeRead mb => some mb
  | .safeStatus mb => some mb
  | .hstStatus mb => some mb
  | .ipGet mb => some mb
  | .macsecStatus mb => some mb
  | .netStatus mb => some mb
  | .emitClear mb => some mb
  | .scanClear mb => some mb
  | .loopClear mb => some mb
  | .portClear mb => some mb
  | .safeClear mb => some mb
  | .driveWrite mb => some mb
  | .emitSelftest mb => some mb
  | .scanStart mb => some mb
  | .scanStop mb => some mb
  | .entryWrite mb => some mb
  | .ringRead mb => some mb
  | .loopWrite mb => some mb
  | .loopMode mb => some mb
  | .traceArm mb => some mb
  | .traceTrigger mb => some mb
  | .traceRead mb => some mb
  | .subscribe mb => some mb
  | .poolSet mb => some mb
  | .classSet mb => some mb
  | .freeze mb => some mb
  | .watchdogSet mb => some mb
  | .peatConfig mb => some mb
  | .peatArm mb => some mb
  | .peatTrigger mb => some mb
  | .peatRead mb => some mb
  | .peatRelease mb => some mb
  | .peatDisarm mb => some mb
  | .hookStart mb => some mb
  | .safeLoad mb => some mb
  | .safeConfirm mb => some mb
  | .safeResume mb => some mb
  | .safeStop mb => some mb
  | .outputAck mb => some mb
  | .hstRestart mb => some mb
  | .ipSet mb => some mb
  | .saInstall mb => some mb
  | .saDelete mb => some mb
  | .saSwitch mb => some mb
  | .destSet mb => some mb
  | .hstPeer mb => some mb
  | .syncCode mb => some mb
  | .trigPulse mb => some mb
  | .diagStamp mb => some mb
  | .diagHist mb => some mb
  | .pcieLinkTrained => none
  | .prpSupervisionLoss => none
  | .commitCheckFailure => none

/-- A well-formed command names no mailbox beyond the ten. -/
def Statement (i : Instr) : Prop := WellFormed i = true → ∀ mb, mailboxOf i = some mb → mb < 10

theorem of_none {i : Instr} (h : mailboxOf i = none) : Statement i := fun _ _ k => by simp [h] at k

theorem of_any {i : Instr} {n : Nat} (h : mailboxOf i = some n) (k : WellFormed i = true → mbOk n = true) : Statement i := by
  intro w mb e
  have : n = mb := by simpa [h] using e
  simpa [mbOk, below, this] using k w

theorem of_page {i : Instr} {n : Nat} (h : mailboxOf i = some n) (k : WellFormed i = true → pageMbOk n = true) : Statement i := by
  refine of_any h fun w => ?_
  have := k w
  simp only [mbOk, pageMbOk, below, decide_eq_true_eq] at this ⊢
  omega

theorem of_udp {i : Instr} {n : Nat} (h : mailboxOf i = some n) (k : WellFormed i = true → udpMbOk n = true) : Statement i :=
  of_any h fun w => by
    have := k w
    simp only [udpMbOk, Bool.and_eq_true] at this
    exact this.1

theorem powerOnReset : Statement .powerOnReset := of_none rfl
theorem nresetAssert (lowNs : Nat) : Statement (.nresetAssert lowNs) := of_none rfl
theorem resetRelease (spiv : Bool) (refclk : Bool) (pcie : Bool) : Statement (.resetRelease spiv refclk pcie) := of_none rfl
theorem pllLock : Statement .pllLock := of_none rfl
theorem bistComplete (tussockFail : Bool) (fatal : Bool) (badSlices : Nat) (failedLanes : List Nat) (failedStarts : Nat)
    (probes : List (Nat × List (Nat × Nat))) (dark : List (Nat × Nat)) (sramRepairs : Nat) : Statement (.bistComplete tussockFail fatal badSlices failedLanes failedStarts probes dark sramRepairs) := of_none rfl
theorem repairMapBuilt : Statement .repairMapBuilt := of_none rfl
theorem romInfo (mb : Nat) : Statement (.romInfo mb) := of_page rfl id
theorem loadBegin (mb : Nat) : Statement (.loadBegin mb) := of_page rfl id
theorem loadChunk (mb : Nat) : Statement (.loadChunk mb) := of_page rfl id
theorem loadEnd (mb : Nat) : Statement (.loadEnd mb) := of_page rfl id
theorem loaderClaimExpiry : Statement .loaderClaimExpiry := of_none rfl
theorem fwInitComplete : Statement .fwInitComplete := of_none rfl
theorem castOnGaugeCollectionEnd (counts : List (Nat × List Nat)) : Statement (.castOnGaugeCollectionEnd counts) := of_none rfl
theorem calibrationFiringEnd (refMeans : List (Nat × Nat × Nat)) (vbd : Nat) (temp : Int) (clockRatios : List Nat) (charged : Bool) : Statement (.calibrationFiringEnd refMeans vbd temp clockRatios charged) := of_none rfl
theorem frameTick : Statement .frameTick := of_none rfl
theorem dwellTick (lockLost : List Nat) (stalled : List (Nat × Nat)) (broken : List Nat) : Statement (.dwellTick lockLost stalled broken) := of_none rfl
theorem flushTick (stalled : List (Nat × Nat)) : Statement (.flushTick stalled) := of_none rfl
theorem windowBias : Statement .windowBias := of_none rfl
theorem shotTick (low : List Nat) (obs : List (Nat × Nat × Nat)) : Statement (.shotTick low obs) := of_none rfl
theorem startLaneEdge (bank : Nat) (coarse : Nat) (tap : Nat) : Statement (.startLaneEdge bank coarse tap) := of_none rfl
theorem spadAvalanche (row : Nat) (col : Nat) (spad : Nat) (ps : Nat) (recharge : Nat) (readings : List (Nat × Nat)) : Statement (.spadAvalanche row col spad ps recharge readings) := of_none rfl
theorem coarsePhaseClose : Statement .coarsePhaseClose := of_none rfl
theorem pointFormat : Statement .pointFormat := of_none rfl
theorem pointTagCheck (flips : List (Nat × Nat)) (tagXor : Nat) : Statement (.pointTagCheck flips tagXor) := of_none rfl
theorem tensionTick (slow : List Nat) : Statement (.tensionTick slow) := of_none rfl
theorem sedgeSlot (code : Int) : Statement (.sedgeSlot code) := of_none rfl
theorem openWireTest : Statement .openWireTest := of_none rfl
theorem probeRound (round : Nat) (vf : List (Nat × Nat)) : Statement (.probeRound round vf) := of_none rfl
theorem probeConfirmSlot (bank : Nat) (vf : Nat) : Statement (.probeConfirmSlot bank vf) := of_none rfl
theorem probeBlockEnd : Statement .probeBlockEnd := of_none rfl
theorem darkCountPositionEnd (counts : List (Nat × Nat)) : Statement (.darkCountPositionEnd counts) := of_none rfl
theorem gaugeRandomEdge (lane : Nat) (code : Nat) : Statement (.gaugeRandomEdge lane code) := of_none rfl
theorem gaugeCollectionEnd : Statement .gaugeCollectionEnd := of_none rfl
theorem gaugeTableDerive (lane : Nat) (tussockDiffers : Bool) : Statement (.gaugeTableDerive lane tussockDiffers) := of_none rfl
theorem testToneSlot (group : Nat) (ohms : List Nat) (cross : Nat) : Statement (.testToneSlot group ohms cross) := of_none rfl
theorem railSwitchTest (switch : Nat) (pass : Bool) : Statement (.railSwitchTest switch pass) := of_none rfl
theorem outputSwitchTest (output : Nat) (switch : Nat) (pass : Bool) (shorted : Bool) : Statement (.outputSwitchTest output switch pass shorted) := of_none rfl
theorem outputOvercurrent (output : Nat) : Statement (.outputOvercurrent output) := of_none rfl
theorem emitterSelftestRun (vf : List (Nat × Nat)) : Statement (.emitterSelftestRun vf) := of_none rfl
theorem pulseReport (segment : Nat) : Statement (.pulseReport segment) := of_none rfl
theorem pulseReportTimeout (segment : Nat) : Statement (.pulseReportTimeout segment) := of_none rfl
theorem accumulatorSubinterval (base : Nat) : Statement (.accumulatorSubinterval base) := of_none rfl
theorem clockCrossCheck (ratios : List Nat) : Statement (.clockCrossCheck ratios) := of_none rfl
theorem tussockInternalFault (kind : Nat) : Statement (.tussockInternalFault kind) := of_none rfl
theorem tussockScrubBlock (block readAt : Nat) (flips : List (Nat × Nat)) (corrected uncorrectable : Bool) :
    Statement (.tussockScrubBlock block readAt flips corrected uncorrectable) := of_none rfl
theorem safetyInputSample (levels : Nat) : Statement (.safetyInputSample levels) := of_none rfl
theorem testPulse (output : Nat) (readback : Nat) : Statement (.testPulse output readback) := of_none rfl
theorem restartDelayExpiry (output : Nat) : Statement (.restartDelayExpiry output) := of_none rfl
theorem vsafeJudgementChange (ok : Bool) (mv : Nat) : Statement (.vsafeJudgementChange ok mv) := of_none rfl
theorem supplyOutOfRange (vin : Bool) : Statement (.supplyOutOfRange vin) := of_none rfl
theorem unrecoverableFault : Statement .unrecoverableFault := of_none rfl
theorem driveStageTrip (cause : Nat) : Statement (.driveStageTrip cause) := of_none rfl
theorem bindOffComplete : Statement .bindOffComplete := of_none rfl
theorem armLockTimeout : Statement .armLockTimeout := of_none rfl
theorem ageingSlewComplete : Statement .ageingSlewComplete := of_none rfl
theorem commitPoint : Statement .commitPoint := of_none rfl
theorem leaseExpiry : Statement .leaseExpiry := of_none rfl
theorem safePendingExpiry : Statement .safePendingExpiry := of_none rfl
theorem hookAJobComplete (corrected : Nat) (uncorrectable : Bool) (data : Bytes) : Statement (.hookAJobComplete corrected uncorrectable data) := of_none rfl
theorem firmwareScrubBlock (last : Bool) (block readAt : Nat) (flips : List (Nat × Nat)) :
    Statement (.firmwareScrubBlock last block readAt flips) := of_none rfl
theorem patrolScrub (region : Nat) (addr : Nat) (correctable : Bool) : Statement (.patrolScrub region addr correctable) := of_none rfl
theorem grantIssue (port : Nat) : Statement (.grantIssue port) := of_none rfl
theorem grantComplete (port : Nat) : Statement (.grantComplete port) := of_none rfl
theorem grantHoldWatchdog (port : Nat) : Statement (.grantHoldWatchdog port) := of_none rfl
theorem ringModerationTimer (ring : Nat) : Statement (.ringModerationTimer ring) := of_none rfl
theorem peatTriggerAccept : Statement .peatTriggerAccept := of_none rfl
theorem peatRearm : Statement .peatRearm := of_none rfl
theorem trigInEdge (rising : Bool) (t : Nat) : Statement (.trigInEdge rising t) := of_none rfl
theorem trigOutPulseEnd : Statement .trigOutPulseEnd := of_none rfl
theorem linkStateChange (link : Nat) (up : Bool) : Statement (.linkStateChange link up) := of_none rfl
theorem prpFrameReceive (link : Nat) (src : Nat) (seq : Nat) (lan : Nat) (sc : Nat) (an : Nat) (pn : Nat) (len : Nat) (secured : Bool)
    (valid : Bool) : Statement (.prpFrameReceive link src seq lan sc an pn len secured valid) := of_none rfl
theorem prpSupervisionSend : Statement .prpSupervisionSend := of_none rfl
theorem gptpMessageReceive (link : Nat) (domain : Nat) (kind : Nat) (gm : Nat) (interval : Int) (value : Int) (rate : Int) :
    Statement (.gptpMessageReceive link domain kind gm interval value rate) := of_none rfl
theorem servoLockAchieved : Statement .servoLockAchieved := of_none rfl
theorem syncLossHoldover : Statement .syncLossHoldover := of_none rfl
theorem slavePortReselect : Statement .slavePortReselect := of_none rfl
theorem arpNdReceive (link : Nat) (kind : Nat) (target : Bytes) (sender : Bytes) (mac : Nat) : Statement (.arpNdReceive link kind target sender mac) := of_none rfl
theorem kmpDatagramReceive (sc : Nat) (isProtected : Bool) (addr : Bytes) (port : Nat) (data : Bytes) (fragmented : Bool) :
    Statement (.kmpDatagramReceive sc isProtected addr port data fragmented) := of_none rfl
theorem kmpReassemblyTimeout (mb : Nat) : Statement (.kmpReassemblyTimeout mb) := of_udp rfl id
theorem hstDatagramArrival (conn : Nat) (addr : Bytes) (port : Nat) (data : Bytes) (fragmented : Bool) :
    Statement (.hstDatagramArrival conn addr port data fragmented) := of_none rfl
theorem hstReceiveCheck : Statement .hstReceiveCheck := of_none rfl
theorem hstCycleSend (conn : Nat) : Statement (.hstCycleSend conn) := of_none rfl
theorem hstChangeSend (conn : Nat) : Statement (.hstChangeSend conn) := of_none rfl
theorem hstWatchdogExpiry (conn : Nat) : Statement (.hstWatchdogExpiry conn) := of_none rfl
theorem hstAutoRestart (conn : Nat) : Statement (.hstAutoRestart conn) := of_none rfl
theorem syncCycleStart : Statement .syncCycleStart := of_none rfl
theorem syncFollowerSlot : Statement .syncFollowerSlot := of_none rfl
theorem syncBeaconMsg (data : Bytes) : Statement (.syncBeaconMsg data) := of_none rfl
theorem syncPrepareMsg (data : Bytes) : Statement (.syncPrepareMsg data) := of_none rfl
theorem syncReadyMsg (data : Bytes) : Statement (.syncReadyMsg data) := of_none rfl
theorem syncRefuseMsg (data : Bytes) : Statement (.syncRefuseMsg data) := of_none rfl
theorem syncGoMsg (data : Bytes) : Statement (.syncGoMsg data) := of_none rfl
theorem syncCancelMsg (data : Bytes) : Statement (.syncCancelMsg data) := of_none rfl
theorem syncCodeMsg (data : Bytes) : Statement (.syncCodeMsg data) := of_none rfl
theorem syncXtrigMsg (data : Bytes) : Statement (.syncXtrigMsg data) := of_none rfl
theorem syncDeadline : Statement .syncDeadline := of_none rfl
theorem syncBeaconLoss : Statement .syncBeaconLoss := of_none rfl
theorem doorbell (mb : Nat) (value : Nat) : Statement (.doorbell mb value) := of_page rfl (fun w => by simp only [WellFormed, Bool.and_eq_true] at w; exact w.1)
theorem rspCiWrite (mb : Nat) (value : Nat) : Statement (.rspCiWrite mb value) := of_page rfl (fun w => by simp only [WellFormed, Bool.and_eq_true] at w; exact w.1)
theorem bulkRelease (mb : Nat) : Statement (.bulkRelease mb) := of_page rfl id
theorem irqStatusClear (mb : Nat) (value : Nat) : Statement (.irqStatusClear mb value) := of_page rfl (fun w => by simp only [WellFormed, Bool.and_eq_true] at w; exact w.1)
theorem errInfoRead (mb : Nat) : Statement (.errInfoRead mb) := of_page rfl id
theorem errCountRead (mb : Nat) : Statement (.errCountRead mb) := of_page rfl id
theorem devTimeRead (mb : Nat) : Statement (.devTimeRead mb) := of_page rfl id
theorem rptrWrite (ring : Nat) (value : Nat) : Statement (.rptrWrite ring value) := of_none rfl
theorem registerWrite (port : Nat) (addr : Nat) (data : Bytes) : Statement (.registerWrite port addr data) := of_none rfl
theorem pcieFunctionReset (cause : Nat) : Statement (.pcieFunctionReset cause) := of_none rfl
theorem spiWrite (addr : Nat) (data : Bytes) (cut : Bool) : Statement (.spiWrite addr data cut) := of_none rfl
theorem spiRead (addr : Nat) (len : Nat) (cut : Bool) : Statement (.spiRead addr len cut) := of_none rfl
theorem spiStatus (cut : Bool) : Statement (.spiStatus cut) := of_none rfl
theorem spiStream (len : Nat) (cut : Bool) : Statement (.spiStream len cut) := of_none rfl
theorem spiStrapReset : Statement .spiStrapReset := of_none rfl
theorem sysInfo (mb : Nat) : Statement (.sysInfo mb) := of_any rfl id
theorem sysHealth (mb : Nat) : Statement (.sysHealth mb) := of_any rfl id
theorem sysReset (mb : Nat) : Statement (.sysReset mb) := of_any rfl id
theorem arm (mb : Nat) : Statement (.arm mb) := of_any rfl id
theorem start (mb : Nat) : Statement (.start mb) := of_any rfl id
theorem stop (mb : Nat) : Statement (.stop mb) := of_any rfl id
theorem disarm (mb : Nat) : Statement (.disarm mb) := of_any rfl id
theorem bindOff (mb : Nat) : Statement (.bindOff mb) := of_any rfl id
theorem eventRoute (mb : Nat) : Statement (.eventRoute mb) := of_any rfl id
theorem abort (mb : Nat) : Statement (.abort mb) := of_any rfl id
theorem getStatus (mb : Nat) : Statement (.getStatus mb) := of_any rfl id
theorem sessionOpen (mb : Nat) : Statement (.sessionOpen mb) := of_any rfl id
theorem sessionClose (mb : Nat) : Statement (.sessionClose mb) := of_any rfl id
theorem sessionCommit (mb : Nat) : Statement (.sessionCommit mb) := of_any rfl id
theorem sessionRollback (mb : Nat) : Statement (.sessionRollback mb) := of_any rfl id
theorem sessionRenew (mb : Nat) : Statement (.sessionRenew mb) := of_any rfl id
theorem planWrite (mb : Nat) : Statement (.planWrite mb) := of_any rfl id
theorem planRead (mb : Nat) : Statement (.planRead mb) := of_any rfl id
theorem planCheck (mb : Nat) : Statement (.planCheck mb) := of_any rfl id
theorem planColumns (mb : Nat) : Statement (.planColumns mb) := of_any rfl id
theorem syncStart (mb : Nat) : Statement (.syncStart mb) := of_any rfl id
theorem syncCancel (mb : Nat) : Statement (.syncCancel mb) := of_any rfl id
theorem syncStatus (mb : Nat) : Statement (.syncStatus mb) := of_any rfl id
theorem recvSet (mb : Nat) : Statement (.recvSet mb) := of_any rfl id
theorem recvGet (mb : Nat) : Statement (.recvGet mb) := of_any rfl id
theorem alignWrite (mb : Nat) : Statement (.alignWrite mb) := of_any rfl id
theorem alignRead (mb : Nat) : Statement (.alignRead mb) := of_any rfl id
theorem gaugeRead (mb : Nat) : Statement (.gaugeRead mb) := of_any rfl id
theorem laneStats (mb : Nat) : Statement (.laneStats mb) := of_any rfl id
theorem laneStatus (mb : Nat) : Statement (.laneStatus mb) := of_any rfl id
theorem laneClear (mb : Nat) : Statement (.laneClear mb) := of_any rfl id
theorem timeSet (mb : Nat) : Statement (.timeSet mb) := of_any rfl id
theorem timeGet (mb : Nat) : Statement (.timeGet mb) := of_any rfl id
theorem timeAgeing (mb : Nat) : Statement (.timeAgeing mb) := of_any rfl id
theorem timeStatus (mb : Nat) : Statement (.timeStatus mb) := of_any rfl id
theorem pointSet (mb : Nat) : Statement (.pointSet mb) := of_any rfl id
theorem pointGet (mb : Nat) : Statement (.pointGet mb) := of_any rfl id
theorem intensityWrite (mb : Nat) : Statement (.intensityWrite mb) := of_any rfl id
theorem intensityRead (mb : Nat) : Statement (.intensityRead mb) := of_any rfl id
theorem attestMeasure (mb : Nat) : Statement (.attestMeasure mb) := of_any rfl id
theorem attestExtend (mb : Nat) : Statement (.attestExtend mb) := of_any rfl id
theorem attestPath (mb : Nat) : Statement (.attestPath mb) := of_any rfl id
theorem attestReport (mb : Nat) : Statement (.attestReport mb) := of_any rfl id
theorem debugChallenge (mb : Nat) : Statement (.debugChallenge mb) := of_any rfl id
theorem debugUnlock (mb : Nat) : Statement (.debugUnlock mb) := of_any rfl id
theorem mapRead (mb : Nat) : Statement (.mapRead mb) := of_any rfl id
theorem maskForce (mb : Nat) : Statement (.maskForce mb) := of_any rfl id
theorem retire (mb : Nat) : Statement (.retire mb) := of_any rfl id
theorem emitterSet (mb : Nat) : Statement (.emitterSet mb) := of_any rfl id
theorem emitterGet (mb : Nat) : Statement (.emitterGet mb) := of_any rfl id
theorem scannerSet (mb : Nat) : Statement (.scannerSet mb) := of_any rfl id
theorem scannerGet (mb : Nat) : Statement (.scannerGet mb) := of_any rfl id
theorem senseSet (mb : Nat) : Statement (.senseSet mb) := of_any rfl id
theorem senseGet (mb : Nat) : Statement (.senseGet mb) := of_any rfl id
theorem loopSet (mb : Nat) : Statement (.loopSet mb) := of_any rfl id
theorem loopGet (mb : Nat) : Statement (.loopGet mb) := of_any rfl id
theorem streamSet (mb : Nat) : Statement (.streamSet mb) := of_any rfl id
theorem streamGet (mb : Nat) : Statement (.streamGet mb) := of_any rfl id
theorem netSet (mb : Nat) : Statement (.netSet mb) := of_any rfl id
theorem netGet (mb : Nat) : Statement (.netGet mb) := of_any rfl id
theorem driveRead (mb : Nat) : Statement (.driveRead mb) := of_any rfl id
theorem emitStatus (mb : Nat) : Statement (.emitStatus mb) := of_any rfl id
theorem emitCounters (mb : Nat) : Statement (.emitCounters mb) := of_any rfl id
theorem scanStats (mb : Nat) : Statement (.scanStats mb) := of_any rfl id
theorem entryRead (mb : Nat) : Statement (.entryRead mb) := of_any rfl id
theorem senseValues (mb : Nat) : Statement (.senseValues mb) := of_any rfl id
theorem loopRead (mb : Nat) : Statement (.loopRead mb) := of_any rfl id
theorem loopStatus (mb : Nat) : Statement (.loopStatus mb) := of_any rfl id
theorem subsRead (mb : Nat) : Statement (.subsRead mb) := of_any rfl id
theorem portStatus (mb : Nat) : Statement (.portStatus mb) := of_any rfl id
theorem portStats (mb : Nat) : Statement (.portStats mb) := of_any rfl id
theorem peatConfigRead (mb : Nat) : Statement (.peatConfigRead mb) := of_any rfl id
theorem peatDescriptors (mb : Nat) : Statement (.peatDescriptors mb) := of_any rfl id
theorem hookResult (mb : Nat) : Statement (.hookResult mb) := of_any rfl id
theorem safeRead (mb : Nat) : Statement (.safeRead mb) := of_any rfl id
theorem safeStatus (mb : Nat) : Statement (.safeStatus mb) := of_any rfl id
theorem hstStatus (mb : Nat) : Statement (.hstStatus mb) := of_any rfl id
theorem ipGet (mb : Nat) : Statement (.ipGet mb) := of_any rfl id
theorem macsecStatus (mb : Nat) : Statement (.macsecStatus mb) := of_any rfl id
theorem netStatus (mb : Nat) : Statement (.netStatus mb) := of_any rfl id
theorem emitClear (mb : Nat) : Statement (.emitClear mb) := of_any rfl id
theorem scanClear (mb : Nat) : Statement (.scanClear mb) := of_any rfl id
theorem loopClear (mb : Nat) : Statement (.loopClear mb) := of_any rfl id
theorem portClear (mb : Nat) : Statement (.portClear mb) := of_any rfl id
theorem safeClear (mb : Nat) : Statement (.safeClear mb) := of_any rfl id
theorem driveWrite (mb : Nat) : Statement (.driveWrite mb) := of_any rfl id
theorem emitSelftest (mb : Nat) : Statement (.emitSelftest mb) := of_any rfl id
theorem scanStart (mb : Nat) : Statement (.scanStart mb) := of_any rfl id
theorem scanStop (mb : Nat) : Statement (.scanStop mb) := of_any rfl id
theorem entryWrite (mb : Nat) : Statement (.entryWrite mb) := of_any rfl id
theorem ringRead (mb : Nat) : Statement (.ringRead mb) := of_any rfl id
theorem loopWrite (mb : Nat) : Statement (.loopWrite mb) := of_any rfl id
theorem loopMode (mb : Nat) : Statement (.loopMode mb) := of_any rfl id
theorem traceArm (mb : Nat) : Statement (.traceArm mb) := of_any rfl id
theorem traceTrigger (mb : Nat) : Statement (.traceTrigger mb) := of_any rfl id
theorem traceRead (mb : Nat) : Statement (.traceRead mb) := of_any rfl id
theorem subscribe (mb : Nat) : Statement (.subscribe mb) := of_any rfl id
theorem poolSet (mb : Nat) : Statement (.poolSet mb) := of_any rfl id
theorem classSet (mb : Nat) : Statement (.classSet mb) := of_any rfl id
theorem freeze (mb : Nat) : Statement (.freeze mb) := of_any rfl id
theorem watchdogSet (mb : Nat) : Statement (.watchdogSet mb) := of_any rfl id
theorem peatConfig (mb : Nat) : Statement (.peatConfig mb) := of_any rfl id
theorem peatArm (mb : Nat) : Statement (.peatArm mb) := of_any rfl id
theorem peatTrigger (mb : Nat) : Statement (.peatTrigger mb) := of_any rfl id
theorem peatRead (mb : Nat) : Statement (.peatRead mb) := of_any rfl id
theorem peatRelease (mb : Nat) : Statement (.peatRelease mb) := of_any rfl id
theorem peatDisarm (mb : Nat) : Statement (.peatDisarm mb) := of_any rfl id
theorem hookStart (mb : Nat) : Statement (.hookStart mb) := of_any rfl id
theorem safeLoad (mb : Nat) : Statement (.safeLoad mb) := of_any rfl id
theorem safeConfirm (mb : Nat) : Statement (.safeConfirm mb) := of_any rfl id
theorem safeResume (mb : Nat) : Statement (.safeResume mb) := of_any rfl id
theorem safeStop (mb : Nat) : Statement (.safeStop mb) := of_any rfl id
theorem outputAck (mb : Nat) : Statement (.outputAck mb) := of_any rfl id
theorem hstRestart (mb : Nat) : Statement (.hstRestart mb) := of_any rfl id
theorem ipSet (mb : Nat) : Statement (.ipSet mb) := of_any rfl id
theorem saInstall (mb : Nat) : Statement (.saInstall mb) := of_any rfl id
theorem saDelete (mb : Nat) : Statement (.saDelete mb) := of_any rfl id
theorem saSwitch (mb : Nat) : Statement (.saSwitch mb) := of_any rfl id
theorem destSet (mb : Nat) : Statement (.destSet mb) := of_any rfl id
theorem hstPeer (mb : Nat) : Statement (.hstPeer mb) := of_any rfl id
theorem syncCode (mb : Nat) : Statement (.syncCode mb) := of_any rfl id
theorem trigPulse (mb : Nat) : Statement (.trigPulse mb) := of_any rfl id
theorem diagStamp (mb : Nat) : Statement (.diagStamp mb) := of_any rfl id
theorem diagHist (mb : Nat) : Statement (.diagHist mb) := of_any rfl id
theorem pcieLinkTrained : Statement .pcieLinkTrained := of_none rfl
theorem prpSupervisionLoss : Statement .prpSupervisionLoss := of_none rfl
theorem commitCheckFailure : Statement .commitCheckFailure := of_none rfl

end Sys2Proof.Laws.WellFormedFields
end

