-- ==== Sys2Proof/Laws/Session.lean ====
section
/-!
SUPPORT. What the end of a session may touch, and what it leaves.
-/
namespace Sys2Proof.Laws

open Sys2Proof.Machine

/-- Only what a response may touch, the session's own fields, the pending safety configuration and Peat's readout changed. -/
def SessOnly (d d' : Dev) : Prop :=
  d' = { d with
    kmp := d'.kmp
    slu := { d.slu with ports := d'.slu.ports }
    pcie := { d.pcie with vecs := d'.pcie.vecs }
    saf := { d.saf with pending := d'.saf.pending }
    peat := { d.peat with readout := d'.peat.readout }
    ev := { d.ev with raised := d'.ev.raised, fresh := d'.ev.fresh, queues := d'.ev.queues, saturatedOnce := d'.ev.saturatedOnce }
    out := d'.out
    writes := d'.writes }

theorem sessOnly_refl (d : Dev) : SessOnly d d := rfl

theorem sessOnly_trans {a b c : Dev} (h : SessOnly a b) (k : SessOnly b c) : SessOnly a c :=
  Eq.trans k (congrArg (fun z : Dev => { z with
    kmp := c.kmp
    slu := { z.slu with ports := c.slu.ports }
    pcie := { z.pcie with vecs := c.pcie.vecs }
    saf := { z.saf with pending := c.saf.pending }
    peat := { z.peat with readout := c.peat.readout }
    ev := { z.ev with raised := c.ev.raised, fresh := c.ev.fresh, queues := c.ev.queues, saturatedOnce := c.ev.saturatedOnce }
    out := c.out
    writes := c.writes }) h)

theorem respOnly_sessOnly {a b : Dev} (h : RespOnly a b) : SessOnly a b := by
  unfold SessOnly
  rw [h]

theorem raise_sessOnly (src cond : Nat) (x : Bytes) (d : Dev) : SessOnly d (raise src cond x d) :=
  respOnly_sessOnly (evOnly_respOnly (raise_evOnly _ _ _ _))

theorem endCommit_sessOnly (v : Verdict) (d : Dev) : SessOnly d (endCommit v d) := by
  unfold endCommit
  split
  · exact sessOnly_refl d
  · rename_i k _
    have h : SessOnly d (raise (640 + 8 * k.mb + 5) 0 [] (modKmp (fun x => { x with commit := none }) d)) :=
      sessOnly_trans (b := modKmp (fun x => { x with commit := none }) d) rfl (raise_sessOnly _ _ _ _)
    · refine sessOnly_trans h ?_
      dsimp only
      split
      · exact respOnly_sessOnly (finishRunning_respOnly _ _ _ _)
      · exact sessOnly_refl _

theorem endReadout_sessOnly (status : Nat) (d : Dev) : SessOnly d (endReadout status d) := by
  unfold endReadout
  split
  · exact sessOnly_refl d
  · refine sessOnly_trans (b := modPeat (fun p => { p with readout := none }) d) rfl ?_
    simp only
    split
    · exact respOnly_sessOnly (finishRunning_respOnly _ _ _ _)
    · exact sessOnly_refl _

theorem clearFreezes_respOnly (ident : Nat) (d : Dev) : RespOnly d (clearFreezes ident d) := by
  unfold clearFreezes
  refine foldl_respOnly _ (fun d p => ?_) _ d
  split
  · exact respOnly_trans (b := modSlu (modPort p (fun x => { x with freezeBy := none, drained := false })) d) rfl
      (evOnly_respOnly (raise_evOnly _ _ _ _))
  · exact respOnly_refl d

theorem dropPendingBlob_sessOnly (d : Dev) : SessOnly d (dropPendingBlob d) := by
  unfold dropPendingBlob
  split
  · exact sessOnly_trans (b := modSaf (fun s => { s with pending := none }) d) rfl (raise_sessOnly _ _ _ _)
  · exact sessOnly_refl d

theorem releaseSession_sessOnly (ident : Nat) (d : Dev) : SessOnly d (releaseSession ident d) := by
  unfold releaseSession
  simp only
  refine sessOnly_trans (respOnly_sessOnly (clearFreezes_respOnly ident d)) ?_
  refine sessOnly_trans ?_ (dropPendingBlob_sessOnly _)
  split
  · split
    · exact endReadout_sessOnly _ _
    · exact sessOnly_refl _
  · exact sessOnly_refl _

theorem expireWaiting_respOnly (x : Session) (d : Dev) : RespOnly d (expireWaiting x d) := by
  unfold expireWaiting
  simp only
  exact respOnly_trans (b := modMb x.mb (fun m => { m with
      waiting := m.waiting.filter (fun c => !(c.session == x.ident && sessionNeeded d c.op)) }) d) rfl
    (foldl_respOnly _ (fun _ _ => finish_respOnly _ _ _ _) _ _)

theorem forgetSession_sessOnly (x : Session) (d : Dev) : SessOnly d (forgetSession x d) := rfl

theorem closeSession_sessOnly (d : Dev) : SessOnly d (closeSession d) := by
  unfold closeSession
  split
  · exact sessOnly_refl d
  · exact sessOnly_trans (sessOnly_trans (sessOnly_trans (respOnly_sessOnly (expireWaiting_respOnly _ _))
      (releaseSession_sessOnly _ _)) (forgetSession_sessOnly _ _)) (raise_sessOnly _ _ _ _)

theorem endSession_sessOnly (cause : Nat) (d : Dev) : SessOnly d (endSession cause d) := by
  unfold endSession
  split
  · exact sessOnly_refl d
  · exact sessOnly_trans (sessOnly_trans (sessOnly_trans (sessOnly_trans (sessOnly_trans (endCommit_sessOnly _ _)
      (respOnly_sessOnly (expireWaiting_respOnly _ _))) (releaseSession_sessOnly _ _)) (forgetSession_sessOnly _ _))
      (raise_sessOnly _ _ _ _)) (respOnly_sessOnly (irqSet_respOnly _ _ _))

/-! ### What is left -/

theorem endSession_session (cause : Nat) (d : Dev) : (endSession cause d).kmp.session = none := by
  unfold endSession
  split
  · assumption
  · rw [respOnly_session (irqSet_respOnly _ _ _), respOnly_session (evOnly_respOnly (raise_evOnly _ _ _ _))]
    rfl

theorem haltSession_session (d : Dev) : (haltSession d).sys.op = .halted → (haltSession d).kmp.session = none := by
  unfold haltSession
  split
  · exact fun _ => endSession_session 2 d
  · rename_i h
    intro ho
    simpa [ho] using h

theorem closeSession_session (d : Dev) : (closeSession d).kmp.session = none := by
  unfold closeSession
  split
  · assumption
  · rw [respOnly_session (evOnly_respOnly (raise_evOnly _ _ _ _))]
    rfl

theorem dropPendingBlob_pending (d : Dev) : (dropPendingBlob d).saf.pending = none := by
  unfold dropPendingBlob
  split
  · rw [(raise_evOnly _ _ _ _).1]; rfl
  · rename_i h; simpa using h

end Sys2Proof.Laws
end

