-- ==== Sys2Proof/Tests/Slice0.lean ====
section
/-!
SUPPORT. Small tests of the model: ill-formed commands, the spec's worked examples, single steps, and for every statement with
hypotheses a state and operands that meet them.
-/
namespace Sys2Proof.Tests
open Sys2Proof.Machine Sys2Proof.Laws
set_option Elab.async false

/-! ### The states the tests start from -/

/-- A command of mailbox 1 with a payload, under session 5, that lets its response use the bulk window. -/
def cmd (op : Nat) (p : Bytes) : Cmd := ⟨1, 7, op, 5, 2, p, 0, [], 0⟩

/-- The device out of reset in READY, at the start of frame 10, with session 5 of mailbox 1. -/
def ready : Dev :=
  { Dev.reset with
    sys := { Dev.reset.sys with inReset := false, porHeld := false, op := .ready, boot := 0x80, bootReady := true,
                                firmware := true, now := 2000000000 }
    seq := { Dev.reset.seq with started := true, frame := 10, frameTime := 2000000000, nextFrame := 2066000000, phase := .sweep }
    kmp := { Dev.reset.kmp with
      mbs := listMod Dev.reset.kmp.mbs 1 (fun m => { m with present := true, rom := false })
      session := some ⟨5, 1, 2000, 4000000000⟩ } }

/-- The device in another operating state. -/
def inState (op : OpState) (d : Dev) : Dev := modSys (fun y => { y with op := op }) d

/-- A machine in which a command waits in its mailbox. -/
def asked (c : Cmd) (d : Dev) : State :=
  { State.reset with dev := modMb c.mb (fun m => { m with waiting := [c] }) d }

/-- A machine with a device. -/
def having (d : Dev) : State := { State.reset with dev := d }

/-- A command waits next in its mailbox, and what a statement asks of the state and the command holds. -/
abbrev Wait (s : State) (c : Cmd) (h : State → Cmd → Prop) : Prop := Starts s c.op c.mb c ∧ h s c

/-- The same of a machine in which the command waits alone. -/
abbrev Asks (c : Cmd) (d : Dev) (h : State → Cmd → Prop) : Prop := Wait (asked c d) c h

/-- The device is calm, and what a statement asks of the state holds. -/
abbrev AtState (s : State) (h : State → Prop) : Prop := Calm s.dev ∧ h s

/-- The same of a machine with a device and an empty memory. -/
abbrev At (d : Dev) (h : State → Prop) : Prop := AtState (having d) h

/-- Where a command leads. -/
def after (i : Instr) (s : State) : State :=
  match exec i s with
  | .next t => t
  | _ => s

/-- Where a step leads. -/
def stepped (s : State) : State :=
  match step s with
  | .next t => t
  | _ => s

/-! ### Ill-formed commands are refused, one for each check -/

theorem test_illformed_below : WellFormed (.startLaneEdge 8 0 0) = false := by decide +kernel

theorem test_illformed_allBelow : WellFormed (.tensionTick [3, 16]) = false := by decide +kernel

theorem test_illformed_keysBelow : WellFormed (.probeRound 0 [(8, 1550)]) = false := by decide +kernel

theorem test_illformed_mailbox : WellFormed (.getStatus 10) = false := by decide +kernel

theorem test_illformed_page : WellFormed (.doorbell 2 0) = false := by decide +kernel

theorem test_illformed_backbone_mailbox : WellFormed (.kmpReassemblyTimeout 1) = false := by decide +kernel

theorem test_illformed_register_port : WellFormed (.registerWrite 0 0 []) = false := by decide +kernel

theorem test_illformed_address : WellFormed (.hstDatagramArrival 0 (zeros 5) 1 [] false) = false := by decide +kernel

theorem test_illformed_probe_target : WellFormed (.bistComplete false false 0 [] 0 [(264, [])] [] 0) = false := by decide +kernel

theorem test_illformed_stalls : WellFormed (.flushTick [(15, 65)]) = false := by decide +kernel

theorem test_illformed_counts : WellFormed (.castOnGaugeCollectionEnd [(1095, [])]) = false := by decide +kernel

theorem test_illformed_flips : WellFormed (.pointTagCheck [(3, 256)] 0) = false := by decide +kernel

theorem test_illformed_code : WellFormed (.sedgeSlot 32768) = false := by decide +kernel

theorem test_illformed_tone_group : WellFormed (.testToneSlot 3 [100] 0) = false := by decide +kernel

theorem test_wellformed_last_mailbox : WellFormed (.getStatus 9) = true := by decide +kernel

/-! ### No word spells a command: the table gives no row bits -/

theorem test_no_word_decodes : decodeTableWord 32 0xFFFFFFFF = none := rfl

theorem test_withFetchWord_changes_nothing : State.reset.withFetchWord 16 0x0100 = State.reset := rfl

/-! ### The worked examples of the spec -/

/-- Frame 2 is later than frame 0xFFFF_FFFE, not the other way round (worked example of 00_scope.md). -/
theorem test_later_wraps : laterThan 32 2 0xFFFFFFFE = true ∧ laterThan 32 0xFFFFFFFE 2 = false := by decide +kernel

/-- 32 zero bytes, a = s = 0 (worked example of 11_safe_transport_and_hook.md). -/
theorem test_hook_zero_string : hookCheck 0 0 (zeros 32) = 0x8A9136AA := by decide +kernel

theorem test_hook_ones_string : hookCheck 0 0 (List.replicate 32 0xFF#8) = 0x62A8AB43 := by decide +kernel

theorem test_hook_folded_sequence : hookCheck 0 0xFFFFFFFF (zeros 32) = 0xFFFFFFFF := by decide +kernel

theorem test_hook_initial_value : hookInit 0x5A310007 1 = 0xA5CFFFF8#32 := by decide +kernel

/-- Stop and start of the default plan (worked example of 04_time_measurement.md): C₃₇ = 583 210 fs and w₃₇ = 17 480 fs, C₉ = 133 000 fs
and w₉ = 15 240 fs. -/
theorem test_corrected_stamps :
    corrected { GaugeRec.none with widths := 583210 :: List.replicate 36 0 ++ [17480] } (133 * 64 + 37) = 34200 ∧
    corrected { GaugeRec.none with widths := 133000 :: List.replicate 8 0 ++ [15240] } (12 * 64 + 9) = 3108 := by decide +kernel

/-! ### Single steps from small states -/

/-- A step of a machine in which one command waits leads where the command leads. -/
theorem test_step_takes_the_command :
    (stepped { having ready with pending := [.frameTick, .frameTick] }).pending = [.frameTick] := by decide +kernel

theorem test_reset_release_begins_cast_on :
    (after (.resetRelease true false true) State.reset).dev.sys.inReset = false ∧
      (after (.resetRelease true false true) State.reset).dev.sys.op = .castOn := by decide +kernel

theorem test_unrecoverable_fault_halts : (after .unrecoverableFault (having ready)).dev.sys.op = .halted := by decide +kernel

/-- START outside ARMED answers NOT_PERMITTED (0x0050). -/
theorem test_start_outside_armed :
    ((mbGet (after (.start 1) (asked (cmd 0x104 []) ready)).dev 1).finals.map (·.status)) = [0x0050] := by decide +kernel

/-- SYS_RESET with a wrong magic answers BAD_PARAM (0x0012). -/
theorem test_sys_reset_wrong_magic :
    ((mbGet (after (.sysReset 1) (asked (cmd 0x102 (le 4 1)) ready)).dev 1).finals.map (·.status)) = [0x0012] := by decide +kernel

/-! ### The statements' hypotheses are met -/

namespace Machinewide

def railD : Dev := modSaf (fun x => { x with railClosed := true }) (inState .armed ready)
def runD : Dev :=
  modSaf (fun x => { x with railClosed := true, outs := x.outs.map (fun o => { o with energised := true }), set := some 0,
                            committed := some (zeros 2000), vsafeOk := true }) (inState .running ready)
def evFull : Dev :=
  modEv (fun e => { e with queues := e.queues.map (fun q => { q with recs := List.replicate 448 ⟨14, 0, 0, 0, []⟩ }),
                           routes := [(14, 0x23)] }) ready

theorem test_witness_StepTakesTheFrontCommand : State.reset.pending = [] := rfl

/-- The form holds before the step that halts the device, which the step takes. -/
theorem test_witness_EveryStepKeepsTheForm :
    (let s := { having ready with pending := [.unrecoverableFault] }
     (s.Inv ∧ (s.dev.sys.op = .halted → s.dev.kmp.session = none)) ∧ (stepped s).dev.sys.op = .halted) := by decide +kernel

theorem test_witness_RailIsClosedOnlyWhereEmissionIsPermitted :
    (let s := { having railD with pending := [.unrecoverableFault] }
     s.railSafe ∧ s.dev.saf.railClosed = true ∧ (stepped s).dev.sys.op = .halted) := by decide +kernel

/-- A command after which an output is still energised. -/
theorem test_witness_EnergisedOutputsMeetTheirConditions :
    (safeOut (after .prpSupervisionLoss (having runD)).dev 0).energised = true := by decide +kernel

/-- A page with a free slot, one without, and a backbone mailbox. -/
theorem test_witness_FinalResponsesReachTheirMailbox :
    ((mbGet ready 1).rspQueue = [] ∧ rspRoom (mbGet ready 1) = true ∧ 1 < ready.kmp.mbs.length ∧ 1 + 1 < ready.slu.ports.length) ∧
    rspRoom (mbGet (modMb 1 (fun m => { m with rspPi := 16 }) ready) 1) = false ∧
    (3 < ready.kmp.mbs.length ∧ 0 < ready.slu.ports.length) := by decide +kernel

/-- A record with room for it, one without, and a port that the route does not name. -/
theorem test_witness_EventsAreRecordedOnceAFrame :
    (evOpen ready 14 = true ∧ (14, 1) ∉ ready.ev.raised ∧ bit (evRoute ready 14) (evRouteBit 1) = true ∧
      (evQueueOf ready 1).recs.length < 448) ∧
    (evOpen evFull 14 = true ∧ (14, 1) ∉ evFull.ev.raised ∧ bit (evRoute evFull 14) (evRouteBit 1) = true ∧
      ((evQueueOf evFull 1).recs.filter (fun x => !evIsSafety x)).length = 448) ∧
    bit (evRoute evFull 14) (evRouteBit 2) = false := by decide +kernel

end Machinewide

namespace SystemCommands

def healthyD : Dev := modSeq (fun q => {q with plan := {q.plan with zones := []}}) <| modScan (fun x => {x with started := true})
  (modPrm (fun p => {p with vals := tabPut 0x0801 1 p.vals})
  (modSaf (fun x => {x with tested := true, vsafeOk := true, committed := some (zeros 1000)}) ready))
def busyD : Dev := modMb 1 (fun m => {m with running := [{cmd 0x104 [] with tag := 9}]}) ready

theorem test_witness_SystemReadsAnswer :
    Asks (cmd 0x100 []) ready (fun _ _ => True) ∧
    Asks (cmd 0x101 []) ready (fun _ _ => True) ∧
    Asks (cmd 0x111 (le 2 9)) (modMb 1 (fun m => {m with running := [{cmd 0x104 [] with tag := 9}]}) ready) (fun s c =>
      List.find? (fun x => x.tag == rdU c.payload 0 2) (mbGet (s.taken c 1) c.mb).waiting = none ∧
      (List.find? (fun x => x.tag == rdU c.payload 0 2) (mbGet (s.taken c 1) c.mb).running).isSome = true) ∧
    Asks (cmd 0x111 (le 2 9)) (modMb 1 (fun m => {m with finals := [⟨9, 0x104, 3⟩]}) ready) (fun s c =>
      List.find? (fun x => x.tag == rdU c.payload 0 2) (mbGet (s.taken c 1) c.mb).waiting = none ∧
      List.find? (fun x => x.tag == rdU c.payload 0 2) (mbGet (s.taken c 1) c.mb).running = none ∧
      (List.find? (fun x => x.tag == rdU c.payload 0 2) (mbGet (s.taken c 1) c.mb).finals).isSome = true) ∧
    Asks (cmd 0x111 (le 2 9)) ready (fun s c => List.find? (fun x => x.tag == rdU c.payload 0 2) (mbGet (s.taken c 1) c.mb).waiting =
      none ∧ List.find? (fun x => x.tag == rdU c.payload 0 2) (mbGet (s.taken c 1) c.mb).running = none ∧
      List.find? (fun x => x.tag == rdU c.payload 0 2) (mbGet (s.taken c 1) c.mb).finals = none) ∧
    Wait (having (modMb 1 (fun m => {m with waiting := [{cmd 0x104 [] with tag := 9}, cmd 0x111 (le 2 9)]}) ready)) (cmd 0x111 (le 2 9))
      (fun s c => (List.find? (fun x => x.tag == rdU c.payload 0 2) (mbGet (s.taken c 1) c.mb).waiting).isSome = true) ∧
    Asks (cmd 0x204 []) ready (fun _ _ => True) ∧
    Asks (cmd 0x1200 []) ready (fun _ _ => True) ∧
    Asks (cmd 0x1F0 []) ready (fun _ _ => True) := by
  and_intros <;> decide +kernel

theorem test_witness_ArmNeedsHealthyTussock :
    Asks (cmd 0x103 []) ready (fun s c => stateCmdWaits (s.taken c 1) = false ∧
      (s.dev.saf.tested = false ∨ presentWord s.dev ≠ 0 ∨ s.dev.saf.vsafeOk = false ∨ s.dev.saf.committed = none)) := by
  decide +kernel

theorem test_witness_StateCommandsAreJudged :
    Asks (cmd 0x103 []) healthyD (fun s c => stateCmdWaits (s.taken c 1) = false ∧ s.dev.sys.op = OpState.ready ∧
      bit s.dev.sec.scopes 1 = false ∧ healthy s.dev = true ∧ driveMode s.dev ≠ 0 ∧ s.dev.scan.tripped = false ∧
      anyAbove s.dev 90 = false ∧ planFitsNow s.dev = true ∧ s.dev.scan.started = true) ∧
    Asks (cmd 0x104 []) (inState .armed ready) (fun s c => stateCmdWaits (s.taken c 1) = false ∧ s.dev.sys.op = OpState.armed) ∧
    Asks (cmd 0x105 []) (inState .running ready) (fun s c => stateCmdWaits (s.taken c 1) = false ∧ s.dev.sys.op = OpState.running) ∧
    Asks (cmd 0x106 []) (inState .running ready) (fun s c => stateCmdWaits (s.taken c 1) = false ∧
      (s.dev.sys.op = OpState.armed ∨ s.dev.sys.op = OpState.running)) ∧
    Asks (cmd 0x104 []) ready (fun s c => stateCmdWaits (s.taken c 1) = false ∧ s.dev.sys.op ≠ OpState.armed) ∧
    Asks (cmd 0x105 []) ready (fun s c => stateCmdWaits (s.taken c 1) = false ∧ s.dev.sys.op ≠ OpState.running) ∧
    Asks (cmd 0x106 []) ready (fun s c => stateCmdWaits (s.taken c 1) = false ∧ s.dev.sys.op ≠ OpState.armed ∧
      s.dev.sys.op ≠ OpState.running) ∧
    Asks (cmd 0x103 []) busyD (fun s c => stateCmdWaits (s.taken c 1) = true) ∧
    Asks (cmd 0x104 []) busyD (fun s c => stateCmdWaits (s.taken c 1) = true) ∧
    Asks (cmd 0x105 []) busyD (fun s c => stateCmdWaits (s.taken c 1) = true) ∧
    Asks (cmd 0x106 []) busyD (fun s c => stateCmdWaits (s.taken c 1) = true) ∧
    Asks (cmd 0x103 []) (modScan (fun x => {x with started := false}) healthyD) (fun s c => stateCmdWaits (s.taken c 1) = false ∧
      s.dev.sys.op = OpState.ready ∧ bit s.dev.sec.scopes 1 = false ∧ healthy s.dev = true ∧ driveMode s.dev ≠ 0 ∧
      s.dev.scan.tripped = false ∧ anyAbove s.dev 90 = false ∧ planFitsNow s.dev = true ∧ s.dev.scan.started = false) := by
  and_intros <;> decide +kernel

theorem test_witness_EventRouteWritesItsRun :
    Asks (cmd 0x108 (le 2 3 ++ le 2 4 ++ le 1 7 ++ zeros 3)) ready (fun _ _ => True) ∧
    Asks (cmd 0x108 (le 2 3 ++ le 2 4 ++ le 1 0x25 ++ zeros 3)) ready (fun _ _ => True) := by
  and_intros <;> decide +kernel

end SystemCommands

namespace Sessions

def nosess : Dev := modKmp (fun k => {k with session := none}) ready
def committing : Dev := modKmp (fun k => {k with commit := some ⟨1, 9, false, 0, 0, 0, 0, 0⟩}) ready
def cw : Dev := modMb 1 (fun m => {m with running := [{cmd 0x202 [] with tag := 9}]}) committing
def cbad : Dev := modKmp (fun k => {k with commit := some ⟨1, 9, false, 0, 5, 0, 0, 0⟩}) cw
def ro : Dev := modPeat (fun x => {x with readout := some ⟨0, 3, 9, 1, 0, 0, 16, 0, [], 0⟩})
  (modSlu (fun l => {l with ports := l.ports.map (fun p => {p with freezeBy := some 5})}) ready)
def rn (op : Nat) : Dev := modMb 1 (fun m => {m with running := [{cmd op [] with tag := 9}]}) ready

theorem test_witness_SessionOpens :
    Asks (cmd 0x200 (le 4 500)) nosess (fun s _ => s.dev.sys.op ≠ OpState.halted ∧ s.dev.kmp.session = none) ∧
    Asks (cmd 0x200 (le 4 499)) nosess (fun s _ => s.dev.sys.op ≠ OpState.halted ∧ s.dev.kmp.session = none) ∧
    Asks (cmd 0x200 (le 4 500)) ready (fun s _ => s.dev.sys.op ≠ OpState.halted ∧ s.dev.kmp.session ≠ none) := by
  and_intros <;> decide +kernel

theorem test_witness_SessionEnds :
    AtState (asked (cmd 0x201 []) ro) (fun s => s.dev.sys.resetAfter = none ∧ s.dev.kmp.session.isSome = true ∧
      (after Instr.leaseExpiry s).dev.peat.readout.isSome = true) ∧
    Asks (cmd 0x201 []) ro (fun s _ => s.dev.sys.resetAfter = none ∧ s.dev.kmp.staged = ConfigSet.empty ∧ s.dev.kmp.commit = none ∧
      s.dev.kmp.session.isSome = true ∧ (after (Instr.sessionClose 1) s).dev.peat.readout.isSome = true) := by
  and_intros <;> decide +kernel

theorem test_witness_StagedSetIsDiscardedOnlyByRollback :
    Asks (cmd 0x203 []) ready (fun s _ => s.dev.kmp.commit = none) ∧
    Asks (cmd 0x203 []) committing (fun s _ => s.dev.kmp.commit ≠ none) ∧
    Asks (cmd 0x201 []) committing (fun s _ => (s.dev.kmp.staged ≠ ConfigSet.empty ∨ s.dev.kmp.commit ≠ none)) := by
  and_intros <;> decide +kernel

theorem test_witness_CommitRuns :
    Asks (cmd 0x202 (zeros 8)) ready (fun s c => s.dev.kmp.commit = none ∧ s.dev.sync.held = none ∧
      if bit (rdU c.payload 0 2) 0 = true then prmGet s.dev 3850 ≠ 0 ∧ { s.dev.kmp.staged with plan := none, drive := [] } =
      ConfigSet.empty ∧ (s.dev.kmp.staged.plan ≠ none ∨ s.dev.kmp.staged.drive ≠ []) ∧
      (rdU c.payload 4 4 ≠ 0 ↔ s.dev.kmp.staged.drive ≠ []) else rdU c.payload 4 4 = 0) ∧
    AtState (asked (cmd 0x100 []) cw) (fun s =>
      Option.any (fun x0 => decide (x0.status = stOk ∧ checkReady s.fresh s.dev.kmp.staged = none ∧ s.dev.kmp.staged.retire = [] ∧
      x0.sync = false ∧ (findTag s.fresh x0.mb x0.tag).isSome = true)) s.dev.kmp.commit = true) ∧
    AtState (asked (cmd 0x100 []) cbad) (fun s =>
      Option.any (fun x0 => decide (x0.status ≠ stOk ∧ (findTag s.fresh x0.mb x0.tag).isSome = true)) s.dev.kmp.commit = true) ∧
    AtState (asked (cmd 0x100 []) (modKmp (fun k => {k with commit := some ⟨1, 9, true, 4, 0, 0, 0, 0⟩}) cw)) (fun s =>
      Option.any (fun x0 => decide (x0.status = stOk ∧ checkReady s.fresh s.dev.kmp.staged = none ∧ s.dev.kmp.staged.retire = [] ∧
      x0.sync = true ∧ (findTag s.fresh x0.mb x0.tag).isSome = true)) s.dev.kmp.commit = true) := by
  and_intros <;> decide +kernel

theorem test_witness_AbortResolvesItsTarget :
    Wait (having (modMb 1 (fun m => {m with waiting := [{cmd 0x104 [] with tag := 9}, cmd 0x110 (le 2 9)]}) ready)) (cmd 0x110 (le 2 9))
      (fun s c => Option.any (fun x0 => decide (overtakes x0.op = false))
      (List.find? (fun x => x.tag == rdU c.payload 0 2) (mbGet (s.taken c 1) c.mb).waiting) = true) ∧
    Asks (cmd 0x110 (le 2 9)) (modMb 1 (fun m => {m with running := [{cmd 0x104 [] with tag := 9}]}) ready) (fun s c =>
      Option.any (fun x0 => decide (List.find? (fun x => x.tag == rdU c.payload 0 2) (mbGet (s.taken c 1) c.mb).waiting = none ∧
      overtakes x0.op = false ∧ x0.op ∉ [259, 514, 772, 1799, 2567, 2569, 3074, 3077, 3328, 4097]))
      (List.find? (fun x => x.tag == rdU c.payload 0 2) (mbGet (s.taken c 1) c.mb).running) = true) ∧
    Asks (cmd 0x110 (le 2 9)) (modMb 1 (fun m => {m with finals := [⟨9, 0x104, 3⟩]}) ready) (fun s c =>
      Option.any (fun x0 => decide (List.find? (fun x => x.tag == rdU c.payload 0 2) (mbGet (s.taken c 1) c.mb).waiting = none ∧
      List.find? (fun x => x.tag == rdU c.payload 0 2) (mbGet (s.taken c 1) c.mb).running = none ∧ overtakes x0.op = false))
      (List.find? (fun x => x.tag == rdU c.payload 0 2) (mbGet (s.taken c 1) c.mb).finals) = true) ∧
    Asks (cmd 0x110 (le 2 9)) ready (fun s c => List.find? (fun x => x.tag == rdU c.payload 0 2) (mbGet (s.taken c 1) c.mb).waiting =
      none ∧ List.find? (fun x => x.tag == rdU c.payload 0 2) (mbGet (s.taken c 1) c.mb).running = none ∧
      List.find? (fun x => x.tag == rdU c.payload 0 2) (mbGet (s.taken c 1) c.mb).finals = none) ∧
    Asks (cmd 0x110 (le 2 9)) (rn 0x103) (fun s c =>
      Option.any (fun x0 => decide (List.find? (fun x => x.tag == rdU c.payload 0 2) (mbGet (s.taken c 1) c.mb).waiting = none ∧
      x0.op = 259)) (List.find? (fun x => x.tag == rdU c.payload 0 2) (mbGet (s.taken c 1) c.mb).running) = true) ∧
    Asks (cmd 0x110 (le 2 9)) (rn 0x110) (fun s c => overtakes 272 = true ∧
      (((List.find? (fun x => x.tag == rdU c.payload 0 2) (mbGet (s.taken c 1) c.mb).waiting).any (fun x => decide (x.op = 272)) = true) ∨
      (List.find? (fun x => x.tag == rdU c.payload 0 2) (mbGet (s.taken c 1) c.mb).waiting = none ∧
      (List.find? (fun x => x.tag == rdU c.payload 0 2) (mbGet (s.taken c 1) c.mb).running).any (fun x => decide (x.op = 272)) = true) ∨
      List.find? (fun x => x.tag == rdU c.payload 0 2) (mbGet (s.taken c 1) c.mb).waiting = none ∧
      List.find? (fun x => x.tag == rdU c.payload 0 2) (mbGet (s.taken c 1) c.mb).running = none ∧
      (List.find? (fun x => x.tag == rdU c.payload 0 2) (mbGet (s.taken c 1) c.mb).finals).any (fun x => decide (x.op = 272)) = true)) := by
  and_intros <;> decide +kernel

theorem test_witness_SysResetFollowsItsResponse :
    Asks (cmd 0x102 (le 4 0)) ready (fun _ c => rdU c.payload 0 4 ≠ 3785687041) ∧
    Asks (cmd 0x102 (le 4 0xE1A50001)) ready (fun s c => rdU c.payload 0 4 = 3785687041 ∧ c.mb < 2 ∧ c.mb < s.dev.kmp.mbs.length ∧
      (mbGet s.dev c.mb).rspQueue = [] ∧ rspRoom (mbGet s.dev c.mb) = true ∧ Memory.wf s.ram = true) := by
  and_intros <;> decide +kernel

theorem test_witness_BindOffBegins :
    Asks (cmd 0x107 (le 4 0xE1A50001)) ready (fun _ c => rdU c.payload 0 4 ≠ 3785687042) ∧
    Asks (cmd 0x107 (le 4 0xE1A50002)) ready (fun s c => rdU c.payload 0 4 = 3785687042 ∧ ticking s.dev = true) ∧
    Asks (cmd 0x107 (le 4 0xE1A50002)) (inState .castOn ready) (fun s c => rdU c.payload 0 4 = 3785687042 ∧
      (s.dev.sys.op = OpState.halted ∨ s.dev.sys.op = OpState.castOn)) ∧
    Asks (cmd 0x107 (le 4 0xE1A50002)) (inState .bindOff ready) (fun s c => rdU c.payload 0 4 = 3785687042 ∧
      s.dev.sys.op = OpState.bindOff) := by
  and_intros <;> decide +kernel

end Sessions

namespace Security

def rd : State := asked (cmd 0x1203 (zeros 40)) (modSec (fun x => {x with lmsOff := true}) ready)
def dc : State := asked (cmd 0x1204 (le 1 1)) ready
def rom : Dev := { ready with sys := {ready.sys with boot := 0x30, op := .castOn, firmware := false}, kmp := {ready.kmp with mbs := ready.kmp.mbs.map (fun m => {m with rom := true}), session := none} }
def lo : Dev := modComp 1 (fun x => {x with total := some 65536}) (modSec (fun x => {x with owner := 2}) rom)
def lms : Dev := modSec (fun x => {x with lmsOff := false, q := some 3, path := some (zeros 480), leaves := 63}) ready
def lo2 : Dev := modComp 2 (fun x => {x with verified := true}) lo

theorem test_witness_AttestationCommands :
    Asks (cmd 0x1201 (le 1 6 ++ zeros 51)) ready (fun _ _ => True) ∧
    Asks (cmd 0x1201 (le 1 5 ++ zeros 51)) ready (fun _ _ => True) ∧
    Asks (cmd 0x1202 (le 2 3 ++ zeros 500)) (modSec (fun x => {x with q := some 3, lmsOff := false}) ready) (fun s _ =>
      s.dev.sec.lmsOff = false ∧ s.dev.sec.q.isSome = true) ∧
    Asks (cmd 0x1202 (le 2 3 ++ zeros 500)) (modSec (fun x => {x with lmsOff := true}) ready) (fun s _ =>
      (s.dev.sec.q = none ∨ s.dev.sec.lmsOff = true)) ∧
    (noLmsFlags (rd).dev ≠ 0) ∧
    Asks (cmd 0x1203 (zeros 40)) lms (fun s _ => noLmsFlags s.dev = 0) := by
  and_intros <;> decide +kernel

/-- What the token itself is worth is an open value (`Config.tokenVerdict`), which a statement takes as it comes. -/
theorem test_witness_DebugPortUnlocks :
    Asks (cmd 0x1204 (le 1 1)) (inState .armed ready) (fun s _ => s.dev.sys.op ≠ OpState.ready) ∧
    Asks (cmd 0x1204 (le 1 3)) ready (fun s _ => s.dev.sys.op = OpState.ready) ∧
    ((dc).dev.sys.op = OpState.ready) ∧
    Asks (cmd 0x1205 (zeros 200)) ready (fun s _ => (s.dev.sys.op ≠ OpState.ready ∨ s.dev.sec.challenge = none)) ∧
    Asks (cmd 0x1205 (zeros 200)) (modSec (fun x => {x with challenge := some (1, zeros 32)}) ready) (fun s _ =>
      Option.any (fun x0 => decide (s.dev.sys.op = OpState.ready ∧ x0.1 = 1)) s.dev.sec.challenge = true) ∧
    Asks (cmd 0x1205 (zeros 200)) (modSec (fun x => {x with challenge := some (2, zeros 32)}) ready) (fun s _ =>
      Option.any (fun x0 => decide (s.dev.sys.op = OpState.ready ∧ x0.1 = 2)) s.dev.sec.challenge = true) := by
  and_intros <;> decide +kernel

theorem test_witness_LoaderDelivers :
    Asks (cmd 0x1F1 (le 1 1 ++ zeros 3 ++ le 4 65536)) rom (fun s c => loaderOpen s.dev = true ∧ loaderBusy s.dev (portOfMb c.mb) = false) ∧
    Asks (cmd 0x1F1 (le 1 1 ++ zeros 3 ++ le 4 65536)) (modSec (fun x => {x with owner := 1}) rom) (fun s c => loaderOpen s.dev = true ∧
      loaderBusy s.dev (portOfMb c.mb) = true) ∧
    AtState (asked (cmd 0x1F1 (le 1 1 ++ zeros 3 ++ le 4 65536)) (modSec (fun x => {x with owner := 1}) rom)) (fun s =>
      s.dev.sec.owner ≠ 0) ∧
    Asks (cmd 0x1F2 (le 1 1 ++ zeros 3 ++ le 4 16 ++ le 4 16 ++ zeros 16)) lo (fun s c =>
      Option.any (fun x0 => decide (loaderOpen s.dev = true ∧ loaderBusy s.dev (portOfMb c.mb) = false ∧
      (rdU c.payload 0 1 = 1 ∨ rdU c.payload 0 1 = 2) ∧ rdU c.payload 4 4 % 16 = 0 ∧ rdU c.payload 4 4 < x0 ∧ rdU c.payload 8 4 % 16 = 0 ∧
      16 ≤ rdU c.payload 8 4 ∧ rdU c.payload 8 4 ≤ 65536 ∧ rdU c.payload 4 4 + rdU c.payload 8 4 ≤ x0))
      (compOf s.dev.sec (rdU c.payload 0 1)).total = true) ∧
    Asks (cmd 0x1F3 (le 1 1)) lo (fun s c => loaderOpen s.dev = true ∧ loaderBusy s.dev (portOfMb c.mb) = false ∧
      (rdU c.payload 0 1 = 1 ∨ rdU c.payload 0 1 = 2) ∧ loaderReason (rdU c.payload 0 1) (compOf s.dev.sec (rdU c.payload 0 1))
      (compOf s.dev.sec (3 - rdU c.payload 0 1)) ≠ 0 ∧ (compOf s.dev.sec (rdU c.payload 0 1)).total ≠ none) ∧
    Asks (cmd 0x1F1 (le 1 1 ++ zeros 3 ++ le 4 65536)) (inState .ready ready) (fun s _ => loaderOpen s.dev = false) ∧
    Asks (cmd 0x1F2 (le 1 1 ++ zeros 3 ++ le 4 16 ++ le 4 16 ++ zeros 16)) ready (fun s _ => loaderOpen s.dev = false) ∧
    Asks (cmd 0x1F3 (le 1 1)) ready (fun s _ => loaderOpen s.dev = false) ∧
    Asks (cmd 0x1F2 (le 1 1 ++ zeros 3 ++ le 4 16 ++ le 4 16 ++ zeros 16)) (modSec (fun x => {x with owner := 1}) rom) (fun s c =>
      loaderOpen s.dev = true ∧ loaderBusy s.dev (portOfMb c.mb) = true) ∧
    Asks (cmd 0x1F3 (le 1 1)) (modSec (fun x => {x with owner := 1}) rom) (fun s c => loaderOpen s.dev = true ∧
      loaderBusy s.dev (portOfMb c.mb) = true) := by
  and_intros <;> decide +kernel

/-- Whether the signature of a component holds is an open value; this one lacks what the loader asks for. -/
theorem test_witness_SecondComponentStartsFirmware :
    Asks (cmd 0x1F3 (le 1 1)) lo2 (fun s c => loaderOpen s.dev = true ∧ loaderBusy s.dev (portOfMb c.mb) = false ∧
      (rdU c.payload 0 1 = 1 ∨ rdU c.payload 0 1 = 2) ∧ (compOf s.dev.sec (3 - rdU c.payload 0 1)).verified = true ∧
      loaderReason (rdU c.payload 0 1) (compOf s.dev.sec (rdU c.payload 0 1)) (compOf s.dev.sec (3 - rdU c.payload 0 1)) ≠ 0) := by
  decide +kernel

end Security

namespace Staging

def set1 (id v : Nat) : Bytes := le 2 1 ++ zeros 2 ++ le 2 id ++ zeros 2 ++ le 4 v
def get1 (w id : Nat) : Bytes := le 1 w ++ zeros 1 ++ le 2 1 ++ le 2 id
def stg (id : Nat) : Dev := modKmp (fun k => {k with staged := {k.staged with params := [(id, 77)]}}) ready
def rec0 : Bytes := patch (loopDefault 0) 0x78 (le 2 1)
def planP : Bytes := planBytes { Plan.default with planId := 2 }
def entry0 : Bytes := [0#8, 0#8, 0#8, 0#8, 0#8, 1#8, 0#8, 0#8]
def alP : Bytes := (List.replicate 136 entry0).flatten
def badP : Bytes := [0#8, 0#8, 0#8, 0#8, 0#8, 1#8, 1#8, 0#8] ++ zeros 1080

/-- An alignment table whose entries are all good, entry by entry as the statement asks. -/
theorem test_align_table (i : Nat) (hi : i < 136) :
    (alignEntryOk ((parseAlign alP).getD i ⟨0, 0, 0⟩) && rdU alP (8 * i + 6) 2 == 0) = true := by
  have f (k m : Nat) (h : k + m ≤ 8) : rdU alP (8 * i + k) m = rdU entry0 k m := rdU_alike entry0 136 i k m hi h
  have f0 : rdU alP (8 * i) 2 = rdU entry0 0 2 := f 0 2 (by decide)
  have g : (parseAlign alP).getD i ⟨0, 0, 0⟩ = ⟨0, 0, 256⟩ := by
    simp only [parseAlign, List.getD_eq_getElem?_getD, List.getElem?_map, List.getElem?_range hi, Option.map_some, Option.getD_some,
      rdS, f0, f 2 2 (by decide), f 4 2 (by decide)]
    decide +kernel
  rw [g, f 6 2 (by decide)]
  decide +kernel

theorem test_witness_ParameterSetsStage :
    Asks (cmd 0x400 (set1 0x401 9)) ready (fun s c => s.dev.kmp.commit = none ∧ 1 ≤ (prmEntries c.payload).length ∧
      (prmEntries c.payload).length ≤ 125 ∧ (∀ e ∈ prmEntries c.payload, e.1 / 256 = 4 ∧ paramKnown e.1 = true ∧ paramOk e.1 e.2 = true) ∧
      relationHit (paramsWith (paramsAfter (s.taken c 1) s.dev.kmp.staged) (prmEntries c.payload)) (prmEntries c.payload) = none ∧
      (∀ e ∈ prmEntries c.payload, prmBarred (s.taken c 1) e.1 = false)) ∧
    Asks (cmd 0x400 (set1 0x401 9)) (modKmp (fun k => {k with commit := some ⟨1, 9, false, 0, 0, 0, 0, 0⟩}) ready) (fun s _ =>
      s.dev.kmp.commit ≠ none) ∧
    Asks (cmd 0x400 (le 2 0 ++ zeros 2)) ready (fun s c => s.dev.kmp.commit = none ∧
      ((prmEntries c.payload).length = 0 ∨ 125 < (prmEntries c.payload).length)) ∧
    Asks (cmd 0x400 (le 2 2 ++ zeros 2 ++ le 2 0x401 ++ zeros 2 ++ le 4 9 ++ le 2 0x501 ++ zeros 2 ++ le 4 1)) ready (fun s c =>
      Option.any (fun x0 => decide (s.dev.kmp.commit = none ∧ (prmEntries c.payload).length ≤ 125 ∧
      ¬(x0.1 / 256 = 4 ∧ paramKnown x0.1 = true ∧ paramOk x0.1 x0.2 = true) ∧ ∀ x ∈ List.take 1 (prmEntries c.payload), x.1 / 256 = 4 ∧
      paramKnown x.1 = true ∧ paramOk x.1 x.2 = true)) (prmEntries c.payload)[1]? = true) := by
  and_intros <;> decide +kernel

theorem test_witness_ParameterGetsAnswer :
    Asks (cmd 0x401 (get1 1 0x401)) (stg 0x401) (fun _ _ => True) ∧
    Asks (cmd 0x401 (get1 2 0x401)) (stg 0x401) (fun _ _ => True) := by
  and_intros <;> decide +kernel

theorem test_witness_PlanAndReceiveWritesStage :
    Asks (cmd 0x300 planP) ready (fun s _ => s.dev.kmp.commit = none) ∧
    Asks (cmd 0x300 (zeros 48)) ready (fun s _ => s.dev.kmp.commit = none) ∧
    Asks (cmd 0x602 (le 2 5 ++ zeros 270)) ready (fun s _ => s.dev.kmp.commit = none) ∧
    Asks (cmd 0x1101 (le 2 0 ++ zeros 2)) ready (fun s c => s.dev.kmp.commit = none ∧ (rdU c.payload 0 2 = 0 ∨ 125 < rdU c.payload 0 2)) ∧
    Asks (cmd 0x1101 (le 2 1 ++ zeros 2 ++ le 1 160 ++ le 1 4 ++ le 2 639 ++ le 1 3 ++ zeros 3)) ready (fun s c =>
      s.dev.kmp.commit = none ∧ rdU c.payload 0 2 ≤ 125 ∧ 0 < rdU c.payload 0 2 ∧ (∀ j < 0, maskEntryOk c.payload j = true) ∧
      maskEntryOk c.payload 0 = false) ∧
    Asks (cmd 0x1101 (le 2 1 ++ zeros 2 ++ le 1 159 ++ le 1 4 ++ le 2 639 ++ le 1 3 ++ zeros 3)) ready (fun s c =>
      s.dev.kmp.commit = none ∧ 1 ≤ rdU c.payload 0 2 ∧ rdU c.payload 0 2 ≤ 125 ∧
      (∀ i < rdU c.payload 0 2, maskEntryOk c.payload i = true)) ∧
    Asks (cmd 0x1102 (le 1 135 ++ zeros 3)) ready (fun s c => s.dev.kmp.commit = none ∧ rdU c.payload 0 1 ≤ 135) ∧
    Asks (cmd 0x1102 (le 1 136 ++ zeros 3)) ready (fun s c => s.dev.kmp.commit = none ∧ 135 < rdU c.payload 0 1) := by
  and_intros <;> decide +kernel

theorem test_witness_PlanAndReceiveWritesStage_align :
    Asks (cmd 0x402 alP) ready (fun s c => s.dev.kmp.commit = none ∧ c.payload = alP) ∧
    Asks (cmd 0x402 badP) ready (fun s c => s.dev.kmp.commit = none ∧
      (alignEntryOk ((parseAlign c.payload).getD 0 ⟨0, 0, 0⟩) && rdU c.payload (8 * 0 + 6) 2 == 0) = false) := by
  and_intros <;> decide +kernel

theorem test_witness_DriveWritesStage :
    Asks (cmd 0x702 (le 1 135 ++ le 1 1 ++ zeros 2 ++ le 2 0x050)) ready (fun s c => s.dev.kmp.commit = none ∧ 1 ≤ rdU c.payload 1 1 ∧
      rdU c.payload 0 1 + rdU c.payload 1 1 ≤ 136 ∧ (∀ i < rdU c.payload 1 1, driveWordOk (rdU c.payload (4 + 2 * i) 2 % 4096) = true)) ∧
    Asks (cmd 0x902 (le 1 15 ++ le 1 1 ++ zeros 2 ++ le 4 (entryWord ready 0))) ready (fun s c => s.dev.kmp.commit = none ∧
      1 ≤ rdU c.payload 1 1 ∧ rdU c.payload 0 1 + rdU c.payload 1 1 ≤ 16 ∧
      (∀ i < rdU c.payload 1 1, entryWordOk (clrBits 32 (rdU c.payload (4 + 4 * i) 4) 6144) = true)) ∧
    Asks (cmd 0xA02 (le 1 0 ++ zeros 3 ++ rec0)) ready (fun s c => s.dev.kmp.commit = none ∧ rdU c.payload 0 1 ≤ 15 ∧
      loopRecOk (rdU c.payload 0 1) (loopKept (slice c.payload 4 128)) = true ∧
      loopRecFixed (rdU c.payload 0 1) (loopKept (slice c.payload 4 128)) = true) ∧
    Asks (cmd 0xA02 (le 1 1 ++ zeros 3 ++ rec0)) ready (fun s c => s.dev.kmp.commit = none ∧ rdU c.payload 0 1 ≤ 15 ∧
      loopRecOk (rdU c.payload 0 1) (loopKept (slice c.payload 4 128)) = true ∧
      loopRecFixed (rdU c.payload 0 1) (loopKept (slice c.payload 4 128)) = false) ∧
    Asks (cmd 0x702 (le 1 0 ++ le 1 0 ++ zeros 2)) ready (fun s c => s.dev.kmp.commit = none ∧
      (rdU c.payload 1 1 = 0 ∨ 136 < rdU c.payload 0 1 + rdU c.payload 1 1)) ∧
    Asks (cmd 0x702 (le 1 135 ++ le 1 1 ++ zeros 2 ++ le 2 0xFFF)) ready (fun s c => s.dev.kmp.commit = none ∧
      rdU c.payload 0 1 + rdU c.payload 1 1 ≤ 136 ∧ 0 < rdU c.payload 1 1 ∧
      (∀ j < 0, driveWordOk (rdU c.payload (4 + 2 * j) 2 % 4096) = true) ∧ driveWordOk (rdU c.payload (4 + 2 * 0) 2 % 4096) = false) ∧
    Asks (cmd 0x902 (le 1 15 ++ le 1 0 ++ zeros 2)) ready (fun s c => s.dev.kmp.commit = none ∧
      (rdU c.payload 1 1 = 0 ∨ 16 < rdU c.payload 0 1 + rdU c.payload 1 1)) ∧
    Asks (cmd 0x902 (le 1 15 ++ le 1 1 ++ zeros 2 ++ le 4 0xFFFFFFFF)) ready (fun s c => s.dev.kmp.commit = none ∧
      rdU c.payload 0 1 + rdU c.payload 1 1 ≤ 16 ∧ 0 < rdU c.payload 1 1 ∧
      (∀ j < 0, entryWordOk (clrBits 32 (rdU c.payload (4 + 4 * j) 4) 6144) = true) ∧
      entryWordOk (clrBits 32 (rdU c.payload (4 + 4 * 0) 4) 6144) = false) ∧
    Asks (cmd 0xA02 (le 1 16 ++ zeros 3 ++ rec0)) ready (fun s c => s.dev.kmp.commit = none ∧
      (15 < rdU c.payload 0 1 ∨ loopRecOk (rdU c.payload 0 1) (loopKept (slice c.payload 4 128)) = false)) := by
  and_intros <;> decide +kernel

end Staging

namespace Reading

def planP : Bytes := planBytes { Plan.default with planId := 2 }
def rr : Bytes := le 4 0 ++ le 2 4096
def held (k : Nat) : Held := ⟨ConfigSet.empty, 1, 4, 5, k, 0, 0⟩
def mh : Dev := modSync (fun y => { y with held := some (held 1)}) ready

theorem test_witness_PlanAndReceiveReadsAnswer :
    Asks (cmd 0x301 (le 1 0)) ready (fun _ c => rdU c.payload 0 1 = 0) ∧
    Asks (cmd 0x301 (le 1 3)) (modKmp (fun k => {k with staged := {k.staged with plan := some Plan.default}}) ready) (fun _ c =>
      rdU c.payload 0 1 = 3) ∧
    Asks (cmd 0x301 (le 1 4)) ready (fun _ c => 4 ≤ rdU c.payload 0 1) ∧
    Asks (cmd 0x302 planP) ready (fun s c => planFormOk c.payload = true ∧
      planChecks19 (planEnv s.dev.prm.vals) (courseComing (s.taken c 1)) (parsePlan c.payload) = none) ∧
    Asks (cmd 0x302 (planBytes { Plan.default with planId := 2, period := 40000000 })) ready (fun s c => planFormOk c.payload = true ∧
      (planChecks19 (planEnv s.dev.prm.vals) (courseComing (s.taken c 1)) (parsePlan c.payload)).isSome = true) ∧
    Asks (cmd 0x303 (le 2 0 ++ le 2 7 ++ le 2 3)) ready (fun s c => (columnsOf (s.taken c 1) (rdU c.payload 0 1)).isSome = true) ∧
    Asks (cmd 0x306 []) ready (fun s _ => s.dev.sync.held = none) ∧
    Asks (cmd 0x403 (le 1 0)) ready (fun _ c => rdU c.payload 0 1 = 0) ∧
    Asks (cmd 0x404 (le 2 1094 ++ le 2 2 ++ le 1 0)) ready (fun _ _ => True) ∧
    Asks (cmd 0x405 (le 2 1086 ++ le 2 2)) ready (fun _ _ => True) ∧
    Asks (cmd 0x406 (le 2 1086 ++ le 2 2)) ready (fun _ _ => True) ∧
    Asks (cmd 0x603 []) ready (fun _ _ => True) ∧
    Asks (cmd 0x1100 (le 4 103800 ++ le 4 56)) ready (fun _ _ => True) ∧
    Asks (cmd 0x503 []) ready (fun _ _ => True) ∧
    Asks (cmd 0x301 (le 1 1)) ready (fun _ c => rdU c.payload 0 1 = 1) ∧
    Asks (cmd 0x301 (le 1 2)) ready (fun _ c => rdU c.payload 0 1 = 2) ∧
    Asks (cmd 0x302 (zeros 48)) ready (fun _ c => planFormOk c.payload = false) ∧
    Asks (cmd 0x303 (le 2 9 ++ le 2 7 ++ le 2 3)) ready (fun s c => columnsOf (s.taken c 1) (rdU c.payload 0 1) = none) ∧
    Asks (cmd 0x303 (le 2 0 ++ le 2 7 ++ le 2 4097)) ready (fun s c => (columnsOf (s.taken c 1) (rdU c.payload 0 1)).isSome = true) ∧
    Asks (cmd 0x403 (le 1 1)) ready (fun _ c => rdU c.payload 0 1 = 1) ∧
    Asks (cmd 0x403 (le 1 2)) ready (fun _ c => 2 ≤ rdU c.payload 0 1) ∧
    Asks (cmd 0x306 []) mh (fun s _ => s.dev.sync.held.isSome = true) := by
  and_intros <;> decide +kernel

theorem test_witness_DriveReadsAnswer :
    Asks (cmd 0x703 (le 1 0)) ready (fun _ c => rdU c.payload 0 1 = 0) ∧
    Asks (cmd 0x703 (le 1 1)) ready (fun _ c => rdU c.payload 0 1 = 1) ∧
    Asks (cmd 0x703 (le 1 2)) ready (fun _ c => 2 ≤ rdU c.payload 0 1) ∧
    Asks (cmd 0x704 []) ready (fun _ _ => True) ∧
    Asks (cmd 0x705 []) ready (fun _ _ => True) ∧
    Asks (cmd 0x804 []) ready (fun _ _ => True) ∧
    Asks (cmd 0x903 (le 1 0)) ready (fun _ c => rdU c.payload 0 1 = 0) ∧
    Asks (cmd 0x903 (le 1 2)) ready (fun _ c => 2 ≤ rdU c.payload 0 1) ∧
    Asks (cmd 0x904 (le 1 0)) ready (fun _ c => rdU c.payload 0 1 ≤ 15) ∧
    Asks (cmd 0x904 (le 1 16)) ready (fun _ c => 16 ≤ rdU c.payload 0 1) ∧
    Asks (cmd 0x905 rr) ready (fun _ _ => True) ∧
    Asks (cmd 0xA03 (le 1 15 ++ le 1 0)) ready (fun _ c => rdU c.payload 0 1 ≤ 15 ∧ rdU c.payload 1 1 = 0) ∧
    Asks (cmd 0xA05 []) ready (fun _ _ => True) ∧
    Asks (cmd 0x903 (le 1 1)) ready (fun _ c => rdU c.payload 0 1 = 1) ∧
    Asks (cmd 0xA03 (le 1 15 ++ le 1 1)) ready (fun _ c => rdU c.payload 0 1 ≤ 15 ∧ rdU c.payload 1 1 = 1) ∧
    Asks (cmd 0xA03 (le 1 15 ++ le 1 2)) ready (fun _ c => (15 < rdU c.payload 0 1 ∨ 1 < rdU c.payload 1 1)) := by
  and_intros <;> decide +kernel

end Reading

namespace Clearing

def sat : Dev := modHisto (fun h => {h with status := [(1087, {LaneStatus.none with sat := true})]}) ready
def pd : Dev := modSlu (fun l => {l with ports := l.ports.map (fun x => {x with wdBite := true, dropSeen := true})}) ready
def sb : Dev := modSaf (fun x => {x with committed := some (zeros 1024), committedCheck := 5, pending := some (le 16 1, 6, 2000000000)})
  ready

theorem test_witness_SubscriptionsAndPoolsStage :
    Asks (cmd 0xB02 (le 1 1 ++ zeros 1 ++ le 2 1 ++ le 2 100 ++ le 1 5 ++ le 1 7)) ready (fun s c => s.dev.kmp.commit = none ∧
      rdU c.payload 0 1 ≤ 2 ∧ 1 ≤ rdU c.payload 2 2 ∧ rdU c.payload 2 2 ≤ 8192 ∧
      (∀ i < rdU c.payload 2 2, subStatus (s.taken c 1) (rdU c.payload 0 1) (subEntry c.payload i) = stOk)) ∧
    Asks (cmd 0xB04 (le 4 8191 ++ le 4 1024 ++ le 4 512 ++ le 4 55809)) ready (fun s c => s.dev.kmp.commit = none ∧
      ¬((List.map (fun i => rdU c.payload (4 * i) 4) (List.range 4)).sum = 65536 ∧
      8192 ≤ (List.map (fun i => rdU c.payload (4 * i) 4) (List.range 4)).getD 0 0 ∧
      1024 ≤ (List.map (fun i => rdU c.payload (4 * i) 4) (List.range 4)).getD 1 0 ∧
      512 ≤ (List.map (fun i => rdU c.payload (4 * i) 4) (List.range 4)).getD 2 0)) ∧
    Asks (cmd 0xB04 (le 4 8192 ++ le 4 1024 ++ le 4 512 ++ le 4 55808)) ready (fun s c => s.dev.kmp.commit = none ∧
      ((List.map (fun i => rdU c.payload (4 * i) 4) (List.range 4)).sum = 65536 ∧
      8192 ≤ (List.map (fun i => rdU c.payload (4 * i) 4) (List.range 4)).getD 0 0 ∧
      1024 ≤ (List.map (fun i => rdU c.payload (4 * i) 4) (List.range 4)).getD 1 0 ∧
      512 ≤ (List.map (fun i => rdU c.payload (4 * i) 4) (List.range 4)).getD 2 0) ∧ s.dev.sys.op = OpState.ready) ∧
    Asks (cmd 0xB04 (le 4 8192 ++ le 4 1024 ++ le 4 512 ++ le 4 55808)) (inState .armed ready) (fun s c => s.dev.kmp.commit = none ∧
      ((List.map (fun i => rdU c.payload (4 * i) 4) (List.range 4)).sum = 65536 ∧
      8192 ≤ (List.map (fun i => rdU c.payload (4 * i) 4) (List.range 4)).getD 0 0 ∧
      1024 ≤ (List.map (fun i => rdU c.payload (4 * i) 4) (List.range 4)).getD 1 0 ∧
      512 ≤ (List.map (fun i => rdU c.payload (4 * i) 4) (List.range 4)).getD 2 0) ∧ s.dev.sys.op ≠ OpState.ready) ∧
    Asks (cmd 0xB02 (le 1 3 ++ zeros 1 ++ le 2 1 ++ le 2 100 ++ le 1 5 ++ le 1 7)) ready (fun s c => s.dev.kmp.commit = none ∧
      (2 < rdU c.payload 0 1 ∨ rdU c.payload 2 2 = 0 ∨ 8192 < rdU c.payload 2 2)) ∧
    Asks (cmd 0xB02 (le 1 1 ++ zeros 1 ++ le 2 1 ++ le 2 0xFFFF ++ le 1 5 ++ le 1 7)) ready (fun s c => s.dev.kmp.commit = none ∧
      rdU c.payload 0 1 ≤ 2 ∧ rdU c.payload 2 2 ≤ 8192 ∧ 0 < rdU c.payload 2 2 ∧
      (∀ j < 0, subStatus (s.taken c 1) (rdU c.payload 0 1) (subEntry c.payload j) = stOk) ∧
      subStatus (s.taken c 1) (rdU c.payload 0 1) (subEntry c.payload 0) ≠ stOk) := by
  and_intros <;> decide +kernel

theorem test_witness_ClearsAndPortSettingsApply :
    Asks (cmd 0x407 (le 2 1087 ++ le 2 1)) sat (fun _ _ => True) ∧
    Asks (cmd 0x407 (le 2 1087 ++ le 2 2)) sat (fun _ _ => True) ∧
    Asks (cmd 0x706 (le 1 135 ++ le 1 1 ++ le 1 0x81)) ready (fun _ _ => True) ∧
    Asks (cmd 0x706 (le 1 135 ++ le 1 2 ++ le 1 0x81)) ready (fun _ _ => True) ∧
    Asks (cmd 0x805 []) (modScan (fun x => {x with tripSeen := true}) ready) (fun _ _ => True) ∧
    Asks (cmd 0xA06 (le 2 3 ++ le 1 8)) ready (fun _ c => 7 < rdU c.payload 2 1) ∧
    Asks (cmd 0xA06 (le 2 3 ++ le 1 7))
      (modLoops (fun l => {l with slots := l.slots.map (fun x => {x with sat := true, ovrSeen := true, bump := true})}) ready) (fun _ c =>
      rdU c.payload 2 1 ≤ 7) ∧
    Asks (cmd 0xB0A (le 1 7 ++ le 1 1)) pd (fun _ c => rdU c.payload 0 1 ≤ 7 ∧ rdU c.payload 1 1 ≤ 3) ∧
    Asks (cmd 0xB0A (le 1 8 ++ le 1 1)) pd (fun _ c => (7 < rdU c.payload 0 1 ∨ 3 < rdU c.payload 1 1)) ∧
    Asks (cmd 0xE09 (le 1 0x81)) (modHst (fun h => {h with conns := h.conns.map (fun x => {x with seen := true})}) ready) (fun _ _ =>
      True) ∧
    Asks (cmd 0xB05 (le 1 0 ++ le 1 6 ++ le 1 3)) ready (fun _ _ => True) ∧
    Asks (cmd 0xB05 (le 1 2 ++ le 1 5 ++ le 1 3)) ready (fun _ _ => True) ∧
    Asks (cmd 0xB06 (le 1 2 ++ le 1 1)) ready (fun _ c => rdU c.payload 0 1 ≤ 2 ∧ rdU c.payload 1 1 ≤ 1 ∧ 0 ≠ rdU c.payload 0 1) ∧
    Asks (cmd 0xB06 (le 1 2 ++ le 1 1)) ready (fun s c => rdU c.payload 0 1 ≤ 2 ∧ rdU c.payload 1 1 ≤ 1 ∧
      rdU c.payload 0 1 < (s.taken c 1).slu.ports.length) ∧
    Asks (cmd 0xB06 (le 1 3 ++ le 1 0)) ready (fun _ c => (2 < rdU c.payload 0 1 ∨ 1 < rdU c.payload 1 1)) ∧
    Asks (cmd 0xB07 (le 1 2 ++ zeros 1 ++ le 2 100)) ready (fun _ _ => True) ∧
    Asks (cmd 0xB07 (le 1 2 ++ zeros 1 ++ le 2 101)) ready (fun _ _ => True) := by
  and_intros <;> decide +kernel

theorem test_witness_StreamSafetyAndNetworkReadsAnswer :
    Asks (cmd 0xB03 (le 1 2 ++ zeros 1 ++ le 2 8190 ++ le 2 2)) ready (fun _ _ => True) ∧
    Asks (cmd 0xB08 []) ready (fun _ _ => True) ∧
    Asks (cmd 0xB09 []) ready (fun _ _ => True) ∧
    Asks (cmd 0xC01 []) ready (fun _ _ => True) ∧
    Asks (cmd 0xC04 []) ready (fun _ _ => True) ∧
    Asks (cmd 0xD01 []) ready (fun _ _ => True) ∧
    Asks (cmd 0xE02 (le 1 0)) sb (fun s c => rdU c.payload 0 1 = 0 ∧ s.dev.saf.committed.isSome = true) ∧
    Asks (cmd 0xE02 (le 1 1)) sb (fun s c => rdU c.payload 0 1 = 1 ∧ s.dev.saf.pending.isSome = true) ∧
    Asks (cmd 0xE02 (le 1 2)) sb (fun _ c => 2 ≤ rdU c.payload 0 1) ∧
    Asks (cmd 0xE03 []) ready (fun _ _ => True) ∧
    Asks (cmd 0xE08 []) ready (fun _ _ => True) ∧
    Asks (cmd 0xF03 []) ready (fun _ _ => True) ∧
    Asks (cmd 0xF07 []) ready (fun _ _ => True) ∧
    Asks (cmd 0xE02 (le 1 0)) ready (fun s c => rdU c.payload 0 1 = 0 ∧ s.dev.saf.committed = none) ∧
    Asks (cmd 0xE02 (le 1 1)) ready (fun s c => rdU c.payload 0 1 = 1 ∧ s.dev.saf.pending = none) ∧
    Asks (cmd 0xF0C []) ready (fun _ _ => True) := by
  and_intros <;> decide +kernel

end Clearing

namespace Beginning

def set1 (id v : Nat) : Bytes := le 2 1 ++ zeros 2 ++ le 2 id ++ zeros 2 ++ le 4 v
def nosess : Dev := modKmp (fun k => {k with session := none}) ready
def sa (dir sc an : Nat) : Bytes := le 1 dir ++ le 1 sc ++ le 1 an ++ le 1 1 ++ le 8 77 ++ le 4 1 ++ zeros 32
def keyed : Dev := modNet (fun n => {n with txSas := setSa 3 (some ⟨true, 1, zeros 32⟩) n.txSas}) ready
def master : Dev := modPrm (fun x => {x with vals := tabPut 0xF0A 2 x.vals}) ready
def held (k : Nat) : Held := ⟨ConfigSet.empty, 1, 4, 5, k, 0, 0⟩
def mh : Dev := modSync (fun y => {y with held := some (held 1)}) master
def mir : Dev := modPrm (fun x => {x with vals := tabPut 0x801 1 x.vals}) ready
def pc (segs trig : Nat) : Bytes := le 8 1 ++ le 2 1 ++ le 1 1 ++ le 1 0 ++ le 1 segs ++ le 1 0 ++ zeros 1 ++ le 1 trig ++ zeros 48
def capt : Capture := ⟨1, 0, 0, 0, 0, 0, 0, 0, 0, 0, 0, 0, 0⟩
def cp : Dev := modPeatSeg 0 (fun x => {x with desc := some capt, entries := [zeros 32]}) ready
def c0 : Cmd := { cmd 0xC05 (le 4 1 ++ le 4 16 ++ le 4 16) with mb := 0 }
def ipp (fam pre ip : Nat) : Bytes := le 1 fam ++ le 1 pre ++ zeros 2 ++ le 16 ip ++ zeros 16
def remote : Dev := modKmp (fun k =>
  {k with session := some ⟨5, 2, 2000, 4000000000⟩, mbs := listMod k.mbs 2 (fun m => {m with present := true, rom := false})}) ready
def cr : Cmd := { cmd 0xF02 (ipp (mbFamily remote 2) 24 0xC0A80001) with mb := 2 }
def chan (x : Nat) : Dev := modRxSc 7 (fun s => {s with sci := some x, sas := setSa 2 (some ⟨true, 1, zeros 32⟩) s.sas})
  (modMb 9 (fun m => {m with present := true, rom := false}) ready)
def dl (dir sc an fl : Nat) : Bytes := le 1 dir ++ le 1 sc ++ le 1 an ++ le 1 fl
def running : Dev := modSync (fun y => {y with run := some ⟨1, 9, 1, 9, 20, none, 0, 0, 0, false⟩}) mh

theorem test_witness_NetworkSettingsApply :
    Asks (cmd 0xF00 (set1 0xF05 4094)) ready (fun s c => 1 ≤ (prmEntries c.payload).length ∧ (prmEntries c.payload).length ≤ 125 ∧
      (∀ e ∈ prmEntries c.payload, e.1 / 256 = 15 ∧ paramKnown e.1 = true ∧ paramOk e.1 e.2 = true ∧ prmBarred (s.taken c 1) e.1 = false)
      ∧ relationHit (paramsWith s.dev.prm.vals (prmEntries c.payload)) (prmEntries c.payload) = none ∧
      (∀ e ∈ prmEntries c.payload, e.1 ≠ 3848 ∧ e.1 ≠ 3850 ∧ e.1 ≠ 3852)) ∧
    Asks (cmd 0xF00 (le 2 0 ++ zeros 2)) ready (fun _ c => prmEntries c.payload = []) ∧
    Asks (cmd 0xF02 (le 1 4 ++ le 1 33 ++ zeros 2 ++ le 16 0x01020304 ++ zeros 16)) ready (fun _ c => ipSetOk c.payload = false) ∧
    Asks (cmd 0xF02 (le 1 4 ++ le 1 32 ++ zeros 2 ++ le 16 0x01020304 ++ zeros 16)) nosess (fun s c => ipSetOk c.payload = true ∧
      (s.dev.kmp.session = none ∨ (ipSetting c.payload).addr = (ipOf s.dev (rdU c.payload 0 1)).addr)) ∧
    Asks (cmd 0xF08 (le 1 7 ++ le 1 4 ++ le 2 99 ++ le 16 5)) ready (fun s c => destOk c.payload = true ∧
      (rdU c.payload 1 1 ≠ 0 ∨ destNamed (s.taken c 1) (rdU c.payload 0 1) = false)) ∧
    Asks (cmd 0xF08 (le 1 7 ++ le 1 0 ++ le 2 99 ++ le 16 5)) (modSlu (fun x => {x with subs := [(5, (1, 7))]}) ready) (fun s c =>
      destOk c.payload = true ∧ rdU c.payload 1 1 = 0 ∧ destNamed (s.taken c 1) (rdU c.payload 0 1) = true) ∧
    Asks (cmd 0xF08 (le 1 8 ++ le 1 0 ++ le 2 99 ++ le 16 5)) ready (fun _ c => destOk c.payload = false) ∧
    Asks (cmd 0xF09 (le 1 7 ++ le 1 4 ++ le 2 99 ++ le 16 5)) ready (fun _ c => destOk c.payload = true) ∧
    Asks (cmd 0xF09 (le 1 8 ++ le 1 4 ++ le 2 99 ++ le 16 5)) ready (fun _ c => destOk c.payload = false) ∧
    Asks (cmd 0xF00 (set1 0xF0C 1)) ready (fun s c => 1 ≤ (prmEntries c.payload).length ∧ (prmEntries c.payload).length ≤ 125 ∧
      (∀ e ∈ prmEntries c.payload, e.1 / 256 = 15 ∧ paramKnown e.1 = true ∧ paramOk e.1 e.2 = true ∧ prmBarred (s.taken c 1) e.1 = false)
      ∧ relationHit (paramsWith s.dev.prm.vals (prmEntries c.payload)) (prmEntries c.payload) = none ∧ prmEntries c.payload = [(3852, 1)]) ∧
    Asks (cmd 0xF00 (set1 0xF08 1)) ready (fun s c => 1 ≤ (prmEntries c.payload).length ∧ (prmEntries c.payload).length ≤ 125 ∧
      (∀ e ∈ prmEntries c.payload, e.1 / 256 = 15 ∧ paramKnown e.1 = true ∧ paramOk e.1 e.2 = true ∧ prmBarred (s.taken c 1) e.1 = false)
      ∧ relationHit (paramsWith s.dev.prm.vals (prmEntries c.payload)) (prmEntries c.payload) = none ∧
      prmEntries c.payload = [(3848, 1)] ∧ (1 ≠ 0 ∨ s.dev.kmp.session = none)) ∧
    Asks (cmd 0xF00 (set1 0xF0A 1)) mh (fun s c => 1 ≤ (prmEntries c.payload).length ∧ (prmEntries c.payload).length ≤ 125 ∧
      (∀ e ∈ prmEntries c.payload, e.1 / 256 = 15 ∧ paramKnown e.1 = true ∧ paramOk e.1 e.2 = true ∧ prmBarred (s.taken c 1) e.1 = false)
      ∧ relationHit (paramsWith s.dev.prm.vals (prmEntries c.payload)) (prmEntries c.payload) = none ∧ prmEntries c.payload = [(3850, 1)]) ∧
    Asks cr remote (fun s _ => Option.any (fun x0 =>
      decide (ipSetOk (cr).payload = true ∧ 2 ≤ x0.mb ∧ mbFamily s.dev x0.mb = rdU (cr).payload 0 1 ∧
      (ipSetting (cr).payload).addr ≠ (ipOf s.dev (rdU (cr).payload 0 1)).addr)) s.dev.kmp.session = true) := by
  and_intros <;> decide +kernel

theorem test_witness_MacsecKeysAreManaged :
    Asks (cmd 0xF04 (sa 0 0 3)) ready (fun s c => rdU c.payload 0 1 = 0 ∧ rdU c.payload 2 1 ≤ 3 ∧
      txInUse (s.taken c 1) (rdU c.payload 2 1) = false) ∧
    Asks (cmd 0xF04 (sa 0 0 0)) (modNet (fun n => {n with txStopped := false, txAn := 0}) ready) (fun s c => rdU c.payload 0 1 = 0 ∧
      rdU c.payload 2 1 ≤ 3 ∧ txInUse (s.taken c 1) (rdU c.payload 2 1) = true) ∧
    Asks (cmd 0xF04 (sa 1 7 3)) ready (fun s c => rdU c.payload 0 1 = 1 ∧ rdU c.payload 2 1 ≤ 3 ∧ rdU c.payload 1 1 ≤ 7 ∧
      (rxSc (s.taken c 1) (rdU c.payload 1 1)).sci = none) ∧
    Asks (cmd 0xF05 (sa 0 0 3)) ready (fun s c => rdU c.payload 0 1 = 0 ∧ rdU c.payload 2 1 ≤ 3 ∧
      netSa (s.taken c 1) (rdU c.payload 2 1) = none) ∧
    Asks (cmd 0xF05 (sa 0 0 3)) keyed (fun s c => rdU c.payload 0 1 = 0 ∧ rdU c.payload 2 1 ≤ 3 ∧
      netSa (s.taken c 1) (rdU c.payload 2 1) ≠ none ∧ txInUse (s.taken c 1) (rdU c.payload 2 1) = false) ∧
    Asks (cmd 0xF05 (sa 0 0 3)) (modNet (fun n => {n with txAn := 3, txStopped := false}) keyed) (fun s c => rdU c.payload 0 1 = 0 ∧
      rdU c.payload 2 1 ≤ 3 ∧ netSa (s.taken c 1) (rdU c.payload 2 1) ≠ none ∧ txInUse (s.taken c 1) (rdU c.payload 2 1) = true) ∧
    Asks (cmd 0xF06 (le 1 3)) keyed (fun _ _ => True) ∧
    Asks (cmd 0xF06 (le 1 3)) ready (fun _ _ => True) ∧
    Asks (cmd 0xF04 (sa 1 8 3)) ready (fun _ c => (1 < rdU c.payload 0 1 ∨ 3 < rdU c.payload 2 1 ∨ rdU c.payload 0 1 = 1 ∧
      7 < rdU c.payload 1 1)) ∧
    Asks (cmd 0xF04 (sa 1 7 3)) (chan 77) (fun s c => rdU c.payload 0 1 = 1 ∧ rdU c.payload 2 1 ≤ 3 ∧ rdU c.payload 1 1 ≤ 7 ∧
      (rxSc (s.taken c 1) (rdU c.payload 1 1)).sci = some (rdU c.payload 4 8)) ∧
    Asks (cmd 0xF04 (sa 1 7 3)) (chan 78) (fun s c =>
      Option.any (fun x0 => decide (rdU c.payload 0 1 = 1 ∧ rdU c.payload 2 1 ≤ 3 ∧ rdU c.payload 1 1 ≤ 7 ∧ x0 ≠ rdU c.payload 4 8))
      (rxSc (s.taken c 1) (rdU c.payload 1 1)).sci = true) ∧
    Asks (cmd 0xF05 (sa 1 7 4)) (chan 78) (fun _ c => (1 < rdU c.payload 0 1 ∨ 3 < rdU c.payload 2 1 ∨ rdU c.payload 0 1 = 1 ∧
      7 < rdU c.payload 1 1)) ∧
    Asks (cmd 0xF05 (dl 1 7 2 0)) (chan 78) (fun s c => rdU c.payload 0 1 = 1 ∧ rdU c.payload 2 1 ≤ 3 ∧ rdU c.payload 1 1 ≤ 7 ∧
      bit (rdU c.payload 3 1) 0 = false ∧ (rxSc (s.taken c 1) (rdU c.payload 1 1)).sas.getD (rdU c.payload 2 1) none ≠ none) ∧
    Asks (cmd 0xF05 (dl 1 7 0 1)) (modKmp (fun k => {k with session := none}) (chan 78)) (fun s c => rdU c.payload 0 1 = 1 ∧
      rdU c.payload 2 1 ≤ 3 ∧ rdU c.payload 1 1 ≤ 7 ∧ bit (rdU c.payload 3 1) 0 = true ∧
      (rxSc (s.taken c 1) (rdU c.payload 1 1)).sci ≠ none ∧ s.dev.kmp.session = none) := by
  and_intros <;> decide +kernel

theorem test_witness_SyncCommandsBegin :
    Asks (cmd 0x304 (le 1 1 ++ zeros 3 ++ le 4 4 ++ le 4 5 ++ le 4 20)) mh (fun s c =>
      Option.any (fun x0 => decide (syncMaster (s.taken c 1) = true ∧ s.dev.sync.run = none ∧ namesHeld c.payload x0 = true ∧
      twoFramesTo (s.taken c 1) (nextWindow (s.taken c 1)) (rdU c.payload 12 4) = true)) s.dev.sync.held = true) ∧
    Asks (cmd 0x304 (le 1 1 ++ zeros 3 ++ le 4 4 ++ le 4 5 ++ le 4 20)) ready (fun s c => syncMaster (s.taken c 1) = false) ∧
    Asks (cmd 0x305 []) ready (fun s _ => s.dev.sync.held = none) ∧
    Asks (cmd 0x305 []) mh (fun s _ => Option.any (fun x0 => decide (x0.state ≠ 3)) s.dev.sync.held = true) ∧
    Asks (cmd 0xF0A (le 4 20 ++ zeros 64)) master (fun s c => syncMaster (s.taken c 1) = true ∧
      twoFramesTo (s.taken c 1) s.dev.sys.now (rdU c.payload 0 4) = true ∧ s.dev.sync.codeLeft = 0) ∧
    Asks (cmd 0xF0B []) ready (fun _ _ => True) ∧
    Asks (cmd 0x304 (le 1 1 ++ zeros 3 ++ le 4 4 ++ le 4 5 ++ le 4 20)) running (fun s c => syncMaster (s.taken c 1) = true ∧
      s.dev.sync.run ≠ none) ∧
    Asks (cmd 0x305 []) (modSync (fun y => { y with held := some {held 1 with state := 3}}) ready) (fun s _ =>
      Option.any (fun x0 => decide (x0.state = 3)) s.dev.sync.held = true) ∧
    Asks (cmd 0xF0A (le 4 20 ++ zeros 64)) ready (fun s c => syncMaster (s.taken c 1) = false) := by
  and_intros <;> decide +kernel

theorem test_witness_AsynchronousCommandsBegin :
    Asks (cmd 0x502 (leS 4 (-200000))) ready (fun s c => -200000 ≤ rdS c.payload 0 4 ∧ rdS c.payload 0 4 ≤ 200000 ∧
      (∀ x ∈ allRunning (accept c (s.taken c 1)), x.op = 1282 → sameCmd x c = true)) ∧
    Asks (cmd 0x707 []) ready (fun s c => (2 ≤ c.mb ∨ bit c.flags 1 = true) ∧ s.dev.emi.selfTest = none ∧
      200000 ≤ idleTime s.dev.seq.plan) ∧
    Asks (cmd 0x802 []) mir (fun s c => s.dev.sys.op = OpState.ready ∧ driveMode (s.taken c 1) ≠ 0 ∧ s.dev.scan.tripped = false ∧
      s.dev.scan.held = false ∧ s.dev.scan.started = false) ∧
    Asks (cmd 0x802 []) (modScan (fun x => {x with started := true, startFrame := 4}) mir) (fun s c => s.dev.sys.op = OpState.ready ∧
      driveMode (s.taken c 1) ≠ 0 ∧ s.dev.scan.tripped = false ∧ s.dev.scan.held = false ∧ s.dev.scan.started = true) ∧
    Asks (cmd 0x803 []) ready (fun s _ => s.dev.sys.op = OpState.ready) ∧
    Asks (cmd 0xA04 (le 1 12 ++ le 1 1 ++ le 1 1 ++ zeros 1 ++ le 4 0x100)) ready (fun s c => rdU c.payload 0 1 ≤ 15 ∧
      rdU c.payload 1 1 ≤ 2 ∧ (∀ q ∈ s.dev.loops.requests, q.slot ≠ rdU c.payload 0 1) ∧
      (slotGet s.dev (rdU c.payload 0 1)).mode ≠ SlotMode.held ∧ (slotGet s.dev (rdU c.payload 0 1)).mode ≠ SlotMode.fallback) ∧
    Asks (cmd 0xA07 (le 1 3 ++ le 1 2 ++ le 1 3 ++ le 1 1 ++ le 2 1 ++ le 2 10 ++ zeros 8)) ready (fun s c => rdU c.payload 0 1 ≤ 3 ∧
      tapOk (rdU c.payload 1 1) (rdU c.payload 2 1) = true ∧ 1 ≤ rdU c.payload 3 1 ∧ rdU c.payload 3 1 ≤ 5 ∧ 1 ≤ rdU c.payload 4 2 ∧
      rdU c.payload 4 2 ≤ 256 ∧ rdU c.payload 6 2 ≤ 4095 ∧ (rdU c.payload 3 1 = 3 → rdU c.payload 8 2 ≤ 1023) ∧
      ((traceGet s.dev (rdU c.payload 0 1)).state = 0 ∨ 4 ≤ (traceGet s.dev (rdU c.payload 0 1)).state)) ∧
    Asks (cmd 0xA08 (le 1 5)) ready (fun _ c => rdU c.payload 0 1 ≤ 15) ∧
    Asks (cmd 0xA09 (le 1 3 ++ zeros 1 ++ le 2 0 ++ le 2 1)) (modTrace 3 (fun t => {t with state := 4, samples := [(1, zeros 4)]}) ready)
      (fun s c => rdU c.payload 0 1 ≤ 3 ∧ 1 ≤ rdU c.payload 4 2 ∧ rdU c.payload 4 2 ≤ 4096 ∧
      ((traceGet s.dev (rdU c.payload 0 1)).state = 0 ∨ 4 ≤ (traceGet s.dev (rdU c.payload 0 1)).state) ∧
      rdU c.payload 2 2 + rdU c.payload 4 2 ≤ (traceGet s.dev (rdU c.payload 0 1)).samples.length ∧ s.dev.diag.bulk = none ∧
      s.dev.diag.hist = none ∧ (2 ≤ c.mb → prmGet s.dev 2851 ≠ 255)) ∧
    Asks (cmd 0x1000 (le 2 1087 ++ le 1 64 ++ zeros 1 ++ le 4 0 ++ le 4 614400)) ready (fun s c => rdU c.payload 0 2 ≤ 1087 ∧
      1 ≤ rdU c.payload 2 1 ∧ rdU c.payload 2 1 ≤ 64 ∧ rdU c.payload 4 4 + rdU c.payload 8 4 ≤ 614400 ∧ s.dev.diag.stamp = none) ∧
    Asks (cmd 0x1001 (le 2 1087 ++ le 2 3)) ready (fun s c => rdU c.payload 0 2 ≤ 1087 ∧ s.dev.diag.bulk = none ∧ s.dev.diag.hist = none ∧
      (2 ≤ c.mb → prmGet s.dev 2851 ≠ 255)) ∧
    Asks (cmd 0xC02 []) (modPeat (fun x => {x with config := pc 4 8}) ready) (fun s c => peatEmpty (s.taken c 1) = false ∧
      s.dev.peat.state = PeatState.idle) ∧
    Asks c0 cp (fun s _ => Option.any (fun x0 => decide ((c0).mb ≠ 1 ∧ s.dev.peat.readout = none ∧ rdU (c0).payload 4 4 % 16 = 0 ∧
      rdU (c0).payload 8 4 % 16 = 0 ∧ 16 ≤ rdU (c0).payload 8 4 ∧
      rdU (c0).payload 4 4 + rdU (c0).payload 8 4 ≤ bytesHeld (peatSegGet (s.taken (c0) 0) x0).entries))
      (closedSegment (s.taken (c0) 0) (rdU (c0).payload 0 4)) = true) ∧
    Asks (cmd 0xD00 (le 4 0 ++ le 4 8 ++ le 4 1 ++ le 4 2)) ready (fun s c => hookJobOk (rdU c.payload 0 4) (rdU c.payload 4 4) = true ∧
      s.dev.hst.hook.run = none) ∧
    Asks (cmd 0xA08 (le 1 16)) ready (fun _ c => 15 < rdU c.payload 0 1) := by
  and_intros <;> decide +kernel

end Beginning

namespace Safety

def pc (segs trig : Nat) : Bytes := le 8 1 ++ le 2 1 ++ le 1 1 ++ le 1 0 ++ le 1 segs ++ le 1 0 ++ zeros 1 ++ le 1 trig ++ zeros 48
def capt : Capture := ⟨1, 0, 0, 0, 0, 0, 0, 0, 0, 0, 0, 0, 0⟩
def cp : Dev := modPeatSeg 0 (fun x => {x with desc := some capt}) ready
def blob : Bytes := patch (patch
  (patch (patch (patch (patch (zeros 1024) 0 (le 4 0x5346E1A5 ++ le 2 1 ++ le 2 0 ++ le 4 9 ++ le 4 1024)) 0x24
  (le 2 1000 ++ le 2 100 ++ le 4 0 ++ le 2 100 ++ le 2 100 ++ le 2 100 ++ le 2 100 ++ le 1 1)) 0x40
  (le 1 3 ++ le 1 0 ++ le 1 0 ++ le 1 1)) 0x80 (le 1 1 ++ le 1 0xFF ++ zeros 2 ++ le 4 100)) 0x90
  (le 1 1 ++ le 1 0xFF ++ zeros 2 ++ le 4 100)) 0x200 (List.replicate 64 0xFF)
def pend : Dev := modSaf (fun x => {x with pending := some (blob, 77, tussNow ready)}) ready

theorem test_witness_PeatCommandsApply :
    Asks (cmd 0xC00 (pc (peatSegs ready) 8)) ready (fun s c => peatConfigOk c.payload = true ∧ s.dev.peat.state = PeatState.idle ∧
      rdU c.payload 12 1 = peatSegs (s.taken c 1)) ∧
    Asks (cmd 0xC00 (pc 3 8)) ready (fun _ c => peatConfigOk c.payload = false) ∧
    Asks (cmd 0xC00 (pc 4 8)) (modPeat (fun x => {x with state := .armed}) ready) (fun s c => peatConfigOk c.payload = true ∧
      s.dev.peat.state ≠ PeatState.idle) ∧
    Asks (cmd 0xC03 []) (modPeat (fun x => {x with config := pc 4 0}) ready) (fun s c => peatTrigOn (s.taken c 1) 3 = false) ∧
    Asks (cmd 0xC03 []) (modPeat (fun x => {x with config := pc 4 8, state := .armed}) ready) (fun s c =>
      peatTrigOn (s.taken c 1) 3 = true ∧ s.dev.peat.state = PeatState.armed) ∧
    Asks (cmd 0xC06 (le 1 0)) cp (fun s c =>
      (rdU c.payload 0 1 < 8 ∧ ((peatSegGet (s.taken c 1) (rdU c.payload 0 1)).desc).any (fun x => decide (x.status = stOk)) = true) ∧
      Option.any (fun r => r.seg == rdU c.payload 0 1) s.dev.peat.readout = false ∧ s.dev.peat.state ≠ PeatState.full) ∧
    Asks (cmd 0xC06 (le 1 0)) (modPeat (fun x => {x with readout := some ⟨0, 3, 5, 1, 0, 0, 16, 0, [], 0⟩}) cp) (fun s c =>
      (rdU c.payload 0 1 < 8 ∧ ((peatSegGet (s.taken c 1) (rdU c.payload 0 1)).desc).any (fun x => decide (x.status = stOk)) = true) ∧
      Option.any (fun r => r.seg == rdU c.payload 0 1) s.dev.peat.readout = true) ∧
    Asks (cmd 0xC07 []) ready (fun s _ => s.dev.peat.state = PeatState.idle) ∧
    Asks (cmd 0xC00 (pc (9 - peatSegs ready) 8)) ready (fun s c => peatConfigOk c.payload = true ∧ s.dev.peat.state = PeatState.idle ∧
      rdU c.payload 12 1 ≠ peatSegs (s.taken c 1) ∧ s.dev.peat.readout = none) ∧
    Asks (cmd 0xC06 (le 1 8)) cp (fun s c =>
      ¬(rdU c.payload 0 1 < 8 ∧ ((peatSegGet (s.taken c 1) (rdU c.payload 0 1)).desc).any (fun x => decide (x.status = stOk)) = true)) ∧
    Asks (cmd 0xC07 []) (modPeat (fun x => {x with state := .armed}) ready) (fun s _ => s.dev.peat.state ≠ PeatState.idle) := by
  and_intros <;> decide +kernel

theorem test_witness_SafetyConfigurationLoads :
    Asks (cmd 0xE00 blob) ready (fun _ c => blobBad c.payload = none) ∧
    Asks (cmd 0xE00 (zeros 1024)) ready (fun _ c => (blobBad c.payload).isSome = true) := by
  and_intros <;> decide +kernel

theorem test_witness_SafetyConfigurationCommits :
    Asks (cmd 0xE01 (le 4 9 ++ le 4 77)) pend (fun s c =>
      Option.any (fun x0 => decide (tussNow s.dev < x0.2.2 + 10000000000 ∧
      (s.dev.sys.op = OpState.ready ∨ s.dev.sys.op = OpState.safeStop) ∧ rdU c.payload 0 4 = rdU x0.1 8 4 ∧ rdU c.payload 4 4 = x0.2.1))
      s.dev.saf.pending = true) ∧
    Asks (cmd 0xE01 (le 4 9 ++ le 4 78)) pend (fun s c =>
      Option.any (fun x0 => decide (tussNow s.dev < x0.2.2 + 10000000000 ∧
      (s.dev.sys.op = OpState.ready ∨ s.dev.sys.op = OpState.safeStop) ∧ (rdU c.payload 0 4 ≠ rdU x0.1 8 4 ∨ rdU c.payload 4 4 ≠ x0.2.1)))
      s.dev.saf.pending = true) ∧
    Asks (cmd 0xE01 (le 4 9 ++ le 4 77)) (inState .armed pend) (fun s _ =>
      Option.any (fun x0 => decide (tussNow s.dev < x0.2.2 + 10000000000 ∧ s.dev.sys.op ≠ OpState.ready ∧
      s.dev.sys.op ≠ OpState.safeStop)) s.dev.saf.pending = true) ∧
    Asks (cmd 0xE01 (le 4 9 ++ le 4 77)) ready (fun s _ => s.dev.saf.pending = none) := by
  and_intros <;> decide +kernel

theorem test_witness_SafetyCommandsAct :
    Asks (cmd 0xE04 []) ready (fun s c => (s.dev.sys.op ≠ OpState.safeStop ∨ presentWord (s.taken c 1) ≠ 0)) ∧
    Asks (cmd 0xE04 []) (inState .safeStop ready) (fun s c => s.dev.sys.op = OpState.safeStop ∧ presentWord (s.taken c 1) = 0) ∧
    Asks (cmd 0xE05 []) (inState .running ready) (fun s _ => (s.dev.sys.op = OpState.ready ∨ s.dev.sys.op = OpState.armed ∨
      s.dev.sys.op = OpState.running)) ∧
    Asks (cmd 0xE05 []) (inState .safeStop ready) (fun s _ => s.dev.sys.op ≠ OpState.ready ∧ s.dev.sys.op ≠ OpState.armed ∧
      s.dev.sys.op ≠ OpState.running) ∧
    Asks (cmd 0xE06 (le 1 4)) ready (fun _ c => 3 < rdU c.payload 0 1) ∧
    Asks (cmd 0xE06 (le 1 1)) (modOut 0 (fun o => {o with locked := true}) ready) (fun s c => rdU c.payload 0 1 = 1 ∧
      (safeOut (s.taken c 1) 0).locked = true ∧ (safeOut (s.taken c 1) 0).passed ≠ 3) ∧
    Asks (cmd 0xE06 (le 1 1)) (modOut 0 (fun o => {o with locked := true, passed := 3}) ready) (fun s c => rdU c.payload 0 1 = 1 ∧
      (safeOut (s.taken c 1) 0).passed = 3) ∧
    Asks (cmd 0xE07 (le 1 1)) (modHst (fun h => {h with conns := h.conns.map (fun x => {x with state := .fault})}) ready) (fun s c =>
      rdU c.payload 0 1 = 1 ∧ (connGet (s.taken c 1) 0).state = HstState.fault ∧ connCfg (s.taken c 1) 0 10 1 = 0) ∧
    Asks (cmd 0xE07 (le 1 1)) ready (fun s c => rdU c.payload 0 1 = 1 ∧ (connGet (s.taken c 1) 0).state ≠ HstState.fault) := by
  and_intros <;> decide +kernel

end Safety

namespace CastOn

def burned : Dev := modSec (fun x => {x with burned := [3], path := some (zeros 4)})
  (modSaf (fun x => {x with railClosed := true}) (inState .running ready))
def con (b : Nat) : Dev := modKmp (fun k => {k with session := none}) (modSys (fun y => {y with op := .castOn, boot := b}) ready)
def armr : Dev := modMb 1 (fun m => {m with running := [{cmd 0x103 [] with t := 2000000000}]}) ready
def hookr : Dev := modHst (fun h => {h with hook := {h.hook with run := some (1, 7), a := 1, s := 2}})
  (modMb 1 (fun m => {m with running := [{cmd 0xD00 [] with t := 2000000000}]}) ready)
def calE : Dev := modEmi (fun e => {e with inhibit := false, closedAt := some 5}) (modGauge (fun g => {g with closed := true}) (con 0x60))

theorem test_witness_ResetsReturnTheDevice :
    At burned (fun _ => True) ∧
    At burned (fun s => s.dev.sys.porHeld = false) ∧
    At burned (fun s => (9999 < 10000 ∨ 25000 ≤ 9999 ∧ s.dev.sys.porHeld = true)) ∧
    At burned (fun s => s.dev.sys.inReset = false) ∧
    At burned (fun _ => State.reset.dev.sys.inReset = true) := by
  and_intros <;> decide +kernel

theorem test_witness_CastOnStagesAdvance :
    At (con 0) (fun s => s.dev.sys.inReset = false ∧ s.dev.sys.op = OpState.castOn ∧ s.dev.sys.boot = 0) ∧
    At (con 0x10) (fun s => s.dev.sys.inReset = false ∧ s.dev.sys.op = OpState.castOn ∧ s.dev.sys.boot = 16 ∧ s.dev.recv.gated = 0 ∧
      0 % 16 ≠ 15 ∧ (∀ g < 16, (List.filter (fun p => groupOfLane p == g)
      (List.filter (fun p => decide (p < 1088)) ([5, 5, 7])).eraseDups).length ≤ 4)) ∧
    At (con 0x20) (fun s => s.dev.sys.inReset = false ∧ s.dev.sys.op = OpState.castOn ∧ s.dev.sys.boot = 32) ∧
    At (con 0x50) (fun s => s.dev.sys.inReset = false ∧ s.dev.sys.op = OpState.castOn ∧ s.dev.sys.boot = 80) ∧
    At (con 0x60) (fun s => s.dev.sys.inReset = false ∧ s.dev.sys.op = OpState.castOn ∧ s.dev.sys.boot = 96 ∧ s.dev.gauge.closed = false ∧
      s.dev.recv.gated = 0 ∧ (∀ g < 16,
      (List.filter (fun p => groupOfLane p == g) (s.dev.recv.lanesFailed ++ List.filter (fun p => decide (p < 1088))
      (List.map (fun x => x.1) (castOnTables ([(7, List.replicate 64 1)])).2)).eraseDups).length ≤ 4)) ∧
    At calE (fun s => s.dev.sys.inReset = false ∧ s.dev.sys.op = OpState.castOn ∧ s.dev.sys.boot = 96 ∧ s.dev.gauge.closed = true ∧
      3 ≤ ([1000, 2000, 3000]).length ∧ 0 ∉ ([1000, 2000, 3000]) ∧ s.dev.loops.slots.length = 16 ∧ s.dev.emi.inhibit = false ∧
      s.dev.emi.calShots = 0) ∧
    At calE (fun s => s.dev.sys.inReset = false ∧ s.dev.sys.op = OpState.castOn ∧ s.dev.sys.boot = 96 ∧ s.dev.gauge.closed = true ∧
      3 ≤ ([1000, 2000, 3000]).length ∧ 0 ∉ ([1000, 2000, 3000]) ∧ s.dev.loops.slots.length = 16) := by
  and_intros <;> decide +kernel

theorem test_witness_FaultsHalt :
    At ready (fun s => s.dev.sys.resetAfter = none ∧ s.dev.sys.inReset = false ∧ s.dev.sys.op ≠ OpState.halted ∧ hookBWaits s.dev = false) ∧
    At ready (fun s => s.dev.sys.resetAfter = none ∧ s.dev.sys.inReset = false ∧ s.dev.sys.op ≠ OpState.halted ∧
      s.dev.sys.firmware = true) ∧
    At ready (fun s => s.dev.sys.resetAfter = none ∧ s.dev.sys.inReset = false ∧ s.dev.sys.op ≠ OpState.halted ∧ ticking s.dev = true) ∧
    At (inState .bindOff ready) (fun s => s.dev.sys.resetAfter = none ∧ s.dev.sys.inReset = false ∧ s.dev.sys.op ≠ OpState.halted ∧
      s.dev.sys.op = OpState.bindOff) ∧
    At calE (fun s => s.dev.sys.resetAfter = none ∧ s.dev.sys.inReset = false ∧ s.dev.sys.op ≠ OpState.halted ∧
      s.dev.sys.op = OpState.castOn ∧ s.dev.sys.boot = 96 ∧ s.dev.gauge.closed = true ∧
      (([1000, 0, 3000]).length < 3 ∨ 0 ∈ ([1000, 0, 3000]))) ∧
    At (con 0x10) (fun s => s.dev.sys.resetAfter = none ∧ s.dev.sys.inReset = false ∧ s.dev.sys.op ≠ OpState.halted ∧
      s.dev.sys.op = OpState.castOn ∧ s.dev.sys.boot = 16 ∧ 15 % 16 = 15) := by
  and_intros <;> decide +kernel

/-- A block whose last byte is read otherwise differs, in Tussock's SRAM and in the firmware's; that the block has a reference follows
where the open layout of Tussock's SRAM (`Config.tussockBlock`) gives it one. -/
theorem test_witness_FaultsHalt_scrubs :
    hookDiffers (4096 * 127) (4096 * 127) 0 4096 [(4095, 1)] 0 = true ∧
    hookDiffers (4096 * 127) (4096 * 127) ready.sec.app.version 4096 [(4095, 1)] 0 = true ∧
    (Config.tussockBlock 127 = 0 → scrubHasRef ready 127 = true) :=
  ⟨hookDiffers_last _ _ 4095 1 (by decide), hookDiffers_last _ _ 4095 1 (by decide), fun h => by simp [scrubHasRef, h]⟩

theorem test_witness_SupplyLossInCastOnHalts :
    At (con 0x20) (fun s => s.dev.sys.resetAfter = none ∧ s.dev.sys.inReset = false ∧ s.dev.sys.op = OpState.castOn) ∧
    At (con 0x20) (fun s => (after Instr.prpSupervisionLoss s).dev.saf.vsafeOk = false) ∧
    At (modSaf (fun x => {x with vsafeOk := false}) (modGauge (fun g => {g with closed := true}) (con 0x60))) (fun s =>
      s.dev.sys.inReset = false ∧ s.dev.sys.op = OpState.castOn ∧ s.dev.sys.boot = 96 ∧ s.dev.gauge.closed = true ∧
      3 ≤ ([1000, 2000, 3000]).length ∧ 0 ∉ ([1000, 2000, 3000]) ∧ s.dev.saf.vsafeOk = false) ∧
    Asks (cmd 0x103 []) (modSaf (fun x => {x with vsafeOk := false}) ready) (fun s c => stateCmdWaits (s.taken c 1) = false ∧
      s.dev.saf.vsafeOk = false) := by
  and_intros <;> decide +kernel

theorem test_witness_ScrubsAndTimeoutsAreRecorded :
    At armr (fun s => ticking s.dev = true ∧ s.dev.sys.inReset = false) ∧
    At armr (fun s => (findRunning s.dev 259).isSome = true) ∧
    At armr (fun s => ticking s.dev = true) ∧
    At armr (fun s => ticking s.dev = true ∧ 5 ∉ s.dev.peat.badWords) ∧
    At armr (fun s => ticking s.dev = true ∧ unitAt s.dev 5 = none) ∧
    At hookr (fun s => s.dev.sys.firmware = true ∧ s.dev.sys.op ≠ OpState.halted ∧
      hookDiffers (4096 * 126) (4096 * 126) s.dev.sec.app.version 4096 [] 0 = false) ∧
    At hookr (fun s => s.dev.sys.op ≠ OpState.halted ∧ s.dev.sys.inReset = false ∧ hookBWaits s.dev = false ∧
      hookDiffers (4096 * 126) (4096 * 126) 0 4096 [] 0 = false) ∧
    At (modHst (fun h => {h with hook := {h.hook with length := 8}}) hookr) (fun s =>
      Option.any (fun x0 => decide (hookBadWord s.dev s.dev.hst.hook.addr s.dev.hst.hook.length = false ∧
      List.length (zeros 8) = s.dev.hst.hook.length ∧ s.dev.hst.hook.run.isSome = true ∧ (findTag s.dev x0.1 x0.2).isSome = true))
      s.dev.hst.hook.run = true) ∧
    At (modHst (fun h => {h with hook := {h.hook with addr := 0x10000000, length := 16}})
      (modPeat (fun p => {p with badWords := [0]}) hookr)) (fun s =>
      Option.any (fun x0 => decide (hookBadWord s.dev s.dev.hst.hook.addr s.dev.hst.hook.length = true ∧
      s.dev.hst.hook.run.isSome = true ∧ (findTag s.dev x0.1 x0.2).isSome = true)) s.dev.hst.hook.run = true) := by
  and_intros <;> decide +kernel

end CastOn

namespace Frames

def con0 : Dev := modSys (fun y => {y with op := .castOn, boot := 0x20}) ready
def turn : Dev := modSeq (fun q => {q with phase := .turnaround, flushes := 2}) ready
def pendF : Dev := modPrm (fun x => {x with pending := [⟨ConfigSet.empty, 11⟩, ⟨ConfigSet.empty, 12⟩]})
  (modGauge (fun g => {g with shadow := [(3, ⟨[], true, false, false, 0, 0, 0⟩)], closed := true}) turn)
def waits (op : Nat) : Dev := modMb 1 (fun m => {m with running := [{cmd op [] with t := 2000000000}]}) turn

theorem test_witness_FrameTickBeginsAFrame :
    At turn (fun s => ticking s.dev = true ∧ prmGet s.dev 1281 = 0) ∧
    At turn (fun s => ticking s.dev = true ∧ s.dev.seq.started = true) ∧
    At pendF (fun s => ticking s.dev = true) ∧
    (findRunning (inState .armed (waits 0x104)) 260 ≠ none) ∧
    (findRunning (inState .running (waits 0x105)) 260 = none ∧ findRunning (inState .running (waits 0x105)) 261 ≠ none) ∧
    (findRunning (inState .running (waits 0x106)) 260 = none ∧ findRunning (inState .running (waits 0x106)) 261 = none ∧
      findRunning (inState .running (waits 0x106)) 262 ≠ none) ∧
    At con0 (fun s => ticking s.dev = false) := by
  and_intros <;> decide +kernel

end Frames

namespace Dwells

def op (n : Nat) : Dev := modSeq (fun q => {q with dwellOpen := true, dwell := n, dwellTime := 2000000000 + 5000, shot := 2}) ready
def lastD : Dev := op (planColumns ready.seq.plan - 1)
def fl1 : Dev := modSeq (fun q => {q with phase := .turnaround, flushes := 1, dwellOpen := false}) lastD
def shots : Nat := (dwellZone (op 3)).shots
def emr : Dev := modEmi (fun e => {e with inhibit := false}) (inState .running (op 3))
def cal0 : Dev := modEmi (fun e => {e with inhibit := false, calAt := 2000000000, calShots := 5})
  (modGauge (fun g => {g with closed := true}) (modSys (fun y => {y with op := .castOn, boot := 0x60}) ready))

theorem test_witness_DwellsFollowThePlan :
    At ready (fun s => dwellDue s.dev = true ∧ s.dev.seq.dwellOpen = false) ∧
    At ready (fun s => dwellDue s.dev = true ∧ s.dev.sys.op ≠ OpState.running) ∧
    At ready (fun s => (ticking s.dev = false ∨ s.dev.seq.phase = FramePhase.sweep ∧ s.dev.seq.dwellOpen = false ∨
      s.dev.seq.phase = FramePhase.sweep ∧ s.dev.seq.dwell + 1 < planColumns s.dev.seq.plan ∨ s.dev.seq.phase = FramePhase.turnaround ∧
      s.dev.seq.flushes ≠ 1 ∨ s.dev.seq.phase = FramePhase.idle)) ∧
    At ready (fun s => ticking s.dev = true ∧ s.dev.seq.phase = FramePhase.sweep ∧ s.dev.seq.dwell + 1 < planColumns s.dev.seq.plan ∧
      s.dev.seq.dwellOpen = false) ∧
    At (op 3) (fun s => dwellDue s.dev = true ∧ s.dev.seq.dwellOpen = true) ∧
    At (op 3) (fun s => ticking s.dev = true ∧ s.dev.seq.phase = FramePhase.sweep ∧ s.dev.seq.dwell + 1 < planColumns s.dev.seq.plan ∧
      s.dev.seq.dwellOpen = true) ∧
    At lastD (fun s => dwellDue s.dev = false) ∧
    At lastD (fun s => ticking s.dev = true ∧ s.dev.seq.phase = FramePhase.sweep ∧ s.dev.seq.dwellOpen = true ∧
      planColumns s.dev.seq.plan ≤ s.dev.seq.dwell + 1 ∧ s.dev.sys.op ≠ OpState.running) ∧
    At lastD (fun s => ticking s.dev = true ∧ s.dev.seq.phase = FramePhase.sweep ∧ planColumns s.dev.seq.plan ≤ s.dev.seq.dwell + 1) ∧
    At fl1 (fun s => ticking s.dev = true ∧ s.dev.seq.phase = FramePhase.turnaround ∧ s.dev.seq.flushes = 1) ∧
    At fl1 (fun s => ticking s.dev = true ∧ s.dev.seq.phase = FramePhase.turnaround) ∧
    At (modSeq (fun q => {q with phase := .idle}) ready) (fun s => ticking s.dev = true ∧ s.dev.seq.phase = FramePhase.idle) ∧
    At (op 3) (fun s => dwellDue s.dev = true ∧ (([0, 15, 16]).getD 0 0) < 16 ∧ sliceOn s.dev (([0, 15, 16]).getD 0 0) = true) := by
  and_intros <;> decide +kernel

theorem test_witness_ShotsFollowTheDwell :
    At (op 3) (fun s => ticking s.dev = true ∧ s.dev.seq.dwellOpen = true ∧ s.dev.seq.shot < (dwellZone s.dev).shots ∧
      s.dev.sys.op ≠ OpState.running) ∧
    At (op 3) (fun s => ticking s.dev = true ∧ s.dev.seq.dwellOpen = true ∧ s.dev.seq.shot < (dwellZone s.dev).shots ∧
      s.dev.emi.inhibit = true) ∧
    At (modSeq (fun q => {q with shot := shots}) (op 3)) (fun s => ticking s.dev = true ∧ (dwellZone s.dev).shots ≤ s.dev.seq.shot) ∧
    At emr (fun s => ticking s.dev = true ∧ s.dev.seq.dwellOpen = true ∧ s.dev.seq.shot < (dwellZone s.dev).shots ∧
      s.dev.sys.op = OpState.running ∧ s.dev.emi.inhibit = false ∧ s.dev.emi.testEnd = 0) ∧
    At cal0 (fun s => calFiring s.dev = true ∧ s.dev.emi.calShots < 20000 ∧ (s.dev.emi.inhibit = false ∧ s.dev.emi.testEnd = 0) ∧
      (([] : List Nat)) = []) ∧
    At (modEmi (fun e => {e with calShots := 20000}) cal0) (fun s => calFiring s.dev = true ∧ 20000 ≤ s.dev.emi.calShots) ∧
    At (inState .running emr) (fun s => ticking s.dev = true ∧ s.dev.seq.dwellOpen = true ∧ s.dev.seq.shot < (dwellZone s.dev).shots ∧
      s.dev.sys.op = OpState.running ∧ (s.dev.emi.inhibit = false ∧ s.dev.emi.testEnd = 0) ∧ (([] : List Nat)) = [] ∧
      sampleDwell s.dev = false ∧ rowEnabled s.dev.seq.plan 0 = true ∧ rowReceived (dwellZone s.dev) (dwellCol s.dev) 0 = true ∧
      segOfRow s.dev 0 ≠ 255 ∧ (segGet s.dev (segOfRow s.dev 0)).lockout = false) := by
  and_intros <;> decide +kernel

end Dwells

namespace Detections

def op (n : Nat) : Dev := modSeq (fun q => {q with dwellOpen := true, dwell := n, dwellTime := 2000000000 + 5000, shot := 2}) ready
def pw : Dev := modRecv (fun r => { r with window := some ⟨colOfDwell ready.seq.plan 10 3⟩ }) (op 3)
def unlane : Nat := (lanesFed pw 16 1).headD 0
def st (b : Nat) (f s : Option Nat) : Dev := modStart b (fun y => {y with first := f, second := s}) (op 3)
def cp (c : Nat) : Dev := modLane (laneOfChan pw c) (fun l => {l with live := 15, k := 3}) pw
def hist (bg : Bool) (col : Nat) : Dev := modDiag (fun g => {g with hist := some ⟨1, 7, 5, col, bg⟩})
  (modSeq (fun q => {q with shot := (dwellZone (op 3)).coarse}) pw)

theorem test_witness_DetectionsReachTheirLanes :
    At (op 3) (fun s => (ticking s.dev = true ∧ s.dev.seq.dwellOpen = true ∧ s.dev.seq.shot ≠ 0 ∨ calFiring s.dev = true ∧
      s.dev.emi.calShots ≠ 0) ∧ 7 ∉ s.dev.gauge.startsFailed ∧ (startOf s.dev 7).first = none) ∧
    At (op 3) (fun s => (powered s.dev 0 0 = false ∨ (dwellZone s.dev).period * 1000 ≤ 100 ∨ 4 ≤ 0 ∨
      shotPs s.dev + 100 < tabGet 0 s.dev.recv.blind ((0 * 640 + 0) * 4 + 0) ∨ s.dev.seq.shot = 0)) ∧
    At (st 7 (some 5) none) (fun s => (ticking s.dev = true ∧ s.dev.seq.dwellOpen = true ∧ s.dev.seq.shot ≠ 0 ∨ calFiring s.dev = true ∧
      s.dev.emi.calShots ≠ 0) ∧ 7 ∉ s.dev.gauge.startsFailed ∧ (startOf s.dev 7).first ≠ none ∧ (startOf s.dev 7).second = none) ∧
    At (st 7 (some 5) (some 9)) (fun s => (ticking s.dev = true ∧ s.dev.seq.dwellOpen = true ∧ s.dev.seq.shot ≠ 0 ∨
      calFiring s.dev = true ∧ s.dev.emi.calShots ≠ 0) ∧ 7 ∉ s.dev.gauge.startsFailed ∧ (startOf s.dev 7).first ≠ none ∧
      (startOf s.dev 7).second ≠ none) ∧
    At (cp 2) (fun s => (ticking s.dev = true ∧ s.dev.seq.dwellOpen = true ∧ s.dev.seq.shot ≠ 0) ∧ powered s.dev 16 1 = true ∧
      100000 < (dwellZone s.dev).period * 1000 ∧ tabGet 0 s.dev.recv.blind ((16 * 640 + 1) * 4 + 0) ≤ shotPs s.dev + 100000 ∧
      (lanesFed s.dev 16 1).Nodup ∧ 0 ∉ lanesFed s.dev 16 1) ∧
    At (cp 2) (fun s => (ticking s.dev = true ∧ s.dev.seq.dwellOpen = true ∧ s.dev.seq.shot ≠ 0) ∧ powered s.dev 16 1 = true ∧
      100000 < (dwellZone s.dev).period * 1000 ∧ tabGet 0 s.dev.recv.blind ((16 * 640 + 1) * 4 + 0) ≤ shotPs s.dev + 100000 ∧
      (lanesFed s.dev 16 1).Nodup ∧ bit (laneGet s.dev ((lanesFed s.dev 16 1).getD 0 0)).live 0 = true ∧
      (laneGet s.dev ((lanesFed s.dev 16 1).getD 0 0)).hold ≤ shotPs s.dev + 100000 ∧
      distinctSpads (recentFires (prmGet s.dev 1025 * 125) (shotPs s.dev + 100000) (laneGet s.dev ((lanesFed s.dev 16 1).getD 0 0)).live
      (16 * 640 + 1) (laneGet s.dev ((lanesFed s.dev 16 1).getD 0 0)).fires ++
      [(shotPs s.dev + 100000, (16 * 640 + 1) * 4 + 0,
      nominalCode 100000 + 64 * (shotPs s.dev / 1000))]) < (laneGet s.dev ((lanesFed s.dev 16 1).getD 0 0)).k) ∧
    At (modSeq (fun q => {q with shot := (dwellZone (op 3)).coarse}) (cp 2)) (fun s => ticking s.dev = true ∧
      s.dev.seq.dwellOpen = true ∧ s.dev.histo.phaseClosed = false ∧ (dwellZone s.dev).coarse ≤ s.dev.seq.shot ∧ s.dev.diag.hist = none) ∧
    At (modLane (unlane) (fun l => {l with live := 14, k := 3}) pw) (fun s =>
      (ticking s.dev = true ∧ s.dev.seq.dwellOpen = true ∧ s.dev.seq.shot ≠ 0) ∧ powered s.dev 16 1 = true ∧
      100000 < (dwellZone s.dev).period * 1000 ∧ tabGet 0 s.dev.recv.blind ((16 * 640 + 1) * 4 + 0) ≤ shotPs s.dev + 100000 ∧
      (lanesFed s.dev 16 1).Nodup ∧ bit (laneGet s.dev ((lanesFed s.dev 16 1).getD 0 0)).live 0 = false) ∧
    At (modLane (unlane) (fun l => {l with live := 15, k := 1}) pw) (fun s =>
      (ticking s.dev = true ∧ s.dev.seq.dwellOpen = true ∧ s.dev.seq.shot ≠ 0) ∧ powered s.dev 16 1 = true ∧
      100000 < (dwellZone s.dev).period * 1000 ∧ tabGet 0 s.dev.recv.blind ((16 * 640 + 1) * 4 + 0) ≤ shotPs s.dev + 100000 ∧
      (lanesFed s.dev 16 1).Nodup ∧ bit (laneGet s.dev ((lanesFed s.dev 16 1).getD 0 0)).live 0 = true ∧
      (laneGet s.dev ((lanesFed s.dev 16 1).getD 0 0)).hold ≤ shotPs s.dev + 100000 ∧ (laneGet s.dev ((lanesFed s.dev 16 1).getD 0 0)).k ≤
      distinctSpads (recentFires (prmGet s.dev 1025 * 125) (shotPs s.dev + 100000) (laneGet s.dev ((lanesFed s.dev 16 1).getD 0 0)).live
      (16 * 640 + 1) (laneGet s.dev ((lanesFed s.dev 16 1).getD 0 0)).fires ++
      [(shotPs s.dev + 100000, (16 * 640 + 1) * 4 + 0,
      nominalCode 100000 + 64 * (shotPs s.dev / 1000))]) ∧
      (recentFires (prmGet s.dev 1025 * 125) (shotPs s.dev + 100000) (laneGet s.dev ((lanesFed s.dev 16 1).getD 0 0)).live (16 * 640 + 1)
      (laneGet s.dev ((lanesFed s.dev 16 1).getD 0 0)).fires ++
      [(shotPs s.dev + 100000, (16 * 640 + 1) * 4 + 0,
      nominalCode 100000 + 64 * (shotPs s.dev / 1000))]).head?.isSome = true) ∧
    At (modLane (unlane) (fun l => {l with live := 15, k := 1, hold := 9000000000000000}) pw) (fun s =>
      (ticking s.dev = true ∧ s.dev.seq.dwellOpen = true ∧ s.dev.seq.shot ≠ 0) ∧ powered s.dev 16 1 = true ∧
      100000 < (dwellZone s.dev).period * 1000 ∧ tabGet 0 s.dev.recv.blind ((16 * 640 + 1) * 4 + 0) ≤ shotPs s.dev + 100000 ∧
      (lanesFed s.dev 16 1).Nodup ∧ bit (laneGet s.dev ((lanesFed s.dev 16 1).getD 0 0)).live 0 = true ∧
      shotPs s.dev + 100000 < (laneGet s.dev ((lanesFed s.dev 16 1).getD 0 0)).hold) ∧
    At (hist false 3) (fun s => Option.any (fun x0 =>
      decide (ticking s.dev = true ∧ s.dev.seq.dwellOpen = true ∧ s.dev.histo.phaseClosed = false ∧
      (dwellZone s.dev).coarse ≤ s.dev.seq.shot ∧ (x0.begun = false ∨ x0.column ≠ dwellCol s.dev))) s.dev.diag.hist = true) ∧
    At (hist true (dwellCol pw)) (fun s =>
      Option.any (fun x0 => decide (ticking s.dev = true ∧ s.dev.seq.dwellOpen = true ∧ s.dev.histo.phaseClosed = false ∧
      (dwellZone s.dev).coarse ≤ s.dev.seq.shot ∧ x0.begun = true ∧ x0.column = dwellCol s.dev)) s.dev.diag.hist = true) := by
  and_intros <;> decide +kernel

end Detections

namespace Tension

def t1 : Dev := modSense (fun x => {x with diagAt := 2000000000}) (modSeq (fun q => {q with tickNo := 1, tickTime := 2000000000}) ready)
def urg : Dev := modSense (fun x => {x with urgent := [(0x27, 0), (0x28, 1)]}) t1
def urg2 : Dev := modSys (fun y => {y with now := 2000005000}) urg
def dg (ph : Nat) (v : Bool) (test : Int) (full : Bool) : Dev := modSense (fun x =>
  {x with diag := some ⟨5, 0, 100, test, full, ph, 1000, v⟩, wires := [(10, ⟨1, 1, false, 7⟩)], ring := [⟨1, 100, 5, 0, 5, 0⟩]}) t1
def tn : Dev := modSeq (fun q => {q with phase := .turnaround, flushes := 2}) ready
def mir : Dev := modPrm (fun x => {x with vals := tabPut 0x801 1 x.vals}) ready
def armD : Dev := modSaf (fun x => {x with armTests := 3})
  (modScan (fun x => {x with lock := true}) (modMb 1 (fun m => {m with running := [{cmd 0x103 [] with t := 2000000000}]}) ready))
def tones (b : Bool) (f : Nat) (bs : List Nat) : Dev := modScan (fun x =>
  {x with tones := x.tones.map (fun t => {t with base := bs, fails := f, bad := b, passes := 2})}) tn
def hal : Dev := modKmp (fun k => {k with session := none}) (inState .halted ready)

theorem test_witness_TensionSenseAndDriveStep :
    At ready (fun s => (ticking s.dev = true ∨ s.dev.sys.op = OpState.bindOff)) ∧
    At ready (fun s => s.dev.sense.diag = none) ∧
    At t1 (fun s => ticking s.dev = true ∧ (s.dev.seq.tickNo = 0 ∨ s.dev.sys.now + 500 ≤ nextTick s.dev) ∧
      (s.dev.sense.diag = none ∧ s.dev.sense.diagQueue = [] ∧ tussNow s.dev < s.dev.sense.diagAt + 1000000 * prmGet s.dev 2305) ∧
      s.dev.sense.urgent = [] ∧ (nextEntry s.dev).isSome = true) ∧
    At (inState .castOn ready) (fun s => (s.dev.sys.op = OpState.castOn ∨ s.dev.sys.op = OpState.halted ∧ s.dev.scan.out = 0)) ∧
    At urg (fun s => Option.any (fun x0 => decide (ticking s.dev = true ∧ (s.dev.seq.tickNo = 0 ∨ s.dev.sys.now + 500 ≤ nextTick s.dev) ∧
      (s.dev.sense.diag = none ∧ s.dev.sense.diagQueue = [] ∧ tussNow s.dev < s.dev.sense.diagAt + 1000000 * prmGet s.dev 2305) ∧
      x0.2 = 0 ∧ (s.dev.sys.now < secondAt s.dev ∨ ∀ v ∈ s.dev.sense.urgent.tail, v.2 ≠ 1))) s.dev.sense.urgent.head? = true) ∧
    At urg2 (fun s => ticking s.dev = true ∧ (s.dev.seq.tickNo = 0 ∨ s.dev.sys.now + 500 ≤ nextTick s.dev) ∧
      (s.dev.sense.diag = none ∧ s.dev.sense.diagQueue = [] ∧ tussNow s.dev < s.dev.sense.diagAt + 1000000 * prmGet s.dev 2305) ∧
      secondAt s.dev ≤ s.dev.sys.now ∧ (List.find? (fun u => u.2 == 1) s.dev.sense.urgent).isSome = true) ∧
    At mir (fun s => s.dev.sys.inReset = false ∧ s.dev.scan.tripped = false ∧ (0 % 4 = 0 → driveMode s.dev ≠ 0) ∧
      (0 % 4 = 3 → driveMode s.dev = 2)) ∧
    At (modScan (fun x => {x with tripped := true}) mir) (fun s => s.dev.scan.tripped = true) ∧
    At (modSys (fun y => {y with now := (nextTick t1) - 300}) t1) (fun s => ticking s.dev = true ∧ s.dev.seq.tickNo ≠ 0 ∧
      nextTick s.dev < s.dev.sys.now + 500) ∧
    At (modScan (fun x => {x with out := 30000}) hal) (fun s => s.dev.sys.op = OpState.halted ∧ s.dev.scan.out ≠ 0) ∧
    ((armD).sys.op = OpState.ready ∧ (armD).scan.lock = true ∧ (armD).saf.armTests = 3 ∧ (findRunning (armD) 259).isSome = true) ∧
    At (dg 0 false 0 false) (fun s =>
      Option.any (fun x0 => decide (ticking s.dev = true ∧ (s.dev.seq.tickNo = 0 ∨ s.dev.sys.now + 500 ≤ nextTick s.dev) ∧
      s.dev.sense.urgent = [] ∧ x0.phase = 0)) s.dev.sense.diag = true) ∧
    At (dg 1 false 0 false) (fun s =>
      Option.any (fun x0 => decide (ticking s.dev = true ∧ (s.dev.seq.tickNo = 0 ∨ s.dev.sys.now + 500 ≤ nextTick s.dev) ∧
      s.dev.sense.urgent = [] ∧ x0.phase = 1 ∧ x0.since + settleNs s.dev ≤ tussNow s.dev)) s.dev.sense.diag = true) ∧
    At (dg 2 false 0 false) (fun s =>
      Option.any (fun x0 => decide (ticking s.dev = true ∧ x0.phase = 2 ∧ x0.void = false ∧ diagFails s.dev x0 = false ∧
      2 * 0 + 0 ≠ 2 * x0.source + x0.pin)) s.dev.sense.diag = true) ∧
    At (dg 2 true 0 false) (fun s =>
      Option.any (fun x0 => decide (ticking s.dev = true ∧ x0.phase = 2 ∧ x0.void = true ∧ 2 * 0 + 0 ≠ 2 * x0.source + x0.pin))
      s.dev.sense.diag = true) ∧
    At (dg 2 false 9999999 false) (fun s =>
      Option.any (fun x0 => decide (ticking s.dev = true ∧ x0.phase = 2 ∧ x0.void = false ∧ diagFails s.dev x0 = true ∧
      2 * 0 + 0 ≠ 2 * x0.source + x0.pin)) s.dev.sense.diag = true) ∧
    At tn (fun s => Option.any (fun x0 => decide (toneDue s.dev = true ∧ s.dev.scan.tonePhase = s.dev.scan.tonePhase ∧
      s.dev.scan.tonePhase < 5 ∧ ((3 ≠ 0 ∨
      ∃ p ∈ (if x0.base = [] then List.map (fun x => ([2]).getD x 0) (List.range (toneLeads s.dev.scan.tonePhase)) else x0.base).zip
      (List.map (fun x => ([2]).getD x 0) (List.range (toneLeads s.dev.scan.tonePhase))), toneLow p.1 p.2 = true) ∨
      ∃ p ∈ (if x0.base = [] then List.map (fun x => ([2]).getD x 0) (List.range (toneLeads s.dev.scan.tonePhase)) else x0.base).zip
      (List.map (fun x => ([2]).getD x 0) (List.range (toneLeads s.dev.scan.tonePhase))), toneOpen p.1 p.2 = true)))
      s.dev.scan.tones[s.dev.scan.tonePhase]? = true) ∧
    At tn (fun s => toneDue s.dev = true ∧ s.dev.scan.tonePhase < 5 ∧ 4 ≠ s.dev.scan.tonePhase ∧
      s.dev.scan.tones[s.dev.scan.tonePhase]?.isSome = true) ∧
    At tn (fun s => Option.any (fun x0 => decide (toneDue s.dev = true ∧ s.dev.scan.tonePhase = s.dev.scan.tonePhase ∧
      s.dev.scan.tonePhase < 5 ∧ ¬((0 ≠ 0 ∨
      ∃ p ∈ (if x0.base = [] then List.map (fun x => ([2]).getD x 0) (List.range (toneLeads s.dev.scan.tonePhase)) else x0.base).zip
      (List.map (fun x => ([2]).getD x 0) (List.range (toneLeads s.dev.scan.tonePhase))), toneLow p.1 p.2 = true) ∨
      ∃ p ∈ (if x0.base = [] then List.map (fun x => ([2]).getD x 0) (List.range (toneLeads s.dev.scan.tonePhase)) else x0.base).zip
      (List.map (fun x => ([2]).getD x 0) (List.range (toneLeads s.dev.scan.tonePhase))), toneOpen p.1 p.2 = true)))
      s.dev.scan.tones[s.dev.scan.tonePhase]? = true) ∧
    At (tones false 1 [1000]) (fun s =>
      Option.any (fun x0 => decide (toneDue s.dev = true ∧ s.dev.scan.tonePhase = s.dev.scan.tonePhase ∧ s.dev.scan.tonePhase < 5 ∧
      s.dev.scan.tonePhase = 0 ∧ (3 ≠ 0 ∨
      ∃ p ∈ (if x0.base = [] then List.map (fun x => ([2]).getD x 0) (List.range (toneLeads s.dev.scan.tonePhase)) else x0.base).zip
      (List.map (fun x => ([2]).getD x 0) (List.range (toneLeads s.dev.scan.tonePhase))), toneLow p.1 p.2 = true) ∧
      (x0.bad = true ∨ 1 ≤ x0.fails))) s.dev.scan.tones[s.dev.scan.tonePhase]? = true) := by
  and_intros <;> decide +kernel

end Tension

namespace Turnaround

def tn : Dev := modSeq (fun q => {q with phase := .turnaround, flushes := 2}) ready
def pf : Dev := modEmi (fun e => {e with probeFails := [(7, 3, 1), (2, 16, 2)], confirmed := [(7, 6)]}) tn
def stt : Dev := modEmi (fun e => {e with selfTest := some ⟨1, 7, true, false, []⟩}) tn
def accA : Dev := modGauge (fun g => {g with acc := [(1090, ⟨(List.range 64).map (fun t => (t, 2000)), 0, none, 0, false⟩)]}) tn
def accR : Dev := modGauge (fun g => {g with acc := [(1090, ⟨(List.range 64).map (fun t => (t, 2000)), 0, some 9, 0, false⟩)]}) tn
def accB : Dev := modGauge (fun g => {g with acc := [(1090, ⟨(List.range 32).map (fun t => (t, 4000)), 0, some 9, 0, false⟩)]}) tn
def acF : Dev := modSeq (fun q => {q with frame := 300}) accA
def pf4 : Dev := modEmi (fun e => {e with probeFails := [(7, 18, 1), (2, 16, 2)], rowSeg := [(3, 17*7+16)], banks := e.banks})
  (modBank 7 (fun x => {x with sub := 2}) tn)

theorem test_witness_TurnaroundDiagnosticsAct :
    At pf (fun s => inTurnaround s.dev = true) ∧
    At pf (fun s => inTurnaround s.dev = true ∧ tabGet 0 s.dev.emi.confirmed 7 < 7 ∧ probeClass 1550 = 0 ∧
      (List.find? (fun e => e.1 == 7) s.dev.emi.probeFails).isSome = true) ∧
    At pf (fun s => Option.any (fun x0 => decide (inTurnaround s.dev = true ∧ tabGet 0 s.dev.emi.confirmed 7 < 7 ∧ probeClass 100 ≠ 0 ∧
      x0.2.1 < 16)) (List.find? (fun e => e.1 == 7) s.dev.emi.probeFails) = true) ∧
    At pf (fun s => Option.any (fun x0 => decide (inTurnaround s.dev = true ∧ tabGet 0 s.dev.emi.confirmed 2 < 7 ∧ probeClass 100 ≠ 0 ∧
      16 ≤ x0.2.1 ∧ ¬(spareRow s.dev 2 ≠ 255 ∧ (bankGet s.dev 2).sub = x0.2.1 - 16)))
      (List.find? (fun e => e.1 == 2) s.dev.emi.probeFails) = true) ∧
    At pf (fun s => inTurnaround s.dev = true ∧ (s.dev.emi.probeFails.getD 0 (0, 0, 0)).2.1 < 16) ∧
    At pf (fun s => inTurnaround s.dev = true ∧ 16 ≤ (s.dev.emi.probeFails.getD 1 (0, 0, 0)).2.1 ∧
      ¬(spareRow s.dev (s.dev.emi.probeFails.getD 1 (0, 0, 0)).1 ≠ 255 ∧ (bankGet s.dev (s.dev.emi.probeFails.getD 1 (0, 0, 0)).1).sub =
      (s.dev.emi.probeFails.getD 1 (0, 0, 0)).2.1 - 16)) ∧
    At pf (fun s => inTurnaround s.dev = true ∧ s.dev.recv.mapPos < 8) ∧
    At pf (fun s => inTurnaround s.dev = true ∧ s.dev.gauge.closed = false ∧ gaugeRuns s.dev 1090 = true ∧ (0 ≠ 1090 ∨ 0 ≠ 63 % 64)) ∧
    At pf (fun s => inTurnaround s.dev = true ∧ s.dev.gauge.closed = false ∧
      ¬(1090 < 1096 ∧ gaugeRuns s.dev 1090 = true ∧ (accGet s.dev 1090).ready = none ∧ prmGet s.dev 1065 ≤ gaugeAge s.dev 1090 ∧
      65536 ≤ totalHits (accGet s.dev 1090).hits)) ∧
    At pf (fun s => s.dev.tim.slewing = false) ∧
    At stt (fun s => Option.any (fun x0 => decide (inTurnaround s.dev = true ∧ x0.due = true ∧ x0.ran = false)) s.dev.emi.selfTest = true) ∧
    At acF (fun s => inTurnaround s.dev = true ∧ s.dev.gauge.closed = false ∧ gaugeRuns s.dev 1090 = true ∧
      (accGet s.dev 1090).ready = none ∧ prmGet s.dev 1065 ≤ gaugeAge s.dev 1090 ∧ 65536 ≤ totalHits (accGet s.dev 1090).hits) ∧
    At accR (fun s => Option.any (fun x0 => decide (ticking s.dev = true ∧ (x0 + 1) % 2 ^ 32 = s.dev.seq.frame ∧
      tabWf GaugeAcc.none s.dev.gauge.acc = true)) (accGet s.dev 1090).ready = true) ∧
    At accR (fun s => Option.any (fun x0 => decide (ticking s.dev = true ∧ (x0 + 1) % 2 ^ 32 = s.dev.seq.frame ∧
      gaugeBound (gaugeOf s.dev 1090) (List.map (tabGet 0 (accGet s.dev 1090).hits) (List.range 64))
      (deriveWidths (List.map (tabGet 0 (accGet s.dev 1090).hits) (List.range 64))) = 0)) (accGet s.dev 1090).ready = true) ∧
    At accR (fun s => Option.any (fun x0 => decide (ticking s.dev = true ∧ (x0 + 1) % 2 ^ 32 = s.dev.seq.frame ∧
      s.dev.sys.op ≠ OpState.safeStop)) (accGet s.dev 1090).ready = true) ∧
    At accB (fun s => Option.any (fun x0 => decide (ticking s.dev = true ∧ (x0 + 1) % 2 ^ 32 = s.dev.seq.frame ∧
      gaugeBound (gaugeOf s.dev 1090) (List.map (tabGet 0 (accGet s.dev 1090).hits) (List.range 64))
      (deriveWidths (List.map (tabGet 0 (accGet s.dev 1090).hits) (List.range 64))) ≠ 0)) (accGet s.dev 1090).ready = true) ∧
    At (modTim (fun t => {t with slewing := true, ageingTarget := 900}) tn) (fun s => s.dev.tim.slewing = true) ∧
    At pf4 (fun s => Option.any (fun x0 => decide (inTurnaround s.dev = true ∧ tabGet 0 s.dev.emi.confirmed 7 < 7 ∧ probeClass 100 ≠ 0 ∧
      16 ≤ x0.2.1 ∧ spareRow s.dev 7 ≠ 255 ∧ (bankGet s.dev 7).sub = x0.2.1 - 16)) (List.find? (fun e => e.1 == 7) s.dev.emi.probeFails) =
      true) ∧
    At pf4 (fun s => inTurnaround s.dev = true ∧ 16 ≤ (s.dev.emi.probeFails.getD 0 (0, 0, 0)).2.1 ∧
      spareRow s.dev (s.dev.emi.probeFails.getD 0 (0, 0, 0)).1 ≠ 255 ∧ (bankGet s.dev (s.dev.emi.probeFails.getD 0 (0, 0, 0)).1).sub =
      (s.dev.emi.probeFails.getD 0 (0, 0, 0)).2.1 - 16) := by
  and_intros <;> decide +kernel

end Turnaround

namespace Switches

def tn : Dev := modSeq (fun q => {q with phase := .turnaround, flushes := 2}) ready
def rail : Dev := modSaf (fun x => {x with railClosed := true}) (inState .armed tn)
def outs : Dev := modSaf (fun x => {x with outs := x.outs.map (fun o => {o with energised := true})}) ready
def lck : Dev := modSaf (fun x => {x with outs := x.outs.map (fun o => {o with locked := true})}) ready
def rep : Dev := modEmi (fun e => {e with reports := [⟨135, 20, 60, 64, 1, false, false⟩]})
  (modSeq (fun q => {q with dwellOpen := true, dwell := 3, shot := 1, dwellTime := 2000000000}) (inState .running ready))
def repO : Dev := modSaf (fun x => {x with committed := some (patch (zeros 1024) 0x28 (leS 4 90000))}) rep
def rep7 : Dev := modSaf (fun x => {x with missing := 7}) rep
def clk : Dev := modSaf (fun x => {x with clockRatios := [1000000, 1000000, 1000000]}) ready
def armw : Dev := modSaf (fun x => {x with armTests := 2})
  (modScan (fun x => {x with lock := true}) (modMb 1 (fun m => {m with running := [{cmd 0x103 [] with t := 2000000000}]}) ready))
def repB : Dev := modSaf (fun x => {x with committed := some (patch (zeros 1024) 0x10 (le 4 1))}) rep

theorem test_witness_TussockJudgesSwitchesPulsesAndClocks :
    At ready (fun s => ticking s.dev = true ∧ s.dev.saf.railClosed = false ∧
      (s.dev.sys.op = OpState.ready ∨ s.dev.sys.op = OpState.armed ∨ s.dev.sys.op = OpState.running)) ∧
    At ready (fun s => ticking s.dev = true ∧ s.dev.saf.railClosed = false ∧ findRunning s.dev 259 = none) ∧
    At ready (fun s => ticking s.dev = true ∧ 0 < s.dev.saf.outs.length ∧ (true = false ∨ true = true)) ∧
    At ready (fun s => (safeOut s.dev 0).energised = false) ∧
    At ready (fun s => List.find? (fun r => r.seg == 0) s.dev.emi.reports = none) ∧
    At ready (fun s => s.dev.sys.inReset = false) ∧
    At ready (fun s => (ticking s.dev = true ∨ s.dev.sys.op = OpState.bindOff) ∧
      (((List.range 3).any fun i => ratioBad (s.dev.saf.clockRatios.getD i 0) (([1000000, 1000000, 1000000]).getD i 0)) = false ∨
      s.dev.saf.clockBad = false)) ∧
    At rail (fun s => ticking s.dev = true ∧ s.dev.seq.frame % 2 < 2 ∧ s.dev.saf.railClosed = true ∧ inTurnaround s.dev = true ∧
      (s.dev.sys.op = OpState.ready ∨ s.dev.sys.op = OpState.armed ∨ s.dev.sys.op = OpState.running)) ∧
    At rail (fun s => s.dev.saf.railClosed = true ∧ (inTurnaround s.dev = false ∨ 1 ≠ s.dev.seq.frame % 2)) ∧
    At outs (fun s => ticking s.dev = true ∧ 0 < s.dev.saf.outs.length ∧ (safeOut s.dev 0).energised = true) ∧
    At outs (fun s => 0 < s.dev.saf.outs.length ∧ (safeOut s.dev 0).energised = true) ∧
    At lck (fun s => ticking s.dev = true ∧ 0 < s.dev.saf.outs.length ∧ (safeOut s.dev 0).energised = false ∧
      (safeOut s.dev 0).locked = true) ∧
    At rep (fun s => Option.any (fun x0 =>
      decide ((x0.still = true ∨ outsideSpan (cellCentre s.dev.saf.committed) (pulseAngle s.dev).1 ≤ 256000) ∧ x0.seg < 136 ∧
      0 < reportedFj x0 ∧ 0 < 5)) (List.find? (fun r => r.seg == 135) s.dev.emi.reports) = true) ∧
    At rep (fun s => Option.any (fun x0 =>
      decide ((x0.still = true ∨ outsideSpan (cellCentre s.dev.saf.committed) (pulseAngle s.dev).1 ≤ 256000) ∧ x0.seg < 136 ∧
      0 < 59856000 ∧ 0 < 5)) (List.find? (fun r => r.seg == 135) s.dev.emi.reports) = true) ∧
    At rep7 (fun s => s.dev.saf.missing = 7 ∧ (s.dev.sys.op = OpState.ready ∨ s.dev.sys.op = OpState.armed ∨
      s.dev.sys.op = OpState.running) ∧ (List.find? (fun r => r.seg == 135) s.dev.emi.reports).isSome = true) ∧
    At repO (fun s => Option.any (fun x0 =>
      decide (x0.still = false ∧ 256000 < outsideSpan (cellCentre s.dev.saf.committed) (pulseAngle s.dev).1 ∧
      (s.dev.sys.op = OpState.ready ∨ s.dev.sys.op = OpState.armed ∨ s.dev.sys.op = OpState.running)))
      (List.find? (fun r => r.seg == 135) s.dev.emi.reports) = true) ∧
    At (modSaf (fun x => {x with clockBad := true}) clk) (fun s => (ticking s.dev = true ∨ s.dev.sys.op = OpState.bindOff) ∧
      ((List.range 3).any fun i => ratioBad (s.dev.saf.clockRatios.getD i 0) (([1000000, 0, 1000000]).getD i 0)) = true ∧
      s.dev.saf.clockBad = true ∧ (s.dev.sys.op = OpState.ready ∨ s.dev.sys.op = OpState.armed ∨ s.dev.sys.op = OpState.running)) ∧
    At armw (fun s => ticking s.dev = true ∧ s.dev.saf.railClosed = false ∧ s.dev.sys.op = OpState.ready ∧ s.dev.scan.lock = true ∧
      putBit s.dev.saf.armTests 0 true = 3 ∧ (findRunning s.dev 259).isSome = true) ∧
    At repB (fun s => Option.any (fun x0 =>
      decide ((x0.still = true ∨ outsideSpan (cellCentre s.dev.saf.committed) (pulseAngle s.dev).1 ≤ 256000) ∧ x0.seg < 136 ∧
      0 < reportedFj x0 ∧ 0 < 5 ∧ (∃ x ∈ if x0.still = true then List.range 32 else cellsCharged (cellCentre s.dev.saf.committed)
      (pulseAngle s.dev).1 (pulseAngle s.dev).2, budgetOf s.dev 0 < accSum s.dev 0 (8 * x + x0.seg / 17) + reportedFj x0) ∧
      (s.dev.sys.op = OpState.ready ∨ s.dev.sys.op = OpState.armed ∨ s.dev.sys.op = OpState.running)))
      (List.find? (fun r => r.seg == 135) s.dev.emi.reports) = true) ∧
    At repB (fun s => Option.any (fun x0 =>
      decide ((x0.still = true ∨ outsideSpan (cellCentre s.dev.saf.committed) (pulseAngle s.dev).1 ≤ 256000) ∧ x0.seg < 136 ∧
      0 < 59856000 ∧ 0 < 5 ∧ (∃ x ∈ if x0.still = true then List.range 32 else cellsCharged (cellCentre s.dev.saf.committed)
      (pulseAngle s.dev).1 (pulseAngle s.dev).2, budgetOf s.dev 0 < accSum s.dev 0 (8 * x + x0.seg / 17) + 59856000) ∧
      (s.dev.sys.op = OpState.ready ∨ s.dev.sys.op = OpState.armed ∨ s.dev.sys.op = OpState.running)))
      (List.find? (fun r => r.seg == 135) s.dev.emi.reports) = true) ∧
    At (modKmp (fun k => {k with session := none}) (inState .halted clk)) (fun s =>
      (s.dev.sys.op = OpState.castOn ∨ s.dev.sys.op = OpState.halted)) := by
  and_intros <;> decide +kernel

end Switches

namespace SafetyInputs

def s0 : Dev := modSaf (fun x => {x with sampleAt := 2000000000}) ready
def ra : Dev := modSaf (fun x =>
  {x with committed := some (patch (zeros 1024) 0x80 (le 1 1 ++ le 1 0xFF ++ zeros 2 ++ le 4 100)), set := some 0, vsafeOk := true, outs := x.outs.map (fun o => {o with condSince := some 1990000000})}) (inState .running ready)
def pul : Dev := modSaf (fun x =>
  {x with sampleAt := 2000000000, pulses := [some 1999700000, some 1999700000, some 1999700000, some 1999700000], inputs := x.inputs.map (fun y => {y with filt := true, missed := 1})}) ready
def pul3 : Dev := modSaf (fun x =>
  {x with committed := some (((List.range 8).foldl (fun b i => patch b (0x41 + 8*i) (le 1 (1 + i % 4))) (patch (zeros 1024) 0x40 (le 1 1))))}) pul

theorem test_witness_SafetyInputsAndOutputsFollow :
    At s0 (fun s => ticking s.dev = true ∧ ownPulse s.dev 0 (max (tussNow s.dev) (s.dev.saf.sampleAt + 50000)) = none) ∧
    At s0 (fun s => ticking s.dev = true) ∧
    At s0 (fun s => s.dev.saf.pending = none) ∧
    At ra (fun s => 0 < s.dev.saf.outs.length ∧ restartAuto s.dev 0 = true ∧ (safeOut s.dev 0).energised = false ∧
      outConditions s.dev 0 = true ∧ (safeOut s.dev 0).condSince.isSome = true) ∧
    At (inState .ready ra) (fun s => 0 < s.dev.saf.outs.length ∧ restartAuto s.dev 0 = true ∧ (safeOut s.dev 0).energised = false ∧
      (outConditions s.dev 0 = false ∨ (safeOut s.dev 0).condSince = none)) ∧
    At (modSaf (fun x => {x with pending := some ([], 0, 7)}) ready) (fun s => s.dev.saf.pending.isSome = true) ∧
    At pul3 (fun s => Option.any (fun x0 => decide (ticking s.dev = true ∧ 0 < 8 ∧ (safeIn s.dev 0).judged = false ∧
      x0 + 300000 ≤ max (tussNow s.dev) (s.dev.saf.sampleAt + 50000) ∧ max (tussNow s.dev) (s.dev.saf.sampleAt + 50000) < x0 + 400000 ∧
      (safeIn s.dev 0).filt = true ∧ bit 128 0 = false)) (ownPulse s.dev 0 (max (tussNow s.dev) (s.dev.saf.sampleAt + 50000))) = true) ∧
    At pul3 (fun s => Option.any (fun x0 => decide (ticking s.dev = true ∧ 7 < 8 ∧ (safeIn s.dev 7).judged = false ∧
      x0 + 300000 ≤ max (tussNow s.dev) (s.dev.saf.sampleAt + 50000) ∧ max (tussNow s.dev) (s.dev.saf.sampleAt + 50000) < x0 + 400000 ∧
      (safeIn s.dev 7).filt = true ∧ bit 128 7 = true ∧ 1 ≤ (safeIn s.dev 7).missed))
      (ownPulse s.dev 7 (max (tussNow s.dev) (s.dev.saf.sampleAt + 50000))) = true) := by
  and_intros <;> decide +kernel

end SafetyInputs

namespace SafeTransport

def up : Dev := modNet (fun n =>
  {n with linkUp := [true, false], ip4 := ⟨24, [192#8, 168#8, 1#8, 9#8] ++ zeros 12, zeros 16⟩, peers := n.peers.map (fun _ => ⟨4, 5000, le 16 0x05060708⟩)}) ready
def cfgC : Bytes := patch (zeros 1024) 0x100 (le 4 77 ++ le 2 100 ++ le 2 10 ++ le 1 3 ++ le 1 4 ++ le 1 1 ++ le 1 3)
def conn (st : HstState) : Dev := modHst (fun h =>
  {h with conns := listMod h.conns 0 (fun x => {x with state := st, stamps := [(1999990, 2)], cycleAt := 1990000000, fails := []})})
  (modSaf (fun x => {x with committed := some cfgC}) up)
def body : Bytes := patch (zeros 88) 0 (le 4 77 ++ le 4 5 ++ le 4 6 ++ le 4 1999990 ++ le 1 2)
def msg : Bytes := body ++ le 4 3130108877
def job (st : HstState) (m : Bytes) : Dev := modHst (fun h => {h with jobs := [(0, m), (1, [])]}) (conn st)
def lv (st : HstState) (f : Conn → Conn) (m : Bytes) : State :=
  having (modHst (fun h => {h with conns := listMod h.conns 0 (fun x => f {x with acceptedAt := 1999999000, rxSeq := some 4})})
  (job st m))
def data : Bytes := patch (patch body 0x10 (le 1 1 ++ le 1 8)) 0x18 (le 1 3 ++ le 1 2)
def dat : Bytes := data ++ le 4 3010481474

/-- The checks of the two messages as written out above. -/
theorem test_hst_checks : hookCheck 77 5 body = 3130108877 ∧ hookCheck 77 5 data = 3010481474 :=
  ⟨hook_halves 44 (x := 2721089778#32) (y := 1164858418#32) (by decide +kernel) (by decide +kernel),
   hook_halves 44 (x := 2509302853#32) (y := 1284485821#32) (by decide +kernel) (by decide +kernel)⟩

/-- The messages' checks are right by `test_hst_checks`. -/
theorem test_witness_SafeTransportConnectionsStep :
    At up (fun s => s.dev.sys.inReset = false ∧ s.dev.net.linkUp.any id = true ∧ hstServes s.dev = true) ∧
    At up (fun s => s.dev.sys.inReset = false ∧ s.dev.net.linkUp.any id = true) ∧
    At up (fun s => (s.dev.hst.jobs = [] ∨ tagsWait s.dev = true)) ∧
    At up (fun s => hstServes s.dev = true ∧ 0 < s.dev.hst.conns.length ∧
      ((connGet s.dev 0).state ≠ HstState.run ∨ List.take 4 (hstData s.dev) = (connGet s.dev 0).sent ∨ hookBWaits s.dev = true)) ∧
    At up (fun s => hstServes s.dev = true ∧ 0 < s.dev.hst.conns.length ∧
      ((connGet s.dev 0).state = HstState.closed ∨ (connGet s.dev 0).state = HstState.fault ∨ hookBWaits s.dev = true)) ∧
    At (conn .run) (fun s => hstServes s.dev = true ∧ 0 < s.dev.hst.conns.length ∧
      ((connGet s.dev 0).state = HstState.start ∨ (connGet s.dev 0).state = HstState.run) ∧ hookBWaits s.dev = false) ∧
    At (conn .run) (fun s => hstServes s.dev = true ∧ 0 < s.dev.hst.conns.length ∧ (connGet s.dev 0).state = HstState.run ∧
      List.take 4 (hstData s.dev) ≠ (connGet s.dev 0).sent ∧ hookBWaits s.dev = false) ∧
    At (conn .run) (fun s => hstServes s.dev = true ∧ 0 < s.dev.hst.conns.length ∧ (connGet s.dev 0).state = HstState.run) ∧
    At (conn .fault) (fun s => hstServes s.dev = true ∧ 0 < s.dev.hst.conns.length ∧ (connGet s.dev 0).state = HstState.fault ∧
      connCfg s.dev 0 10 1 = 1) ∧
    At (job .closed msg) (fun s =>
      Option.any (fun x0 => decide (tagsWait s.dev = false ∧ hstServes s.dev = true ∧ x0.1 < s.dev.hst.conns.length ∧
      ((connGet s.dev x0.1).state = HstState.closed ∨ (connGet s.dev x0.1).state = HstState.fault))) s.dev.hst.jobs.head? = true) ∧
    At (job .start msg) (fun s => Option.any (fun x0 =>
      decide (tagsWait s.dev = false ∧ hstServes s.dev = true ∧ x0.1 < s.dev.hst.conns.length ∧
      (connGet s.dev x0.1).state = HstState.start ∧ (hstForm x0.2 = true ∧ rdU x0.2 0 4 = connCfg s.dev x0.1 0 4) ∧
      wrapU 32 (stampNow s.dev + 2 ^ 32 - rdU x0.2 12 4) ≤ connWd s.dev x0.1 / 1000 ∧ (rdU x0.2 12 4, 2) ∈ (connGet s.dev x0.1).stamps ∧
      1 ≠ x0.1)) s.dev.hst.jobs.head? = true) ∧
    At (job .start (msg.take 50)) (fun s =>
      Option.any (fun x0 => decide (tagsWait s.dev = false ∧ hstServes s.dev = true ∧ x0.1 < s.dev.hst.conns.length ∧
      (connGet s.dev x0.1).state = HstState.start ∧
      (¬(hstForm x0.2 = true ∧ rdU x0.2 0 4 = connCfg s.dev x0.1 0 4) ∨
      ¬wrapU 32 (stampNow s.dev + 2 ^ 32 - rdU x0.2 12 4) ≤ connWd s.dev x0.1 / 1000 ∨ (rdU x0.2 12 4, 2) ∉ (connGet s.dev x0.1).stamps) ∧
      1 ≠ x0.1)) s.dev.hst.jobs.head? = true) ∧
    At (job .run msg) (fun s => Option.any (fun x0 =>
      decide (tagsWait s.dev = false ∧ hstServes s.dev = true ∧ x0.1 < s.dev.hst.conns.length ∧
      (connGet s.dev x0.1).state = HstState.run ∧ ¬tussNow s.dev < (connGet s.dev x0.1).acceptedAt + connWd s.dev x0.1 ∧ 1 ≠ x0.1))
      s.dev.hst.jobs.head? = true) ∧
    At (conn .run) (fun s => hstServes s.dev = true ∧ 0 < s.dev.hst.conns.length ∧
      ((connGet s.dev 0).state = HstState.start ∨ (connGet s.dev 0).state = HstState.run) ∧ hookBWaits s.dev = false ∧
      (s.dev.net.peers.getD 0 Dest.unset).family ≠ 0 ∧ 0 < s.dev.slu.ports.length) ∧
    At (conn .run) (fun s => hstServes s.dev = true ∧ 0 < s.dev.hst.conns.length ∧ (connGet s.dev 0).state = HstState.run ∧
      List.take 4 (hstData s.dev) ≠ (connGet s.dev 0).sent ∧ hookBWaits s.dev = false ∧ (s.dev.net.peers.getD 0 Dest.unset).family ≠ 0 ∧
      0 < s.dev.slu.ports.length) ∧
    AtState (lv .run id msg) (fun s =>
      Option.any (fun x1 => decide (Option.any (fun x0 =>
      decide (tagsWait s.dev = false ∧ hstServes s.dev = true ∧ x1.1 < s.dev.hst.conns.length ∧
      (connGet s.dev x1.1).state = HstState.run ∧ tussNow s.dev < (connGet s.dev x1.1).acceptedAt + connWd s.dev x1.1 ∧
      (hstForm x1.2 = true ∧ rdU x1.2 0 4 = connCfg s.dev x1.1 0 4) ∧ x0 < 2 ^ 32 ∧
      rdU x1.2 4 4 = wrapU 32 (x0 + 1) ∧ rdU x1.2 16 1 = 2 ∧ 1 ≠ x1.1)) (connGet s.dev x1.1).rxSeq = true)) s.dev.hst.jobs.head? = true) ∧
    AtState (lv .run id dat) (fun s =>
      Option.any (fun x1 => decide (Option.any (fun x0 =>
      decide (tagsWait s.dev = false ∧ hstServes s.dev = true ∧ x1.1 < s.dev.hst.conns.length ∧
      (connGet s.dev x1.1).state = HstState.run ∧ tussNow s.dev < (connGet s.dev x1.1).acceptedAt + connWd s.dev x1.1 ∧
      (hstForm x1.2 = true ∧ rdU x1.2 0 4 = connCfg s.dev x1.1 0 4) ∧ x0 < 2 ^ 32 ∧
      rdU x1.2 4 4 = wrapU 32 (x0 + 1) ∧ rdU x1.2 16 1 = 1 ∧ wrapU 32 (stampNow s.dev + 2 ^ 32 - rdU x1.2 12 4) ≤ connWd s.dev x1.1 / 1000
      ∧ rdU x1.2 12 4 ∈ List.map (fun x => x.1) (connGet s.dev x1.1).stamps ∧ 1 ≠ x1.1)) (connGet s.dev x1.1).rxSeq = true))
      s.dev.hst.jobs.head? = true) ∧
    AtState (lv .run (fun x => {x with rxSeq := some 5}) dat) (fun s =>
      Option.any (fun x0 => decide (tagsWait s.dev = false ∧ hstServes s.dev = true ∧ x0.1 < s.dev.hst.conns.length ∧
      (connGet s.dev x0.1).state = HstState.run ∧ tussNow s.dev < (connGet s.dev x0.1).acceptedAt + connWd s.dev x0.1 ∧
      (hstForm x0.2 = true ∧ rdU x0.2 0 4 = connCfg s.dev x0.1 0 4) ∧
      laterThan 32 (rdU x0.2 4 4) ((connGet s.dev x0.1).rxSeq.getD 0) = false ∧ 1 ≠ x0.1)) s.dev.hst.jobs.head? = true) ∧
    AtState (lv .run (fun x => {x with stamps := []}) dat) (fun s =>
      Option.any (fun x1 => decide (Option.any (fun x0 =>
      decide (tagsWait s.dev = false ∧ hstServes s.dev = true ∧ x1.1 < s.dev.hst.conns.length ∧
      (connGet s.dev x1.1).state = HstState.run ∧ tussNow s.dev < (connGet s.dev x1.1).acceptedAt + connWd s.dev x1.1 ∧
      (hstForm x1.2 = true ∧ rdU x1.2 0 4 = connCfg s.dev x1.1 0 4) ∧ x0 < 2 ^ 32 ∧
      rdU x1.2 4 4 = wrapU 32 (x0 + 1) ∧ rdU x1.2 16 1 = 1 ∧
      (¬wrapU 32 (stampNow s.dev + 2 ^ 32 - rdU x1.2 12 4) ≤ connWd s.dev x1.1 / 1000 ∨
      rdU x1.2 12 4 ∉ List.map (fun x => x.1) (connGet s.dev x1.1).stamps) ∧ 1 ≠ x1.1)) (connGet s.dev x1.1).rxSeq = true))
      s.dev.hst.jobs.head? = true) := by
  and_intros <;> decide +kernel

end SafeTransport

namespace Grants

def g : Grant := ⟨3, 1990000000, 5, 0, false, false, 0, 10, 0, [le 4 7, le 2 9], [], none⟩
def gr (p : Nat) : Dev := modSlu (modPort p (fun x => {x with grant := some g})) ready
def msgD : Dev := modSlu (modPort 0 (fun x => {x with msgs := [⟨1, zeros 92, le 4 5, 51200, 51200, 0, 0⟩]}))
  (modNet (fun n => {n with linkUp := [true, false], ip4 := ⟨24, [192#8, 168#8, 1#8, 9#8] ++ zeros 12, zeros 16⟩}) ready)
def evD : Dev := modEv (fun e => {e with queues := e.queues.map (fun q => {q with recs := [⟨14, 0, 0, 0, []⟩]})}) ready
def ringD : Dev := modPcie (fun x =>
  {x with rings := listMod x.rings 7 (fun r => {r with firstAt := some 1999999000, entries := 3, mod := 0x10002})}) ready
def g4 : Grant := ⟨5, 1990000000, 5, 0, false, false, 0, 10, 0, [le 4 7, le 2 9], [], none⟩
def upD (r : Nat) (p : Nat) : Dev := modNet (fun n => {n with linkUp := [true, false]})
  (modPcie (fun p => {p with linkUp := true, busMaster := true})
  (modSlu (modPort p (fun x => {x with grant := some {g4 with requester := r}})) ready))

theorem test_witness_GrantsAreIssuedAndEnded :
    At ready (fun s => (2 < 3 ∨ (portGet s.dev.slu 3).grant ≠ none)) ∧
    At ready (fun s => 0 < s.dev.slu.ports.length ∧ (portGet s.dev.slu 0).grant = none ∧ arbitrate (notePools 0 s.fresh) 0 = none) ∧
    At ready (fun s => (portGet s.dev.slu 0).grant = none) ∧
    At ready (fun s => ((ringGet s.dev 7).firstAt = none ∨ (ringGet s.dev 7).mod / 65536 = 0)) ∧
    At (gr 0) (fun s => Option.any (fun x0 => decide (0 < s.dev.slu.ports.length ∧ (x0.requester ≠ 3 ∨ 0 = 0) ∧
      (txReady s.dev 0 = false ∨ 2 < 0))) (portGet s.dev.slu 0).grant = true) ∧
    At (gr 0) (fun s => 0 < s.dev.slu.ports.length ∧ (portGet s.dev.slu 0).grant.isSome = true) ∧
    At (gr 1) (fun s => Option.any (fun x0 => decide (1 < s.dev.slu.ports.length ∧ x0.requester = 3 ∧ 1 ≠ 0 ∧ msgReady s.dev 1 = false))
      (portGet s.dev.slu 1).grant = true) ∧
    At (gr 2) (fun s => Option.any (fun x0 => decide (2 < s.dev.slu.ports.length ∧ x0.requester = 3 ∧ 2 ≠ 0 ∧ msgReady s.dev 2 = true ∧
      0 ≠ 2)) (portGet s.dev.slu 2).grant = true) ∧
    At msgD (fun s => Option.any (fun x0 => decide (0 < 3 ∧ 0 < s.dev.slu.ports.length ∧ (portGet s.dev.slu 0).grant = none ∧
      1 ≤ x0.requester ∧ x0.requester ≤ 3)) (arbitrate (notePools 0 s.fresh) 0) = true) ∧
    At msgD (fun s => 0 < s.dev.slu.ports.length ∧ (portGet s.dev.slu 0).grant = none ∧ (arbitrate (notePools 0 s.fresh) 0).isSome = true) ∧
    At evD (fun s => Option.any (fun x0 => decide (2 < 3 ∧ 2 < s.dev.slu.ports.length ∧ (portGet s.dev.slu 2).grant = none ∧
      x0.requester = 4)) (arbitrate (notePools 2 s.fresh) 2) = true) ∧
    At ringD (fun s => 7 < s.dev.pcie.rings.length ∧ (ringGet s.dev 7).mod / 65536 ≠ 0 ∧ (ringGet s.dev 7).firstAt.isSome = true) ∧
    At (upD 5 0) (fun s => 0 < s.dev.slu.ports.length ∧ txReady s.dev 0 = true ∧ prmGet s.dev 3848 = 0 ∧
      (portGet s.dev.slu 0).grant.isSome = true) ∧
    At (upD 5 1) (fun s => Option.any (fun x0 => decide (1 < s.dev.slu.ports.length ∧ 1 = 1 ∧ txReady s.dev 1 = true ∧ x0.requester ≠ 3 ∧
      0 ≠ 1)) (portGet s.dev.slu 1).grant = true) ∧
    At (upD 5 1) (fun s => Option.any (fun x0 => decide (1 < s.dev.slu.ports.length ∧ 1 = 1 ∧ txReady s.dev 1 = true ∧ x0.requester ≠ 3))
      (portGet s.dev.slu 1).grant = true) ∧
    At (upD 5 2) (fun s => Option.any (fun x0 => decide (2 < s.dev.slu.ports.length ∧ 2 = 2 ∧ txReady s.dev 2 = true ∧ x0.requester ≠ 3 ∧
      0 ≠ 2)) (portGet s.dev.slu 2).grant = true) := by
  and_intros <;> decide +kernel

end Grants

namespace Triggers

def pc (flags post : Nat) : Bytes := patch (le 8 1 ++ le 2 1 ++ le 1 1 ++ le 1 0 ++ le 1 4 ++ zeros 51) 0x0E
  (le 1 post ++ le 1 15 ++ le 1 flags)
def pt (flags : Nat) (src : Nat) : Dev := modPeat (fun x =>
  {x with config := pc flags 4, state := .armed, trigs := [(src, 3, 1999000000)]}) ready
def dead (s : PeatState) : Dev := modPeat (fun x => {x with config := pc 0 4, state := s}) ready
def full : Dev := modPeat (fun x => {x with segs := x.segs.map (fun y => {y with desc := some ⟨1, 0, 0, 0, 0, 0, 0, 0, 0, 0, 0, 0, 0⟩})})
  (dead .dead)
def p0 (f s : Nat) : Dev := modPeat (fun x => {x with config := pc f 0, state := .armed, trigs := [(s, 3, 1999000000)]}) ready

theorem test_witness_TriggersAreAcceptedAndForwarded :
    At (pt 0 1) (fun s => s.dev.peat.state = PeatState.armed ∧ peatPost s.dev ≠ 0 ∧ (firstTrig s.dev.peat.trigs).isSome = true) ∧
    At (pt 0 1) (fun s => Option.any (fun x0 =>
      decide (s.dev.peat.state = PeatState.armed ∧ x0.1 ≠ 2 ∧ bit (peatField s.dev 16 1) 0 = false)) (firstTrig s.dev.peat.trigs) = true) ∧
    At (pt 0 1) (fun s => Option.any (fun x0 => decide (s.dev.peat.state = PeatState.armed ∧ x0.1 ≠ 2)) (firstTrig s.dev.peat.trigs) =
      true) ∧
    At (pt 0 1) (fun s => s.dev.peat.state ≠ PeatState.dead) ∧
    At (pt 0 1) (fun s => s.dev.sys.inReset = false ∧ true = decide (prmGet s.dev 3856 = 0) ∧
      (s.dev.trig.lastIn.all (fun u => decide (↑u + 2000 ≤ ↑0 - s.dev.sys.stepSum)) = true) ∧ peatTrigOn s.dev 0 = true ∧
      s.dev.peat.state = PeatState.armed) ∧
    At (pt 0 1) (fun s => s.dev.sys.inReset = false ∧ false ≠ decide (prmGet s.dev 3856 = 0)) ∧
    At (pt 0 1) (fun s => s.dev.trig.outActive = false) ∧
    At (pt 3 1) (fun s => Option.any (fun x0 =>
      decide (s.dev.peat.state = PeatState.armed ∧ x0.1 ≠ 2 ∧ bit (peatField s.dev 16 1) 0 = true)) (firstTrig s.dev.peat.trigs) = true) ∧
    At (pt 3 2) (fun s => Option.any (fun x0 => decide (s.dev.peat.state = PeatState.armed ∧ x0.1 = 2)) (firstTrig s.dev.peat.trigs) =
      true) ∧
    At (dead .dead) (fun s => (s.dev.peat.state ≠ PeatState.armed ∨ s.dev.peat.trigs = [])) ∧
    At (dead .dead) (fun s => s.dev.peat.state = PeatState.dead ∧ (peatFree s.dev).head?.isSome = true) ∧
    At full (fun s => s.dev.peat.state = PeatState.dead ∧ peatFree s.dev = []) ∧
    At ready (fun s => s.dev.sys.inReset = false ∧ true = decide (prmGet s.dev 3856 = 0) ∧
      (s.dev.trig.lastIn.all (fun u => decide (↑u + 2000 ≤ ↑0 - s.dev.sys.stepSum)) = true) ∧ peatTrigOn s.dev 0 = false) ∧
    At (modTrig (fun x => {x with lastIn := some 1999999000}) ready) (fun s =>
      Option.any (fun x0 => decide (s.dev.sys.inReset = false ∧ true = decide (prmGet s.dev 3856 = 0) ∧
      ↑0 - s.dev.sys.stepSum < ↑x0 + 2000)) s.dev.trig.lastIn = true) ∧
    At (modTrig (fun x => {x with outActive := true, outEnd := 2000001000}) ready) (fun s => s.dev.trig.outActive = true) ∧
    At (p0 0 1) (fun s => s.dev.peat.state = PeatState.armed ∧ peatPost s.dev = 0 ∧ (firstTrig s.dev.peat.trigs).isSome = true) := by
  and_intros <;> decide +kernel

end Triggers

namespace Backbone

def up : Dev := modPrm (fun x => {x with vals := tabPut 0xF03 9 (tabPut 0xF04 1 (tabPut 0xF08 0 x.vals))})
  (modNet (fun n => {n with linkUp := [true, false], ip4 := ⟨24, [192#8, 168#8, 1#8, 9#8] ++ zeros 12, zeros 16⟩, slave := some 0, gptp := [⟨true, 5, 9⟩, ⟨true, 5, 9⟩], prp := [⟨0x112233445566, [(7, 1999999999)]⟩]}) ready)
def full : Dev := modNet (fun n => {n with prp := (List.range 256).map (fun k => ⟨k, [(7, 1999999999)]⟩)}) up
def sec : Dev := modPrm (fun x => {x with vals := tabPut 0xF09 2 (tabPut 0xF08 1 x.vals)})
  (modNet (fun n => {n with rxScs := n.rxScs.map (fun x => {x with sas := [none, some ⟨true, 5, zeros 32⟩, none, none]}), txSas := [some ⟨true, 5, zeros 32⟩, none, none, none]}) up)
def sv (x : Servo) : Dev := modTim (fun t => {t with servo := x, inBandSince := some 1990000000}) up

theorem test_witness_BackboneEventsAct :
    At up (fun s => (1 < 0 ∨ physOff s.dev = true ∨ s.dev.net.linkUp.getD 0 false = true)) ∧
    At up (fun s => physOff s.dev = false ∧ 0 < s.dev.net.linkUp.length ∧ s.dev.net.linkUp.getD 0 false ≠ false) ∧
    At up (fun s => physOff s.dev = false ∧ 0 < s.dev.net.linkUp.length ∧ s.dev.net.linkUp.getD 0 false ≠ false ∧
      (after (Instr.linkStateChange 0 false) s).dev.net.linkUp.any id = false ∧
      (after (Instr.linkStateChange 0 false) s).dev.kmp.session.isSome = true) ∧
    At up (fun s => physOff s.dev = false ∧ 1 < s.dev.net.linkUp.length ∧ s.dev.net.linkUp.getD 1 false ≠ true) ∧
    At up (fun s => physOff s.dev = false ∧ 1 < s.dev.net.linkUp.length ∧ s.dev.net.linkUp.getD 1 false ≠ true ∧
      (after (Instr.linkStateChange 1 true) s).dev.net.linkUp.any id = true) ∧
    At up (fun s => (¬s.dev.net.linkUp.getD 0 false = true ∨ 2100 < 2101)) ∧
    At up (fun s => s.dev.net.linkUp.getD 0 false = true ∧
      Option.any (fun n => n.seqs.any fun e =>
      e.1 == 7) (List.find? (fun n => n.mac == 18838586676582) (freshNodes (tussNow s.dev) s.dev.net.prp)) = true) ∧
    At up (fun s => s.dev.net.linkUp.getD 0 false = true ∧
      Option.any (fun n => n.seqs.any fun e =>
      e.1 == 8) (List.find? (fun n => n.mac == 18838586676582) (freshNodes (tussNow s.dev) s.dev.net.prp)) = false ∧
      ((List.find? (fun n => n.mac == 18838586676582) (freshNodes (tussNow s.dev) s.dev.net.prp)).isSome = true ∨
      (freshNodes (tussNow s.dev) s.dev.net.prp).length < 256)) ∧
    At up (fun s => s.dev.net.linkUp.getD 0 false = true ∧
      Option.any (fun n => n.seqs.any fun e =>
      e.1 == 8) (List.find? (fun n => n.mac == 18838586676582) (freshNodes (tussNow s.dev) s.dev.net.prp)) = false ∧
      (prmGet s.dev 3848 = 0 ∨ true = false)) ∧
    At up (fun s => s.dev.net.linkUp.any id = true ∧ s.dev.net.linkUp.getD 0 false = true) ∧
    At up (fun s => (¬s.dev.net.linkUp.getD 0 false = true ∨ 0 ≠ 0 ∨ 2 < 0 ∨ 0 = 0 ∧ ((1 : Int) < -5 ∨ 0 < (1 : Int)) ∨ 0 = 0 ∧
      (s.dev.net.slave ≠ some 0 ∨ (gptpGet s.dev 0).asCapable = false))) ∧
    At up (fun s => s.dev.net.linkUp.getD 0 false = true ∧ 0 < s.dev.net.gptp.length ∧
      (bestPort (after (Instr.gptpMessageReceive 0 0 1 9 (0 : Int) (800 : Int) (300000 : Int)) s).dev).isSome = true) ∧
    At up (fun s => s.dev.net.linkUp.getD 0 false = true ∧ 0 < s.dev.net.gptp.length ∧
      (bestPort (after (Instr.gptpMessageReceive 0 0 2 9 (0 : Int) (800 : Int) (300000 : Int)) s).dev).isSome = true) ∧
    At up (fun s => s.dev.net.linkUp.getD 0 false = true ∧ 0 < s.dev.net.gptp.length ∧ -5 ≤ (0 : Int) ∧ (0 : Int) ≤ 0 ∧
      s.dev.net.slave = some 0 ∧ (gptpGet s.dev 0).asCapable = true ∧ (s.dev.tim.servo = Servo.free ∨ s.dev.tim.servo = Servo.holdover) ∧
      -100000 ≤ (800 : Int) ∧ (800 : Int) ≤ 100000) ∧
    At up (fun s => s.dev.net.linkUp.getD 0 false = true ∧ 0 < s.dev.net.gptp.length ∧ -5 ≤ (0 : Int) ∧ (0 : Int) ≤ 0 ∧
      s.dev.net.slave = some 0 ∧ (gptpGet s.dev 0).asCapable = true ∧ (s.dev.tim.servo = Servo.free ∨ s.dev.tim.servo = Servo.holdover) ∧
      ((100001 : Int) < -100000 ∨ 100000 < (100001 : Int))) ∧
    At up (fun s => (s.dev.tim.servo ≠ Servo.locking ∨ s.dev.tim.inBandSince = none)) ∧
    At up (fun s => (s.dev.tim.servo = Servo.free ∨ s.dev.tim.servo = Servo.holdover)) ∧
    At up (fun s => s.dev.net.slave.isSome = true) ∧
    At up (fun s => s.dev.net.linkUp.getD 0 false = true ∧
      ((if 0 = 0 ∨ 0 = 2 then List.take 4 s.dev.net.ip4.addr else s.dev.net.ip6.addr).all fun x => x == 0#8) = false ∧
      ((([192#8, 168#8, 1#8, 9#8]:Bytes)) = if 0 = 0 ∨ 0 = 2 then List.take 4 s.dev.net.ip4.addr else s.dev.net.ip6.addr) ∧
      be 6 77 ≠ macBytes s.dev) ∧
    At up (fun s => s.dev.net.linkUp.getD 0 false = true ∧
      ((if 0 = 0 ∨ 0 = 2 then List.take 4 s.dev.net.ip4.addr else s.dev.net.ip6.addr).all fun x => x == 0#8) = false ∧
      ¬(((zeros 4) = if 0 = 0 ∨ 0 = 2 then List.take 4 s.dev.net.ip4.addr else s.dev.net.ip6.addr) ∧ be 6 77 ≠ macBytes s.dev) ∧
      ((([192#8, 168#8, 1#8, 9#8]:Bytes)) = if 0 = 0 ∨ 0 = 2 then List.take 4 s.dev.net.ip4.addr else s.dev.net.ip6.addr) ∧
      txReady s.dev 0 = true) ∧
    At up (fun s => s.dev.net.linkUp.getD 0 false = true ∧
      ((if 0 = 0 ∨ 0 = 2 then List.take 4 s.dev.net.ip4.addr else s.dev.net.ip6.addr).all fun x => x == 0#8) = false ∧
      ¬(((zeros 4) = if 0 = 0 ∨ 0 = 2 then List.take 4 s.dev.net.ip4.addr else s.dev.net.ip6.addr) ∧ be 6 77 ≠ macBytes s.dev) ∧
      (((zeros 4) ≠ if 0 = 0 ∨ 0 = 2 then List.take 4 s.dev.net.ip4.addr else s.dev.net.ip6.addr) ∨ txReady s.dev 0 = false)) ∧
    At up (fun s => (¬s.dev.net.linkUp.getD 0 false = true ∨
      ((if 1 = 0 ∨ 1 = 2 then List.take 4 s.dev.net.ip4.addr else s.dev.net.ip6.addr).all fun x => x == 0#8) = true ∨ 3 < 1)) ∧
    At ready (fun s => s.dev.net.linkUp.any id = false) ∧
    At ready (fun s => s.dev.net.slave = none) ∧
    At full (fun s => s.dev.net.linkUp.getD 0 false = true ∧
      Option.any (fun n => n.seqs.any fun e =>
      e.1 == 7) (List.find? (fun n => n.mac == 18838586676582) (freshNodes (tussNow s.dev) s.dev.net.prp)) = false ∧
      List.find? (fun n => n.mac == 18838586676582) (freshNodes (tussNow s.dev) s.dev.net.prp) = none ∧
      256 ≤ (freshNodes (tussNow s.dev) s.dev.net.prp).length) ∧
    At sec (fun s => s.dev.net.linkUp.getD 0 false = true ∧
      Option.any (fun n => n.seqs.any fun e =>
      e.1 == 8) (List.find? (fun n => n.mac == 18838586676582) (freshNodes (tussNow s.dev) s.dev.net.prp)) = false ∧
      prmGet s.dev 3848 ≠ 0 ∧ 0 < s.dev.net.rxScs.length ∧
      ((rxSc s.dev 0).sas.getD 0 none).all (fun sa => decide (¬(true = true ∧ 3 ≠ 0 ∧ sa.pn ≤ 3 + prmGet s.dev 3849))) = true) ∧
    At sec (fun s => Option.any (fun x0 => decide (s.dev.net.linkUp.getD 0 false = true ∧ 2100 ≤ 2100 ∧
      Option.any (fun n => n.seqs.any fun e =>
      e.1 == 8) (List.find? (fun n => n.mac == 18838586676582) (freshNodes (tussNow s.dev) s.dev.net.prp)) = false ∧
      prmGet s.dev 3848 ≠ 0 ∧ true = true ∧ 0 < s.dev.net.rxScs.length ∧ true = true ∧ 3 ≠ 0 ∧ x0.pn ≤ 3 + prmGet s.dev 3849))
      ((rxSc s.dev 0).sas.getD 1 none) = true) ∧
    At (sv .locked) (fun s => s.dev.net.linkUp.getD 0 false = true ∧ 0 < s.dev.net.gptp.length ∧ -5 ≤ (0 : Int) ∧ (0 : Int) ≤ 0 ∧
      s.dev.net.slave = some 0 ∧ (gptpGet s.dev 0).asCapable = true ∧ s.dev.tim.servo = Servo.locked ∧ -1000 ≤ (800 : Int) ∧
      (800 : Int) ≤ 1000) ∧
    At (sv .locked) (fun s => (s.dev.tim.servo = Servo.locked ∨ s.dev.tim.servo = Servo.locking)) ∧
    At (sv .locking) (fun s => s.dev.tim.servo = Servo.locking ∧ s.dev.tim.inBandSince.isSome = true) ∧
    At (modNet (fun n => {n with gptp := [⟨true, 5, 9⟩, ⟨true, 5, 8⟩]}) up) (fun s => s.dev.net.slave.isSome = true) := by
  and_intros <;> decide +kernel

end Backbone

namespace PcieSpi

def nosess : Dev := modKmp (fun k => {k with session := none}) ready
def lk0 : Dev := modPcie (fun p =>
  {p with linkUp := true, busMaster := true, rings := p.rings.map (fun r => {r with size := 16, en := true})})
  (modMb 0 (fun m => {m with present := true, rom := false}) ready)
def lk : Dev := modKmp (fun k => {k with session := none}) lk0
def nm : Dev := modPcie (fun p => {p with busMaster := false, vecs := listMod p.vecs 3 (fun v => {v with pend := true, masked := false})})
  lk0
def sess (mb : Nat) : Dev := modKmp (fun k => {k with session := some ⟨5, mb, 2000, 4000000000⟩}) nm

theorem test_witness_PcieAndSpiTransactionsAct :
    At nosess (fun s => s.dev.sys.inReset = false ∧ s.dev.pcie.linkUp = false) ∧
    At nosess (fun s => s.dev.sys.inReset = false ∧ pageLive 1 s.dev = true ∧ List.length (le 4 0x20000003) = 4 ∧
      bit (ofLe (le 4 0x20000003)) 29 = true) ∧
    At nosess (fun s => s.dev.sys.inReset = false ∧ pageLive 1 s.dev = true ∧ List.length (le 4 0x20000003) = 4) ∧
    At nosess (fun s => s.dev.sys.inReset = false ∧ pageLive 1 s.dev = true ∧ (1 = 0 → s.dev.pcie.busMaster = true) ∧
      (le 8 0x1122334455667788) ≠ [] ∧ 4096 + List.length (le 8 0x1122334455667788) ≤ 36864) ∧
    At nosess (fun s => s.dev.sys.inReset = false ∧ (0 = 0 ∨ 2 < 0 ∨ 0 = 1 ∧ s.dev.pcie.linkUp = false)) ∧
    At nosess (fun s => s.dev.sys.inReset = false ∧ s.dev.kmp.session.all (fun x => decide (portOfMb x.mb ≠ 2)) = true) ∧
    At nosess (fun s => s.dev.sys.inReset = false ∧ (131072 % 4 ≠ 0 ∨ 131072 ≤ 131072)) ∧
    At nosess (fun s => s.dev.sys.inReset = false ∧ 4096 % 4 = 0 ∧ List.length (le 8 0x1122334455667788) % 4 = 0 ∧
      (le 8 0x1122334455667788) ≠ [] ∧ List.length (le 8 0x1122334455667788) ≤ 4096 ∧
      4096 + List.length (le 8 0x1122334455667788) ≤ 131072) ∧
    At nosess (fun s => s.dev.sys.inReset = false ∧ 4096 % 4 = 0 ∧ List.length (le 8 0x1122334455667788) % 4 = 0 ∧
      (le 8 0x1122334455667788) ≠ [] ∧ List.length (le 8 0x1122334455667788) ≤ 4096 ∧
      4096 + List.length (le 8 0x1122334455667788) ≤ 36864 ∧ pageLive 1 s.dev = true) ∧
    At nosess (fun s => s.dev.sys.inReset = false ∧ 4096 + 3 ≤ 36864 ∧ pageLive 1 s.dev = true) ∧
    At lk (fun s => s.dev.sys.inReset = false ∧ s.dev.pcie.linkUp = true) ∧
    At lk (fun s => s.dev.sys.inReset = false ∧ s.dev.pcie.linkUp = true ∧ s.dev.kmp.session.all (fun x => decide (portOfMb x.mb ≠ 1)) =
      true) ∧
    At lk (fun s => s.dev.sys.inReset = false ∧ s.dev.pcie.linkUp = true ∧ 0 < s.dev.pcie.rings.length) ∧
    At lk (fun s => s.dev.sys.inReset = false ∧ s.dev.pcie.linkUp = true ∧ List.length (le 4 0x20000003) = 4) ∧
    At nm (fun s => s.dev.sys.inReset = false ∧ s.dev.pcie.linkUp = true ∧ (after (Instr.pcieFunctionReset 0) s).dev.kmp.session.isSome =
      true) ∧
    At (sess 0) (fun s => s.dev.sys.inReset = false ∧ (after Instr.spiStrapReset s).dev.kmp.session.isSome = true) := by
  and_intros <;> decide +kernel

end PcieSpi

namespace Pages

def md (f : Mailbox → Mailbox) : State := having (modMb 1 f ready)
def up (f : Mailbox → Mailbox) : Dev :=
  modMb 3 f (modNet (fun n => {n with linkUp := [true, false], ip4 := ⟨24, [192#8, 168#8, 1#8, 9#8] ++ zeros 12, zeros 16⟩})
  (modPrm (fun x => {x with vals := tabPut 0xF08 1 x.vals}) ready))
def whole (tag : Nat) : Bytes := le 2 0x101 ++ le 2 tag ++ le 4 0 ++ le 4 5 ++ zeros 4
def frag (tag : Nat) (m : Bytes) : Bytes := le 2 0xE1B7 ++ le 1 1 ++ le 1 1 ++ le 2 tag ++ le 2 0 ++ le 4 0 ++ le 4 m.length ++ m
def firstOf : Bytes := le 2 0xE1B7 ++ le 1 1 ++ le 1 1 ++ le 2 9 ++ le 1 0 ++ le 1 1 ++ le 4 0 ++ le 4 2000 ++
  zeros (datagramLimit ready 4)
def mb3 : Dev := up (fun m => {m with present := true, rom := false, highTag := some 5, recent := [⟨5, zeros 20⟩, ⟨4, []⟩]})
def posted (bytes : Bytes) : State := { having ready with ram := memWrites [] [(cmdPlace 1 (mbGet ready 1) 0, bytes)] }

theorem test_witness_MailboxPagesAndDatagramsAct :
    At ready (fun s => pageLive 0 s.dev = false) ∧
    At ready (fun s => pageLive 1 s.dev = true ∧ 1 < s.dev.kmp.mbs.length ∧ 0 % 65536 = (mbGet s.dev 1).cmdCi) ∧
    At ready (fun s => pageLive 1 s.dev = true ∧ 1 < s.dev.kmp.mbs.length ∧ ((mbGet s.dev 1).rspPi + 65536 - 0 % 65536) % 65536 ≤ 16 ∧
      (mbGet s.dev 1).rspQueue = [] ∧ (mbGet s.dev 1).cmdCi = (mbGet s.dev 1).cmdPi ∧ (mbGet s.dev 1).cmdCi < 65536) ∧
    At ready (fun s => pageLive 1 s.dev = true ∧ 1 < s.dev.kmp.mbs.length ∧ (mbGet s.dev 1).bulkRsp = false) ∧
    At ready (fun s => pageLive 1 s.dev = true ∧ 1 < s.dev.kmp.mbs.length ∧ (mbGet s.dev 1).cmdCi < 65536 ∧
      1 % 65536 = ((mbGet s.dev 1).cmdCi + 1) % 65536 ∧ rspWaiting (mbGet s.dev 1) = false ∧
      hasBulk (memRead s.ram (cmdPlace 1 (mbGet s.dev 1) (mbGet s.dev 1).cmdCi) 16) = false ∧
      rdU (memRead s.ram (cmdPlace 1 (mbGet s.dev 1) (mbGet s.dev 1).cmdCi) 16) 0 2 ≠ 498 ∧
      (takeStatus s.dev { mb := 1, tag := rdU (memRead s.ram (cmdPlace 1 (mbGet s.dev 1) (mbGet s.dev 1).cmdCi) 16) 2 2, op := rdU (memRead s.ram (cmdPlace 1 (mbGet s.dev 1) (mbGet s.dev 1).cmdCi) 16) 0 2, session := rdU (memRead s.ram (cmdPlace 1 (mbGet s.dev 1) (mbGet s.dev 1).cmdCi) 16) 8 4, flags := rdU (memRead s.ram (cmdPlace 1 (mbGet s.dev 1) (mbGet s.dev 1).cmdCi) 16) 12 2, payload := memRead s.ram (cmdPlace 1 (mbGet s.dev 1) (mbGet s.dev 1).cmdCi + 16) (min (rdU (memRead s.ram (cmdPlace 1 (mbGet s.dev 1) (mbGet s.dev 1).cmdCi) 16) 4 4) 1008), t := tussNow s.dev, src := [], srcPort := 0 } (memRead s.ram (cmdPlace 1 (mbGet s.dev 1) (mbGet s.dev 1).cmdCi) 16) false).isSome = true) ∧
    At ready (fun s => pageLive 1 s.dev = true ∧ 1 < s.dev.kmp.mbs.length ∧ 16 < ((mbGet s.dev 1).rspPi + 65536 - 1 % 65536) % 65536) ∧
    At ready (fun s => pageLive 1 s.dev = true ∧ 1 < s.dev.kmp.mbs.length ∧ (if (mbGet s.dev 1).rom = true then 1 else 16) <
      (17 % 65536 + 65536 - (mbGet s.dev 1).cmdCi) % 65536) ∧
    At ready (fun s => (s.dev.sys.inReset = true ∨ s.dev.net.linkUp.any id = false ∨ true = true)) ∧
    At ready (fun s => (mbGet s.dev 0).assembling = none) ∧
    AtState (posted (whole 9)) (fun s => pageLive 1 s.dev = true ∧ 1 < s.dev.kmp.mbs.length ∧ (mbGet s.dev 1).cmdCi < 65536 ∧
      1 % 65536 = ((mbGet s.dev 1).cmdCi + 1) % 65536 ∧ rspWaiting (mbGet s.dev 1) = false ∧
      hasBulk (memRead s.ram (cmdPlace 1 (mbGet s.dev 1) (mbGet s.dev 1).cmdCi) 16) = false ∧
      rdU (memRead s.ram (cmdPlace 1 (mbGet s.dev 1) (mbGet s.dev 1).cmdCi) 16) 0 2 ≠ 498 ∧
      takeStatus s.dev { mb := 1, tag := rdU (memRead s.ram (cmdPlace 1 (mbGet s.dev 1) (mbGet s.dev 1).cmdCi) 16) 2 2, op := rdU (memRead s.ram (cmdPlace 1 (mbGet s.dev 1) (mbGet s.dev 1).cmdCi) 16) 0 2, session := rdU (memRead s.ram (cmdPlace 1 (mbGet s.dev 1) (mbGet s.dev 1).cmdCi) 16) 8 4, flags := rdU (memRead s.ram (cmdPlace 1 (mbGet s.dev 1) (mbGet s.dev 1).cmdCi) 16) 12 2, payload := memRead s.ram (cmdPlace 1 (mbGet s.dev 1) (mbGet s.dev 1).cmdCi + 16) (min (rdU (memRead s.ram (cmdPlace 1 (mbGet s.dev 1) (mbGet s.dev 1).cmdCi) 16) 4 4) 1008), t := tussNow s.dev, src := [], srcPort := 0 } (memRead s.ram (cmdPlace 1 (mbGet s.dev 1) (mbGet s.dev 1).cmdCi) 16) false = none) ∧
    AtState (md (fun m => {m with bulkRsp := true, bulkBusy := true, irqStatus := 5, errInfo := 9, errCount := 2})) (fun s =>
      pageLive 1 s.dev = true ∧ 1 < s.dev.kmp.mbs.length ∧ (mbGet s.dev 1).bulkRsp = true ∧ (mbGet s.dev 1).rspQueue = [] ∧
      (mbGet s.dev 1).cmdCi = (mbGet s.dev 1).cmdPi ∧ (mbGet s.dev 1).cmdCi < 65536) ∧
    AtState (md (fun m => {m with rspPi := 16, rspQueue := [⟨3, le 16 7, le 4 9, false, true⟩]})) (fun s =>
      Option.any (fun x0 => decide (pageLive 1 s.dev = true ∧ 1 < s.dev.kmp.mbs.length ∧
      ((mbGet s.dev 1).rspPi + 65536 - 1 % 65536) % 65536 < 16 ∧ x0.bulk = false ∧ (mbGet s.dev 1).cmdCi = (mbGet s.dev 1).cmdPi ∧
      (mbGet s.dev 1).cmdCi < 65536)) (mbGet s.dev 1).rspQueue.head? = true) ∧
    At mb3 (fun s => Option.any (fun x0 => decide (s.dev.sys.inReset = false ∧ s.dev.net.linkUp.any id = true ∧ false = false ∧
      ¬(true = false ∨ prmGet s.dev 3848 = 0) ∧ (mbGet s.dev (2 + 1)).present = true ∧
      fragmentOk (datagramLimit s.dev (if List.length (zeros 4) = 4 then 4 else 6)) (frag 5 (whole 5)) = true ∧
      (mbGet s.dev (2 + 1)).assembling = none ∧ rdU (frag 5 (whole 5)) 7 1 = 0 ∧ 2 + 1 < s.dev.kmp.mbs.length ∧
      rdU (List.drop 16 (frag 5 (whole 5))) 2 2 = rdU (frag 5 (whole 5)) 4 2 ∧ rdU (List.drop 16 (frag 5 (whole 5))) 4 4 + 16 =
      (List.drop 16 (frag 5 (whole 5))).length ∧
      ((mbGet s.dev (2 + 1)).highTag.elim true fun h => laterThan 16 (rdU (frag 5 (whole 5)) 4 2) h) = false ∧ x0.response ≠ []))
      (List.find? (fun r => r.tag == rdU (frag 5 (whole 5)) 4 2) (mbGet s.dev (2 + 1)).recent) = true) ∧
    At mb3 (fun s => Option.any (fun x0 => decide (s.dev.sys.inReset = false ∧ s.dev.net.linkUp.any id = true ∧ false = false ∧
      ¬(true = false ∨ prmGet s.dev 3848 = 0) ∧ (mbGet s.dev (2 + 1)).present = true ∧
      fragmentOk (datagramLimit s.dev (if List.length (zeros 4) = 4 then 4 else 6)) (frag 4 (whole 4)) = true ∧
      (mbGet s.dev (2 + 1)).assembling = none ∧ rdU (frag 4 (whole 4)) 7 1 = 0 ∧ 2 + 1 < s.dev.kmp.mbs.length ∧
      rdU (List.drop 16 (frag 4 (whole 4))) 2 2 = rdU (frag 4 (whole 4)) 4 2 ∧ rdU (List.drop 16 (frag 4 (whole 4))) 4 4 + 16 =
      (List.drop 16 (frag 4 (whole 4))).length ∧
      ((mbGet s.dev (2 + 1)).highTag.elim true fun h => laterThan 16 (rdU (frag 4 (whole 4)) 4 2) h) = false ∧ x0.response = []))
      (List.find? (fun r => r.tag == rdU (frag 4 (whole 4)) 4 2) (mbGet s.dev (2 + 1)).recent) = true) ∧
    At mb3 (fun s => s.dev.sys.inReset = false ∧ s.dev.net.linkUp.any id = true ∧ ¬(true = false ∨ prmGet s.dev 3848 = 0) ∧
      (mbGet s.dev (2 + 1)).present = true ∧ fragmentOk (datagramLimit s.dev (if List.length (zeros 4) = 4 then 4 else 6))
      (frag 6 (whole 6)) = true ∧ (mbGet s.dev (2 + 1)).assembling = none ∧ rdU (frag 6 (whole 6)) 7 1 = 0 ∧
      2 + 1 < s.dev.kmp.mbs.length ∧ rdU (List.drop 16 (frag 6 (whole 6))) 2 2 = rdU (frag 6 (whole 6)) 4 2 ∧
      rdU (List.drop 16 (frag 6 (whole 6))) 4 4 + 16 = (List.drop 16 (frag 6 (whole 6))).length ∧
      ((mbGet s.dev (2 + 1)).highTag.elim true fun h => laterThan 16 (rdU (frag 6 (whole 6)) 4 2) h) = true ∧
      takeStatus s.dev { mb := 2 + 1, tag := rdU (frag 6 (whole 6)) 4 2, op := rdU (List.drop 16 (frag 6 (whole 6))) 0 2, session := rdU (List.drop 16 (frag 6 (whole 6))) 8 4, flags := rdU (List.drop 16 (frag 6 (whole 6))) 12 2, payload := List.drop 16 (List.drop 16 (frag 6 (whole 6))), t := tussNow s.dev, src := (zeros 4), srcPort := 9 } (List.take 16 (List.drop 16 (frag 6 (whole 6)))) false = none) ∧
    At mb3 (fun s => s.dev.sys.inReset = false ∧ s.dev.net.linkUp.any id = true ∧ ¬(true = false ∨ prmGet s.dev 3848 = 0) ∧
      (mbGet s.dev (2 + 1)).present = true ∧ fragmentOk (datagramLimit s.dev (if List.length (zeros 4) = 4 then 4 else 6))
      (frag 3 (whole 3)) = true ∧ (mbGet s.dev (2 + 1)).assembling = none ∧ rdU (frag 3 (whole 3)) 7 1 = 0 ∧
      2 + 1 < s.dev.kmp.mbs.length ∧ rdU (List.drop 16 (frag 3 (whole 3))) 2 2 = rdU (frag 3 (whole 3)) 4 2 ∧
      rdU (List.drop 16 (frag 3 (whole 3))) 4 4 + 16 = (List.drop 16 (frag 3 (whole 3))).length ∧
      ((mbGet s.dev (2 + 1)).highTag.elim true fun h => laterThan 16 (rdU (frag 3 (whole 3)) 4 2) h) = false ∧
      List.find? (fun r => r.tag == rdU (frag 3 (whole 3)) 4 2) (mbGet s.dev (2 + 1)).recent = none) ∧
    At mb3 (fun s => s.dev.sys.inReset = false ∧ s.dev.net.linkUp.any id = true ∧ ¬(true = false ∨ prmGet s.dev 3848 = 0) ∧
      (mbGet s.dev (2 + 1)).present = true ∧ fragmentOk (datagramLimit s.dev (if List.length (zeros 4) = 4 then 4 else 6))
      (frag 6 (whole 7)) = true ∧ (mbGet s.dev (2 + 1)).assembling = none ∧ rdU (frag 6 (whole 7)) 7 1 = 0 ∧
      2 + 1 < s.dev.kmp.mbs.length ∧ (rdU (List.drop 16 (frag 6 (whole 7))) 2 2 ≠ rdU (frag 6 (whole 7)) 4 2 ∨
      rdU (List.drop 16 (frag 6 (whole 7))) 4 4 + 16 ≠ (List.drop 16 (frag 6 (whole 7))).length)) ∧
    At mb3 (fun s => s.dev.sys.inReset = false ∧ s.dev.net.linkUp.any id = true ∧ ¬(true = false ∨ prmGet s.dev 3848 = 0) ∧
      (mbGet s.dev (2 + 1)).present = true ∧ fragmentOk (datagramLimit s.dev (if List.length (zeros 4) = 4 then 4 else 6)) (firstOf) =
      true ∧ (mbGet s.dev (2 + 1)).assembling = none ∧ rdU (firstOf) 7 1 ≠ 0) ∧
    At mb3 (fun s => s.dev.sys.inReset = false ∧ s.dev.net.linkUp.any id = true ∧ ¬(true = false ∨ prmGet s.dev 3848 = 0) ∧
      (mbGet s.dev (2 + 1)).present = true ∧ fragmentOk (datagramLimit s.dev (if List.length (zeros 4) = 4 then 4 else 6)) (zeros 40) =
      false) ∧
    At mb3 (fun s => s.dev.sys.inReset = false ∧ s.dev.net.linkUp.any id = true ∧ (false = false ∨ prmGet s.dev 3848 = 0)) ∧
    At mb3 (fun s => s.dev.sys.inReset = false ∧ s.dev.net.linkUp.any id = true ∧ ¬(true = false ∨ prmGet s.dev 3848 = 0) ∧
      (mbGet s.dev (2 + 2)).present = false) ∧
    At (up (fun m => {m with present := true, assembling := some ⟨5, 100, 2, [], 1999999999⟩})) (fun s =>
      (mbGet s.dev 3).assembling.isSome = true) := by
  and_intros <;> decide +kernel

end Pages

namespace SyncBus

def sm (sender type : Nat) (p : Bytes) : Bytes :=
  let n := ceilDiv (4 + p.length) 8 * 8
  let m := fitTo n (le 1 sender ++ le 1 type ++ le 1 p.length ++ zeros 1 ++ p)
  m ++ le 4 (hookCheck 0 0 m)
def role (r : Nat) : Dev := modPrm (fun x => {x with vals := tabPut 0x423 1 (tabPut 0xF0A r x.vals)})
  (modSeq (fun q => {q with nextFrame := 2066666667}) ready)
def held (k : Nat) : Held := ⟨ConfigSet.empty, 1, 4, 5, k, 20, 0⟩
def fol (k : Nat) : Dev := modSync (fun y =>
  {y with held := some (held k), markerFrame := some 12, markerLocal := 10, markerAt := 2000000000, cycleAt := 2000000000, beaconHeard := true, answerAt := 1}) (role 1)
def mas : Dev := modSync (fun y => {y with held := some (held 1), run := some ⟨1, 7, 1, 4, 20, some 1999000000, 0, 0, 6, false⟩}) (role 2)
def bad : Bytes := (sm 1 1 (zeros 8)).take 12 ++ zeros 4
def odd : Bytes := sm 1 9 (zeros 8)
def m0 : Bytes := sm 1 1 (le 4 12 ++ zeros 4)
def m0c : Bytes := sm 0 1 (le 4 12 ++ zeros 4)
def m0b : Bytes := sm 3 1 (le 4 12 ++ le 2 5 ++ zeros 2)
def hi : Bytes := sm 8 1 (zeros 8)
def m1 : Bytes := sm 1 2 (le 1 1 ++ zeros 3 ++ le 4 4 ++ le 4 20)
def m3 : Bytes := sm 1 5 (le 4 4 ++ le 4 20)
def m4 : Bytes := sm 1 6 (le 4 4 ++ le 4 20)
def m5 : Bytes := sm 2 3 (le 4 4 ++ le 4 20)
def code : Bytes := le 1 1 ++ le 1 7 ++ le 1 72 ++ zeros 1 ++ le 4 20 ++ zeros 4 ++ le 8 0x2000000001 ++ le 4 99 ++ zeros 56
def m7 : Bytes := code ++ le 4 2787168254
def m8 : Bytes := sm 1 8 (fitTo 12 (le 4 20))
def pa : Dev := modPeat (fun x => {x with state := .armed, config := patch (zeros 64) 0x0F [15]}) (fol 0)
def busy : Dev := modSync (fun y =>
  {y with xtrig := some (zeros 12), codeLeft := 2, codeFrame := 20, codeCmd := some (1, 9), held := some (held 1), run := some ⟨1, 7, 1, 4, 20, none, 0, 0, 0, false⟩}) (role 2)
def run (u ready : Nat) (h : Option Held) : Dev := modSync (fun y =>
  {y with codeLeft := 1, codeFrame := 20, codeCmd := some (1, 9), held := h, run := some ⟨1, 7, 1, 4, 20, some u, ready, 0, 6, false⟩})
  (role 2)
def ans : Dev := modSync (fun y => {y with answer := some (zeros 9)}) (fol 0)

theorem test_code_check : hookCheck 0 0 code = 2787168254 :=
  hook_halves 40 (x := 576898861#32) (y := 1507799041#32) (by decide +kernel) (by decide +kernel)

theorem test_code_good : syncGood m7 = true := by
  have h : m7.take (ceilDiv (4 + rdU m7 2 1) 8 * 8) = code := by decide +kernel
  unfold syncGood
  simp only [h, test_code_check]
  decide +kernel

/-- CODE is whole by `test_code_good`. -/
theorem test_witness_SyncMessagesAct :
    At ready (fun s => ¬(prmGet s.dev 3850 ≠ 0 ∧ ticking s.dev = true)) ∧
    At ready (fun s => s.dev.sync.held.all (fun h => decide (¬(h.state = 2 ∧ syncFollower s.dev = true ∧ ticking s.dev = true))) = true) ∧
    At ready (fun s => ¬(syncFollower s.dev = true ∧ ticking s.dev = true ∧ s.dev.sync.beaconLost = false)) ∧
    At ready (fun s => ¬(syncMaster s.dev = true ∧ ticking s.dev = true ∧ s.dev.seq.started = true ∧
      s.dev.seq.frameTime + 100000 * s.dev.sync.cycle + 40000 < s.dev.seq.nextFrame)) ∧
    At ready (fun s => ¬(syncFollower s.dev = true ∧ ticking s.dev = true ∧ s.dev.sync.beaconHeard = true ∧
      s.dev.sync.cycleAt + 40000 + 7500 * headNo s.dev + 7500 < s.dev.seq.nextFrame)) ∧
    At (fol 0) (fun s => (prmGet s.dev 3850 ≠ 0 ∧ ticking s.dev = true) ∧ syncGood bad = false) ∧
    At (fol 0) (fun s => (prmGet s.dev 3850 ≠ 0 ∧ ticking s.dev = true) ∧ syncGood odd = true ∧
      syncLen (rdU odd 1 1) ≠ some (rdU odd 2 1)) ∧
    At (fol 0) (fun s => (prmGet s.dev 3850 ≠ 0 ∧ ticking s.dev = true) ∧ syncGood hi = true ∧ syncLen (rdU hi 1 1) = some (rdU hi 2 1) ∧
      (rdU hi 1 1 ≠ 1 ∨ 8 ≤ rdU hi 0 1)) ∧
    At (fol 0) (fun s => ((prmGet s.dev 3850 ≠ 0 ∧ ticking s.dev = true) ∧ syncGood m0 = true ∧ rdU m0 1 1 = 1 ∧
      syncLen 1 = some (rdU m0 2 1) ∧ rdU m0 0 1 < 8) ∧ prmGet s.dev 3850 ≠ 2 ∧ rdU (slice m0 4 (rdU m0 2 1)) 4 2 = 0) ∧
    At (fol 0) (fun s => ((prmGet s.dev 3850 ≠ 0 ∧ ticking s.dev = true) ∧ syncGood m0b = true ∧ rdU m0b 1 1 = 1 ∧
      syncLen 1 = some (rdU m0b 2 1) ∧ rdU m0b 0 1 < 8) ∧ prmGet s.dev 3850 ≠ 2 ∧ rdU (slice m0b 4 (rdU m0b 2 1)) 4 2 ≠ 0) ∧
    At (fol 0) (fun s => ((prmGet s.dev 3850 ≠ 0 ∧ ticking s.dev = true) ∧ syncGood m1 = true ∧ rdU m1 1 1 = 2 ∧
      syncLen 2 = some (rdU m1 2 1) ∧ rdU m1 0 1 < 8) ∧ syncFollower s.dev = true ∧
      s.dev.sync.held.all (fun h => decide (¬(markerFresh s.dev = true ∧ (h.state = 1 ∨ h.state = 2) ∧
      h.kind = rdU (slice m1 4 (rdU m1 2 1)) 0 1 ∧ heldIdent h = rdU (slice m1 4 (rdU m1 2 1)) 4 4))) = true) ∧
    At (fol 0) (fun s => ((prmGet s.dev 3850 ≠ 0 ∧ ticking s.dev = true) ∧ syncGood m3 = true ∧ rdU m3 1 1 = 5 ∧
      syncLen 5 = some (rdU m3 2 1) ∧ rdU m3 0 1 < 8) ∧
      s.dev.sync.held.all (fun h => decide (h.state ≠ 2)) = true) ∧
    At (fol 0) (fun s => ((prmGet s.dev 3850 ≠ 0 ∧ ticking s.dev = true) ∧ syncGood m4 = true ∧ rdU m4 1 1 = 6 ∧
      syncLen 6 = some (rdU m4 2 1) ∧ rdU m4 0 1 < 8) ∧ syncFollower s.dev = true ∧
      s.dev.sync.held.any (fun h => decide (h.state ≠ 3 ∧ heldIdent h = rdU (slice m4 4 (rdU m4 2 1)) 0 4)) = true) ∧
    At (fol 0) (fun s => (rdU m5 1 1 = 3 ∨ rdU m5 1 1 = 4) ∧ ((prmGet s.dev 3850 ≠ 0 ∧ ticking s.dev = true) ∧ syncGood m5 = true ∧
      rdU m5 1 1 = rdU m5 1 1 ∧ syncLen (rdU m5 1 1) = some (rdU m5 2 1) ∧ rdU m5 0 1 < 8) ∧
      s.dev.sync.run.all (fun r => decide (¬(syncMaster s.dev = true ∧ r.prepareAt ≠ none ∧ rdU (slice m5 4 (rdU m5 2 1)) 0 4 = r.ident ∧
      rdU (slice m5 4 (rdU m5 2 1)) 4 4 = r.frame))) = true) ∧
    At (fol 0) (fun s => Option.any (fun x0 =>
      decide (((prmGet s.dev 3850 ≠ 0 ∧ ticking s.dev = true) ∧ rdU m7 1 1 = 7 ∧ syncLen 7 = some (rdU m7 2 1) ∧
      rdU m7 0 1 < 8) ∧ syncFollower s.dev = true ∧ prmGet s.dev 1059 = 1 ∧ localFrame s.dev (rdU (slice m7 4 (rdU m7 2 1)) 0 4) =
      some x0 ∧ laterThan 32 x0 s.dev.seq.frame = true)) (localFrame s.dev (rdU (slice m7 4 (rdU m7 2 1)) 0 4)) = true) ∧
    At (fol 0) (fun s => ((prmGet s.dev 3850 ≠ 0 ∧ ticking s.dev = true) ∧ syncGood m8 = true ∧ rdU m8 1 1 = 8 ∧
      syncLen 8 = some (rdU m8 2 1) ∧ rdU m8 0 1 < 8) ∧ peatTrigOn s.dev 1 = false) ∧
    At (fol 0) (fun s => syncFollower s.dev = true ∧ ticking s.dev = true ∧ s.dev.sync.beaconLost = false) ∧
    At (fol 0) (fun s => (syncFollower s.dev = true ∧ ticking s.dev = true ∧ s.dev.sync.beaconHeard = true ∧
      s.dev.sync.cycleAt + 40000 + 7500 * headNo s.dev + 7500 < s.dev.seq.nextFrame) ∧
      (s.dev.sync.answer = none ∨ ¬s.dev.sync.answerAt ≠ s.dev.sync.cycleAt) ∧ s.dev.sync.xtrig = none) ∧
    At (fol 1) (fun s => Option.any (fun x0 =>
      decide (((prmGet s.dev 3850 ≠ 0 ∧ ticking s.dev = true) ∧ syncGood m1 = true ∧ rdU m1 1 1 = 2 ∧ syncLen 2 = some (rdU m1 2 1) ∧
      rdU m1 0 1 < 8) ∧ syncFollower s.dev = true ∧ markerFresh s.dev = true ∧ (x0.state = 1 ∨ x0.state = 2) ∧
      x0.kind = rdU (slice m1 4 (rdU m1 2 1)) 0 1 ∧ heldIdent x0 = rdU (slice m1 4 (rdU m1 2 1)) 4 4)) s.dev.sync.held = true) ∧
    At (fol 2) (fun s => Option.any (fun x1 =>
      decide (Option.any (fun x0 => decide (((prmGet s.dev 3850 ≠ 0 ∧ ticking s.dev = true) ∧ syncGood m3 = true ∧ rdU m3 1 1 = 5 ∧
      syncLen 5 = some (rdU m3 2 1) ∧ rdU m3 0 1 < 8) ∧ s.dev.sync.held = some x1 ∧ syncFollower s.dev = true ∧ x1.state = 2 ∧
      heldIdent x1 = rdU (slice m3 4 (rdU m3 2 1)) 0 4 ∧ x1.frame = rdU (slice m3 4 (rdU m3 2 1)) 4 4 ∧
      localFrame s.dev (rdU (slice m3 4 (rdU m3 2 1)) 4 4) = some x0 ∧ goInTime s.dev x0 = true))
      (localFrame s.dev (rdU (slice m3 4 (rdU m3 2 1)) 4 4)) = true)) s.dev.sync.held = true) ∧
    At (fol 2) (fun s => Option.any (fun x0 => decide (s.dev.sync.held = some x0 ∧ x0.state = 2 ∧ syncFollower s.dev = true ∧
      ticking s.dev = true)) s.dev.sync.held = true) ∧
    At (fol 3) (fun s => ((prmGet s.dev 3850 ≠ 0 ∧ ticking s.dev = true) ∧ syncGood m4 = true ∧ rdU m4 1 1 = 6 ∧
      syncLen 6 = some (rdU m4 2 1) ∧ rdU m4 0 1 < 8) ∧
      ¬(syncFollower s.dev = true ∧ s.dev.sync.held.any (fun h => decide (h.state ≠ 3 ∧ heldIdent h = rdU (slice m4 4 (rdU m4 2 1)) 0 4))
      = true)) ∧
    At mas (fun s => ((prmGet s.dev 3850 ≠ 0 ∧ ticking s.dev = true) ∧ syncGood m0 = true ∧ rdU m0 1 1 = 1 ∧
      syncLen 1 = some (rdU m0 2 1) ∧ rdU m0 0 1 < 8) ∧ prmGet s.dev 3850 = 2 ∧ (headNo s.dev < rdU m0 0 1 ∨ s.dev.sync.yielded = true)) ∧
    At mas (fun s => ((prmGet s.dev 3850 ≠ 0 ∧ ticking s.dev = true) ∧ syncGood m0c = true ∧ rdU m0c 1 1 = 1 ∧
      syncLen 1 = some (rdU m0c 2 1) ∧ rdU m0c 0 1 < 8) ∧ prmGet s.dev 3850 = 2 ∧ rdU m0c 0 1 ≤ headNo s.dev ∧ s.dev.sync.yielded = false) ∧
    At mas (fun s => ((prmGet s.dev 3850 ≠ 0 ∧ ticking s.dev = true) ∧ syncGood m1 = true ∧ rdU m1 1 1 = 2 ∧
      syncLen 2 = some (rdU m1 2 1) ∧ rdU m1 0 1 < 8) ∧ syncFollower s.dev = false) ∧
    At mas (fun s => Option.any (fun x0 =>
      decide ((rdU m5 1 1 = 3 ∨ rdU m5 1 1 = 4) ∧ ((prmGet s.dev 3850 ≠ 0 ∧ ticking s.dev = true) ∧ syncGood m5 = true ∧
      rdU m5 1 1 = rdU m5 1 1 ∧ syncLen (rdU m5 1 1) = some (rdU m5 2 1) ∧ rdU m5 0 1 < 8) ∧ syncMaster s.dev = true ∧
      s.dev.sync.run = some x0 ∧ x0.prepareAt ≠ none ∧ rdU (slice m5 4 (rdU m5 2 1)) 0 4 = x0.ident ∧
      rdU (slice m5 4 (rdU m5 2 1)) 4 4 = x0.frame)) s.dev.sync.run = true) ∧
    At mas (fun s => ((prmGet s.dev 3850 ≠ 0 ∧ ticking s.dev = true) ∧ rdU m7 1 1 = 7 ∧
      syncLen 7 = some (rdU m7 2 1) ∧ rdU m7 0 1 < 8) ∧ (localFrame s.dev (rdU (slice m7 4 (rdU m7 2 1)) 0 4)).all (fun f =>
      decide (¬(syncFollower s.dev = true ∧ prmGet s.dev 1059 = 1 ∧ laterThan 32 f s.dev.seq.frame = true))) = true) ∧
    At mas (fun s => Option.any (fun x1 =>
      decide (Option.any (fun x0 => decide ((syncMaster s.dev = true ∧ ticking s.dev = true ∧ s.dev.seq.started = true ∧
      s.dev.seq.frameTime + 100000 * s.dev.sync.cycle + 40000 < s.dev.seq.nextFrame) ∧
      x0 + 300000 ≤ s.dev.seq.frameTime + 100000 * s.dev.sync.cycle ∧ ¬(x1.cancel = false ∧ andBits 8 x1.expect x1.ready = x1.expect ∧
      andBits 8 x1.expect x1.refused = 0 ∧ s.dev.sync.held.any (fun h => decide (h.state = 1 ∧ heldIdent h = x1.ident)) = true)))
      x1.prepareAt = true)) s.dev.sync.run = true) ∧
    At mas (fun s => (syncMaster s.dev = true ∧ ticking s.dev = true ∧ s.dev.seq.started = true ∧
      s.dev.seq.frameTime + 100000 * s.dev.sync.cycle + 40000 < s.dev.seq.nextFrame) ∧ s.dev.sync.codeLeft = 0) ∧
    At pa (fun s => ((prmGet s.dev 3850 ≠ 0 ∧ ticking s.dev = true) ∧ syncGood m8 = true ∧ rdU m8 1 1 = 8 ∧
      syncLen 8 = some (rdU m8 2 1) ∧ rdU m8 0 1 < 8) ∧ peatTrigOn s.dev 1 = true ∧ s.dev.peat.state = PeatState.armed) ∧
    At (role 2) (fun s => (syncMaster s.dev = true ∧ ticking s.dev = true ∧ s.dev.seq.started = true ∧
      s.dev.seq.frameTime + 100000 * s.dev.sync.cycle + 40000 < s.dev.seq.nextFrame) ∧ s.dev.sync.run = none) ∧
    At busy (fun s => (syncMaster s.dev = true ∧ ticking s.dev = true ∧ s.dev.seq.started = true ∧
      s.dev.seq.frameTime + 100000 * s.dev.sync.cycle + 40000 < s.dev.seq.nextFrame) ∧ s.dev.sync.xtrig.isSome = true) ∧
    At busy (fun s => Option.any (fun x0 =>
      decide ((syncMaster s.dev = true ∧ ticking s.dev = true ∧ s.dev.seq.started = true ∧
      s.dev.seq.frameTime + 100000 * s.dev.sync.cycle + 40000 < s.dev.seq.nextFrame) ∧ x0.prepareAt = none)) s.dev.sync.run = true) ∧
    At busy (fun s => (syncMaster s.dev = true ∧ ticking s.dev = true ∧ s.dev.seq.started = true ∧
      s.dev.seq.frameTime + 100000 * s.dev.sync.cycle + 40000 < s.dev.seq.nextFrame) ∧ s.dev.sync.codeLeft ≠ 0) ∧
    At (run 1999700000 6 (some (held 1))) (fun s =>
      Option.any (fun x1 => decide (Option.any (fun x0 =>
      decide ((syncMaster s.dev = true ∧ ticking s.dev = true ∧ s.dev.seq.started = true ∧
      s.dev.seq.frameTime + 100000 * s.dev.sync.cycle + 40000 < s.dev.seq.nextFrame) ∧
      x0 + 300000 ≤ s.dev.seq.frameTime + 100000 * s.dev.sync.cycle ∧ (x1.cancel = false ∧ andBits 8 x1.expect x1.ready = x1.expect ∧
      andBits 8 x1.expect x1.refused = 0 ∧ s.dev.sync.held.any (fun h => decide (h.state = 1 ∧ heldIdent h = x1.ident)) = true) ∧
      s.dev.sync.held.isSome = true)) x1.prepareAt = true)) s.dev.sync.run = true) ∧
    At (run 1999900000 6 (some (held 1))) (fun s =>
      Option.any (fun x1 => decide (Option.any (fun x0 =>
      decide ((syncMaster s.dev = true ∧ ticking s.dev = true ∧ s.dev.seq.started = true ∧
      s.dev.seq.frameTime + 100000 * s.dev.sync.cycle + 40000 < s.dev.seq.nextFrame) ∧ s.dev.seq.frameTime + 100000 * s.dev.sync.cycle <
      x0 + 300000)) x1.prepareAt = true)) s.dev.sync.run = true) ∧
    At ans (fun s => (syncFollower s.dev = true ∧ ticking s.dev = true ∧ s.dev.sync.beaconHeard = true ∧
      s.dev.sync.cycleAt + 40000 + 7500 * headNo s.dev + 7500 < s.dev.seq.nextFrame) ∧ s.dev.sync.answerAt ≠ s.dev.sync.cycleAt ∧
      s.dev.sync.answer.isSome = true) ∧
    At (modSync (fun y => {y with answerAt := y.cycleAt, xtrig := some (zeros 12)}) ans) (fun s =>
      (syncFollower s.dev = true ∧ ticking s.dev = true ∧ s.dev.sync.beaconHeard = true ∧
      s.dev.sync.cycleAt + 40000 + 7500 * headNo s.dev + 7500 < s.dev.seq.nextFrame) ∧
      (s.dev.sync.answer = none ∨ ¬s.dev.sync.answerAt ≠ s.dev.sync.cycleAt) ∧ s.dev.sync.xtrig.isSome = true) := by
  and_intros <;> decide +kernel

end SyncBus

end Sys2Proof.Tests
end

section
/-!
SUPPORT. Frames of the device: a facet is a group, or a reading of the device finer than the groups, and its view is the device with
nothing else left. A step keeps a facet when the view is the same before and after it.
-/
namespace Sys2Proof.Laws

open Sys2Proof.Machine

/-- What a frame speaks of: a group of the device, or a reading of it finer than the groups. -/
inductive Facet where
  | sys
  | seq
  | prm
  | recv
  | rep
  | gauge
  | tim
  | histo
  | pts
  | emi
  | scan
  | sense
  | loops
  | saf
  | hst
  | sec
  | slu
  | peat
  | net
  | pcie
  | spi
  | sync
  | trig
  | kmp
  | diag
  | ev
  | writes
  | out
  | drawn
  /-- What the rail's condition reads: the rail, the state, whether cast-on stands at stage 0x60, and whether Gauge's collection ended. -/
  | rail
  /-- The session. -/
  | session
  /-- The safety outputs. -/
  | outs
  /-- The stream queues. -/
  | queues
  /-- The counters latched at a frame tick, and the receiver's running ones. -/
  | latches
  /-- The group `sys` but for the operating state. -/
  | standing
  /-- The place in the frame: frame, phase, dwell and shot. -/
  | place
  /-- The committed sets that wait for their frame. -/
  | pending
  /-- The slices that are gated. -/
  | gated
  /-- A reset that waits for its response. -/
  | awaited
  /-- The inhibit of the emitter. -/
  | inhibit

/-- The group of the device as a facet. -/
@[simp] def Facet.of : Part → Facet
  | .sys => .sys
  | .seq => .seq
  | .prm => .prm
  | .recv => .recv
  | .rep => .rep
  | .gauge => .gauge
  | .tim => .tim
  | .histo => .histo
  | .pts => .pts
  | .emi => .emi
  | .scan => .scan
  | .sense => .sense
  | .loops => .loops
  | .saf => .saf
  | .hst => .hst
  | .sec => .sec
  | .slu => .slu
  | .peat => .peat
  | .net => .net
  | .pcie => .pcie
  | .spi => .spi
  | .sync => .sync
  | .trig => .trig
  | .kmp => .kmp
  | .diag => .diag
  | .ev => .ev
  | .writes => .writes
  | .out => .out
  | .drawn => .drawn

/-- The device with nothing left but a facet, all else as after reset. -/
def Facet.view (v : Facet) (d : Dev) : Dev :=
  match v with
  | .sys => { Dev.reset with sys := d.sys }
  | .seq => { Dev.reset with seq := d.seq }
  | .prm => { Dev.reset with prm := d.prm }
  | .recv => { Dev.reset with recv := d.recv }
  | .rep => { Dev.reset with rep := d.rep }
  | .gauge => { Dev.reset with gauge := d.gauge }
  | .tim => { Dev.reset with tim := d.tim }
  | .histo => { Dev.reset with histo := d.histo }
  | .pts => { Dev.reset with pts := d.pts }
  | .emi => { Dev.reset with emi := d.emi }
  | .scan => { Dev.reset with scan := d.scan }
  | .sense => { Dev.reset with sense := d.sense }
  | .loops => { Dev.reset with loops := d.loops }
  | .saf => { Dev.reset with saf := d.saf }
  | .hst => { Dev.reset with hst := d.hst }
  | .sec => { Dev.reset with sec := d.sec }
  | .slu => { Dev.reset with slu := d.slu }
  | .peat => { Dev.reset with peat := d.peat }
  | .net => { Dev.reset with net := d.net }
  | .pcie => { Dev.reset with pcie := d.pcie }
  | .spi => { Dev.reset with spi := d.spi }
  | .sync => { Dev.reset with sync := d.sync }
  | .trig => { Dev.reset with trig := d.trig }
  | .kmp => { Dev.reset with kmp := d.kmp }
  | .diag => { Dev.reset with diag := d.diag }
  | .ev => { Dev.reset with ev := d.ev }
  | .writes => { Dev.reset with writes := d.writes }
  | .out => { Dev.reset with out := d.out }
  | .drawn => { Dev.reset with drawn := d.drawn }
  | .rail => { Dev.reset with
      sys := { Sys.reset with op := d.sys.op, bootReady := d.sys.boot == 0x60 }
      saf := { Saf.reset with railClosed := d.saf.railClosed }
      gauge := { Gauge.reset with closed := d.gauge.closed } }
  | .session => { Dev.reset with kmp := { Kmp.reset with session := d.kmp.session } }
  | .outs => { Dev.reset with saf := { Saf.reset with outs := d.saf.outs } }
  | .queues => { Dev.reset with slu := { Slu.reset with queues := d.slu.queues } }
  | .latches => { Dev.reset with
      histo := { Histo.reset with
        latched := d.histo.latched, latchedFrame := d.histo.latchedFrame, latchedShots := d.histo.latchedShots,
        lanes := d.histo.lanes, banks := d.histo.banks, shots := d.histo.shots }
      emi := { Emi.reset with latched := d.emi.latched, latchedFrame := d.emi.latchedFrame }
      slu := { Slu.reset with latchedFrame := d.slu.latchedFrame } }
  | .standing => { Dev.reset with sys := { d.sys with op := .ready } }
  | .place => { Dev.reset with seq := { Seq.reset with
      started := d.seq.started, frame := d.seq.frame, frameTime := d.seq.frameTime, phase := d.seq.phase, dwell := d.seq.dwell,
      dwellOpen := d.seq.dwellOpen, shot := d.seq.shot, flushes := d.seq.flushes } }
  | .pending => { Dev.reset with prm := { Prm.reset with pending := d.prm.pending } }
  | .gated => { Dev.reset with recv := { Recv.reset with gated := d.recv.gated } }
  | .inhibit => { Dev.reset with emi := { Emi.reset with inhibit := d.emi.inhibit } }
  | .awaited => { Dev.reset with sys := { Sys.reset with resetAfter := d.sys.resetAfter } }

variable {v : Facet} (d : Dev)

@[simp] theorem view_ite (c : Prop) [Decidable c] (x y : Dev) : v.view (if c then x else y) = if c then v.view x else v.view y :=
  apply_ite _ _ _ _

/-- A loop of steps that keep a facet keeps it. -/
@[simp] theorem view_foldl {α : Type} (f : Dev → α → Dev) (l : List α) (h : ∀ d a, v.view (f d a) = v.view d) :
    v.view (l.foldl f d) = v.view d := by
  induction l generalizing d with
  | nil => rfl
  | cons a l ih => rw [List.foldl_cons, ih, h]

@[simp] theorem view_elim {α : Type} (o : Option α) (f : α → Dev) (h : ∀ a, v.view (f a) = v.view d) :
    v.view (o.elim d f) = v.view d := by
  cases o with
  | none => rfl
  | some a => exact h a

/-! ### The updates of the groups -/

@[simp] theorem modSys_frame (f : Sys → Sys) (h : v ∉ [.sys, .standing])
    (hr : v = .rail → (f d.sys).op = d.sys.op ∧ ((f d.sys).boot == 0x60) = (d.sys.boot == 0x60))
    (ha : v = .awaited → ∀ x, (f x).resetAfter = x.resetAfter) :
    v.view (modSys f d) = v.view d := by
  cases v <;> simp_all [Facet.view]

@[simp] theorem modSeq_frame (f : Seq → Seq) (h : v ∉ [.seq])
    (hp : v = .place → ∀ x, (f x).started = x.started ∧ (f x).frame = x.frame ∧ (f x).frameTime = x.frameTime ∧ (f x).phase = x.phase ∧
      (f x).dwell = x.dwell ∧ (f x).dwellOpen = x.dwellOpen ∧ (f x).shot = x.shot ∧ (f x).flushes = x.flushes) :
    v.view (modSeq f d) = v.view d := by
  cases v <;> simp_all [Facet.view]

@[simp] theorem modPrm_frame (f : Prm → Prm) (h : v ∉ [.prm])
    (hp : v = .pending → ∀ x, (f x).pending = x.pending) :
    v.view (modPrm f d) = v.view d := by
  cases v <;> simp_all [Facet.view]

@[simp] theorem modRecv_frame (f : Recv → Recv) (h : v ∉ [.recv]) (hg : v = .gated → ∀ x, (f x).gated = x.gated) :
    v.view (modRecv f d) = v.view d := by
  cases v <;> simp_all [Facet.view]

@[simp] theorem modRep_frame (f : Rep → Rep) (h : v ∉ [.rep]) :
    v.view (modRep f d) = v.view d := by
  cases v <;> simp_all [Facet.view]

@[simp] theorem modGauge_frame (f : Gauge → Gauge) (h : v ∉ [.gauge])
    (hr : v = .rail → ∀ x, (f x).closed = x.closed) :
    v.view (modGauge f d) = v.view d := by
  cases v <;> simp_all [Facet.view]

@[simp] theorem modTim_frame (f : Tim → Tim) (h : v ∉ [.tim]) :
    v.view (modTim f d) = v.view d := by
  cases v <;> simp_all [Facet.view]

@[simp] theorem modHisto_frame (f : Histo → Histo) (h : v ∉ [.histo])
    (hl : v = .latches → ∀ x, (f x).latched = x.latched ∧ (f x).latchedFrame = x.latchedFrame ∧ (f x).latchedShots = x.latchedShots ∧
      (f x).lanes = x.lanes ∧ (f x).banks = x.banks ∧ (f x).shots = x.shots) :
    v.view (modHisto f d) = v.view d := by
  cases v <;> simp_all [Facet.view]

@[simp] theorem modPts_frame (f : Pts → Pts) (h : v ∉ [.pts]) :
    v.view (modPts f d) = v.view d := by
  cases v <;> simp_all [Facet.view]

@[simp] theorem modEmi_frame (f : Emi → Emi) (h : v ∉ [.emi])
    (hl : v = .latches → ∀ x, (f x).latched = x.latched ∧ (f x).latchedFrame = x.latchedFrame)
    (hi : v = .inhibit → ∀ x, (f x).inhibit = x.inhibit) :
    v.view (modEmi f d) = v.view d := by
  cases v <;> simp_all [Facet.view]

@[simp] theorem modScan_frame (f : Scan → Scan) (h : v ∉ [.scan]) :
    v.view (modScan f d) = v.view d := by
  cases v <;> simp_all [Facet.view]

@[simp] theorem modSense_frame (f : Sense → Sense) (h : v ∉ [.sense]) :
    v.view (modSense f d) = v.view d := by
  cases v <;> simp_all [Facet.view]

@[simp] theorem modLoops_frame (f : Loops → Loops) (h : v ∉ [.loops]) :
    v.view (modLoops f d) = v.view d := by
  cases v <;> simp_all [Facet.view]

@[simp] theorem modSaf_frame (f : Saf → Saf) (h : v ∉ [.saf])
    (hr : v = .rail → ∀ x, (f x).railClosed = x.railClosed)
    (ho : v = .outs → ∀ x, (f x).outs = x.outs) :
    v.view (modSaf f d) = v.view d := by
  cases v <;> simp_all [Facet.view]

@[simp] theorem modHst_frame (f : Hst → Hst) (h : v ∉ [.hst]) :
    v.view (modHst f d) = v.view d := by
  cases v <;> simp_all [Facet.view]

@[simp] theorem modSec_frame (f : Sec → Sec) (h : v ∉ [.sec]) :
    v.view (modSec f d) = v.view d := by
  cases v <;> simp_all [Facet.view]

@[simp] theorem modSlu_frame (f : Slu → Slu) (h : v ∉ [.slu])
    (hq : v = .queues → ∀ x, (f x).queues = x.queues)
    (hl : v = .latches → ∀ x, (f x).latchedFrame = x.latchedFrame) :
    v.view (modSlu f d) = v.view d := by
  cases v <;> simp_all [Facet.view]

@[simp] theorem modPeat_frame (f : Peat → Peat) (h : v ∉ [.peat]) :
    v.view (modPeat f d) = v.view d := by
  cases v <;> simp_all [Facet.view]

@[simp] theorem modNet_frame (f : Net → Net) (h : v ∉ [.net]) :
    v.view (modNet f d) = v.view d := by
  cases v <;> simp_all [Facet.view]

@[simp] theorem modPcie_frame (f : Pcie → Pcie) (h : v ∉ [.pcie]) :
    v.view (modPcie f d) = v.view d := by
  cases v <;> simp_all [Facet.view]

@[simp] theorem modSpi_frame (f : Spi → Spi) (h : v ∉ [.spi]) :
    v.view (modSpi f d) = v.view d := by
  cases v <;> simp_all [Facet.view]

@[simp] theorem modSync_frame (f : Sync → Sync) (h : v ∉ [.sync]) :
    v.view (modSync f d) = v.view d := by
  cases v <;> simp_all [Facet.view]

@[simp] theorem modTrig_frame (f : Trig → Trig) (h : v ∉ [.trig]) :
    v.view (modTrig f d) = v.view d := by
  cases v <;> simp_all [Facet.view]

@[simp] theorem modKmp_frame (f : Kmp → Kmp) (h : v ∉ [.kmp])
    (hs : v = .session → ∀ x, (f x).session = x.session) :
    v.view (modKmp f d) = v.view d := by
  cases v <;> simp_all [Facet.view]

@[simp] theorem modDiag_frame (f : Diag → Diag) (h : v ∉ [.diag]) :
    v.view (modDiag f d) = v.view d := by
  cases v <;> simp_all [Facet.view]

@[simp] theorem modEv_frame (f : Ev → Ev) (h : v ∉ [.ev]) :
    v.view (modEv f d) = v.view d := by
  cases v <;> simp_all [Facet.view]

@[simp] theorem emit_frame (o : Out) (h : v ∉ [.out]) : v.view (emit o d) = v.view d := by
  cases v <;> simp_all [Facet.view, emit]

@[simp] theorem ramPut_frame (a : Nat) (b : Bytes) (h : v ∉ [.writes]) : v.view (ramPut a b d) = v.view d := by
  cases v <;> simp_all [Facet.view, ramPut]

@[simp] theorem draw_frame (h : v ∉ [.drawn]) : v.view (draw d) = v.view d := by
  cases v <;> simp_all [Facet.view, draw]

end Sys2Proof.Laws
end

section
/-!
SUPPORT. Frames of the model's functions, in the order of their definitions: a facet that is not listed is kept.
-/
namespace Sys2Proof.Laws

open Sys2Proof.Machine

variable {v : Facet} (d : Dev)

/-! ### The operations every chapter uses -/

@[simp] theorem advanceTo_frame (t : Nat) (h : v ∉ [.sys, .standing]) : v.view (advanceTo t d) = v.view d := by
  simp at h
  simp [advanceTo, h]

@[simp] theorem advanceTuss_frame (t : Nat) (h : v ∉ [.sys, .standing]) : v.view (advanceTuss t d) = v.view d := by
  simp at h
  simp [advanceTuss, h]

@[simp] theorem evDeliver_frame (r : EvRec) (h : v ∉ [.ev]) : v.view (evDeliver r d) = v.view d := by
  simp at h
  simp [evDeliver, h]

@[simp] theorem raise_frame (src cond : Nat) (detail : Bytes) (h : v ∉ [.ev]) : v.view (raise src cond detail d) = v.view d := by
  simp at h
  simp [raise, h]

@[simp] theorem raiseSaturated_frame (src key : Nat) (h : v ∉ [.ev]) : v.view (raiseSaturated src key d) = v.view d := by
  simp at h
  simp [raiseSaturated, h]

@[simp] theorem fireVector_frame (v' : Nat) (h : v ∉ [.pcie, .out]) : v.view (fireVector v' d) = v.view d := by
  simp at h
  simp [fireVector, h]

@[simp] theorem modMb_frame (mb : Nat) (f : Mailbox → Mailbox) (h : v ∉ [.kmp]) : v.view (modMb mb f d) = v.view d := by
  simp at h
  simp [modMb, h]

@[simp] theorem irqSet_frame (mb cause : Nat) (h : v ∉ [.pcie, .kmp, .out]) : v.view (irqSet mb cause d) = v.view d := by
  simp at h
  simp [irqSet, h]

@[simp] theorem transportError_frame (mb code index : Nat) (h : v ∉ [.pcie, .kmp, .ev, .out]) :
    v.view (transportError mb code index d) = v.view d := by
  simp at h
  simp [transportError, h]

@[simp] theorem queueMsg_frame (p : Nat) (m : Msg) (h : v ∉ [.slu]) : v.view (queueMsg p m d) = v.view d := by
  simp at h
  simp [queueMsg, h]

@[simp] theorem postOne_frame (mb : Nat) (r : Rsp) (h : v ∉ [.slu, .pcie, .kmp, .writes, .out]) : v.view (postOne mb r d) = v.view d := by
  simp at h
  simp [postOne, h]

@[simp] theorem postLoop_frame (mb n : Nat) (h : v ∉ [.slu, .pcie, .kmp, .writes, .out]) : v.view (postLoop mb n d) = v.view d := by
  induction n generalizing d with
  | zero => rfl
  | succ n ih =>
    simp at h
    unfold postLoop
    dsimp only
    split
    · rfl
    · simp [h, ih]

@[simp] theorem postResponses_frame (mb : Nat) (h : v ∉ [.slu, .pcie, .kmp, .ev, .writes, .out]) :
    v.view (postResponses mb d) = v.view d := by
  simp at h
  simp [postResponses, h]

@[simp] theorem udpResponse_frame (c : Cmd) (rsp : Bytes) (h : v ∉ [.slu, .kmp]) : v.view (udpResponse c rsp d) = v.view d := by
  simp at h
  simp [udpResponse, h]

@[simp] theorem respond_frame (c : Cmd) (status : Nat) (payload : Bytes) (final : Bool) (h : v ∉ [.slu, .pcie, .kmp, .ev, .writes, .out]) :
    v.view (respond c status payload final d) = v.view d := by
  simp at h
  simp [respond, h]

@[simp] theorem finish_frame (c : Cmd) (status : Nat) (payload : Bytes) (h : v ∉ [.slu, .pcie, .kmp, .ev, .writes, .out]) :
    v.view (finish c status payload d) = v.view d := by
  simp at h
  simp [finish, h]

@[simp] theorem accept_frame (c : Cmd) (h : v ∉ [.slu, .pcie, .kmp, .ev, .writes, .out]) : v.view (accept c d) = v.view d := by
  simp at h
  simp [accept, h]

@[simp] theorem dropRunning_frame (c : Cmd) (h : v ∉ [.kmp]) : v.view (dropRunning c d) = v.view d := by
  simp at h
  simp [dropRunning, h]

@[simp] theorem endWaitingAborts_frame (c : Cmd) (status : Nat) (h : v ∉ [.slu, .pcie, .kmp, .ev, .writes, .out]) :
    v.view (endWaitingAborts c status d) = v.view d := by
  simp at h
  simp [endWaitingAborts, h]

@[simp] theorem finishRunning_frame (c : Cmd) (status : Nat) (payload : Bytes) (h : v ∉ [.slu, .pcie, .kmp, .ev, .writes, .out]) :
    v.view (finishRunning c status payload d) = v.view d := by
  simp at h
  simp [finishRunning, h]

@[simp] theorem finishWhere_frame (p : Cmd → Bool) (status : Nat) (payload : Bytes) (h : v ∉ [.slu, .pcie, .kmp, .ev, .writes, .out]) :
    v.view (finishWhere p status payload d) = v.view d := by
  simp at h
  simp [finishWhere, h]

@[simp] theorem takeOff_frame (c : Cmd) (mb : Nat) (h : v ∉ [.kmp]) : v.view (takeOff c mb d) = v.view d := by
  simp at h
  simp [takeOff, h]

@[simp] theorem startCmd_frame (op mb : Nat) (body : Cmd → Dev → Dev) (h : v ∉ [.kmp]) (hb : ∀ c d, v.view (body c d) = v.view d) :
    v.view (startCmd op mb body d) = v.view d := by
  simp at h
  unfold startCmd
  split
  · rfl
  · simp [h, hb]

/-! ### Lanes -/

@[simp] theorem modLane_frame (p : Nat) (f : Lane → Lane) (h : v ∉ [.recv]) : v.view (modLane p f d) = v.view d := by
  simp at h
  simp [modLane, h]

@[simp] theorem modCal_frame (p : Nat) (f : LaneCal → LaneCal) (h : v ∉ [.tim]) : v.view (modCal p f d) = v.view d := by
  simp at h
  simp [modCal, h]

@[simp] theorem modStat_frame (p : Nat) (f : LaneStat → LaneStat) (h : v ∉ [.histo, .latches]) : v.view (modStat p f d) = v.view d := by
  simp at h
  simp [modStat, h]

@[simp] theorem modBankStat_frame (b : Nat) (f : BankStat → BankStat) (h : v ∉ [.histo, .latches]) :
    v.view (modBankStat b f d) = v.view d := by
  simp at h
  simp [modBankStat, h]

@[simp] theorem saturate_frame (p : Nat) (h : v ∉ [.recv, .histo, .ev]) : v.view (saturate p d) = v.view d := by
  simp at h
  simp [saturate, h]

@[simp] theorem coarseInc_frame (p j : Nat) (h : v ∉ [.recv, .histo, .ev]) : v.view (coarseInc p j d) = v.view d := by
  simp at h
  simp [coarseInc, h]

@[simp] theorem fineInc_frame (p : Nat) (r : Int) (h : v ∉ [.recv, .histo, .ev]) : v.view (fineInc p r d) = v.view d := by
  simp at h
  unfold fineInc
  split <;> simp [h]

@[simp] theorem alignHit_frame (p : Nat) (h : v ∉ [.recv]) : v.view (alignHit p d) = v.view d := by
  simp at h
  unfold alignHit
  repeat' split
  all_goals simp [h]

@[simp] theorem diagAdd_frame (p : Nat) (v' : Int) (h : v ∉ [.diag]) : v.view (diagAdd p v' d) = v.view d := by
  simp at h
  unfold diagAdd
  split <;> simp [h]

@[simp] theorem laneStamp_frame (p code : Nat) (h : v ∉ [.recv, .tim, .histo, .diag, .ev]) : v.view (laneStamp p code d) = v.view d := by
  simp at h
  simp [laneStamp, h]

@[simp] theorem rawCount_frame (p spad : Nat) (rel : Int) (recharge : Nat) (h : v ∉ [.recv, .tim]) :
    v.view (rawCount p spad rel recharge d) = v.view d := by
  simp at h
  simp [rawCount, h]

@[simp] theorem laneFire_frame (p spad t stamp recharge : Nat) (h : v ∉ [.recv, .tim, .histo, .diag, .ev]) :
    v.view (laneFire p spad t stamp recharge d) = v.view d := by
  simp at h
  unfold laneFire
  dsimp only
  repeat' split
  all_goals simp [h]

/-! ### The emitter -/

@[simp] theorem modSeg_frame (n : Nat) (f : Seg → Seg) (h : v ∉ [.emi]) : v.view (modSeg n f d) = v.view d := by
  simp at h
  simp [modSeg, h]

@[simp] theorem modBank_frame (b : Nat) (f : Bank → Bank) (h : v ∉ [.emi]) : v.view (modBank b f d) = v.view d := by
  simp at h
  simp [modBank, h]

@[simp] theorem modSegStat_frame (n : Nat) (f : SegStat → SegStat) (h : v ∉ [.emi]) : v.view (modSegStat n f d) = v.view d := by
  simp at h
  simp [modSegStat, h]

@[simp] theorem judgeSegment_frame (n cause : Nat) (lock retired : Bool) (h : v ∉ [.emi, .ev]) :
    v.view (judgeSegment n cause lock retired d) = v.view d := by
  simp at h
  simp [judgeSegment, h]

@[simp] theorem checkPulse_frame (n cls charge64 : Nat) (h : v ∉ [.emi, .ev]) : v.view (checkPulse n cls charge64 d) = v.view d := by
  simp at h
  simp [checkPulse, h]

@[simp] theorem skipShot_frame (n : Nat) (h : v ∉ [.emi, .ev]) : v.view (skipShot n d) = v.view d := by
  simp at h
  simp [skipShot, h]

@[simp] theorem substituteOne_frame (n : Nat) (h : v ∉ [.emi, .ev]) : v.view (substituteOne n d) = v.view d := by
  simp at h
  unfold substituteOne
  dsimp only
  split <;> simp [h]

@[simp] theorem substituteSegments_frame (h : v ∉ [.emi, .ev]) : v.view (substituteSegments d) = v.view d := by
  simp at h
  simp [substituteSegments, h]

/-! ### Peat's store -/

@[simp] theorem modPeatSeg_frame (i : Nat) (f : PeatSeg → PeatSeg) (h : v ∉ [.peat]) : v.view (modPeatSeg i f d) = v.view d := by
  simp at h
  simp [modPeatSeg, h]

@[simp] theorem modCapture_frame (i : Nat) (f : Capture → Capture) (h : v ∉ [.peat]) : v.view (modCapture i f d) = v.view d := by
  simp at h
  simp [modCapture, h]

@[simp] theorem endPeatArm_frame (status : Nat) (payload : Bytes) (h : v ∉ [.slu, .peat, .pcie, .kmp, .ev, .writes, .out]) :
    v.view (endPeatArm status payload d) = v.view d := by
  simp at h
  unfold endPeatArm
  dsimp only
  repeat' split
  all_goals simp [h]

@[simp] theorem peatLost_frame (h : v ∉ [.peat, .ev]) : v.view (peatLost d) = v.view d := by
  simp at h
  simp [peatLost, h]

@[simp] theorem peatStore_frame (e : Bytes) (x : Dev) (h : v ∉ [.peat]) :
    v.view ((peatStore e d).getD x) = if (peatStore e d).isSome then v.view d else v.view x := by
  simp at h
  unfold peatStore
  dsimp only
  split <;> simp [h]

@[simp] theorem peatClose_frame (flags : Nat) (h : v ∉ [.slu, .peat, .pcie, .kmp, .ev, .writes, .out]) :
    v.view (peatClose flags d) = v.view d := by
  simp at h
  simp [peatClose, h]

@[simp] theorem peatWrite_frame (e : Bytes) (h : v ∉ [.slu, .peat, .pcie, .kmp, .ev, .writes, .out]) :
    v.view (peatWrite e d) = v.view d := by
  simp at h
  simp [peatWrite, h]

@[simp] theorem peatBegin_frame (i : Nat) (h : v ∉ [.peat]) : v.view (peatBegin i d) = v.view d := by
  simp at h
  simp [peatBegin, h]

@[simp] theorem peatNext_frame (h : v ∉ [.peat, .ev]) : v.view (peatNext d) = v.view d := by
  simp at h
  unfold peatNext
  split <;> simp [h]

@[simp] theorem peatAbort_frame (h : v ∉ [.slu, .peat, .pcie, .kmp, .ev, .writes, .out]) : v.view (peatAbort d) = v.view d := by
  simp at h
  simp [peatAbort, h]

@[simp] theorem peatSedgeClose_frame (h : v ∉ [.slu, .peat, .pcie, .kmp, .ev, .writes, .out]) : v.view (peatSedgeClose d) = v.view d := by
  simp at h
  simp [peatSedgeClose, h]

@[simp] theorem peatSedge_frame (number : Nat) (rec_ : Bytes) (h : v ∉ [.slu, .peat, .pcie, .kmp, .ev, .writes, .out]) :
    v.view (peatSedge number rec_ d) = v.view d := by
  simp at h
  simp [peatSedge, h]

@[simp] theorem peatTraceClose_frame (u : Nat) (h : v ∉ [.slu, .peat, .pcie, .kmp, .ev, .writes, .out]) :
    v.view (peatTraceClose u d) = v.view d := by
  simp at h
  unfold peatTraceClose
  split <;> simp [h]

@[simp] theorem peatTrace_frame (u slot node div : Nat) (s : Bytes) (h : v ∉ [.slu, .peat, .pcie, .kmp, .ev, .writes, .out]) :
    v.view (peatTrace u slot node div s d) = v.view d := by
  simp at h
  simp [peatTrace, h]

@[simp] theorem peatTriggerAt_frame (source detail t : Nat) (h : v ∉ [.peat, .ev]) :
    v.view (peatTriggerAt source detail t d) = v.view d := by
  simp at h
  unfold peatTriggerAt
  split <;> simp [h]

@[simp] theorem peatTrigger_frame (source detail : Nat) (h : v ∉ [.peat, .ev]) : v.view (peatTrigger source detail d) = v.view d := by
  simp at h
  simp [peatTrigger, h]

@[simp] theorem peatAccept_frame (t : Nat × Nat × Nat) (h : v ∉ [.slu, .peat, .pcie, .kmp, .ev, .writes, .out]) :
    v.view (peatAccept t d) = v.view d := by
  simp at h
  simp [peatAccept, h]

/-! ### Sluice's buffer -/

@[simp] theorem modPort_queues (p : Nat) (f : Port → Port) (s : Slu) : (modPort p f s).queues = s.queues := by simp [modPort]
@[simp] theorem modPort_latchedFrame (p : Nat) (f : Port → Port) (s : Slu) : (modPort p f s).latchedFrame = s.latchedFrame := by
  simp [modPort]
@[simp] theorem modQueue_latchedFrame (q : Nat) (f : Queue → Queue) (s : Slu) : (modQueue q f s).latchedFrame = s.latchedFrame := by
  simp [modQueue]

@[simp] theorem dropOnPort_frame (q frame p : Nat) (h : v ∉ [.slu, .ev, .queues]) : v.view (dropOnPort q frame p d) = v.view d := by
  simp at h
  simp [dropOnPort, h]

@[simp] theorem countDrop_frame (q : Nat) (u : SUnit) (h : v ∉ [.slu, .ev, .queues]) : v.view (countDrop q u d) = v.view d := by
  simp at h
  simp [countDrop, h]

@[simp] theorem storeWaiting_frame (h : v ∉ [.slu, .queues]) : v.view (storeWaiting d) = v.view d := by
  simp at h
  simp [storeWaiting, h]

@[simp] theorem dropOldest_frame (q : Nat) (h : v ∉ [.slu, .ev, .queues]) : v.view (dropOldest q d) = v.view d := by
  simp at h
  unfold dropOldest
  split <;> simp [h]

@[simp] theorem dropToDepth_frame (q limit cells n : Nat) (h : v ∉ [.slu, .ev, .queues]) :
    v.view (dropToDepth q limit cells n d) = v.view d := by
  induction n generalizing d with
  | zero => rfl
  | succ n ih =>
    simp at h
    unfold dropToDepth
    split
    · rfl
    · split <;> simp [h, ih]

@[simp] theorem dropForRoom_frame (q cells n : Nat) (h : v ∉ [.slu, .ev, .queues]) :
    v.view (dropForRoom q cells n d).1 = v.view d := by
  simp at h
  induction n generalizing d with
  | zero =>
    unfold dropForRoom
    split <;> simp [h]
  | succ n ih =>
    unfold dropForRoom
    split
    · rfl
    · split <;> simp [h, ih]

@[simp] theorem notePeak_frame (h : v ∉ [.slu]) : v.view (notePeak d) = v.view d := by
  simp at h
  simp [notePeak, h]

@[simp] theorem enqueueUnit_frame (q frame : Nat) (bytes : Bytes) (h : v ∉ [.slu, .ev, .queues]) :
    v.view (enqueueUnit q frame bytes d) = v.view d := by
  simp at h
  simp [enqueueUnit, h]

@[simp] theorem enqueueHeader_frame (q frame : Nat) (bytes : Bytes) (h : v ∉ [.slu, .ev, .queues]) :
    v.view (enqueueHeader q frame bytes d) = v.view d := by
  simp at h
  simp [enqueueHeader, h]

@[simp] theorem updateDrained_frame (p : Nat) (h : v ∉ [.slu, .ev]) : v.view (updateDrained p d) = v.view d := by
  simp at h
  simp [updateDrained, h]

@[simp] theorem clearFreezes_frame (sess : Nat) (h : v ∉ [.slu, .ev]) : v.view (clearFreezes sess d) = v.view d := by
  simp at h
  simp [clearFreezes, h]

/-! ### The point formatter -/

@[simp] theorem headQueue_frame (q : Nat) (h : v ∉ [.pts, .slu, .ev, .queues]) : v.view (headQueue q d) = v.view d := by
  simp at h
  simp [headQueue, h]

@[simp] theorem writeUnit_frame (d0 : Dev) (w : Work) (sector band type : Nat) (pts : List Pt) (h : v ∉ [.pts, .slu, .ev, .queues]) :
    v.view (writeUnit d0 w sector band type pts d) = v.view d := by
  simp at h
  simp [writeUnit, h]

@[simp] theorem peatDwell_frame (w : Work) (dwell sector : Nat) (pts : Nat → List Pt)
    (h : v ∉ [.slu, .peat, .pcie, .kmp, .ev, .writes, .out]) :
    v.view (peatDwell w dwell sector pts d) = v.view d := by
  simp at h
  simp [peatDwell, h]

@[simp] theorem pointFormat_frame (h : v ∉ [.pts, .slu, .peat, .pcie, .kmp, .ev, .writes, .out, .queues]) :
    v.view (pointFormat d) = v.view d := by
  simp at h
  unfold pointFormat
  split <;> simp [h]

@[simp] theorem headEmpty_frame (h : v ∉ [.pts, .slu, .ev, .queues]) : v.view (headEmpty d) = v.view d := by
  simp at h
  simp [headEmpty, h]

@[simp] theorem writeStats_frame (h : v ∉ [.pts, .slu, .ev, .queues]) : v.view (writeStats d) = v.view d := by
  simp at h
  simp [writeStats, h]

@[simp] theorem peatStats_frame (h : v ∉ [.slu, .peat, .pcie, .kmp, .ev, .writes, .out]) : v.view (peatStats d) = v.view d := by
  simp at h
  simp [peatStats, h]

@[simp] theorem peatFrame_frame (h : v ∉ [.slu, .peat, .pcie, .kmp, .ev, .writes, .out]) : v.view (peatFrame d) = v.view d := by
  simp at h
  simp [peatFrame, h]

/-! ### Shots and dwells -/

@[simp] theorem refillDwell_queues (s : Slu) : (refillDwell s).queues = s.queues := by simp [refillDwell, refill]
@[simp] theorem refillDwell_latchedFrame (s : Slu) : (refillDwell s).latchedFrame = s.latchedFrame := by simp [refillDwell, refill]

@[simp] theorem judgeLane_frame (p cause : Nat) (h : v ∉ [.recv, .ev]) : v.view (judgeLane p cause d) = v.view d := by
  simp at h
  simp [judgeLane, h]

@[simp] theorem modStart_frame (b : Nat) (f : StartLane → StartLane) (h : v ∉ [.tim]) : v.view (modStart b f d) = v.view d := by
  simp at h
  simp [modStart, h]

@[simp] theorem codeError_frame (b : Nat) (h : v ∉ [.tim, .histo, .latches]) : v.view (codeError b d) = v.view d := by
  simp at h
  simp [codeError, h]

@[simp] theorem closeBankShot_frame (b : Nat) (h : v ∉ [.tim, .histo, .latches]) : v.view (closeBankShot d b) = v.view d := by
  simp at h
  unfold closeBankShot
  dsimp only
  repeat' split
  all_goals simp [h]

@[simp] theorem closeShot_frame (h : v ∉ [.tim, .histo, .latches]) : v.view (closeShot d) = v.view d := by
  simp at h
  simp [closeShot, h]

@[simp] theorem clearShot_frame (h : v ∉ [.recv, .tim]) : v.view (clearShot d) = v.view d := by
  simp at h
  simp [clearShot, h]

@[simp] theorem firePulse_frame (still : Bool) (w cur n k : Nat) (obs : List (Nat × Nat × Nat)) (h : v ∉ [.emi, .ev]) :
    v.view (firePulse still w cur n k obs d) = v.view d := by
  simp at h
  simp [firePulse, h]

@[simp] theorem blockPulse_frame (still : Bool) (w cur n : Nat) (h : v ∉ [.emi]) : v.view (blockPulse still w cur n d) = v.view d := by
  simp at h
  simp [blockPulse, h]

@[simp] theorem fireSegment_frame (still : Bool) (w cur : Nat) (low : List Nat) (obs : List (Nat × Nat × Nat)) (n : Nat)
    (h : v ∉ [.tim, .emi, .ev, .out]) :
    v.view (fireSegment still w cur low obs n d) = v.view d := by
  simp at h
  simp [fireSegment, h]

@[simp] theorem fireRow_frame (scale : Nat) (low : List Nat) (obs : List (Nat × Nat × Nat)) (r : Nat) (h : v ∉ [.tim, .emi, .ev, .out]) :
    v.view (fireRow scale low obs d r) = v.view d := by
  simp at h
  simp [fireRow, h]

@[simp] theorem calShot_frame (low : List Nat) (obs : List (Nat × Nat × Nat))
    (h : v ∉ [.sys, .tim, .histo, .emi, .ev, .out, .latches, .standing]) :
    v.view (calShot low obs d) = v.view d := by
  simp at h
  simp [calShot, h]

@[simp] theorem shotTick_frame (low : List Nat) (obs : List (Nat × Nat × Nat))
    (h : v ∉ [.sys, .seq, .recv, .tim, .histo, .emi, .ev, .out, .latches, .standing, .place]) :
    v.view (shotTick low obs d) = v.view d := by
  simp at h
  simp [shotTick, h]

@[simp] theorem startLaneEdge_frame (b coarse tap : Nat) (h : v ∉ [.tim, .histo, .latches]) :
    v.view (startLaneEdge b coarse tap d) = v.view d := by
  simp at h
  simp [startLaneEdge, h]

@[simp] theorem spadAvalanche_frame (y x spad ps recharge : Nat) (readings : List (Nat × Nat)) (h : v ∉ [.recv, .tim, .histo, .diag, .ev]) :
    v.view (spadAvalanche y x spad ps recharge readings d) = v.view d := by
  simp at h
  simp [spadAvalanche, h]

@[simp] theorem coarseClose_frame (h : v ∉ [.recv, .histo, .latches]) : v.view (coarseClose d) = v.view d := by
  simp at h
  simp [coarseClose, h]

@[simp] theorem closeLane_frame (z : Zone) (col next c p : Nat) (h : v ∉ [.recv, .histo, .latches]) :
    v.view (closeLane z col next c p d).2 = v.view d := by
  simp at h
  simp [closeLane, h]

@[simp] theorem closeLanes_frame (z : Zone) (col next : Nat) (cs : List Nat) (h : v ∉ [.recv, .histo, .latches]) :
    v.view (closeLanes z col next cs d).2 = v.view d := by
  have first : ∀ (l : List Nat) (a : List LaneRec × Dev), v.view (l.foldl (fun a c =>
      let r := closeLane z col next c (laneOfChan d c) a.2
      (a.1 ++ [r.1], r.2)) a).2 = v.view a.2 := by
    intro l
    induction l with
    | nil => exact fun _ => rfl
    | cons c l ih => exact fun a => (ih _).trans (closeLane_frame _ _ _ _ _ _ h)
  unfold closeLanes
  dsimp only
  rw [view_foldl, first]
  intro e c
  simp at h
  apply view_elim
  simp [h]

@[simp] theorem foldSample_frame (row : Nat) (h : v ∉ [.recv, .ev]) : v.view (foldSample d row) = v.view d := by
  simp at h
  simp [foldSample, h]

@[simp] theorem takeSample_frame (h : v ∉ [.recv, .ev]) : v.view (takeSample d) = v.view d := by
  simp at h
  simp [takeSample, h]

@[simp] theorem closeDwell_frame (h : v ∉ [.recv, .tim, .histo, .ev, .latches]) : v.view (closeDwell d).1 = v.view d := by
  simp at h
  simp [closeDwell, h]

@[simp] theorem noteStalls_frame (stalled : List (Nat × Nat)) (h : v ∉ [.pts, .ev]) : v.view (noteStalls stalled d) = v.view d := by
  simp at h
  simp [noteStalls, h]

@[simp] theorem advancePipe_frame (new : Option Work) (stalled : List (Nat × Nat))
    (h : v ∉ [.pts, .slu, .peat, .pcie, .kmp, .ev, .writes, .out, .queues]) :
    v.view (advancePipe new stalled d) = v.view d := by
  simp at h
  simp [advancePipe, h]

@[simp] theorem noteDark_frame (g n : Nat) (h : v ∉ [.recv, .ev]) : v.view (noteDark d g n) = v.view d := by
  simp at h
  simp [noteDark, h]

@[simp] theorem openDwell_frame (h : v ∉ [.recv, .tim, .histo, .emi, .ev, .latches]) : v.view (openDwell d) = v.view d := by
  simp at h
  simp [openDwell, h]

@[simp] theorem judgeLocks_frame (ps : List Nat) (h : v ∉ [.recv, .ev]) : v.view (judgeLocks ps d) = v.view d := by
  simp at h
  simp [judgeLocks, h]

@[simp] theorem dwellTick_frame (lockLost : List Nat) (stalled : List (Nat × Nat))
    (h : v ∉ [.sys, .seq, .recv, .tim, .histo, .pts, .emi, .slu, .peat, .pcie, .kmp, .ev, .writes, .out, .queues, .latches, .standing,
      .place]) :
    v.view (dwellTick lockLost stalled d) = v.view d := by
  simp at h
  simp [dwellTick, h]

@[simp] theorem flushTick_frame (stalled : List (Nat × Nat))
    (h : v ∉ [.sys, .seq, .recv, .tim, .histo, .pts, .slu, .peat, .pcie, .kmp, .ev, .writes, .out, .queues, .latches, .standing, .place]) :
    v.view (flushTick stalled d) = v.view d := by
  simp at h
  simp [flushTick, h]

@[simp] theorem windowBias_frame (h : v ∉ [.recv]) : v.view (windowBias d) = v.view d := by
  simp at h
  simp [windowBias, h]

/-! ### Gauge calibration and device time -/

@[simp] theorem modAcc_frame (lane : Nat) (f : GaugeAcc → GaugeAcc) (h : v ∉ [.gauge]) : v.view (modAcc lane f d) = v.view d := by
  simp at h
  simp [modAcc, h]

@[simp] theorem modTable_frame (lane : Nat) (f : GaugeRec → GaugeRec) (h : v ∉ [.gauge]) : v.view (modTable lane f d) = v.view d := by
  simp at h
  simp [modTable, h]

@[simp] theorem gaugeEdge_frame (lane code : Nat) (h : v ∉ [.gauge]) : v.view (gaugeEdge lane code d) = v.view d := by
  simp at h
  simp [gaugeEdge, h]

@[simp] theorem gaugeEndLane_frame (lane : Nat) (h : v ∉ [.gauge, .ev]) : v.view (gaugeEndLane d lane) = v.view d := by
  simp at h
  simp [gaugeEndLane, h]

@[simp] theorem gaugeCollectionEnd_frame (h : v ∉ [.sys, .gauge, .ev, .rail, .standing]) : v.view (gaugeCollectionEnd d) = v.view d := by
  simp at h
  simp [gaugeCollectionEnd, h]

@[simp] theorem gaugeFailed_frame (lane : Nat) (h : v ∉ [.recv, .gauge, .ev]) : v.view (gaugeFailed lane d) = v.view d := by
  simp at h
  simp [gaugeFailed, h]

@[simp] theorem gaugeDerive_frame (lane : Nat) (h : v ∉ [.recv, .gauge, .ev]) : v.view (gaugeDerive lane d) = v.view d := by
  simp at h
  simp [gaugeDerive, h]

@[simp] theorem gaugeSwap_frame (h : v ∉ [.gauge, .rail]) : v.view (gaugeSwap d) = v.view d := by
  simp at h
  simp [gaugeSwap, h]

@[simp] theorem latchCals_frame (h : v ∉ [.tim, .ev]) : v.view (latchCals d) = v.view d := by
  simp at h
  simp [latchCals, h]

@[simp] theorem resetTau_frame (h : v ∉ [.tim]) : v.view (resetTau d) = v.view d := by
  simp at h
  simp [resetTau, h]

@[simp] theorem servoTo_frame (s : Servo) (h : v ∉ [.tim, .ev]) : v.view (servoTo s d) = v.view d := by
  simp at h
  simp [servoTo, h]

@[simp] theorem shiftInstants_frame (k : Int) (h : v ∉ [.loops, .sync]) : v.view (shiftInstants k d) = v.view d := by
  simp at h
  simp [shiftInstants, h]

@[simp] theorem stepTime_frame (k : Int) (h : v ∉ [.sys, .seq, .tim, .loops, .sync, .ev, .standing, .place]) :
    v.view (stepTime k d) = v.view d := by
  simp at h
  simp [stepTime, h]

@[simp] theorem servoSync_frame (off rate : Int) (h : v ∉ [.sys, .seq, .tim, .loops, .sync, .ev, .standing, .place]) :
    v.view (servoSync off rate d) = v.view d := by
  simp at h
  simp [servoSync, h]

@[simp] theorem servoLock_frame (h : v ∉ [.sys, .tim, .ev, .standing]) : v.view (servoLock d) = v.view d := by
  simp at h
  unfold servoLock
  split <;> simp [h]

@[simp] theorem servoHoldover_frame (h : v ∉ [.sys, .tim, .ev, .standing]) : v.view (servoHoldover d) = v.view d := by
  simp at h
  simp [servoHoldover, h]

@[simp] theorem noteRecommended_frame (h : v ∉ [.ev]) : v.view (noteRecommended d) = v.view d := by
  simp at h
  simp [noteRecommended, h]

@[simp] theorem alignFrame_frame (h : v ∉ [.seq, .tim, .ev]) : v.view (alignFrame d) = v.view d := by
  simp at h
  simp [alignFrame, h]

/-! ### The turnaround's diagnostics and run-time repair -/

@[simp] theorem probeSeen_frame (b idx mv : Nat) (h : v ∉ [.emi, .ev]) : v.view (probeSeen b idx mv d) = v.view d := by
  simp at h
  simp [probeSeen, h]

@[simp] theorem probeOne_frame (round b mv : Nat) (h : v ∉ [.emi, .ev]) : v.view (probeOne round b mv d) = v.view d := by
  simp at h
  simp [probeOne, h]

@[simp] theorem probeRound_frame (round : Nat) (vf : List (Nat × Nat)) (h : v ∉ [.sys, .emi, .ev, .standing]) :
    v.view (probeRound round vf d) = v.view d := by
  simp at h
  simp [probeRound, h]

@[simp] theorem confirmFail_frame (b idx cls : Nat) (h : v ∉ [.emi, .ev]) : v.view (confirmFail b idx cls d) = v.view d := by
  simp at h
  simp [confirmFail, h]

@[simp] theorem probeConfirm_frame (b mv : Nat) (h : v ∉ [.sys, .emi, .ev, .standing]) : v.view (probeConfirm b mv d) = v.view d := by
  simp at h
  unfold probeConfirm
  split <;> simp [h]

@[simp] theorem probeEnd_frame (h : v ∉ [.sys, .emi, .ev, .standing]) : v.view (probeEnd d) = v.view d := by
  simp at h
  simp [probeEnd, h]

@[simp] theorem selfTestRun_frame (vf : List (Nat × Nat)) (h : v ∉ [.sys, .emi, .standing]) : v.view (selfTestRun vf d) = v.view d := by
  simp at h
  unfold selfTestRun
  split <;> simp [h]

@[simp] theorem selfTestEnd_frame (status : Nat) (payload : Bytes) (s : SelfTest) (h : v ∉ [.emi, .slu, .pcie, .kmp, .ev, .writes, .out]) :
    v.view (selfTestEnd status payload s d) = v.view d := by
  simp at h
  unfold selfTestEnd
  dsimp only
  split <;> simp [h]

@[simp] theorem selfTestTick_frame (h : v ∉ [.emi, .slu, .pcie, .kmp, .ev, .writes, .out]) : v.view (selfTestTick d) = v.view d := by
  simp at h
  unfold selfTestTick
  split <;> simp [h]

@[simp] theorem judgeMacro_frame (cnt : Nat → Nat) (key : Nat) (h : v ∉ [.recv]) : v.view (judgeMacro cnt d key) = v.view d := by
  simp at h
  simp [judgeMacro, h]

@[simp] theorem darkCountEnd_frame (counts : List (Nat × Nat)) (h : v ∉ [.sys, .recv, .standing]) :
    v.view (darkCountEnd counts d) = v.view d := by
  simp at h
  simp [darkCountEnd, h]

@[simp] theorem mapCause_frame (i : Nat) (h : v ∉ [.rep]) : v.view (mapCause i d) = v.view d := by
  simp at h
  simp [mapCause, h]

@[simp] theorem applyMasks_frame (h : v ∉ [.recv, .rep]) : v.view (applyMasks d) = v.view d := by
  simp at h
  simp [applyMasks, h]

@[simp] theorem applyMaskOp_frame (o : MaskOp) (h : v ∉ [.recv]) : v.view (applyMaskOp d o) = v.view d := by
  simp at h
  simp [applyMaskOp, h]

@[simp] theorem gateSlice_frame (s cause : Nat) (h : v ∉ [.recv, .rep, .ev, .gated]) : v.view (gateSlice s cause d) = v.view d := by
  simp at h
  simp [gateSlice, h]

@[simp] theorem groupBroken_frame (g : Nat) (h : v ∉ [.recv]) : v.view (groupBroken d g) = v.view d := by
  simp at h
  simp [groupBroken, h]

@[simp] theorem replaceLane_frame (e : Nat × Nat) (h : v ∉ [.recv, .ev]) : v.view (replaceLane d e) = v.view d := by
  simp at h
  unfold replaceLane
  dsimp only
  split <;> simp [h]

@[simp] theorem repairLanes_frame (h : v ∉ [.recv, .rep, .ev, .gated]) : v.view (repairLanes d) = v.view d := by
  simp at h
  simp [repairLanes, h]

@[simp] theorem judgeSaturated_frame (h : v ∉ [.recv, .histo, .ev]) : v.view (judgeSaturated d) = v.view d := by
  simp at h
  simp [judgeSaturated, h]

@[simp] theorem repairSegments_frame (h : v ∉ [.rep, .emi, .ev]) : v.view (repairSegments d) = v.view d := by
  simp at h
  simp [repairSegments, h]

@[simp] theorem autoApply_frame (h : v ∉ [.recv]) : v.view (autoApply d) = v.view d := by
  simp at h
  unfold autoApply
  split
  · rfl
  · apply view_foldl
    intro d n
    split <;> simp [h]

@[simp] theorem mapUpdate_frame (h : v ∉ [.rep, .ev]) : v.view (mapUpdate d) = v.view d := by
  simp at h
  simp [mapUpdate, h]

/-! ### Sedge -/

@[simp] theorem bankOutput_frame (e k : Nat) (v' : Int) (h : v ∉ [.emi, .ev]) : v.view (bankOutput e k v' d) = v.view d := by
  simp at h
  simp [bankOutput, h]

@[simp] theorem useOutput_frame (s : Nat) (v' : Int) (before : Dev) (h : v ∉ [.recv, .scan, .ev]) :
    v.view (useOutput s v' before d) = v.view d := by
  simp at h
  simp [useOutput, h]

@[simp] theorem ringPut_frame (e s : Nat) (m : Member) (h : v ∉ [.sense, .slu, .peat, .pcie, .kmp, .ev, .writes, .out]) :
    v.view (ringPut e s m d) = v.view d := by
  simp at h
  simp [ringPut, h]

@[simp] theorem sequenceVisit_frame (code : Int) (h : v ∉ [.recv, .emi, .scan, .sense, .slu, .peat, .pcie, .kmp, .ev, .writes, .out]) :
    v.view (sequenceVisit code d) = v.view d := by
  simp at h
  unfold sequenceVisit
  split <;> simp [h]

@[simp] theorem urgentConversion_frame (u : Nat × Nat) (code : Int) (h : v ∉ [.sense]) : v.view (urgentConversion u code d) = v.view d := by
  simp at h
  simp [urgentConversion, h]

@[simp] theorem diagPeriod_frame (h : v ∉ [.sense]) : v.view (diagPeriod d) = v.view d := by
  simp at h
  simp [diagPeriod, h]

@[simp] theorem diagAdvance_frame (next : Nat) (h : v ∉ [.sense]) : v.view (diagAdvance next d) = v.view d := by
  simp at h
  unfold diagAdvance
  dsimp only
  repeat' split
  all_goals simp [h]

@[simp] theorem diagConversion_frame (g : WireTest) (code : Int) (h : v ∉ [.sense]) : v.view (diagConversion g code d) = v.view d := by
  simp at h
  simp [diagConversion, h]

@[simp] theorem sedgeSlot_frame (code : Int)
    (h : v ∉ [.sys, .recv, .emi, .scan, .sense, .slu, .peat, .pcie, .kmp, .ev, .writes, .out, .standing]) :
    v.view (sedgeSlot code d) = v.view d := by
  simp at h
  unfold sedgeSlot
  dsimp only
  repeat' split
  all_goals simp [h]

@[simp] theorem applyEntry_frame (e w : Nat) (h : v ∉ [.sense]) : v.view (applyEntry e w d) = v.view d := by
  simp at h
  simp [applyEntry, h]

@[simp] theorem raiseOpen_frame (s since first : Nat) (h : v ∉ [.ev]) : v.view (raiseOpen s since first d) = v.view d := by
  simp at h
  unfold raiseOpen
  split <;> simp [h]

@[simp] theorem openWireTest_frame (h : v ∉ [.sense, .ev]) : v.view (openWireTest d) = v.view d := by
  simp at h
  unfold openWireTest
  split <;> simp [h]

/-! ### The drive stage and the mirror's angle -/

@[simp] theorem modCharge_frame (c : Nat) (f : Charge → Charge) (h : v ∉ [.scan]) : v.view (modCharge c f d) = v.view d := by
  simp at h
  simp [modCharge, h]

@[simp] theorem chargeReset_frame (c : Nat) (seed : Int) (t : Nat) (h : v ∉ [.scan]) : v.view (chargeReset c seed t d) = v.view d := by
  simp at h
  simp [chargeReset, h]

@[simp] theorem chargeNote_frame (c : Nat) (h : v ∉ [.scan, .ev]) : v.view (chargeNote c d) = v.view d := by
  simp at h
  unfold chargeNote
  split <;> simp [h]

@[simp] theorem apexOne_frame (c : Nat) (h : v ∉ [.scan]) : v.view (apexOne d c) = v.view d := by
  simp at h
  simp [apexOne, h]

@[simp] theorem apexReset_frame (h : v ∉ [.scan]) : v.view (apexReset d) = v.view d := by
  simp at h
  simp [apexReset, h]

@[simp] theorem takeAngles_frame (d0 : Dev) (h : v ∉ [.scan, .ev]) : v.view (takeAngles d0) = v.view d0 := by
  simp at h
  simp [takeAngles, h]

@[simp] theorem rampFrom_frame (h : v ∉ [.scan]) : v.view (rampFrom d) = v.view d := by
  simp at h
  simp [rampFrom, h]

@[simp] theorem modSlot_frame (n : Nat) (f : Slot9 → Slot9) (h : v ∉ [.loops]) : v.view (modSlot n f d) = v.view d := by
  simp at h
  simp [modSlot, h]

@[simp] theorem fallLeave_frame (n : Nat) (h : v ∉ [.emi, .loops, .ev]) : v.view (fallLeave n d) = v.view d := by
  simp at h
  simp [fallLeave, h]

@[simp] theorem leaveL0_frame (h : v ∉ [.emi, .scan, .loops, .ev]) : v.view (leaveL0 d) = v.view d := by
  simp at h
  simp [leaveL0, h]

@[simp] theorem loopsOff_frame (h : v ∉ [.emi, .scan, .loops, .ev]) : v.view (loopsOff d) = v.view d := by
  simp at h
  simp [loopsOff, h]

@[simp] theorem tripStage_frame (cause : Nat) (h : v ∉ [.emi, .scan, .loops, .ev]) : v.view (tripStage cause d) = v.view d := by
  simp at h
  simp [tripStage, h]

@[simp] theorem driveTrip_frame (cause : Nat) (h : v ∉ [.emi, .scan, .loops, .ev]) : v.view (driveTrip cause d) = v.view d := by
  simp at h
  simp [driveTrip, h]

@[simp] theorem holdDrive_frame (h : v ∉ [.emi, .scan, .loops, .ev]) : v.view (holdDrive d) = v.view d := by
  simp at h
  simp [holdDrive, h]

@[simp] theorem releaseDrive_frame (h : v ∉ [.scan, .ev]) : v.view (releaseDrive d) = v.view d := by
  simp at h
  simp [releaseDrive, h]

@[simp] theorem trackError_frame (e : Int) (h : v ∉ [.scan, .ev]) : v.view (trackError e d) = v.view d := by
  simp at h
  simp [trackError, h]

@[simp] theorem sweepEnd_frame (h : v ∉ [.scan]) : v.view (sweepEnd d) = v.view d := by
  simp at h
  simp [sweepEnd, h]

@[simp] theorem testTone_frame (g : Nat) (ohms : List Nat) (cross : Nat) (h : v ∉ [.sys, .emi, .scan, .loops, .ev, .standing]) :
    v.view (testTone g ohms cross d) = v.view d := by
  simp at h
  simp [testTone, h]

@[simp] theorem scanLatch_frame (frame : Nat) (h : v ∉ [.scan]) : v.view (scanLatch frame d) = v.view d := by
  simp at h
  simp [scanLatch, h]

/-! ### Tension -/

@[simp] theorem slotAutoFrom_frame (n : Nat) (out : Int) (h : v ∉ [.loops]) : v.view (slotAutoFrom n out d) = v.view d := by
  simp at h
  simp [slotAutoFrom, h]

@[simp] theorem slotAuto_frame (n : Nat) (h : v ∉ [.loops]) : v.view (slotAuto n d) = v.view d := by
  simp at h
  simp [slotAuto, h]

@[simp] theorem leaveAuto_frame (n : Nat) (h : v ∉ [.scan, .loops]) : v.view (leaveAuto n d) = v.view d := by
  simp at h
  simp [leaveAuto, h]

@[simp] theorem fallBack_frame (n cause : Nat) (h : v ∉ [.emi, .scan, .loops, .ev]) : v.view (fallBack n cause d) = v.view d := by
  simp at h
  simp [fallBack, h]

@[simp] theorem slotOverrun_frame (n : Nat) (h : v ∉ [.emi, .scan, .loops, .ev]) : v.view (slotOverrun n d) = v.view d := by
  simp at h
  simp [slotOverrun, h]

@[simp] theorem judgeAuto_frame (n : Nat) (r : Bytes) (h : v ∉ [.emi, .scan, .loops, .ev]) : v.view (judgeAuto n r d) = v.view d := by
  simp at h
  simp [judgeAuto, h]

@[simp] theorem judgeReturn_frame (n : Nat) (r : Bytes) (h : v ∉ [.emi, .loops, .ev]) : v.view (judgeReturn n r d) = v.view d := by
  simp at h
  simp [judgeReturn, h]

@[simp] theorem computeSlot_frame (slow : List Nat) (n : Nat) (h : v ∉ [.emi, .scan, .loops, .ev]) :
    v.view (computeSlot slow d n) = v.view d := by
  simp at h
  unfold computeSlot
  dsimp only
  repeat' split
  all_goals simp [h]

@[simp] theorem phaseSample_frame (h : v ∉ [.loops]) : v.view (phaseSample d) = v.view d := by
  simp at h
  simp [phaseSample, h]

@[simp] theorem trackTick_frame (h : v ∉ [.scan, .ev]) : v.view (trackTick d) = v.view d := by
  simp at h
  simp [trackTick, h]

@[simp] theorem driveRest_frame (h : v ∉ [.prm]) : v.view (driveRest d) = v.view d := by
  simp at h
  simp [driveRest, h]

@[simp] theorem applyOutputs_frame (h : v ∉ [.prm, .emi, .scan, .loops]) : v.view (applyOutputs d) = v.view d := by
  simp at h
  simp [applyOutputs, h]

@[simp] theorem leaveHeld_frame (h : v ∉ [.emi, .scan, .loops, .ev]) : v.view (leaveHeld d) = v.view d := by
  simp at h
  simp [leaveHeld, h]

@[simp] theorem beginTick_frame (t : Nat) (h : v ∉ [.sys, .seq, .prm, .emi, .scan, .sense, .loops, .ev, .standing]) :
    v.view (beginTick t d) = v.view d := by
  simp at h
  simp [beginTick, h]

@[simp] theorem modTrace_frame (u : Nat) (f : Trace → Trace) (h : v ∉ [.loops]) : v.view (modTrace u f d) = v.view d := by
  simp at h
  simp [modTrace, h]

@[simp] theorem traceStop_frame (u : Nat) (h : v ∉ [.loops, .slu, .pcie, .kmp, .ev, .writes, .out]) :
    v.view (traceStop u d) = v.view d := by
  simp at h
  unfold traceStop
  dsimp only
  split <;> simp [h]

@[simp] theorem traceMiss_frame (u : Nat) (h : v ∉ [.loops]) : v.view (traceMiss u d) = v.view d := by
  simp at h
  simp [traceMiss, h]

@[simp] theorem traceTrigger_frame (u source t : Nat) (h : v ∉ [.loops]) : v.view (traceTrigger u source t d) = v.view d := by
  simp at h
  simp [traceTrigger, h]

@[simp] theorem traceTriggers_frame (source t : Nat) (h : v ∉ [.loops]) : v.view (traceTriggers source t d) = v.view d := by
  simp at h
  simp [traceTriggers, h]

@[simp] theorem traceWatch_frame (u : Nat) (h : v ∉ [.loops]) : v.view (traceWatch u d) = v.view d := by
  simp at h
  simp [traceWatch, h]

@[simp] theorem traceTick_frame (u : Nat) (h : v ∉ [.loops, .slu, .peat, .pcie, .kmp, .ev, .writes, .out]) :
    v.view (traceTick u d) = v.view d := by
  simp at h
  simp [traceTick, h]

@[simp] theorem finishAngles_frame (h : v ∉ [.scan, .loops, .ev]) : v.view (finishAngles d) = v.view d := by
  simp at h
  simp [finishAngles, h]

@[simp] theorem countHold_frame (h : v ∉ [.scan]) : v.view (countHold d) = v.view d := by
  simp at h
  simp [countHold, h]

@[simp] theorem finishSlots_frame (slow : List Nat) (h : v ∉ [.emi, .scan, .loops, .slu, .peat, .pcie, .kmp, .ev, .writes, .out]) :
    v.view (finishSlots slow d) = v.view d := by
  simp at h
  simp [finishSlots, h]

@[simp] theorem requestMode_frame (q : ModeReq) (h : v ∉ [.emi, .scan, .loops, .ev]) : v.view (requestMode q d) = v.view d := by
  simp at h
  simp [requestMode, h]

@[simp] theorem requestModes_frame (h : v ∉ [.emi, .scan, .loops, .slu, .pcie, .kmp, .ev, .writes, .out]) :
    v.view (requestModes d) = v.view d := by
  simp at h
  unfold requestModes
  rw [view_foldl]
  · simp [h]
  · intro d q
    dsimp only
    split <;> simp [h]

@[simp] theorem scanBegin_frame (h : v ∉ [.scan, .loops]) : v.view (scanBegin d) = v.view d := by
  simp at h
  simp [scanBegin, h]

@[simp] theorem scanEnd_frame (h : v ∉ [.emi, .scan, .loops, .ev]) : v.view (scanEnd d) = v.view d := by
  simp at h
  simp [scanEnd, h]

@[simp] theorem requestScan1_frame (q : Nat × Nat × Bool) (h : v ∉ [.emi, .scan, .loops, .slu, .pcie, .kmp, .ev, .writes, .out]) :
    v.view (requestScan1 d q) = v.view d := by
  simp at h
  unfold requestScan1
  dsimp only
  split <;> simp [h]

@[simp] theorem requestScans_frame (h : v ∉ [.emi, .scan, .loops, .slu, .pcie, .kmp, .ev, .writes, .out]) :
    v.view (requestScans d) = v.view d := by
  simp at h
  simp [requestScans, h]

@[simp] theorem tensionFrame_frame (h : v ∉ [.emi, .scan, .loops, .slu, .pcie, .kmp, .ev, .writes, .out]) :
    v.view (tensionFrame d) = v.view d := by
  simp at h
  simp [tensionFrame, h]

/-! ### Operating states, the emitter rail, trips and halts -/

@[simp] theorem toState_frame (o : OpState) (h : v ∉ [.sys, .pts, .ev, .rail]) : v.view (toState o d) = v.view d := by
  simp at h
  have op : v.view (modSys (fun y => { y with op := o }) d) = v.view d := by
    cases v <;> simp_all [Facet.view]
  unfold toState
  simp [h, op]

@[simp] theorem cancelStateCmds_frame (h : v ∉ [.slu, .pcie, .kmp, .ev, .writes, .out]) : v.view (cancelStateCmds d) = v.view d := by
  simp at h
  simp [cancelStateCmds, h]

@[simp] theorem openRail_frame (h : v ∉ [.emi, .saf, .rail, .inhibit]) : v.view (openRail d) = v.view d := by
  simp at h
  simp [openRail, h]

@[simp] theorem closeRail_frame (h : v ∉ [.emi, .saf, .rail, .inhibit]) : v.view (closeRail d) = v.view d := by
  simp at h
  simp [closeRail, h]

@[simp] theorem modOut_frame (n : Nat) (f : SafeOut → SafeOut) (h : v ∉ [.saf, .outs]) : v.view (modOut n f d) = v.view d := by
  simp at h
  simp [modOut, h]

@[simp] theorem deEnergise_frame (n : Nat) (h : v ∉ [.saf, .ev, .outs]) : v.view (deEnergise n d) = v.view d := by
  simp at h
  simp [deEnergise, h]

@[simp] theorem deEnergiseAll_frame (h : v ∉ [.saf, .ev, .outs]) : v.view (deEnergiseAll d) = v.view d := by
  simp at h
  simp [deEnergiseAll, h]

@[simp] theorem latchCauses_frame (bits : List Nat) (h : v ∉ [.saf]) : v.view (latchCauses bits d) = v.view d := by
  simp at h
  simp [latchCauses, h]

@[simp] theorem trip_frame (bits : List Nat)
    (h : v ∉ [.sys, .pts, .emi, .saf, .slu, .pcie, .kmp, .ev, .writes, .out, .rail, .outs, .inhibit]) :
    v.view (trip bits d) = v.view d := by
  simp at h
  unfold trip
  dsimp only
  split <;> simp [h]

@[simp] theorem halt_frame (cause : Nat)
    (h : v ∉ [.sys, .prm, .pts, .emi, .scan, .loops, .saf, .slu, .pcie, .kmp, .ev, .writes, .out, .rail, .outs, .standing, .inhibit]) :
    v.view (halt cause d) = v.view d := by
  simp at h
  simp [halt, h]

@[simp] theorem tussockFault_frame
    (h : v ∉ [.sys, .prm, .pts, .emi, .scan, .loops, .saf, .slu, .pcie, .kmp, .ev, .writes, .out, .rail, .outs, .standing, .inhibit]) :
    v.view (tussockFault d) = v.view d := by
  simp at h
  simp [tussockFault, h]

@[simp] theorem afterHookB_frame (f : Dev → Dev) (hf : v.view (f d) = v.view d) : v.view (afterHookB f d) = v.view d := by
  unfold afterHookB
  simp [hf]

@[simp] theorem scrubTussock_frame (block readAt : Nat) (flips : List (Nat × Nat)) (corrected uncorrectable : Bool)
    (h : v ∉ [.sys, .prm, .pts, .emi, .scan, .loops, .saf, .slu, .pcie, .kmp, .ev, .writes, .out, .rail, .outs, .standing, .inhibit]) :
    v.view (scrubTussock block readAt flips corrected uncorrectable d) = v.view d := by
  simp at h
  simp [scrubTussock, h]

@[simp] theorem clockCheck_frame (ratios : List Nat)
    (h : v ∉ [.sys, .pts, .emi, .saf, .slu, .pcie, .kmp, .ev, .writes, .out, .rail, .outs, .standing, .inhibit]) :
    v.view (clockCheck ratios d) = v.view d := by
  simp at h
  simp [clockCheck, h]

@[simp] theorem armNow_frame (h : v ∉ [.sys, .pts, .emi, .saf, .slu, .pcie, .kmp, .ev, .writes, .out, .rail, .inhibit]) :
    v.view (armNow d) = v.view d := by
  simp at h
  unfold armNow
  split <;> simp [h]

@[simp] theorem railTest_frame (s : Nat) (pass : Bool)
    (h : v ∉ [.sys, .pts, .emi, .saf, .slu, .pcie, .kmp, .ev, .writes, .out, .rail, .outs, .standing, .inhibit]) :
    v.view (railTest s pass d) = v.view d := by
  simp at h
  simp [railTest, h]

@[simp] theorem lockOut_frame (n : Nat) (h : v ∉ [.saf, .ev, .outs]) : v.view (lockOut n d) = v.view d := by
  simp at h
  simp [lockOut, h]

@[simp] theorem outputTest_frame (n s : Nat) (pass shorted : Bool) (h : v ∉ [.saf, .ev, .outs]) :
    v.view (outputTest n s pass shorted d) = v.view d := by
  simp at h
  simp [outputTest, h]

@[simp] theorem outputOver_frame (n : Nat) (h : v ∉ [.saf, .ev, .outs]) : v.view (outputOver n d) = v.view d := by
  simp at h
  simp [outputOver, h]

/-! ### The emission limiter -/

@[simp] theorem chargeCells_frame (az : List Nat) (b e : Nat)
    (h : v ∉ [.sys, .pts, .emi, .saf, .slu, .pcie, .kmp, .ev, .writes, .out, .rail, .outs, .inhibit]) :
    v.view (chargeCells az b e d) = v.view d := by
  simp at h
  unfold chargeCells
  dsimp only
  repeat' split
  all_goals simp [h]

@[simp] theorem ageBase_frame (base : Nat) (h : v ∉ [.saf]) : v.view (ageBase base d) = v.view d := by
  simp at h
  simp [ageBase, h]

@[simp] theorem mergeCells_frame (h : v ∉ [.saf]) : v.view (mergeCells d) = v.view d := by
  simp at h
  simp [mergeCells, h]

@[simp] theorem chargePulse_frame (n e : Nat)
    (h : v ∉ [.sys, .pts, .emi, .saf, .slu, .pcie, .kmp, .ev, .writes, .out, .rail, .outs, .inhibit]) :
    v.view (chargePulse n e d) = v.view d := by
  simp at h
  simp [chargePulse, h]

@[simp] theorem chargeReport_frame (r : PulseRep) (e : Nat)
    (h : v ∉ [.sys, .pts, .emi, .saf, .slu, .pcie, .kmp, .ev, .writes, .out, .rail, .outs, .inhibit]) :
    v.view (chargeReport r e d) = v.view d := by
  simp at h
  simp [chargeReport, h]

theorem takeReport_frame {d : Dev} {n : Nat} {x : PulseRep × Dev} (hx : takeReport n d = some x) (h : v ∉ [.emi]) :
    v.view x.2 = v.view d := by
  obtain ⟨r, -, rfl⟩ := Option.map_eq_some_iff.1 hx
  simp at h
  simp [h]

@[simp] theorem pulseReport_frame (n : Nat)
    (h : v ∉ [.sys, .pts, .emi, .saf, .slu, .pcie, .kmp, .ev, .writes, .out, .rail, .outs, .inhibit]) :
    v.view (pulseReport n d) = v.view d := by
  simp at h
  unfold pulseReport
  split
  · rfl
  · next x hx => simp [h, takeReport_frame hx]

@[simp] theorem pulseTimeout_frame (n : Nat)
    (h : v ∉ [.sys, .pts, .emi, .saf, .slu, .pcie, .kmp, .ev, .writes, .out, .rail, .outs, .inhibit]) :
    v.view (pulseTimeout n d) = v.view d := by
  simp at h
  unfold pulseTimeout
  split
  · rfl
  · next x hx => simp [h, takeReport_frame hx]

@[simp] theorem noteFit_frame (old : Option Bytes) (h : v ∉ [.ev]) : v.view (noteFit old d) = v.view d := by
  simp at h
  simp [noteFit, h]

@[simp] theorem judgeStall_frame
    (h : v ∉ [.sys, .pts, .emi, .scan, .loops, .saf, .slu, .pcie, .kmp, .ev, .writes, .out, .rail, .outs, .inhibit]) :
    v.view (judgeStall d) = v.view d := by
  simp at h
  simp [judgeStall, h]

@[simp] theorem gaugeDeriveChecked_frame (lane : Nat) (differs : Bool)
    (h : v ∉ [.sys, .recv, .gauge, .pts, .emi, .saf, .slu, .pcie, .kmp, .ev, .writes, .out, .rail, .outs, .inhibit]) :
    v.view (gaugeDeriveChecked lane differs d) = v.view d := by
  simp at h
  simp [gaugeDeriveChecked, h]

/-! ### Tussock's checks and protective fields -/

@[simp] theorem closeBlock_frame (h : v ∉ [.saf, .ev]) : v.view (closeBlock d) = v.view d := by
  simp at h
  unfold closeBlock
  split <;> simp [h]

@[simp] theorem blockDwell_frame (w : Work) (sweepEnds : Bool) (h : v ∉ [.saf, .ev]) : v.view (blockDwell w sweepEnds d) = v.view d := by
  simp at h
  simp [blockDwell, h]

@[simp] theorem noteFields_frame (before : List FieldRun) (h : v ∉ [.ev]) : v.view (noteFields before d) = v.view d := by
  simp at h
  simp [noteFields, h]

@[simp] theorem evalDwell_frame (h' : HeldDwell) (rows : Nat) (h : v ∉ [.saf, .ev]) : v.view (evalDwell h' rows d) = v.view d := by
  simp at h
  unfold evalDwell
  repeat' split
  all_goals simp [h]

@[simp] theorem evalHeld_frame (n : Nat) (h : v ∉ [.saf, .ev]) : v.view (evalHeld n d) = v.view d := by
  simp at h
  induction n generalizing d with
  | zero => rfl
  | succ n ih =>
    unfold evalHeld
    repeat' split
    all_goals simp [h, ih]

@[simp] theorem evalReady_frame (h : v ∉ [.saf, .ev]) : v.view (evalReady d) = v.view d := by
  simp at h
  simp [evalReady, h]

@[simp] theorem tagCheck_frame (flips : List (Nat × Nat)) (tagXor : Nat)
    (h : v ∉ [.sys, .pts, .emi, .saf, .slu, .pcie, .kmp, .ev, .writes, .out, .rail, .outs, .inhibit]) :
    v.view (tagCheck flips tagXor d) = v.view d := by
  simp at h
  unfold tagCheck
  split <;> simp [h]

@[simp] theorem fieldsFrame_frame (h : v ∉ [.saf, .ev]) : v.view (fieldsFrame d) = v.view d := by
  simp at h
  simp [fieldsFrame, h]

@[simp] theorem fieldsStart_frame (h : v ∉ [.saf, .ev]) : v.view (fieldsStart d) = v.view d := by
  simp at h
  simp [fieldsStart, h]

@[simp] theorem selectSet_frame (h : v ∉ [.saf, .ev]) : v.view (selectSet d) = v.view d := by
  simp at h
  simp [selectSet, h]

/-! ### Safety inputs and outputs -/

@[simp] theorem energise_frame (n : Nat) (h : v ∉ [.saf, .ev, .outs]) : v.view (energise n d) = v.view d := by
  simp at h
  simp [energise, h]

@[simp] theorem followOut_frame (n : Nat) (h : v ∉ [.saf, .ev, .outs]) : v.view (followOut n d) = v.view d := by
  simp at h
  simp [followOut, h]

@[simp] theorem followOuts_frame (h : v ∉ [.saf, .ev, .outs]) : v.view (followOuts d) = v.view d := by
  simp at h
  simp [followOuts, h]

@[simp] theorem restartExpiry_frame (n : Nat) (h : v ∉ [.sys, .saf, .ev, .outs, .standing]) : v.view (restartExpiry n d) = v.view d := by
  simp at h
  unfold restartExpiry
  repeat' split
  all_goals simp [h]

@[simp] theorem restartEdge_frame (n since : Nat) (h : v ∉ [.saf, .ev, .outs]) : v.view (restartEdge n since d) = v.view d := by
  simp at h
  simp [restartEdge, h]

@[simp] theorem followRestart_frame (n : Nat) (h : v ∉ [.saf, .ev, .outs]) : v.view (followRestart n d) = v.view d := by
  simp at h
  unfold followRestart
  split <;> simp [h]

@[simp] theorem testPulse_frame (k readback : Nat) (h : v ∉ [.sys, .saf, .ev, .standing]) : v.view (testPulse k readback d) = v.view d := by
  simp at h
  simp [testPulse, h]

@[simp] theorem pairStep_frame (t k : Nat) (h : v ∉ [.saf]) : v.view (pairStep t d k) = v.view d := by
  simp at h
  simp [pairStep, h]

@[simp] theorem noteInputs_frame (before : Dev) (h : v ∉ [.ev]) : v.view (noteInputs before d) = v.view d := by
  simp at h
  simp [noteInputs, h]

@[simp] theorem inputSample_frame (levels : Nat) (h : v ∉ [.sys, .saf, .ev, .outs, .standing]) :
    v.view (inputSample levels d) = v.view d := by
  simp at h
  simp [inputSample, h]

@[simp] theorem vsafeChange_frame (ok : Bool) (mv : Nat) (h : v ∉ [.saf, .ev]) : v.view (vsafeChange ok mv d) = v.view d := by
  simp at h
  simp [vsafeChange, h]

/-! ### Hook A and Hahild Safe Transport -/

@[simp] theorem hookEnd_frame (status check corrected : Nat) (h : v ∉ [.hst, .slu, .pcie, .kmp, .ev, .writes, .out]) :
    v.view (hookEnd status check corrected d) = v.view d := by
  simp at h
  unfold hookEnd
  dsimp only
  repeat' split
  all_goals simp [h]

@[simp] theorem hookComplete_frame (corrected : Nat) (bad : Bool) (data : Bytes) (h : v ∉ [.hst, .slu, .pcie, .kmp, .ev, .writes, .out]) :
    v.view (hookComplete corrected bad data d) = v.view d := by
  simp at h
  simp [hookComplete, h]

@[simp] theorem scrubFirmware_frame (last : Bool) (block readAt : Nat) (flips : List (Nat × Nat))
    (h : v ∉ [.sys, .prm, .pts, .emi, .scan, .loops, .saf, .slu, .pcie, .kmp, .ev, .writes, .out, .rail, .outs, .standing, .inhibit]) :
    v.view (scrubFirmware last block readAt flips d) = v.view d := by
  simp at h
  simp [scrubFirmware, h]

@[simp] theorem modConn_frame (c : Nat) (f : Conn → Conn) (h : v ∉ [.hst]) : v.view (modConn c f d) = v.view d := by
  simp at h
  simp [modConn, h]

@[simp] theorem connCount_frame (c i k : Nat) (h : v ∉ [.hst, .ev]) : v.view (connCount c i k d) = v.view d := by
  simp at h
  simp [connCount, h]

@[simp] theorem connStart_frame (c : Nat) (h : v ∉ [.saf, .hst, .ev, .drawn, .outs]) : v.view (connStart c d) = v.view d := by
  simp at h
  simp [connStart, h]

@[simp] theorem connFault_frame (c cause : Nat) (h : v ∉ [.saf, .hst, .ev, .outs]) : v.view (connFault c cause d) = v.view d := by
  simp at h
  simp [connFault, h]

@[simp] theorem connCommit_frame (c : Nat) (h : v ∉ [.saf, .hst, .ev, .drawn, .outs]) : v.view (connCommit c d) = v.view d := by
  simp at h
  simp [connCommit, h]

@[simp] theorem connSend_frame (c : Nat) (h : v ∉ [.hst, .slu, .ev]) : v.view (connSend c d) = v.view d := by
  simp at h
  simp [connSend, h]

@[simp] theorem hstCycle_frame (c : Nat) (h : v ∉ [.sys, .hst, .slu, .ev, .standing]) : v.view (hstCycle c d) = v.view d := by
  simp at h
  simp [hstCycle, h]

@[simp] theorem hstChange_frame (c : Nat) (h : v ∉ [.sys, .hst, .slu, .ev, .standing]) : v.view (hstChange c d) = v.view d := by
  simp at h
  simp [hstChange, h]

@[simp] theorem hstArrival_frame (c : Nat) (data : Bytes) (h : v ∉ [.hst]) : v.view (hstArrival c data d) = v.view d := by
  simp at h
  simp [hstArrival, h]

@[simp] theorem connCheckFail_frame (c : Nat) (h : v ∉ [.saf, .hst, .ev, .outs]) : v.view (connCheckFail c d) = v.view d := by
  simp at h
  simp [connCheckFail, h]

@[simp] theorem connRestart_frame (c n : Nat) (on_ : Bool) (h : v ∉ [.saf, .hst, .ev, .outs]) :
    v.view (connRestart c n on_ d) = v.view d := by
  simp at h
  unfold connRestart
  dsimp only
  repeat' split
  all_goals simp [h]

@[simp] theorem connAccept_frame (c : Nat) (m : Bytes) (lost : Nat) (h : v ∉ [.saf, .hst, .ev, .outs]) :
    v.view (connAccept c m lost d) = v.view d := by
  simp at h
  simp [connAccept, h]

@[simp] theorem connReceive_frame (c : Nat) (m : Bytes) (h : v ∉ [.saf, .hst, .ev, .outs]) : v.view (connReceive c m d) = v.view d := by
  simp at h
  simp [connReceive, h]

@[simp] theorem hstReceive_frame (h : v ∉ [.saf, .hst, .ev, .outs]) : v.view (hstReceive d) = v.view d := by
  simp at h
  unfold hstReceive
  split <;> simp [h]

@[simp] theorem hstWatchdog_frame (c : Nat) (h : v ∉ [.sys, .saf, .hst, .ev, .outs, .standing]) : v.view (hstWatchdog c d) = v.view d := by
  simp at h
  simp [hstWatchdog, h]

@[simp] theorem hstAuto_frame (c : Nat) (h : v ∉ [.sys, .saf, .hst, .ev, .drawn, .outs, .standing]) : v.view (hstAuto c d) = v.view d := by
  simp at h
  simp [hstAuto, h]

/-! ### Taking and answering commands -/

@[simp] theorem renewLease_frame (c : Cmd) (h : v ∉ [.kmp, .session]) : v.view (renewLease c d) = v.view d := by
  simp at h
  simp [renewLease, h]

theorem boot60_of_view {d e : Dev} (h : Facet.rail.view e = Facet.rail.view d) : (e.sys.boot == 0x60) = (d.sys.boot == 0x60) :=
  congrArg (fun x : Dev => x.sys.bootReady) h

@[simp] theorem verifyBegins_frame (c : Cmd) (h : v ∉ [.sys, .standing])
    (hr : v = .rail → (mbGet d c.mb).rom = true → c.op = 0x01F3 → d.sys.boot ≠ 0x60) : v.view (verifyBegins c d) = v.view d := by
  simp at h
  unfold verifyBegins
  extract_lets port k
  split
  · next hs =>
    simp only [Bool.and_eq_true, beq_iff_eq] at hs
    obtain ⟨⟨⟨hrom, hop⟩, -⟩, -⟩ := hs
    exact modSys_frame d _ (by simp [h]) (fun hv => ⟨rfl, by simpa using hr hv hrom hop⟩) fun _ _ => rfl
  · rfl

theorem firstStatus_eq_none {l : List (Option Nat)} : firstStatus l = none ↔ ∀ x ∈ l, x = none := by
  induction l with
  | nil => simp [firstStatus]
  | cons x l ih =>
    cases x with
    | none => simp [firstStatus, ih]
    | some n => simp [firstStatus]

/-- The ROM takes LOAD_END at stages 0x30 and 0x40 alone (R364). -/
theorem boot_of_takeStatus {d : Dev} {c : Cmd} {header : Bytes} {held : Bool} (h : takeStatus d c header held = none)
    (hrom : (mbGet d c.mb).rom = true) (hop : c.op = 0x01F3) : d.sys.boot ≠ 0x60 := by
  intro hb
  simp [takeStatus, firstStatus_eq_none, hrom, hop, romServes, hb] at h

/-- A change of a mailbox that leaves open who serves it. -/
theorem modMb_rom {mb : Nat} {f : Mailbox → Mailbox} (hf : ∀ m, (f m).rom = m.rom) (d : Dev) :
    (mbGet (modMb mb f d) mb).rom = (mbGet d mb).rom := by
  rw [mbGet, mbGet, modMb, modKmp_kmp, listMod, List.getD_eq_getElem?_getD, List.getD_eq_getElem?_getD, List.getElem?_modify_eq]
  cases d.kmp.mbs[mb]? with
  | none => rfl
  | some m => exact hf m

theorem renewLease_rom (c : Cmd) (d : Dev) (mb : Nat) : (mbGet (renewLease c d) mb).rom = (mbGet d mb).rom := by
  unfold renewLease
  split <;> rfl

@[simp] theorem takeCmd_frame (c : Cmd) (header more : Bytes) (held : Bool)
    (h : v ∉ [.sys, .slu, .pcie, .kmp, .ev, .writes, .out, .session, .standing]) :
    v.view (takeCmd c header more held d) = v.view d := by
  simp at h
  unfold takeCmd
  dsimp only
  split
  · simp [h]
  · next hs =>
    rw [verifyBegins_frame (h := by simp [h])]
    · simp [h]
    · intro _ hrom hop
      replace hrom := (renewLease_rom c d c.mb).symm.trans ((modMb_rom (by exact fun _ => rfl) _).symm.trans hrom)
      have hb := boot60_of_view (renewLease_frame d c (v := .rail) (by simp))
      simpa [boot_of_takeStatus hs hrom hop, modMb] using hb

@[simp] theorem answer_frame (op mb : Nat) (f : Cmd → Dev → Nat × Bytes × Dev) (h : v ∉ [.slu, .pcie, .kmp, .ev, .writes, .out])
    (hf : ∀ c d, v.view (f c d).2.2 = v.view d) : v.view (answer op mb f d) = v.view d := by
  simp at h
  unfold answer
  simp [h, hf]

@[simp] theorem reader_frame (op mb : Nat) (f : Cmd → Dev → Nat × Bytes) (h : v ∉ [.slu, .pcie, .kmp, .ev, .writes, .out]) :
    v.view (reader op mb f d) = v.view d :=
  answer_frame d op mb _ h fun _ _ => rfl

@[simp] theorem launch_frame (op mb : Nat) (check : Cmd → Dev → Option (Nat × Bytes)) (go : Cmd → Dev → Dev)
    (h : v ∉ [.slu, .pcie, .kmp, .ev, .writes, .out]) (hg : ∀ c d, v.view (go c d) = v.view d) :
    v.view (launch op mb check go d) = v.view d := by
  simp at h
  unfold launch
  refine startCmd_frame d op mb _ (by simp [h]) fun c d => ?_
  split <;> simp [h, hg]

@[simp] theorem stager_frame (op mb : Nat) (f : Cmd → Dev → Nat × Bytes × ConfigSet) (h : v ∉ [.slu, .pcie, .kmp, .ev, .writes, .out]) :
    v.view (stager op mb f d) = v.view d := by
  refine answer_frame d op mb _ h fun c d => ?_
  simp at h
  split <;> simp [h]

/-! ### The check pass of a commit -/

@[simp] theorem noteRail_frame (s : ConfigSet) (h : v ∉ [.ev]) : v.view (noteRail s d) = v.view d := by
  simp at h
  simp [noteRail, h]

/-! ### The end of a session and bind-off -/

@[simp] theorem endCommit_frame (v' : Verdict) (h : v ∉ [.slu, .pcie, .kmp, .ev, .writes, .out]) : v.view (endCommit v' d) = v.view d := by
  simp at h
  unfold endCommit
  dsimp only
  repeat' split
  all_goals simp [h]

@[simp] theorem endReadout_frame (status : Nat) (h : v ∉ [.slu, .peat, .pcie, .kmp, .ev, .writes, .out]) :
    v.view (endReadout status d) = v.view d := by
  simp at h
  unfold endReadout
  dsimp only
  repeat' split
  all_goals simp [h]

@[simp] theorem dropPendingBlob_frame (h : v ∉ [.saf, .ev]) : v.view (dropPendingBlob d) = v.view d := by
  simp at h
  simp [dropPendingBlob, h]

@[simp] theorem releaseSession_frame (ident : Nat) (h : v ∉ [.saf, .slu, .peat, .pcie, .kmp, .ev, .writes, .out]) :
    v.view (releaseSession ident d) = v.view d := by
  simp at h
  unfold releaseSession
  dsimp only
  split <;> simp [h]

@[simp] theorem expireWaiting_frame (s : Session) (h : v ∉ [.slu, .pcie, .kmp, .ev, .writes, .out]) :
    v.view (expireWaiting s d) = v.view d := by
  simp at h
  simp [expireWaiting, h]

@[simp] theorem forgetSession_frame (s : Session) (h : v ∉ [.kmp, .session]) : v.view (forgetSession s d) = v.view d := by
  simp at h
  simp [forgetSession, h]

@[simp] theorem endSession_frame (cause : Nat) (h : v ∉ [.saf, .slu, .peat, .pcie, .kmp, .ev, .writes, .out, .session]) :
    v.view (endSession cause d) = v.view d := by
  simp at h
  unfold endSession
  split <;> simp [h]

@[simp] theorem closeSession_frame (h : v ∉ [.saf, .slu, .peat, .pcie, .kmp, .ev, .writes, .out, .session]) :
    v.view (closeSession d) = v.view d := by
  simp at h
  unfold closeSession
  split <;> simp [h]

@[simp] theorem portCause_frame (p : Nat) (h : v ∉ [.saf, .slu, .peat, .pcie, .kmp, .ev, .writes, .out, .session]) :
    v.view (portCause p d) = v.view d := by
  simp at h
  unfold portCause
  split <;> simp [h]

@[simp] theorem mailboxCause_frame (mb : Nat) (h : v ∉ [.saf, .slu, .peat, .pcie, .kmp, .ev, .writes, .out, .session]) :
    v.view (mailboxCause mb d) = v.view d := by
  simp at h
  unfold mailboxCause
  split <;> simp [h]

@[simp] theorem leaseExpiry_frame (h : v ∉ [.sys, .saf, .slu, .peat, .pcie, .kmp, .ev, .writes, .out, .session, .standing]) :
    v.view (leaseExpiry d) = v.view d := by
  simp at h
  unfold leaseExpiry
  split <;> simp [h]

@[simp] theorem pendingExpiry_frame (h : v ∉ [.sys, .saf, .ev, .standing]) : v.view (pendingExpiry d) = v.view d := by
  simp at h
  unfold pendingExpiry
  split <;> simp [h]

@[simp] theorem holdSet_frame (k : Commit) (h : v ∉ [.sync]) : v.view (holdSet k d) = v.view d := by
  simp at h
  simp [holdSet, h]

@[simp] theorem commitNow_frame (k : Commit) (c : Cmd) (h : v ∉ [.prm, .emi, .slu, .pcie, .sync, .kmp, .ev, .writes, .out, .pending]) :
    v.view (commitNow k c d) = v.view d := by
  simp at h
  simp [commitNow, h]

@[simp] theorem commitPoint_frame (h : v ∉ [.prm, .emi, .slu, .pcie, .sync, .kmp, .ev, .writes, .out, .pending]) :
    v.view (commitPoint d) = v.view d := by
  simp at h
  unfold commitPoint
  repeat' split
  all_goals simp [h]

@[simp] theorem commitFailure_frame (h : v ∉ [.slu, .pcie, .kmp, .ev, .writes, .out]) : v.view (commitFailure d) = v.view d := by
  simp at h
  unfold commitFailure
  split <;> simp [h]

@[simp] theorem lastData_frame (h : v ∉ [.hst, .slu, .ev]) : v.view (lastData d) = v.view d := by
  simp at h
  simp [lastData, h]

@[simp] theorem enterBindOff_frame
    (h : v ∉ [.sys, .pts, .emi, .scan, .loops, .saf, .hst, .slu, .peat, .pcie, .kmp, .ev, .writes, .out, .rail, .session, .outs,
      .queues, .standing, .inhibit]) :
    v.view (enterBindOff d) = v.view d := by
  simp at h
  simp [enterBindOff, h]

@[simp] theorem bindOffComplete_frame
    (h : v ∉ [.sys, .prm, .pts, .emi, .scan, .loops, .saf, .slu, .net, .pcie, .kmp, .ev, .writes, .out, .rail, .outs, .standing,
      .inhibit]) :
    v.view (bindOffComplete d) = v.view d := by
  simp at h
  simp [bindOffComplete, h]

@[simp] theorem unrecoverable_frame
    (h : v ∉ [.sys, .prm, .pts, .emi, .scan, .loops, .saf, .slu, .pcie, .kmp, .ev, .writes, .out, .rail, .outs, .standing, .inhibit]) :
    v.view (unrecoverable d) = v.view d := by
  simp at h
  simp [unrecoverable, h]

@[simp] theorem supplyOut_frame (vin : Bool)
    (h : v ∉ [.sys, .prm, .pts, .emi, .scan, .loops, .saf, .hst, .slu, .peat, .pcie, .kmp, .ev, .writes, .out, .rail, .session, .outs,
      .queues, .standing, .inhibit]) :
    v.view (supplyOut vin d) = v.view d := by
  simp at h
  simp [supplyOut, h]

@[simp] theorem dropUnitAt_frame (q i : Nat) (h : v ∉ [.slu, .ev, .queues]) : v.view (dropUnitAt q i d) = v.view d := by
  simp at h
  unfold dropUnitAt
  split <;> simp [h]

@[simp] theorem patrolScrub_frame (region addr : Nat) (correctable : Bool)
    (h : v ∉ [.sys, .prm, .pts, .emi, .scan, .loops, .saf, .slu, .peat, .pcie, .kmp, .ev, .writes, .out, .rail, .outs, .queues,
      .standing, .inhibit]) :
    v.view (patrolScrub region addr correctable d) = v.view d := by
  simp at h
  unfold patrolScrub
  dsimp only
  repeat' split
  all_goals simp [h]

/-! ### Reset and cast-on -/

@[simp] theorem extendM_frame (m : Nat) (v' : Bytes) (h : v ∉ [.sec]) : v.view (extendM m v' d) = v.view d := by
  simp at h
  simp [extendM, h]

@[simp] theorem resetRelease_frame (spiv refclk pcie : Bool) (h : v ∉ [.sys, .saf, .sec, .standing]) :
    v.view (resetRelease spiv refclk pcie d) = v.view d := by
  simp at h
  simp [resetRelease, h]

@[simp] theorem toStage_frame (b : Nat) (h : v ∉ [.sys, .standing]) (hr : v = .rail → (b == 0x60) = (d.sys.boot == 0x60)) :
    v.view (toStage b d) = v.view d := by
  simp at h
  exact modSys_frame d _ (by simp [h]) (fun hv => ⟨rfl, hr hv⟩) fun _ _ => rfl

theorem boot_of_atStage {d : Dev} {b : Nat} (h : atStage b d = true) : d.sys.inReset = false ∧ d.sys.op = .castOn ∧ d.sys.boot = b := by
  simpa [atStage, and_assoc] using h

@[simp] theorem pllLock_frame (h : v ∉ [.sys, .standing]) : v.view (Sys2Proof.Machine.pllLock d) = v.view d := by
  simp at h
  unfold Sys2Proof.Machine.pllLock
  split
  · next hs => simp [h, (boot_of_atStage hs).2.2]
  · rfl

@[simp] theorem mapLanes_frame (h : v ∉ [.recv]) : v.view (mapLanes d) = v.view d := by
  simp at h
  apply view_foldl
  intro d c
  split
  · split <;> simp [h]
  · rfl

@[simp] theorem gateAtCastOn_frame (mask : Nat)
    (h : v ∉ [.sys, .prm, .recv, .pts, .emi, .scan, .loops, .saf, .slu, .pcie, .kmp, .ev, .writes, .out, .rail, .outs, .standing,
      .gated, .inhibit]) :
    v.view (gateAtCastOn mask d) = v.view d := by
  simp at h
  simp [gateAtCastOn, h]

@[simp] theorem castOnProbes_frame (probes : List (Nat × List (Nat × Nat))) (h : v ∉ [.emi]) :
    v.view (castOnProbes probes d) = v.view d := by
  simp at h
  simp [castOnProbes, h]

@[simp] theorem failTarget_frame (t : Nat × Nat) (h : v ∉ [.emi]) : v.view (failTarget d t) = v.view d := by
  simp at h
  simp [failTarget, h]

@[simp] theorem assignSpares_frame (h : v ∉ [.emi]) : v.view (assignSpares d) = v.view d := by
  simp at h
  simp [assignSpares, h]

@[simp] theorem bistComplete_frame (tussockFail fatal : Bool) (badSlices : Nat) (failedLanes : List Nat) (failedStarts : Nat)
    (probes : List (Nat × List (Nat × Nat))) (dark : List (Nat × Nat)) (sramRepairs : Nat)
    (h : v ∉ [.sys, .prm, .recv, .rep, .gauge, .pts, .emi, .scan, .loops, .saf, .slu, .pcie, .kmp, .ev, .writes, .out, .rail, .outs,
      .standing, .gated, .inhibit]) :
    v.view (bistComplete tussockFail fatal badSlices failedLanes failedStarts probes dark sramRepairs d) = v.view d := by
  simp at h
  simp [bistComplete, h]

@[simp] theorem repairBuilt_frame (h : v ∉ [.sys, .standing]) : v.view (repairBuilt d) = v.view d := by
  simp at h
  unfold repairBuilt
  split
  · rfl
  · next hs => simp [h, (boot_of_atStage (by simpa using hs)).2.2]

@[simp] theorem fwInitComplete_frame (h : v ∉ [.sys, .rail, .standing]) : v.view (fwInitComplete d) = v.view d := by
  simp at h
  simp [fwInitComplete, h]

@[simp] theorem castOnBound_frame (f : Nat × Nat) (h : v ∉ [.gauge, .ev]) : v.view (castOnBound d f) = v.view d := by
  simp at h
  simp [castOnBound, h]

@[simp] theorem loadCodes_frame (h : v ∉ [.histo]) : v.view (loadCodes d) = v.view d := by
  simp at h
  simp [loadCodes, h]

@[simp] theorem beginFiring_frame (h : v ∉ [.histo, .emi, .saf, .rail, .inhibit]) : v.view (beginFiring d) = v.view d := by
  simp at h
  simp [beginFiring, h]

@[simp] theorem castOnGauge_frame (counts : List (Nat × List Nat))
    (h : v ∉ [.sys, .prm, .recv, .gauge, .histo, .pts, .emi, .scan, .loops, .saf, .slu, .pcie, .kmp, .ev, .writes, .out, .rail, .outs,
      .standing, .gated, .inhibit]) :
    v.view (castOnGauge counts d) = v.view d := by
  simp at h
  simp [castOnGauge, h]

@[simp] theorem enterReady_frame (h : v ∉ [.sys, .seq, .sense, .loops, .sec, .ev, .rail, .standing]) :
    v.view (enterReady d) = v.view d := by
  simp at h
  simp [enterReady, h]

@[simp] theorem restOfFiring_frame (h : v ∉ [.sys, .pts, .emi, .saf, .slu, .pcie, .kmp, .ev, .writes, .out, .rail, .outs, .inhibit]) :
    v.view (restOfFiring d) = v.view d := by
  simp at h
  simp [restOfFiring, h]

@[simp] theorem dropFiring_frame (h : v ∉ [.tim, .histo, .emi, .latches]) : v.view (dropFiring d) = v.view d := by
  simp at h
  simp [dropFiring, h]

@[simp] theorem calibrationEnd_frame (refMeans : List (Nat × Nat × Nat)) (vbd : Nat) (temp : Int) (clockRatios : List Nat) (charged : Bool)
    (h : v ∉ [.sys, .seq, .prm, .recv, .tim, .histo, .pts, .emi, .scan, .sense, .loops, .saf, .sec, .slu, .pcie, .kmp, .ev, .writes,
      .out, .rail, .outs, .latches, .standing, .inhibit]) :
    v.view (calibrationEnd refMeans vbd temp clockRatios charged d) = v.view d := by
  simp at h
  simp [calibrationEnd, h]

/-! ### The ROM loader -/

@[simp] theorem modComp_frame (k : Nat) (f : Comp → Comp) (h : v ∉ [.sec]) : v.view (modComp k f d) = v.view d := by
  simp at h
  simp [modComp, h]

@[simp] theorem burnFuse_frame (k start : Nat) (h : v ∉ [.sec, .drawn]) : v.view (burnFuse k start d) = v.view d := by
  simp at h
  induction k generalizing start d with
  | zero => simp [burnFuse, h]
  | succ k ih =>
    unfold burnFuse
    dsimp only
    repeat' split
    all_goals simp [h, ih]

/-- The start of the firmware keeps the rail's condition from every stage but 0x60. -/
@[simp] theorem firmwareStart_frame (h : v ∉ [.sys, .sec, .kmp, .drawn, .standing]) (hr : v = .rail → d.sys.boot ≠ 0x60) :
    v.view (firmwareStart d) = v.view d := by
  simp at h
  simp +contextual [firmwareStart, h, hr]

@[simp] theorem touchClaim_frame (port : Nat) (h : v ∉ [.sec]) : v.view (touchClaim port d) = v.view d := by
  simp at h
  simp [touchClaim, h]

@[simp] theorem verifyEnds_frame (h : v ∉ [.sys, .standing]) : v.view (verifyEnds d) = v.view d := by
  simp at h
  unfold verifyEnds
  split
  · next hs => simp [h, hs]
  · rfl

@[simp] theorem doRomInfo_frame (c : Cmd) (h : v ∉ [.sec]) : v.view (doRomInfo c d).2.2 = v.view d := by
  simp at h
  simp [doRomInfo, h]

@[simp] theorem doLoadBegin_frame (c : Cmd) (h : v ∉ [.sec]) : v.view (doLoadBegin c d).2.2 = v.view d := by
  simp at h
  unfold doLoadBegin
  dsimp only
  repeat' split
  all_goals simp [h]

@[simp] theorem doLoadChunk_frame (c : Cmd) (h : v ∉ [.sec]) : v.view (doLoadChunk c d).2.2 = v.view d := by
  simp at h
  unfold doLoadChunk
  dsimp only
  repeat' split
  all_goals simp [h]

@[simp] theorem acceptComp_frame (k : Nat) (h : v ∉ [.sys, .sec, .kmp, .drawn, .standing]) (hr : v = .rail → d.sys.boot ≠ 0x60) :
    v.view (acceptComp k d) = v.view d := by
  simp at h
  unfold acceptComp
  dsimp only
  split
  · rw [firmwareStart_frame _ (by simp [h]) (by simpa [extendM, modComp] using hr)]
    simp [h]
  · simp [h]

theorem boot_of_loaderOpen {d : Dev} (h : loaderOpen d = true) : d.sys.boot ≠ 0x60 := by
  intro hb
  simp [loaderOpen, hb] at h

/-- A component is accepted at stages 0x30 and 0x40 alone. -/
theorem acceptComp_open (k port : Nat) (h : v ∉ [.sys, .sec, .kmp, .drawn, .standing]) (hopen : loaderOpen d = true) :
    v.view (acceptComp k (touchClaim port (verifyEnds d))) = v.view d := by
  simp at h
  have hb : ((touchClaim port (verifyEnds d)).sys.boot == 0x60) = (d.sys.boot == 0x60) := boot60_of_view (by simp)
  rw [acceptComp_frame _ _ (by simp [h]) fun _ => by simpa [boot_of_loaderOpen hopen] using hb]
  simp [h]

@[simp] theorem doLoadEnd_frame (c : Cmd) (h : v ∉ [.sys, .sec, .kmp, .drawn, .standing]) :
    v.view (doLoadEnd c d).2.2 = v.view d := by
  simp at h
  unfold doLoadEnd
  dsimp only
  cases hopen : loaderOpen d with
  | false => rfl
  | true =>
    repeat' split
    all_goals simp [h, acceptComp_open, hopen]

@[simp] theorem claimExpiry_frame (h : v ∉ [.sys, .sec, .standing]) : v.view (claimExpiry d) = v.view d := by
  simp at h
  simp [claimExpiry, h]

/-! ### Attestation -/

@[simp] theorem doExtend_frame (c : Cmd) (h : v ∉ [.sec]) : v.view (doExtend c d).2.2 = v.view d := by
  simp at h
  unfold doExtend
  dsimp only
  split <;> simp [h]

@[simp] theorem doPath_frame (c : Cmd) (h : v ∉ [.sec]) : v.view (doPath c d).2.2 = v.view d := by
  simp at h
  unfold doPath
  dsimp only
  repeat' split
  all_goals simp [h]

@[simp] theorem doReport_frame (c : Cmd) (h : v ∉ [.sec, .ev, .drawn]) : v.view (doReport c d).2.2 = v.view d := by
  simp at h
  unfold doReport
  dsimp only
  repeat' split
  all_goals simp [h]

@[simp] theorem doChallenge_frame (c : Cmd) (h : v ∉ [.sec, .drawn]) : v.view (doChallenge c d).2.2 = v.view d := by
  simp at h
  unfold doChallenge
  dsimp only
  repeat' split
  all_goals simp [h]

@[simp] theorem debugSafety_frame (h : v ∉ [.saf, .hst, .ev, .outs]) : v.view (debugSafety d) = v.view d := by
  simp at h
  simp [debugSafety, h]

@[simp] theorem doUnlock_frame (c : Cmd) (h : v ∉ [.saf, .hst, .sec, .ev, .outs]) : v.view (doUnlock c d).2.2 = v.view d := by
  simp at h
  unfold doUnlock
  dsimp only
  repeat' split
  all_goals simp [h]

/-! ### Commands of the system group -/

@[simp] theorem doSysReset_frame (c : Cmd) (h : v ∉ [.sys, .standing, .awaited]) : v.view (doSysReset c d).2.2 = v.view d := by
  simp at h
  unfold doSysReset
  split <;> simp [h]

@[simp] theorem beginArm_frame (x1 : Cmd) (h : v ∉ [.scan, .saf]) : v.view (beginArm x1 d) = v.view d := by
  simp at h
  simp [beginArm, h]

@[simp] theorem waitTick_frame (x1 : Cmd) : v.view (waitTick x1 d) = v.view d := by
  simp [waitTick]

@[simp] theorem armTimeout_frame (h : v ∉ [.sys, .slu, .pcie, .kmp, .ev, .writes, .out, .standing]) : v.view (armTimeout d) = v.view d := by
  simp at h
  unfold armTimeout
  split <;> simp [h]

@[simp] theorem doBindOff_frame (c : Cmd)
    (h : v ∉ [.sys, .pts, .emi, .scan, .loops, .saf, .hst, .slu, .peat, .pcie, .kmp, .ev, .writes, .out, .rail, .session, .outs,
      .queues, .standing, .inhibit]) :
    v.view (doBindOff c d) = v.view d := by
  simp at h
  simp [doBindOff, h]

@[simp] theorem doEventRoute_frame (c : Cmd) (h : v ∉ [.ev]) : v.view (doEventRoute c d).2.2 = v.view d := by
  simp at h
  unfold doEventRoute
  dsimp only
  split <;> simp [h]

@[simp] theorem doOpen_frame (c : Cmd) (h : v ∉ [.kmp, .ev, .drawn, .session]) : v.view (doOpen c d).2.2 = v.view d := by
  simp at h
  unfold doOpen
  dsimp only
  repeat' split
  all_goals simp [h]

@[simp] theorem doClose_frame (c : Cmd) (h : v ∉ [.saf, .slu, .peat, .pcie, .kmp, .ev, .writes, .out, .session]) :
    v.view (doClose c d) = v.view d := by
  simp at h
  simp [doClose, h]

@[simp] theorem doRollback_frame (x1 : Cmd) (h : v ∉ [.kmp]) : v.view (doRollback x1 d).2.2 = v.view d := by
  simp at h
  unfold doRollback
  split <;> simp [h]

@[simp] theorem beginCommit_frame (c : Cmd) (h : v ∉ [.kmp]) : v.view (beginCommit c d) = v.view d := by
  simp at h
  simp [beginCommit, h]

@[simp] theorem doCommit_frame (c : Cmd) (h : v ∉ [.slu, .pcie, .kmp, .ev, .writes, .out]) : v.view (doCommit c d) = v.view d := by
  simp at h
  unfold doCommit
  split <;> simp [h]

@[simp] theorem abortTrace_frame (x : Cmd) (h : v ∉ [.loops, .slu, .pcie, .kmp, .ev, .writes, .out]) :
    v.view (abortTrace x d) = v.view d := by
  simp at h
  unfold abortTrace
  split <;> simp [h]

theorem abortRunning_frame {d d1 : Dev} {x : Cmd} (hx : abortRunning x d = some d1)
    (h : v ∉ [.emi, .loops, .hst, .slu, .peat, .pcie, .sync, .kmp, .diag, .ev, .writes, .out]) : v.view d1 = v.view d := by
  simp at h
  unfold abortRunning at hx
  split_ifs at hx <;> obtain rfl := Option.some.inj hx <;> try split
  all_goals simp [h]

@[simp] theorem doAbort_frame (c : Cmd) (h : v ∉ [.emi, .loops, .hst, .slu, .peat, .pcie, .sync, .kmp, .diag, .ev, .writes, .out]) :
    v.view (doAbort c d) = v.view d := by
  have running {x : Cmd} {d1 : Dev} (hx : abortRunning x d = some d1) := abortRunning_frame hx h
  simp at h
  unfold doAbort
  dsimp only
  split
  · split <;> simp [h]
  · split
    · simp [h]
    · split
      · next hx => simp [h, running hx]
      · simp [h]
  · split <;> simp [h]
  · simp [h]

/-! ### Commands of the receive group -/

@[simp] theorem doLaneClear_frame (c : Cmd) (h : v ∉ [.histo]) : v.view (doLaneClear c d).2.2 = v.view d := by
  simp at h
  unfold doLaneClear
  split <;> simp [h]

@[simp] theorem beginAgeing_frame (c : Cmd) (h : v ∉ [.tim, .slu, .pcie, .kmp, .ev, .writes, .out]) :
    v.view (beginAgeing c d) = v.view d := by
  simp at h
  simp [beginAgeing, h]

@[simp] theorem ageingComplete_frame (h : v ∉ [.sys, .tim, .slu, .pcie, .kmp, .ev, .writes, .out, .standing]) :
    v.view (ageingComplete d) = v.view d := by
  simp at h
  simp [ageingComplete, h]

/-! ### Commands of the drive groups -/

@[simp] theorem doEmitClear_frame (c : Cmd) (h : v ∉ [.emi]) : v.view (doEmitClear c d).2.2 = v.view d := by
  simp at h
  unfold doEmitClear
  dsimp only
  split <;> simp [h]

@[simp] theorem beginSelfTest_frame (c : Cmd) (h : v ∉ [.emi]) : v.view (beginSelfTest c d) = v.view d := by
  simp at h
  simp [beginSelfTest, h]

@[simp] theorem doScanClear_frame (x1 : Cmd) (h : v ∉ [.scan]) : v.view (doScanClear x1 d).2.2 = v.view d := by
  simp at h
  simp [doScanClear, h]

@[simp] theorem requestScan_frame (start : Bool) (c : Cmd) (h : v ∉ [.scan]) : v.view (requestScan start c d) = v.view d := by
  simp at h
  simp [requestScan, h]

@[simp] theorem doLoopClear_frame (c : Cmd) (h : v ∉ [.loops]) : v.view (doLoopClear c d).2.2 = v.view d := by
  simp at h
  unfold doLoopClear
  dsimp only
  split <;> simp [h]

@[simp] theorem requestLoopMode_frame (c : Cmd) (h : v ∉ [.loops]) : v.view (requestLoopMode c d) = v.view d := by
  simp at h
  simp [requestLoopMode, h]

@[simp] theorem armTrace_frame (c : Cmd) (h : v ∉ [.loops]) : v.view (armTrace c d) = v.view d := by
  simp at h
  simp [armTrace, h]

@[simp] theorem doTraceTrigger_frame (c : Cmd) (h : v ∉ [.loops]) : v.view (doTraceTrigger c d).2.2 = v.view d := by
  simp at h
  unfold doTraceTrigger
  dsimp only
  split <;> simp [h]

@[simp] theorem startTraceRead_frame (c : Cmd) (h : v ∉ [.loops, .diag]) : v.view (startTraceRead c d) = v.view d := by
  simp at h
  simp [startTraceRead, h]

@[simp] theorem startDiagStamp_frame (c : Cmd) (h : v ∉ [.diag]) : v.view (startDiagStamp c d) = v.view d := by
  simp at h
  simp [startDiagStamp, h]

@[simp] theorem startDiagHist_frame (c : Cmd) (h : v ∉ [.diag]) : v.view (startDiagHist c d) = v.view d := by
  simp at h
  simp [startDiagHist, h]

/-! ### Commands of the stream, Peat and Hook groups -/

@[simp] theorem doClassSet_frame (c : Cmd) (h : v ∉ [.slu]) : v.view (doClassSet c d).2.2 = v.view d := by
  simp at h
  unfold doClassSet
  dsimp only
  split <;> simp [h]

@[simp] theorem doFreeze_frame (c : Cmd) (h : v ∉ [.slu, .ev]) : v.view (doFreeze c d).2.2 = v.view d := by
  simp at h
  unfold doFreeze
  dsimp only
  split <;> simp [h]

@[simp] theorem doWatchdogSet_frame (c : Cmd) (h : v ∉ [.slu]) : v.view (doWatchdogSet c d).2.2 = v.view d := by
  simp at h
  unfold doWatchdogSet
  dsimp only
  split <;> simp [h]

@[simp] theorem doPortClear_frame (c : Cmd) (h : v ∉ [.slu]) : v.view (doPortClear c d).2.2 = v.view d := by
  simp at h
  unfold doPortClear
  dsimp only
  split <;> simp [h]

@[simp] theorem doPeatConfig_frame (c : Cmd) (h : v ∉ [.slu, .peat, .pcie, .kmp, .ev, .writes, .out]) :
    v.view (doPeatConfig c d).2.2 = v.view d := by
  simp at h
  unfold doPeatConfig
  repeat' split
  all_goals simp [h]

@[simp] theorem armPeat_frame (c : Cmd) (h : v ∉ [.peat]) : v.view (armPeat c d) = v.view d := by
  simp at h
  simp [armPeat, h]

@[simp] theorem doPeatTrigger_frame (x1 : Cmd) (h : v ∉ [.peat, .ev]) : v.view (doPeatTrigger x1 d).2.2 = v.view d := by
  simp at h
  unfold doPeatTrigger
  split <;> simp [h]

@[simp] theorem startReadout_frame (c : Cmd) (h : v ∉ [.peat, .net]) : v.view (startReadout c d) = v.view d := by
  simp at h
  unfold startReadout
  dsimp only
  split <;> simp [h]

@[simp] theorem doPeatRelease_frame (c : Cmd) (h : v ∉ [.peat, .ev]) : v.view (doPeatRelease c d).2.2 = v.view d := by
  simp at h
  unfold doPeatRelease
  dsimp only
  repeat' split
  all_goals simp [h]

@[simp] theorem doPeatDisarm_frame (x1 : Cmd) (h : v ∉ [.slu, .peat, .pcie, .kmp, .ev, .writes, .out]) :
    v.view (doPeatDisarm x1 d).2.2 = v.view d := by
  simp at h
  simp [doPeatDisarm, h]

@[simp] theorem startHook_frame (c : Cmd) (h : v ∉ [.hst]) : v.view (startHook c d) = v.view d := by
  simp at h
  simp [startHook, h]

/-! ### Commands of the safety group -/

@[simp] theorem doSafeLoad_frame (c : Cmd) (h : v ∉ [.saf, .ev]) : v.view (doSafeLoad c d).2.2 = v.view d := by
  simp at h
  unfold doSafeLoad
  dsimp only
  split <;> simp [h]

@[simp] theorem commitBlob_frame (b : Bytes) (check : Nat) (h : v ∉ [.saf, .hst, .sec, .ev, .drawn, .outs]) :
    v.view (commitBlob b check d) = v.view d := by
  simp at h
  simp [commitBlob, h]

@[simp] theorem doSafeConfirm_frame (c : Cmd) (h : v ∉ [.saf, .hst, .sec, .ev, .drawn, .outs]) :
    v.view (doSafeConfirm c d).2.2 = v.view d := by
  simp at h
  unfold doSafeConfirm
  repeat' split
  all_goals simp [h]

@[simp] theorem doSafeResume_frame (x1 : Cmd) (h : v ∉ [.sys, .pts, .scan, .saf, .ev, .rail]) :
    v.view (doSafeResume x1 d).2.2 = v.view d := by
  simp at h
  unfold doSafeResume
  split <;> simp [h]

@[simp] theorem doSafeStop_frame (x1 : Cmd)
    (h : v ∉ [.sys, .pts, .emi, .saf, .slu, .pcie, .kmp, .ev, .writes, .out, .rail, .outs, .inhibit]) :
    v.view (doSafeStop x1 d).2.2 = v.view d := by
  simp at h
  simp [doSafeStop, h]

@[simp] theorem doOutputAck_frame (c : Cmd) (h : v ∉ [.saf, .outs]) : v.view (doOutputAck c d).2.2 = v.view d := by
  simp at h
  unfold doOutputAck
  dsimp only
  repeat' split
  all_goals simp [h]

@[simp] theorem doHstRestart_frame (c : Cmd) (h : v ∉ [.saf, .hst, .ev, .drawn, .outs]) : v.view (doHstRestart c d).2.2 = v.view d := by
  simp at h
  unfold doHstRestart
  dsimp only
  split <;> simp [h]

@[simp] theorem doSafeClear_frame (c : Cmd) (h : v ∉ [.hst]) : v.view (doSafeClear c d).2.2 = v.view d := by
  simp at h
  simp [doSafeClear, h]

/-! ### Commands of the network group -/

@[simp] theorem modRxSc_frame (sc : Nat) (f : RxSc → RxSc) (h : v ∉ [.net]) : v.view (modRxSc sc f d) = v.view d := by
  simp at h
  simp [modRxSc, h]

@[simp] theorem endSyncStart_frame (status : Nat) (payload : Bytes) (h : v ∉ [.slu, .pcie, .sync, .kmp, .ev, .writes, .out]) :
    v.view (endSyncStart status payload d) = v.view d := by
  simp at h
  unfold endSyncStart
  dsimp only
  repeat' split
  all_goals simp [h]

@[simp] theorem endSyncCode_frame (status : Nat) (payload : Bytes) (h : v ∉ [.slu, .pcie, .sync, .kmp, .ev, .writes, .out]) :
    v.view (endSyncCode status payload d) = v.view d := by
  simp at h
  unfold endSyncCode
  dsimp only
  repeat' split
  all_goals simp [h]

@[simp] theorem syncRole_frame (h : v ∉ [.slu, .pcie, .sync, .kmp, .ev, .writes, .out]) : v.view (syncRole d) = v.view d := by
  simp at h
  simp [syncRole, h]

@[simp] theorem macsecOff_frame (h : v ∉ [.saf, .slu, .peat, .pcie, .kmp, .ev, .writes, .out, .session]) :
    v.view (macsecOff d) = v.view d := by
  simp at h
  simp [macsecOff, h]

@[simp] theorem netEffect_frame (e : Nat × Nat) (h : v ∉ [.saf, .slu, .peat, .pcie, .sync, .kmp, .ev, .writes, .out, .session]) :
    v.view (netEffect d e) = v.view d := by
  simp at h
  simp [netEffect, h]

@[simp] theorem applyNet_frame (es : List (Nat × Nat))
    (h : v ∉ [.prm, .saf, .slu, .peat, .pcie, .sync, .kmp, .ev, .writes, .out, .session]) :
    v.view (applyNet es d) = v.view d := by
  simp at h
  simp [applyNet, h]

@[simp] theorem doNetSet_frame (c : Cmd) (h : v ∉ [.prm, .saf, .slu, .peat, .pcie, .sync, .kmp, .ev, .writes, .out, .session]) :
    v.view (doNetSet c d) = v.view d := by
  simp at h
  simp [doNetSet, h]

@[simp] theorem setIp_frame (family : Nat) (x : IpCfg) (h : v ∉ [.net]) : v.view (setIp family x d) = v.view d := by
  simp at h
  simp [setIp, h]

@[simp] theorem ipCause_frame (family : Nat) (h : v ∉ [.saf, .slu, .peat, .pcie, .kmp, .ev, .writes, .out, .session]) :
    v.view (ipCause family d) = v.view d := by
  simp at h
  unfold ipCause
  split <;> simp [h]

@[simp] theorem doIpSet_frame (c : Cmd) (h : v ∉ [.saf, .slu, .peat, .net, .pcie, .kmp, .ev, .writes, .out, .session]) :
    v.view (doIpSet c d) = v.view d := by
  simp at h
  simp [doIpSet, h]

@[simp] theorem doDestSet_frame (c : Cmd) (h : v ∉ [.net]) : v.view (doDestSet c d).2.2 = v.view d := by
  simp at h
  unfold doDestSet
  dsimp only
  repeat' split
  all_goals simp [h]

@[simp] theorem doHstPeer_frame (c : Cmd) (h : v ∉ [.net]) : v.view (doHstPeer c d).2.2 = v.view d := by
  simp at h
  unfold doHstPeer
  split <;> simp [h]

@[simp] theorem installTx_frame (an : Nat) (sa : Sa) (h : v ∉ [.net]) : v.view (installTx an sa d) = v.view d := by
  simp at h
  simp [installTx, h]

@[simp] theorem installRx_frame (sc an sci : Nat) (sa : Sa) (h : v ∉ [.net, .kmp]) : v.view (installRx sc an sci sa d) = v.view d := by
  simp at h
  simp [installRx, h]

@[simp] theorem doSaInstall_frame (c : Cmd) (h : v ∉ [.net, .kmp]) : v.view (doSaInstall c d).2.2 = v.view d := by
  simp at h
  unfold doSaInstall
  dsimp only
  repeat' split
  all_goals simp [h]

@[simp] theorem deleteSc_frame (sc : Nat) (h : v ∉ [.saf, .slu, .peat, .net, .pcie, .kmp, .ev, .writes, .out, .session]) :
    v.view (deleteSc sc d) = v.view d := by
  simp at h
  simp [deleteSc, h]

@[simp] theorem doSaDelete_frame (c : Cmd) (h : v ∉ [.saf, .slu, .peat, .net, .pcie, .kmp, .ev, .writes, .out, .session]) :
    v.view (doSaDelete c d) = v.view d := by
  simp at h
  simp [doSaDelete, h]

@[simp] theorem doSaSwitch_frame (c : Cmd) (h : v ∉ [.net]) : v.view (doSaSwitch c d).2.2 = v.view d := by
  simp at h
  unfold doSaSwitch
  dsimp only
  split <;> simp [h]

@[simp] theorem beginSyncStart_frame (c : Cmd) (h : v ∉ [.sync]) : v.view (beginSyncStart c d) = v.view d := by
  simp at h
  simp [beginSyncStart, h]

@[simp] theorem doSyncCancel_frame (x1 : Cmd) (h : v ∉ [.sync]) : v.view (doSyncCancel x1 d).2.2 = v.view d := by
  simp at h
  unfold doSyncCancel
  repeat' split
  all_goals simp [h]

@[simp] theorem beginSyncCode_frame (c : Cmd) (h : v ∉ [.sync]) : v.view (beginSyncCode c d) = v.view d := by
  simp at h
  simp [beginSyncCode, h]

@[simp] theorem trigOut_frame (h : v ∉ [.trig]) : v.view (trigOut d) = v.view d := by
  simp at h
  simp [trigOut, h]

@[simp] theorem doTrigPulse_frame (x1 : Cmd) (h : v ∉ [.trig]) : v.view (doTrigPulse x1 d).2.2 = v.view d := by
  simp at h
  simp [doTrigPulse, h]

/-! ### Arbitration and grants -/

@[simp] theorem flyData_latchedFrame (p : Nat) (g : Grant) (s : Slu) : (flyData p g s).latchedFrame = s.latchedFrame := by
  simp [flyData]

@[simp] theorem modRing_frame (r : Nat) (f : Ring → Ring) (h : v ∉ [.pcie]) : v.view (modRing r f d) = v.view d := by
  simp at h
  simp [modRing, h]

@[simp] theorem takeSeqs_frame (p target kind n : Nat) (h : v ∉ [.net, .pcie, .spi]) : v.view (takeSeqs p target kind n d) = v.view d := by
  simp at h
  simp [takeSeqs, h]

@[simp] theorem afterPeat_frame (k : Nat) (h : v ∉ [.slu, .peat, .pcie, .kmp, .ev, .writes, .out]) : v.view (afterPeat k d) = v.view d := by
  simp at h
  unfold afterPeat
  dsimp only
  repeat' split
  all_goals simp [h]

@[simp] theorem afterDiag_frame (h : v ∉ [.slu, .pcie, .kmp, .diag, .ev, .writes, .out]) : v.view (afterDiag d) = v.view d := by
  simp at h
  unfold afterDiag
  dsimp only
  repeat' split
  all_goals simp [h]

@[simp] theorem takeSource_frame (p : Nat) (g : Grant)
    (h : v ∉ [.slu, .peat, .net, .pcie, .spi, .kmp, .diag, .ev, .writes, .out, .queues]) :
    v.view (takeSource p g d) = v.view d := by
  simp at h
  simp [takeSource, h]

@[simp] theorem notePools_frame (p : Nat) (h : v ∉ [.ev]) : v.view (notePools p d) = v.view d := by
  apply view_foldl
  intro d r
  simp at h
  split <;> simp [h]

@[simp] theorem countUser_frame (p : Nat) (g : Grant) (h : v ∉ [.slu]) : v.view (countUser p g d) = v.view d := by
  simp at h
  simp [countUser, h]

@[simp] theorem grantIssue_frame (p : Nat) (d0 : Dev) (h : v ∉ [.slu, .peat, .net, .pcie, .spi, .kmp, .diag, .ev, .writes, .out, .queues]) :
    v.view (grantIssue p d0) = v.view d0 := by
  simp at h
  unfold grantIssue
  dsimp only
  repeat' split
  all_goals simp [h]

@[simp] theorem endGrant_frame (p : Nat) (g : Grant) (h : v ∉ [.slu, .ev, .queues]) : v.view (endGrant p g d) = v.view d := by
  simp at h
  simp [endGrant, h]

@[simp] theorem loseUnit_frame (p : Nat) (g : Grant) (h : v ∉ [.slu, .ev, .queues]) : v.view (loseUnit p g d) = v.view d := by
  simp at h
  unfold loseUnit
  split <;> simp [h]

@[simp] theorem loseGrant_frame (p : Nat) (h : v ∉ [.slu, .ev, .queues]) : v.view (loseGrant p d) = v.view d := by
  simp at h
  unfold loseGrant
  split <;> simp [h]

@[simp] theorem grantWatchdog_frame (p : Nat) (h : v ∉ [.sys, .slu, .ev, .queues, .standing]) : v.view (grantWatchdog p d) = v.view d := by
  simp at h
  unfold grantWatchdog
  split <;> simp [h]

@[simp] theorem txFrame_frame (h : v ∉ [.net, .ev]) : v.view (txFrame d) = v.view d := by
  simp at h
  unfold txFrame
  dsimp only
  repeat' split
  all_goals simp [h]

@[simp] theorem countRct_frame (h : v ∉ [.net]) : v.view (countRct d) = v.view d := by
  simp at h
  simp [countRct, h]

@[simp] theorem sendDatagrams_frame (src : Nat) (addr : Bytes) (port pcp : Nat) (bs : List Bytes) (h : v ∉ [.net, .ev, .out]) :
    v.view (sendDatagrams src addr port pcp bs d).1 = v.view d := by
  simp at h
  induction bs generalizing d with
  | nil => rfl
  | cons b bs ih =>
    unfold sendDatagrams
    split
    · simp [h, ih]
    · rfl

@[simp] theorem announce_frame (r : Nat) (vectors : List Nat) (h : v ∉ [.pcie, .out]) : v.view (announce r vectors d) = v.view d := by
  simp at h
  simp [announce, h]

@[simp] theorem publish_frame (r : Nat) (e : Bytes) (h : v ∉ [.pcie, .out]) : v.view (publish r e d) = v.view d := by
  simp at h
  simp [publish, h]

@[simp] theorem countData_frame (p : Nat) (g : Grant) (h : v ∉ [.slu]) : v.view (countData p g d) = v.view d := by
  simp at h
  simp [countData, h]

@[simp] theorem grantComplete_frame (p : Nat) (h : v ∉ [.slu, .net, .pcie, .spi, .ev, .out, .queues]) :
    v.view (grantComplete p d) = v.view d := by
  simp at h
  unfold grantComplete
  split <;> simp [h]

@[simp] theorem moderation_frame (r : Nat) (h : v ∉ [.sys, .pcie, .out, .standing]) : v.view (moderation r d) = v.view d := by
  simp at h
  unfold moderation
  dsimp only
  split <;> simp [h]

/-! ### The external ports' events -/

@[simp] theorem modGptp_frame (l : Nat) (f : Gptp → Gptp) (h : v ∉ [.net]) : v.view (modGptp l f d) = v.view d := by
  simp at h
  simp [modGptp, h]

@[simp] theorem setCapable_frame (l : Nat) (b : Bool) (h : v ∉ [.net, .ev]) : v.view (setCapable l b d) = v.view d := by
  simp at h
  simp [setCapable, h]

@[simp] theorem linkChange_frame (l : Nat) (up : Bool)
    (h : v ∉ [.saf, .slu, .peat, .net, .pcie, .kmp, .ev, .writes, .out, .session, .queues]) :
    v.view (linkChange l up d) = v.view d := by
  simp at h
  simp [linkChange, h]

@[simp] theorem prpPass_frame (src seq : Nat) (h : v ∉ [.net, .ev]) : v.view (prpPass src seq d).1 = v.view d := by
  simp at h
  unfold prpPass
  dsimp only
  repeat' split
  all_goals simp [h]

@[simp] theorem macsecFail_frame (sc : Nat) (h : v ∉ [.net, .ev]) : v.view (macsecFail sc d) = v.view d := by
  simp at h
  simp [macsecFail, h]

@[simp] theorem macsecReceive_frame (sc an pn : Nat) (secured valid : Bool) (h : v ∉ [.net, .ev]) :
    v.view (macsecReceive sc an pn secured valid d) = v.view d := by
  simp at h
  unfold macsecReceive
  repeat' split
  all_goals simp [h]

@[simp] theorem prpReceive_frame (l src seq lan sc an pn len : Nat) (secured valid : Bool) (h : v ∉ [.net, .ev]) :
    v.view (prpReceive l src seq lan sc an pn len secured valid d) = v.view d := by
  simp at h
  simp [prpReceive, h]

@[simp] theorem onLinks_frame (controlled : Bool) (data : Bytes) (h : v ∉ [.net, .out]) :
    v.view (onLinks controlled data d) = v.view d := by
  simp at h
  simp [onLinks, h]

@[simp] theorem supervision_frame (h : v ∉ [.sys, .net, .out, .standing]) : v.view (supervision d) = v.view d := by
  simp at h
  simp [supervision, h]

@[simp] theorem supervisionLoss_frame (h : v ∉ [.ev]) : v.view (supervisionLoss d) = v.view d := by
  simp at h
  simp [supervisionLoss, h]

@[simp] theorem selectSlave_frame (h : v ∉ [.tim, .net, .ev]) : v.view (selectSlave d) = v.view d := by
  simp at h
  unfold selectSlave
  split <;> simp [h]

@[simp] theorem gptpReceive_frame (l domain kind gm : Nat) (interval value rate : Int)
    (h : v ∉ [.sys, .seq, .tim, .loops, .net, .sync, .ev, .standing, .place]) :
    v.view (gptpReceive l domain kind gm interval value rate d) = v.view d := by
  simp at h
  simp [gptpReceive, h]

@[simp] theorem slaveReselect_frame (h : v ∉ [.net, .ev]) : v.view (slaveReselect d) = v.view d := by
  simp at h
  unfold slaveReselect
  split <;> simp [h]

@[simp] theorem arpNd_frame (l kind : Nat) (target sender : Bytes) (mac : Nat) (h : v ∉ [.net, .ev, .out]) :
    v.view (arpNd l kind target sender mac d) = v.view d := by
  simp at h
  simp [arpNd, h]

@[simp] theorem pcieTrained_frame (h : v ∉ [.pcie, .ev]) : v.view (pcieTrained d) = v.view d := by
  simp at h
  simp [pcieTrained, h]

@[simp] theorem functionReset_frame (cause : Nat) (h : v ∉ [.saf, .slu, .peat, .pcie, .kmp, .ev, .writes, .out, .session, .queues]) :
    v.view (functionReset cause d) = v.view d := by
  simp at h
  simp [functionReset, h]

@[simp] theorem writeRptr_frame (r v' : Nat) (h : v ∉ [.pcie, .ev]) : v.view (writeRptr r v' d) = v.view d := by
  simp at h
  simp [writeRptr, h]

@[simp] theorem rptrWrite_frame (r v' : Nat) (h : v ∉ [.pcie, .ev]) : v.view (rptrWrite r v' d) = v.view d := by
  simp at h
  simp [rptrWrite, h]

@[simp] theorem setRing_frame (r : Nat) (f : Ring → Ring) (h : v ∉ [.pcie]) : v.view (setRing r f d) = v.view d := by
  simp at h
  simp [setRing, h]

@[simp] theorem writeCtrl_frame (r v' w1c : Nat) (h : v ∉ [.pcie]) : v.view (writeCtrl r v' w1c d) = v.view d := by
  simp at h
  simp [writeCtrl, h]

@[simp] theorem writeRing_frame (r i v' w1c : Nat) (h : v ∉ [.pcie, .ev]) : v.view (writeRing r i v' w1c d) = v.view d := by
  simp at h
  unfold writeRing
  split <;> simp [h]

@[simp] theorem writeVec_frame (v' i w : Nat) (h : v ∉ [.pcie, .out]) : v.view (writeVec v' i w d) = v.view d := by
  simp at h
  simp [writeVec, h]

@[simp] theorem enableMaster_frame (h : v ∉ [.pcie, .out]) : v.view (enableMaster d) = v.view d := by
  simp at h
  simp [enableMaster, h]

@[simp] theorem framing_frame (h : v ∉ [.spi, .ev]) : v.view (framing d) = v.view d := by
  simp at h
  simp [framing, h]

@[simp] theorem cutOff_frame (cut : Bool) (h : v ∉ [.spi, .ev]) : v.view (cutOff cut d) = v.view d := by
  simp at h
  simp [cutOff, h]

@[simp] theorem spiStatus_frame (cut : Bool) (h : v ∉ [.spi, .ev, .out]) : v.view (spiStatus cut d) = v.view d := by
  simp at h
  simp [spiStatus, h]

@[simp] theorem spiStream_frame (len : Nat) (cut : Bool) (h : v ∉ [.spi, .ev, .out]) : v.view (spiStream len cut d) = v.view d := by
  simp at h
  simp [spiStream, h]

@[simp] theorem spiStrapReset_frame (h : v ∉ [.saf, .slu, .peat, .pcie, .spi, .kmp, .ev, .writes, .out, .session]) :
    v.view (spiStrapReset d) = v.view d := by
  simp at h
  simp [spiStrapReset, h]

@[simp] theorem forwardTrigger_frame (origin t : Nat) (h : v ∉ [.sync, .trig]) : v.view (forwardTrigger origin t d) = v.view d := by
  simp at h
  simp [forwardTrigger, h]

@[simp] theorem triggerAccept_frame (h : v ∉ [.slu, .peat, .pcie, .sync, .trig, .kmp, .ev, .writes, .out]) :
    v.view (triggerAccept d) = v.view d := by
  simp at h
  unfold triggerAccept
  repeat' split
  all_goals simp [h]

@[simp] theorem peatRearm_frame (h : v ∉ [.peat, .ev]) : v.view (peatRearm d) = v.view d := by
  simp at h
  simp [peatRearm, h]

@[simp] theorem trigInEdge_frame (rising : Bool) (t : Nat) (h : v ∉ [.sys, .loops, .peat, .trig, .ev, .standing]) :
    v.view (trigInEdge rising t d) = v.view d := by
  simp at h
  simp [trigInEdge, h]

@[simp] theorem trigOutEnd_frame (h : v ∉ [.sys, .trig, .standing]) : v.view (trigOutEnd d) = v.view d := by
  simp at h
  simp [trigOutEnd, h]

/-! ### The SYNC bus -/

@[simp] theorem syncSend_frame (type : Nat) (payload : Bytes) (h : v ∉ [.out]) : v.view (syncSend type payload d) = v.view d := by
  simp at h
  simp [syncSend, h]

@[simp] theorem syncReceive_frame (type : Nat) (m : Bytes) (f : Nat → Bytes → Dev → Dev) (h : v ∉ [.sync, .ev])
    (hf : ∀ n p d, v.view (f n p d) = v.view d) : v.view (syncReceive type m f d) = v.view d := by
  simp at h
  unfold syncReceive
  simp [h, hf]

@[simp] theorem onBeacon_frame (head : Nat) (p : Bytes) (h : v ∉ [.slu, .pcie, .sync, .kmp, .ev, .writes, .out]) :
    v.view (onBeacon head p d) = v.view d := by
  simp at h
  simp [onBeacon, h]

@[simp] theorem beaconMsg_frame (m : Bytes) (h : v ∉ [.slu, .pcie, .sync, .kmp, .ev, .writes, .out]) :
    v.view (beaconMsg m d) = v.view d := by
  simp at h
  simp [beaconMsg, h]

@[simp] theorem beaconLoss_frame (h : v ∉ [.sys, .sync, .ev, .standing]) : v.view (beaconLoss d) = v.view d := by
  simp at h
  simp [beaconLoss, h]

@[simp] theorem bindHeld_frame (frame : Nat) (h : v ∉ [.prm, .sync, .pending]) : v.view (bindHeld frame d) = v.view d := by
  simp at h
  unfold bindHeld
  split <;> simp [h]

@[simp] theorem dropHeld_frame (outcome : Nat) (h : v ∉ [.sync]) : v.view (dropHeld outcome d) = v.view d := by
  simp at h
  simp [dropHeld, h]

@[simp] theorem onPrepare_frame (x1 : Nat) (p : Bytes) (h : v ∉ [.slu, .pcie, .sync, .kmp, .ev, .writes, .out]) :
    v.view (onPrepare x1 p d) = v.view d := by
  simp at h
  simp [onPrepare, h]

@[simp] theorem prepareMsg_frame (m : Bytes) (h : v ∉ [.slu, .pcie, .sync, .kmp, .ev, .writes, .out]) :
    v.view (prepareMsg m d) = v.view d := by
  simp at h
  simp [prepareMsg, h]

@[simp] theorem onGo_frame (x1 : Nat) (p : Bytes) (h : v ∉ [.prm, .sync, .pending]) : v.view (onGo x1 p d) = v.view d := by
  simp at h
  unfold onGo
  split <;> simp [h]

@[simp] theorem goMsg_frame (m : Bytes) (h : v ∉ [.prm, .sync, .ev, .pending]) : v.view (goMsg m d) = v.view d := by
  simp at h
  simp [goMsg, h]

@[simp] theorem onCancel_frame (x1 : Nat) (p : Bytes) (h : v ∉ [.sync]) : v.view (onCancel x1 p d) = v.view d := by
  simp at h
  simp [onCancel, h]

@[simp] theorem cancelMsg_frame (m : Bytes) (h : v ∉ [.sync, .ev]) : v.view (cancelMsg m d) = v.view d := by
  simp at h
  simp [cancelMsg, h]

@[simp] theorem syncDeadline_frame (h : v ∉ [.sys, .sync, .ev, .standing]) : v.view (syncDeadline d) = v.view d := by
  simp at h
  unfold syncDeadline
  split <;> simp [h]

@[simp] theorem onAnswer_frame (ready : Bool) (head : Nat) (p : Bytes) (h : v ∉ [.sync]) : v.view (onAnswer ready head p d) = v.view d := by
  simp at h
  simp [onAnswer, h]

@[simp] theorem readyMsg_frame (m : Bytes) (h : v ∉ [.sync, .ev]) : v.view (readyMsg m d) = v.view d := by
  simp at h
  simp [readyMsg, h]

@[simp] theorem refuseMsg_frame (m : Bytes) (h : v ∉ [.sync, .ev]) : v.view (refuseMsg m d) = v.view d := by
  simp at h
  simp [refuseMsg, h]

@[simp] theorem sendPrepare_frame (t : Nat) (r : SyncRun) (h : v ∉ [.sync, .out]) : v.view (sendPrepare t r d) = v.view d := by
  simp at h
  simp [sendPrepare, h]

@[simp] theorem threeTimes_frame (type : Nat) (p : Bytes) (h : v ∉ [.out]) : v.view (threeTimes type p d) = v.view d := by
  simp at h
  simp [threeTimes, h]

@[simp] theorem decideRun_frame (r : SyncRun) (h : v ∉ [.prm, .slu, .pcie, .sync, .kmp, .ev, .writes, .out, .pending]) :
    v.view (decideRun r d) = v.view d := by
  simp at h
  simp [decideRun, h]

@[simp] theorem serveRun_frame (t : Nat) (h : v ∉ [.prm, .slu, .pcie, .sync, .kmp, .ev, .writes, .out, .pending]) :
    v.view (serveRun t d) = v.view d := by
  simp at h
  unfold serveRun
  repeat' split
  all_goals simp [h]

@[simp] theorem takeCode_frame (frame s span seed : Nat) (h : v ∉ [.histo]) : v.view (takeCode frame s span seed d) = v.view d := by
  simp at h
  simp [takeCode, h]

@[simp] theorem serveCode_frame (h : v ∉ [.histo, .slu, .pcie, .sync, .kmp, .ev, .writes, .out]) : v.view (serveCode d) = v.view d := by
  simp at h
  simp [serveCode, h]

@[simp] theorem sendXtrig_frame (h : v ∉ [.sync, .out]) : v.view (sendXtrig d) = v.view d := by
  simp at h
  unfold sendXtrig
  split <;> simp [h]

@[simp] theorem cycleStart_frame (h : v ∉ [.sys, .prm, .histo, .slu, .pcie, .sync, .kmp, .ev, .writes, .out, .standing, .pending]) :
    v.view (cycleStart d) = v.view d := by
  simp at h
  simp [cycleStart, h]

@[simp] theorem followerSlot_frame (h : v ∉ [.sys, .slu, .pcie, .sync, .kmp, .ev, .writes, .out, .standing]) :
    v.view (followerSlot d) = v.view d := by
  simp at h
  unfold followerSlot
  split <;> simp [h]

@[simp] theorem onCode_frame (x1 : Nat) (p : Bytes) (h : v ∉ [.histo]) : v.view (onCode x1 p d) = v.view d := by
  simp at h
  unfold onCode
  split <;> simp [h]

@[simp] theorem codeMsg_frame (m : Bytes) (h : v ∉ [.histo, .sync, .ev]) : v.view (codeMsg m d) = v.view d := by
  simp at h
  simp [codeMsg, h]

@[simp] theorem onXtrig_frame (head : Nat) (x1 : Bytes) (h : v ∉ [.loops, .peat, .ev]) : v.view (onXtrig head x1 d) = v.view d := by
  simp at h
  simp [onXtrig, h]

@[simp] theorem xtrigMsg_frame (m : Bytes) (h : v ∉ [.loops, .peat, .sync, .ev]) : v.view (xtrigMsg m d) = v.view d := by
  simp at h
  simp [xtrigMsg, h]

/-! ### The mailboxes as hosts reach them -/

@[simp] theorem hostWrites_frame (mb : Nat) (h : v ∉ [.pcie, .out]) : v.view (hostWrites mb d) = v.view d := by
  simp at h
  simp [hostWrites, h]

@[simp] theorem claimWindow_frame (ram : List Host.Cell) (mb : Nat) (h : v ∉ [.kmp]) : v.view (claimWindow ram mb d) = v.view d := by
  simp at h
  unfold claimWindow
  dsimp only
  repeat' split
  all_goals simp [h]

@[simp] theorem freeWindow_frame (mb : Nat) (h : v ∉ [.slu, .pcie, .kmp, .ev, .writes, .out]) : v.view (freeWindow mb d) = v.view d := by
  simp at h
  simp [freeWindow, h]

@[simp] theorem takeOne_frame (ram : List Host.Cell) (mb : Nat)
    (h : v ∉ [.sys, .slu, .pcie, .kmp, .ev, .writes, .out, .session, .standing]) :
    v.view (takeOne ram mb d) = v.view d := by
  simp at h
  simp [takeOne, h]

@[simp] theorem takeLoop_frame (ram : List Host.Cell) (mb n : Nat)
    (h : v ∉ [.sys, .slu, .pcie, .kmp, .ev, .writes, .out, .session, .standing]) : v.view (takeLoop ram mb n d) = v.view d := by
  simp at h
  induction n generalizing d with
  | zero => rfl
  | succ n ih =>
    unfold takeLoop
    simp [h, ih]

@[simp] theorem takePosted_frame (ram : List Host.Cell) (mb : Nat)
    (h : v ∉ [.sys, .slu, .pcie, .kmp, .ev, .writes, .out, .session, .standing]) :
    v.view (takePosted ram mb d) = v.view d := by
  simp at h
  simp [takePosted, h]

@[simp] theorem ringDoorbell_frame (ram : List Host.Cell) (mb v' : Nat)
    (h : v ∉ [.sys, .slu, .pcie, .kmp, .ev, .writes, .out, .session, .standing]) :
    v.view (ringDoorbell ram mb v' d) = v.view d := by
  simp at h
  simp [ringDoorbell, h]

@[simp] theorem dropRead_frame (mb : Nat) (h : v ∉ [.slu]) : v.view (dropRead mb d) = v.view d := by
  simp at h
  simp [dropRead, h]

@[simp] theorem writeRspCi_frame (ram : List Host.Cell) (mb v' : Nat)
    (h : v ∉ [.sys, .slu, .pcie, .kmp, .ev, .writes, .out, .session, .standing]) :
    v.view (writeRspCi ram mb v' d) = v.view d := by
  simp at h
  simp [writeRspCi, h]

@[simp] theorem releaseWindow_frame (ram : List Host.Cell) (mb : Nat)
    (h : v ∉ [.sys, .slu, .pcie, .kmp, .ev, .writes, .out, .session, .standing]) :
    v.view (releaseWindow ram mb d) = v.view d := by
  simp at h
  simp [releaseWindow, h]

@[simp] theorem clearIrq_frame (mb v' : Nat) (h : v ∉ [.kmp]) : v.view (clearIrq mb v' d) = v.view d := by
  simp at h
  simp [clearIrq, h]

@[simp] theorem writeIrqEnable_frame (mb v' : Nat) (h : v ∉ [.pcie, .kmp, .out]) : v.view (writeIrqEnable mb v' d) = v.view d := by
  simp at h
  simp [writeIrqEnable, h]

@[simp] theorem pageEffects_frame (mb first len : Nat) (h : v ∉ [.kmp]) : v.view (pageEffects mb first len d) = v.view d := by
  simp at h
  simp [pageEffects, h]

@[simp] theorem readRegister_frame (mb off : Nat) (h : v ∉ [.kmp, .out]) : v.view (readRegister mb off d) = v.view d := by
  simp at h
  simp [readRegister, h]

@[simp] theorem readDevTime_frame (mb : Nat) (h : v ∉ [.kmp, .out]) : v.view (readDevTime mb d) = v.view d := by
  simp at h
  simp [readDevTime, h]

@[simp] theorem readErrInfo_frame (mb : Nat) (h : v ∉ [.kmp, .out]) : v.view (readErrInfo mb d) = v.view d := by
  simp at h
  simp [readErrInfo, h]

@[simp] theorem readErrCount_frame (mb : Nat) (h : v ∉ [.kmp, .out]) : v.view (readErrCount mb d) = v.view d := by
  simp at h
  simp [readErrCount, h]

@[simp] theorem doorbell_frame (ram : List Host.Cell) (mb v' : Nat)
    (h : v ∉ [.sys, .slu, .pcie, .kmp, .ev, .writes, .out, .session, .standing]) :
    v.view (doorbell ram mb v' d) = v.view d := by
  simp at h
  simp [doorbell, h]

@[simp] theorem rspCiWrite_frame (ram : List Host.Cell) (mb v' : Nat)
    (h : v ∉ [.sys, .slu, .pcie, .kmp, .ev, .writes, .out, .session, .standing]) :
    v.view (rspCiWrite ram mb v' d) = v.view d := by
  simp at h
  simp [rspCiWrite, h]

@[simp] theorem bulkRelease_frame (ram : List Host.Cell) (mb : Nat)
    (h : v ∉ [.sys, .slu, .pcie, .kmp, .ev, .writes, .out, .session, .standing]) :
    v.view (bulkRelease ram mb d) = v.view d := by
  simp at h
  simp [bulkRelease, h]

@[simp] theorem irqClear_frame (mb v' : Nat) (h : v ∉ [.pcie, .kmp, .out]) : v.view (irqClear mb v' d) = v.view d := by
  simp at h
  simp [irqClear, h]

@[simp] theorem writePage_frame (ram : List Host.Cell) (mb off v' w : Nat)
    (h : v ∉ [.sys, .slu, .pcie, .kmp, .ev, .writes, .out, .session, .standing]) :
    v.view (writePage ram mb off v' w d) = v.view d := by
  simp at h
  unfold writePage
  split <;> simp [h]

@[simp] theorem writeBar_frame (off v' w : Nat) (h : v ∉ [.pcie, .ev, .out]) : v.view (writeBar off v' w d) = v.view d := by
  simp at h
  simp [writeBar, h]

@[simp] theorem writeWord_frame (ram : List Host.Cell) (mb off first : Nat) (bs : Bytes)
    (h : v ∉ [.sys, .slu, .pcie, .kmp, .ev, .writes, .out, .session, .standing]) :
    v.view (writeWord ram mb off first bs d) = v.view d := by
  simp at h
  simp [writeWord, h]

@[simp] theorem writeSpace_frame (ram : List Host.Cell) (mb n off : Nat) (data : Bytes)
    (h : v ∉ [.sys, .slu, .pcie, .kmp, .ev, .writes, .out, .session, .standing]) :
    v.view (writeSpace ram mb n off data d) = v.view d := by
  simp at h
  induction n generalizing off data d with
  | zero => rfl
  | succ n ih =>
    cases data with
    | nil => rfl
    | cons b bs =>
      unfold writeSpace
      simp [h, ih]

@[simp] theorem registerWrite_frame (ram : List Host.Cell) (port addr : Nat) (data : Bytes)
    (h : v ∉ [.sys, .slu, .pcie, .kmp, .ev, .writes, .out, .session, .standing]) :
    v.view (registerWrite ram port addr data d) = v.view d := by
  simp at h
  simp [registerWrite, h]

@[simp] theorem spiWrite_frame (ram : List Host.Cell) (addr : Nat) (data : Bytes) (cut : Bool)
    (h : v ∉ [.sys, .slu, .pcie, .spi, .kmp, .ev, .writes, .out, .session, .standing]) :
    v.view (spiWrite ram addr data cut d) = v.view d := by
  simp at h
  simp [spiWrite, h]

@[simp] theorem spiRead_frame (ram : List Host.Cell) (addr len : Nat) (cut : Bool) (h : v ∉ [.spi, .kmp, .ev, .out]) :
    v.view (spiRead ram addr len cut d) = v.view d := by
  simp at h
  simp [spiRead, h]

@[simp] theorem resend_frame (mb tag : Nat) (rsp addr : Bytes) (port : Nat) (h : v ∉ [.slu]) :
    v.view (resend mb tag rsp addr port d) = v.view d := by
  simp at h
  simp [resend, h]

@[simp] theorem takeMessage_frame (mb : Nat) (addr : Bytes) (port tag : Nat) (msg : Bytes)
    (h : v ∉ [.sys, .slu, .pcie, .kmp, .ev, .writes, .out, .session, .standing]) :
    v.view (takeMessage mb addr port tag msg d) = v.view d := by
  simp at h
  unfold takeMessage
  dsimp only
  repeat' split
  all_goals simp [h]

@[simp] theorem assemble_frame (mb : Nat) (addr : Bytes) (port : Nat) (data : Bytes)
    (h : v ∉ [.sys, .slu, .pcie, .kmp, .ev, .writes, .out, .session, .standing]) :
    v.view (assemble mb addr port data d) = v.view d := by
  simp at h
  unfold assemble
  dsimp only
  repeat' split
  all_goals simp [h]

@[simp] theorem kmpReceive_frame (sc : Nat) (isProtected : Bool) (addr : Bytes) (port : Nat) (data : Bytes) (fragmented : Bool)
    (h : v ∉ [.sys, .slu, .net, .pcie, .kmp, .ev, .writes, .out, .session, .standing]) :
    v.view (kmpReceive sc isProtected addr port data fragmented d) = v.view d := by
  simp at h
  simp [kmpReceive, h]

@[simp] theorem reassemblyTimeout_frame (mb : Nat) (h : v ∉ [.sys, .pcie, .kmp, .ev, .out, .standing]) :
    v.view (reassemblyTimeout mb d) = v.view d := by
  simp at h
  unfold reassemblyTimeout
  split <;> simp [h]

@[simp] theorem hstDatagram_frame (conn : Nat) (data : Bytes) (fragmented : Bool) (h : v ∉ [.hst, .net]) :
    v.view (hstDatagram conn data fragmented d) = v.view d := by
  simp at h
  simp [hstDatagram, h]

/-! ### The ticks as a whole -/

@[simp] theorem refillFrame_queues (s : Slu) : (refillFrame s).queues = s.queues := by simp [refillFrame, refill]
@[simp] theorem refillFrame_latchedFrame (s : Slu) : (refillFrame s).latchedFrame = s.latchedFrame := by simp [refillFrame, refill]
@[simp] theorem applySub_latchedFrame (key weight target : Nat) (s : Slu) :
    (applySub key weight target s).latchedFrame = s.latchedFrame := by
  unfold applySub
  dsimp only
  split <;> simp
@[simp] theorem applySubs_latchedFrame (l : List (Nat × Nat × Nat)) (s : Slu) :
    (l.foldl (fun u e => applySub e.1 e.2.1 e.2.2 u) s).latchedFrame = s.latchedFrame := by
  induction l generalizing s with
  | nil => rfl
  | cons e l ih => rw [List.foldl_cons, ih, applySub_latchedFrame]

@[simp] theorem restTick_frame (h : v ∉ [.sys, .seq, .prm, .scan, .standing]) : v.view (restTick d) = v.view d := by
  simp at h
  simp [restTick, h]

@[simp] theorem tensionTick_frame (slow : List Nat)
    (h : v ∉ [.sys, .seq, .prm, .pts, .emi, .scan, .sense, .loops, .saf, .slu, .peat, .pcie, .kmp, .ev, .writes, .out, .rail, .outs,
      .standing, .inhibit]) :
    v.view (tensionTick slow d) = v.view d := by
  simp at h
  simp [tensionTick, h]

@[simp] theorem blockEnded_frame (sweepEnds : Bool) (h : v ∉ [.saf, .ev]) : v.view (blockEnded sweepEnds d) = v.view d := by
  simp at h
  unfold blockEnded
  split <;> simp [h]

@[simp] theorem dwellTickAll_frame (lockLost : List Nat) (stalled : List (Nat × Nat)) (broken : List Nat)
    (h : v ∉ [.sys, .seq, .recv, .tim, .histo, .pts, .emi, .saf, .slu, .peat, .pcie, .kmp, .ev, .writes, .out, .queues, .latches,
      .standing, .place]) :
    v.view (dwellTickAll lockLost stalled broken d) = v.view d := by
  simp at h
  simp [dwellTickAll, h]

@[simp] theorem flushTickAll_frame (stalled : List (Nat × Nat))
    (h : v ∉ [.sys, .seq, .recv, .tim, .histo, .pts, .emi, .saf, .slu, .peat, .pcie, .kmp, .ev, .writes, .out, .queues, .latches,
      .standing, .place]) :
    v.view (flushTickAll stalled d) = v.view d := by
  simp at h
  simp [flushTickAll, h]

@[simp] theorem coarseCloseAll_frame (h : v ∉ [.recv, .histo, .diag, .latches]) : v.view (coarseCloseAll d) = v.view d := by
  simp at h
  unfold coarseCloseAll
  dsimp only
  split <;> simp [h]

@[simp] theorem latchFrame_frame (h : v ∉ [.histo, .pts, .emi, .scan, .slu, .latches]) : v.view (latchFrame d) = v.view d := by
  simp at h
  simp [latchFrame, h]

@[simp] theorem streamFrame_frame (h : v ∉ [.pts, .slu, .peat, .pcie, .kmp, .ev, .writes, .out, .queues]) :
    v.view (streamFrame d) = v.view d := by
  simp at h
  simp [streamFrame, h]

@[simp] theorem closePeat_frame (h : v ∉ [.slu, .peat, .pcie, .kmp, .ev, .writes, .out]) : v.view (closePeat d) = v.view d := by
  simp at h
  simp [closePeat, h]

@[simp] theorem endFrame_frame
    (h : v ∉ [.recv, .tim, .histo, .pts, .emi, .scan, .saf, .slu, .peat, .pcie, .kmp, .ev, .writes, .out, .queues, .latches]) :
    v.view (endFrame d) = v.view d := by
  simp at h
  simp [endFrame, h]

@[simp] theorem applyParams_frame (ps : Tab Nat) (h : v ∉ [.prm, .recv, .tim]) : v.view (applyParams ps d) = v.view d := by
  simp at h
  simp [applyParams, h]

@[simp] theorem applyAlign_frame (es : List AlignEntry) (h : v ∉ [.recv]) : v.view (applyAlign es d) = v.view d := by
  simp at h
  simp [applyAlign, h]

@[simp] theorem applySet_frame (s : ConfigSet) (h : v ∉ [.prm, .recv, .rep, .tim, .emi, .sense, .loops, .slu, .queues]) :
    v.view (applySet d s) = v.view d := by
  simp at h
  simp [applySet, h]

@[simp] theorem applyPlan_frame (due : List ConfigSet) (h : v ∉ [.seq, .ev]) : v.view (applyPlan due d) = v.view d := by
  simp at h
  unfold applyPlan
  split <;> simp [h]

@[simp] theorem applyDue_frame (h : v ∉ [.seq, .prm, .recv, .rep, .tim, .emi, .sense, .loops, .slu, .ev, .queues, .pending]) :
    v.view (applyDue d) = v.view d := by
  simp at h
  simp [applyDue, h]

@[simp] theorem endHeld_frame (h : v ∉ [.sync, .ev]) : v.view (endHeld d) = v.view d := by
  simp at h
  unfold endHeld
  split <;> simp [h]

@[simp] theorem applyCode_frame (h : v ∉ [.histo]) : v.view (applyCode d) = v.view d := by
  simp at h
  unfold applyCode
  repeat' split
  all_goals simp [h]

@[simp] theorem stateFrame_frame (h : v ∉ [.sys, .pts, .emi, .scan, .saf, .slu, .pcie, .kmp, .ev, .writes, .out, .rail, .inhibit]) :
    v.view (stateFrame d) = v.view d := by
  simp at h
  unfold stateFrame
  split <;> simp [h]

@[simp] theorem stampFrame_frame (h : v ∉ [.slu, .pcie, .kmp, .diag, .ev, .writes, .out]) : v.view (stampFrame d) = v.view d := by
  simp at h
  unfold stampFrame
  dsimp only
  repeat' split
  all_goals simp [h]

@[simp] theorem histFrame_frame (h : v ∉ [.slu, .pcie, .kmp, .diag, .ev, .writes, .out]) : v.view (histFrame d) = v.view d := by
  simp at h
  unfold histFrame
  dsimp only
  repeat' split
  all_goals simp [h]

@[simp] theorem peatTick_frame (h : v ∉ [.slu, .peat, .pcie, .kmp, .ev, .writes, .out]) : v.view (peatTick d) = v.view d := by
  simp at h
  unfold peatTick
  repeat' split
  all_goals simp [h]

@[simp] theorem newFrame_frame (h : v ∉ [.sys, .seq, .recv, .tim, .pts, .sync, .ev, .rail, .standing, .place]) :
    v.view (newFrame d) = v.view d := by
  simp at h
  simp [newFrame, h]

@[simp] theorem latchSettings_frame
    (h : v ∉ [.seq, .prm, .recv, .rep, .gauge, .tim, .histo, .emi, .sense, .loops, .slu, .sync, .ev, .rail, .queues, .pending, .gated]) :
    v.view (latchSettings d) = v.view d := by
  simp at h
  simp [latchSettings, h]

@[simp] theorem markStreamed_frame (h : v ∉ [.pts]) : v.view (markStreamed d) = v.view d := by
  simp at h
  simp [markStreamed, h]

@[simp] theorem frameWork_frame
    (h : v ∉ [.sys, .seq, .tim, .pts, .emi, .scan, .loops, .saf, .slu, .peat, .pcie, .trig, .kmp, .diag, .ev, .writes, .out, .rail,
      .inhibit]) :
    v.view (frameWork d) = v.view d := by
  simp at h
  simp [frameWork, h]

@[simp] theorem frameTickAll_frame
    (h : v ∉ [.sys, .seq, .prm, .recv, .rep, .gauge, .tim, .histo, .pts, .emi, .scan, .sense, .loops, .saf, .slu, .peat, .pcie, .sync,
      .trig, .kmp, .diag, .ev, .writes, .out, .rail, .queues, .latches, .standing, .place, .pending, .gated, .inhibit]) :
    v.view (frameTickAll d) = v.view d := by
  simp at h
  simp [frameTickAll, h]

/-! ### What follows every command -/

@[simp] theorem eventTrigger_frame (e : Nat × Nat × Nat) (h : v ∉ [.loops, .peat, .ev]) : v.view (eventTrigger e d) = v.view d := by
  simp at h
  simp [eventTrigger, h]

@[simp] theorem eventTriggers_frame (n : Nat) (h : v ∉ [.loops, .peat, .ev]) : v.view (eventTriggers n d) = v.view d := by
  simp at h
  induction n generalizing d with
  | zero => rfl
  | succ n ih =>
    unfold eventTriggers
    split
    · rfl
    · simp [h, ih]

@[simp] theorem noteLifetimes_frame (h : v ∉ [.ev]) : v.view (noteLifetimes d) = v.view d := by
  simp at h
  simp [noteLifetimes, h]

@[simp] theorem haltSession_frame (h : v ∉ [.saf, .slu, .peat, .pcie, .kmp, .ev, .writes, .out, .session]) :
    v.view (haltSession d) = v.view d := by
  simp at h
  simp [haltSession, h]

@[simp] theorem noteIrq_frame (before : Bool) (h : v ∉ [.out]) : v.view (noteIrq before d) = v.view d := by
  simp at h
  simp [noteIrq, h]

end Sys2Proof.Laws
end

section
/-!
SUPPORT. What a facet that is kept tells of the fields.
-/
namespace Sys2Proof.Laws

open Sys2Proof.Machine

/-! ### What a facet tells -/

/-- A facet that is a group tells that the group is the same. -/
theorem same_of_view {p : Part} {d e : Dev} (h : (Facet.of p).view e = (Facet.of p).view d) : p.same d e := by
  cases p <;> simpa [Facet.view, Part.same] using h

theorem only_of_views {ps : List Part} {d e : Dev} (h : ∀ p, p ∉ ps → (Facet.of p).view e = (Facet.of p).view d) : Only ps d e :=
  fun p hp => same_of_view (h p hp)

theorem sys_of_view {d e : Dev} (h : Facet.sys.view e = Facet.sys.view d) : e.sys = d.sys := same_of_view (p := .sys) h

theorem saf_of_view {d e : Dev} (h : Facet.saf.view e = Facet.saf.view d) : e.saf = d.saf := same_of_view (p := .saf) h

@[simp] theorem raise_sys (s c : Nat) (b : Bytes) (d : Dev) : (raise s c b d).sys = d.sys := sys_of_view (by simp)

@[simp] theorem raise_saf (s c : Nat) (b : Bytes) (d : Dev) : (raise s c b d).saf = d.saf := saf_of_view (by simp)

theorem seq_of_view {d e : Dev} (h : Facet.seq.view e = Facet.seq.view d) : e.seq = d.seq := same_of_view (p := .seq) h

theorem pts_of_view {d e : Dev} (h : Facet.pts.view e = Facet.pts.view d) : e.pts = d.pts := same_of_view (p := .pts) h

theorem recv_of_view {d e : Dev} (h : Facet.recv.view e = Facet.recv.view d) : e.recv = d.recv := same_of_view (p := .recv) h

theorem peat_of_view {d e : Dev} (h : Facet.peat.view e = Facet.peat.view d) : e.peat = d.peat := same_of_view (p := .peat) h

theorem slu_of_view {d e : Dev} (h : Facet.slu.view e = Facet.slu.view d) : e.slu = d.slu := same_of_view (p := .slu) h

theorem gauge_of_view {d e : Dev} (h : Facet.gauge.view e = Facet.gauge.view d) : e.gauge = d.gauge := same_of_view (p := .gauge) h

theorem emi_of_view {d e : Dev} (h : Facet.emi.view e = Facet.emi.view d) : e.emi = d.emi := same_of_view (p := .emi) h

theorem prm_of_view {d e : Dev} (h : Facet.prm.view e = Facet.prm.view d) : e.prm = d.prm := same_of_view (p := .prm) h

theorem scan_of_view {d e : Dev} (h : Facet.scan.view e = Facet.scan.view d) : e.scan = d.scan := same_of_view (p := .scan) h

theorem pending_of_view {d e : Dev} (h : Facet.pending.view e = Facet.pending.view d) : e.prm.pending = d.prm.pending :=
  (congrArg (fun x : Dev => x.prm.pending) h :)

theorem gated_of_view {d e : Dev} (h : Facet.gated.view e = Facet.gated.view d) : e.recv.gated = d.recv.gated :=
  (congrArg (fun x : Dev => x.recv.gated) h :)

theorem railClosed_of_saf {d e : Dev} (h : Facet.saf.view e = Facet.saf.view d) : e.saf.railClosed = d.saf.railClosed :=
  congrArg Saf.railClosed (saf_of_view h)

theorem railClosed_of_view {d e : Dev} (h : Facet.rail.view e = Facet.rail.view d) : e.saf.railClosed = d.saf.railClosed :=
  (congrArg (fun x : Dev => x.saf.railClosed) h :)

theorem op_of_view {d e : Dev} (h : Facet.rail.view e = Facet.rail.view d) : e.sys.op = d.sys.op :=
  (congrArg (fun x : Dev => x.sys.op) h :)

theorem closed_of_view {d e : Dev} (h : Facet.rail.view e = Facet.rail.view d) : e.gauge.closed = d.gauge.closed :=
  (congrArg (fun x : Dev => x.gauge.closed) h :)

theorem inhibit_of_view {d e : Dev} (h : Facet.inhibit.view e = Facet.inhibit.view d) : e.emi.inhibit = d.emi.inhibit :=
  (congrArg (fun x : Dev => x.emi.inhibit) h :)

theorem outs_of_view {d e : Dev} (h : Facet.outs.view e = Facet.outs.view d) : e.saf.outs = d.saf.outs :=
  (congrArg (fun x : Dev => x.saf.outs) h :)

theorem queues_of_view {d e : Dev} (h : Facet.queues.view e = Facet.queues.view d) : e.slu.queues = d.slu.queues :=
  (congrArg (fun x : Dev => x.slu.queues) h :)

/-! ### Calm devices -/

theorem op_of_ticking {d : Dev} (h : ticking d = true) :
    d.sys.op = .ready ∨ d.sys.op = .armed ∨ d.sys.op = .running ∨ d.sys.op = .safeStop := by
  cases ho : d.sys.op <;> simp [ticking, ho] at h ⊢

theorem op_ne_halted_of_ticking {d : Dev} (h : ticking d = true) : d.sys.op ≠ .halted := by
  rcases op_of_ticking h with h | h | h | h <;> simp [h]

theorem session_of_view {d e : Dev} (h : Facet.session.view e = Facet.session.view d) : e.kmp.session = d.kmp.session :=
  (congrArg (fun x : Dev => x.kmp.session) h :)

theorem awaited_of_view {d e : Dev} (h : Facet.awaited.view e = Facet.awaited.view d) : e.sys.resetAfter = d.sys.resetAfter :=
  (congrArg (fun x : Dev => x.sys.resetAfter) h :)

/-- An operating device is calm when no reset waits. -/
theorem calm_of_ticking {d e : Dev} (h : Calm d) (ht : ticking e = true) (ha : Facet.awaited.view e = Facet.awaited.view d) : Calm e :=
  ⟨(awaited_of_view ha).trans h.1, fun hh => absurd hh (op_ne_halted_of_ticking ht)⟩

theorem ticking_of_op {d e : Dev} (h : e.sys.op = d.sys.op) : ticking e = ticking d := by
  simp [ticking, h]

/-- A change that leaves the state, the session and a reset that waits keeps the device calm. -/
theorem calm_of_views {d e : Dev} (h : Calm d) (ha : Facet.awaited.view e = Facet.awaited.view d)
    (ho : Facet.rail.view e = Facet.rail.view d) (hk : Facet.session.view e = Facet.session.view d) : Calm e := by
  rwa [Calm, awaited_of_view ha, op_of_view ho, session_of_view hk]

/-- A command whose effect is known and leaves the state, the session and a reset that waits. -/
theorem completes_of_views {i : Instr} {f : Dev → Dev} {s : State} {d : Dev} (he : exec i s = runDev f s) (hf : f s.fresh = d)
    (hc : Calm s.dev) (ha : Facet.awaited.view d = Facet.awaited.view s.fresh) (ho : Facet.rail.view d = Facet.rail.view s.fresh)
    (hk : Facet.session.view d = Facet.session.view s.fresh) : Completes i s d :=
  hf ▸ completes_of i f s he (hf ▸ calm_of_views (calm_fresh hc) ha ho hk)

end Sys2Proof.Laws
end

section
/-!
The emitter rail (R30, R176): every command keeps the rail open where emission is not permitted.
-/
namespace Sys2Proof.Laws

open Sys2Proof.Machine

/-- The emitter rail is closed only where emission is permitted (R30, R176): `State.railSafe`, of the device. -/
def RailOk (d : Dev) : Prop :=
  d.saf.railClosed = true →
    d.sys.op = .armed ∨ d.sys.op = .running ∨ (d.sys.op = .castOn ∧ d.sys.boot = 0x60 ∧ d.gauge.closed = true)

theorem railSafe_iff (s : State) : s.railSafe ↔ RailOk s.dev := Iff.rfl

/-- What keeps the rail's facet keeps its condition. -/
theorem RailOk.of_view {d e : Dev} (hd : RailOk d) (h : Facet.rail.view e = Facet.rail.view d) : RailOk e := by
  have hb : e.sys.boot = 0x60 ↔ d.sys.boot = 0x60 := by simpa using boot60_of_view h
  rwa [RailOk, railClosed_of_view h, op_of_view h, closed_of_view h, hb]

theorem railOk_of_open {d : Dev} (h : d.saf.railClosed = false) : RailOk d := by
  simp [RailOk, h]

theorem railOk_of_armed {d : Dev} (h : d.sys.op = .armed) : RailOk d := fun _ => .inl h

theorem railOk_of_firing {d : Dev} (ho : d.sys.op = .castOn) (hb : d.sys.boot = 0x60) (hc : d.gauge.closed = true) : RailOk d :=
  fun _ => .inr (.inr ⟨ho, hb, hc⟩)

/-- In the states in which neither emission nor calibration firing is permitted the rail is open. -/
theorem RailOk.railOpen {d : Dev} (hd : RailOk d) (ha : d.sys.op ≠ .armed) (hr : d.sys.op ≠ .running) (hc : d.sys.op ≠ .castOn) :
    d.saf.railClosed = false := by
  simpa [RailOk, ha, hr, hc] using hd

theorem RailOk.ite {c : Prop} [Decidable c] {x y : Dev} (hx : RailOk x) (hy : RailOk y) : RailOk (if c then x else y) := by
  split
  · exact hx
  · exact hy

theorem RailOk.foldl {α : Type} {f : Dev → α → Dev} (hf : ∀ d a, RailOk d → RailOk (f d a)) (l : List α) {d : Dev} (hd : RailOk d) :
    RailOk (l.foldl f d) := by
  induction l generalizing d with
  | nil => exact hd
  | cons a l ih => exact ih (hf d a hd)

/-! ### Trips and halts -/

variable (d : Dev)

@[simp] theorem deEnergiseAll_railClosed : (deEnergiseAll d).saf.railClosed = d.saf.railClosed := railClosed_of_view (by simp)

@[simp] theorem cancelStateCmds_saf : (cancelStateCmds d).saf = d.saf := saf_of_view (by simp)

@[simp] theorem toState_saf (o : OpState) : (toState o d).saf = d.saf := saf_of_view (by simp)

@[simp] theorem toState_op (o : OpState) : (toState o d).sys.op = o := by
  unfold toState
  split
  · next h => simpa using h
  · dsimp only
    split <;> simp

@[simp] theorem openRail_railClosed : (openRail d).saf.railClosed = false := rfl

/-- A trip leaves the rail open. -/
theorem trip_railClosed (bits : List Nat) : (trip bits d).saf.railClosed = false := by
  unfold trip
  dsimp only
  split <;> simp

/-- So does a halt. -/
theorem halt_railClosed (cause : Nat) (h : d.sys.op ≠ .halted) : (halt cause d).saf.railClosed = false := by
  have hrest (d : Dev) : (driveRest (loopsOff (modScan (fun s => { s with started := false, held := false }) (rampFrom d)))).saf = d.saf :=
    saf_of_view (by simp)
  simp [halt, h, hrest]

theorem trip_rail (bits : List Nat) : RailOk (trip bits d) := railOk_of_open (trip_railClosed d bits)

section Keeps

variable {d} (hd : RailOk d)
include hd

theorem halt_rail (cause : Nat) : RailOk (halt cause d) := by
  by_cases h : d.sys.op = .halted
  · simpa [halt, h] using hd
  · exact railOk_of_open (halt_railClosed d cause h)

theorem tussockFault_rail : RailOk (tussockFault d) := .ite hd (halt_rail hd 3)

theorem scrubTussock_rail (block readAt : Nat) (flips : List (Nat × Nat)) (corrected uncorrectable : Bool) :
    RailOk (scrubTussock block readAt flips corrected uncorrectable d) := by
  unfold scrubTussock
  refine .ite hd (.ite (tussockFault_rail hd) ?_)
  exact hd.of_view (by simp)

theorem clockCheck_rail (ratios : List Nat) : RailOk (clockCheck ratios d) := by
  unfold clockCheck
  refine .ite hd ?_
  extract_lets bad t two d1
  exact .ite (trip_rail _ _) (hd.of_view (by simp [d1]))

theorem armNow_rail : RailOk (armNow d) := by
  unfold armNow
  split
  · exact hd
  · split_ifs
    · refine railOk_of_armed ?_
      rw [op_of_view (d := closeRail (toState .armed d)) (by simp)]
      exact toState_op d .armed
    · exact hd

theorem railTest_rail (s : Nat) (pass : Bool) : RailOk (railTest s pass d) := by
  unfold railTest
  extract_lets due d0
  refine .ite hd ?_
  have h0 : RailOk d0 := .ite (hd.of_view (by simp)) hd
  exact .ite (trip_rail _ _) (.ite (h0.of_view (by simp)) (armNow_rail (h0.of_view (by simp))))

/-! ### Gauge -/

theorem chargeCells_rail (az : List Nat) (b e : Nat) : RailOk (chargeCells az b e d) := by
  unfold chargeCells
  extract_lets keys d1 ovr near d2
  exact .ite (trip_rail _ _) (hd.of_view (by simp [d1, d2]))

theorem chargePulse_rail (n e : Nat) : RailOk (chargePulse n e d) :=
  .ite (trip_rail _ _) (chargeCells_rail hd _ _ _)

theorem chargeReport_rail (r : PulseRep) (e : Nat) : RailOk (chargeReport r e d) :=
  .ite (chargeCells_rail hd _ _ _) (chargePulse_rail hd _ _)

theorem pulseReport_rail (n : Nat) : RailOk (pulseReport n d) := by
  unfold pulseReport
  split
  · exact hd
  · next x hx => exact chargeReport_rail (hd.of_view (takeReport_frame hx (by simp))) _ _

theorem pulseTimeout_rail (n : Nat) : RailOk (pulseTimeout n d) := by
  unfold pulseTimeout
  split
  · exact hd
  · next x hx => exact .ite (trip_rail _ _) (chargeReport_rail (hd.of_view (by simp [takeReport_frame hx])) _ _)

theorem judgeStall_rail : RailOk (judgeStall d) := by
  unfold judgeStall
  refine .ite hd ?_
  extract_lets p s t dev dis a b c fz frozen d1 bits
  exact .ite (hd.of_view (by simp [d1])) ((trip_rail d1 bits).of_view (by simp))

theorem gaugeDeriveChecked_rail (lane : Nat) (differs : Bool) : RailOk (gaugeDeriveChecked lane differs d) :=
  .ite hd (.ite (trip_rail _ _) (hd.of_view (by simp)))

theorem tagCheck_rail (flips : List (Nat × Nat)) (tagXor : Nat) : RailOk (tagCheck flips tagXor d) := by
  unfold tagCheck
  split
  · exact hd
  · next e rest _ =>
    extract_lets skip bad d1 d2 d3
    have h3 : RailOk d3 := .ite (trip_rail _ _) (hd.of_view (by simp [d1, d2]))
    exact h3.of_view (by simp)

theorem scrubFirmware_rail (last : Bool) (block readAt : Nat) (flips : List (Nat × Nat)) :
    RailOk (scrubFirmware last block readAt flips d) :=
  .ite hd (.ite (halt_rail hd 4) (hd.of_view (by simp)))

/-! ### Bind-off, supplies and scrubs -/

theorem enterBindOff_rail : RailOk (enterBindOff d) := by
  unfold enterBindOff
  refine .ite hd ?_
  extract_lets d1 d2 d3 d4 d5 d6
  have h4 : d4.saf.railClosed = (openRail d1).saf.railClosed := railClosed_of_view (by simp [d2, d3, d4])
  have h6 : (loopsOff (rampFrom (lastData d6))).saf.railClosed = d5.saf.railClosed := railClosed_of_view (by simp [d6])
  exact railOk_of_open (h6.trans h4)

theorem bindOffComplete_rail : RailOk (bindOffComplete d) := by
  unfold bindOffComplete
  refine .ite hd ?_
  extract_lets d1 d2
  exact halt_rail (hd.of_view (by simp [d1, d2])) 7

theorem unrecoverable_rail : RailOk (unrecoverable d) := .ite hd (halt_rail hd 5)

theorem supplyOut_rail (vin : Bool) : RailOk (supplyOut vin d) := by
  unfold supplyOut
  extract_lets d0
  have h0 : RailOk d0 := hd.of_view (by simp [d0])
  exact .ite h0 (.ite (halt_rail h0 6) (enterBindOff_rail (h0.of_view (by simp))))

theorem patrolScrub_rail (region addr : Nat) (correctable : Bool) : RailOk (patrolScrub region addr correctable d) := by
  unfold patrolScrub
  refine .ite hd ?_
  extract_lets detail d1
  refine .ite (hd.of_view (by simp)) (.ite (halt_rail hd 5) (.ite ?_ (hd.of_view (by simp [d1]))))
  split
  all_goals exact hd.of_view (by simp [d1])

theorem doBindOff_rail (c : Cmd) : RailOk (doBindOff c d) := by
  unfold doBindOff
  refine .ite ?_ (.ite ?_ (.ite ?_ (enterBindOff_rail ?_)))
  all_goals exact hd.of_view (by simp)

/-! ### Cast-on -/

/-- In cast-on before stage 0x60 the rail is open. -/
theorem RailOk.railOpen_castOn (ho : d.sys.op = .castOn) (hb : d.sys.boot ≠ 0x60) : d.saf.railClosed = false := by
  simpa [RailOk, ho, hb] using hd

theorem gateAtCastOn_rail (mask : Nat) : RailOk (gateAtCastOn mask d) := by
  unfold gateAtCastOn
  extract_lets d1
  have h1 : RailOk d1 := hd.of_view (by simp [d1])
  exact .ite (halt_rail h1 1) (h1.of_view (by simp))

theorem bistComplete_rail (tussockFail fatal : Bool) (badSlices : Nat) (failedLanes : List Nat) (failedStarts : Nat)
    (probes : List (Nat × List (Nat × Nat))) (dark : List (Nat × Nat)) (sramRepairs : Nat) :
    RailOk (bistComplete tussockFail fatal badSlices failedLanes failedStarts probes dark sramRepairs d) := by
  unfold bistComplete
  split
  · exact hd
  · next hs =>
    obtain ⟨-, -, hb⟩ := boot_of_atStage (by simpa using hs)
    refine .ite (halt_rail hd 2) (.ite (halt_rail hd 1) ?_)
    extract_lets d1 d2 d3 fails d4
    exact gateAtCastOn_rail (hd.of_view (by simp [d1, d2, d3, d4, hb])) _

theorem fwInitComplete_rail : RailOk (fwInitComplete d) := by
  unfold fwInitComplete
  split
  · next hs =>
    obtain ⟨-, ho, hb⟩ := boot_of_atStage hs
    exact railOk_of_open (hd.railOpen_castOn ho (by simp [hb]))
  · exact hd

end Keeps

theorem halt_op (cause : Nat) : (halt cause d).sys.op = .halted := by
  unfold halt
  split
  · next h => simpa using h
  · extract_lets d1 d2 d3
    rw [op_of_view (d := d3) (by simp)]
    simp [d3, d2]

/-- Gating at cast-on halts the device, or leaves what the rail's condition reads. -/
theorem gateAtCastOn_halts_or_keeps (mask : Nat) :
    (gateAtCastOn mask d).sys.op = .halted ∨ Facet.rail.view (gateAtCastOn mask d) = Facet.rail.view d := by
  unfold gateAtCastOn
  extract_lets d1
  split
  · exact .inl (halt_op _ _)
  · exact .inr (by simp [d1])

/-- Calibration firing closes the rail in cast-on at stage 0x60 with Gauge's collection at its end (R176). -/
theorem beginFiring_rail (hd : RailOk d)
    (h : d.sys.op = .halted ∨ (d.sys.op = .castOn ∧ d.sys.boot = 0x60 ∧ d.gauge.closed = true)) : RailOk (beginFiring d) := by
  unfold beginFiring
  split
  · exact hd
  · next hn =>
    have hv : Facet.rail.view (loadCodes d) = Facet.rail.view d := by simp
    obtain ⟨ho, hb, hc⟩ := h.resolve_left (by simpa using hn)
    have hb' : (loadCodes d).sys.boot = 0x60 := by simpa [hb] using boot60_of_view hv
    exact railOk_of_firing ((op_of_view hv).trans ho) hb' ((closed_of_view hv).trans hc)

section Keeps

variable {d} (hd : RailOk d)
include hd

theorem castOnGauge_rail (counts : List (Nat × List Nat)) : RailOk (castOnGauge counts d) := by
  unfold castOnGauge
  split
  · exact hd
  · next hs =>
    simp only [Bool.or_eq_true, Bool.not_eq_true', not_or, Bool.not_eq_false, Bool.not_eq_true] at hs
    obtain ⟨-, ho, hb⟩ := boot_of_atStage hs.1
    extract_lets t failed d1 d2 d3
    have h1 : Facet.rail.view d1 = Facet.rail.view d := by simp [d1]
    have ho3 : d3.sys.op = .castOn := by simpa [d3, d2, ho] using op_of_view h1
    have hb3 : d3.sys.boot = 0x60 := by simpa [d3, d2, hb] using boot60_of_view h1
    have hc3 : d3.gauge.closed = true := by simp [d3, d2]
    refine beginFiring_rail _ (gateAtCastOn_rail (railOk_of_firing ho3 hb3 hc3) _) ?_
    refine (gateAtCastOn_halts_or_keeps d3 (shortSlices d3)).imp_right fun hv => ?_
    exact ⟨(op_of_view hv).trans ho3, by simpa [hb3] using boot60_of_view hv, (closed_of_view hv).trans hc3⟩

theorem restOfFiring_rail : RailOk (restOfFiring d) := by
  unfold restOfFiring
  extract_lets k d1
  have h1 : RailOk d1 := hd.of_view (by simp [d1])
  exact .ite hd (.ite h1 (RailOk.foldl (fun d b hd => chargeCells_rail hd _ _ _) _ h1))

theorem calibrationEnd_rail (refMeans : List (Nat × Nat × Nat)) (vbd : Nat) (temp : Int) (clockRatios : List Nat) (charged : Bool) :
    RailOk (calibrationEnd refMeans vbd temp clockRatios charged d) := by
  unfold calibrationEnd
  refine .ite hd ?_
  extract_lets d1 d2 d3 d4 d5
  have h0 : RailOk (advanceTuss (d.emi.calAt + 200000000) d) := hd.of_view (by simp)
  have h1 : RailOk d1 := (restOfFiring_rail h0).of_view (by simp [d1])
  refine .ite (halt_rail (h1.of_view (by simp [d2, d3])) 2) (railOk_of_open ?_)
  exact railClosed_of_saf (d := openRail (dropFiring d5)) (by simp)

/-! ### Commands on the safety processor -/

theorem doSafeResume_rail (c : Cmd) : RailOk (doSafeResume c d).2.2 := by
  unfold doSafeResume
  split
  · exact hd
  · next hs =>
    simp only [Bool.or_eq_true, bne_iff_ne, not_or, not_not] at hs
    refine railOk_of_open ?_
    rw [railClosed_of_saf (d := modSaf (fun s => { s with latched := 0 }) d) (by simp)]
    exact hd.railOpen (by simp [hs.1]) (by simp [hs.1]) (by simp [hs.1])

theorem doSafeStop_rail (c : Cmd) : RailOk (doSafeStop c d).2.2 := by
  unfold doSafeStop
  exact .ite (trip_rail _ _) (hd.of_view (by simp))

theorem gaugeCollectionEnd_rail : RailOk (gaugeCollectionEnd d) := by
  unfold gaugeCollectionEnd
  refine .ite hd ?_
  have h0 : RailOk (advanceTo (diagStart d + 1850000) d) := hd.of_view (by simp)
  have hc : RailOk (modGauge (fun g => { g with closed := true }) (advanceTo (diagStart d + 1850000) d)) := fun hr =>
    (h0 hr).imp_right (Or.imp_right fun ⟨ho, hb, _⟩ => ⟨ho, hb, rfl⟩)
  exact hc.of_view (by simp)

theorem tensionTick_rail (slow : List Nat) : RailOk (tensionTick slow d) := by
  unfold tensionTick
  refine .ite (hd.of_view (by simp)) (.ite hd ?_)
  extract_lets d1
  have hj : RailOk (judgeStall (finishAngles d)) := judgeStall_rail (hd.of_view (by simp))
  have ha : RailOk (armNow (finishSlots slow (judgeStall (finishAngles d)))) := armNow_rail (hj.of_view (by simp))
  have h1 : RailOk d1 := .ite hd (ha.of_view (by simp))
  exact h1.of_view (by simp)

end Keeps

/-! ### The frame tick -/

/-- The rail is closed in ARMED and RUNNING alone: the condition where calibration firing is out of the question. -/
def EmissionOk (d : Dev) : Prop := d.saf.railClosed = true → d.sys.op = .armed ∨ d.sys.op = .running

theorem EmissionOk.railOk {d : Dev} (hd : EmissionOk d) : RailOk d := fun h => (hd h).imp_right .inl

theorem RailOk.emissionOk {d : Dev} (hd : RailOk d) (ho : d.sys.op ≠ .castOn) : EmissionOk d := fun h => by
  simpa [ho] using hd h

theorem EmissionOk.of_same {d e : Dev} (hd : EmissionOk d) (hr : e.saf.railClosed = d.saf.railClosed) (ho : e.sys.op = d.sys.op) :
    EmissionOk e := by
  rwa [EmissionOk, hr, ho]

theorem EmissionOk.of_view {d e : Dev} (hd : EmissionOk d) (h : Facet.rail.view e = Facet.rail.view d) : EmissionOk e :=
  hd.of_same (railClosed_of_view h) (op_of_view h)

section Keeps

variable {d} (hd : EmissionOk d)
include hd

theorem newFrame_emission : EmissionOk (newFrame d) := by
  unfold newFrame
  extract_lets n d1 d2 d3
  have h0 : EmissionOk (advanceTo d.seq.nextFrame d) := hd.of_view (by simp)
  have h1 : EmissionOk d1 := h0.of_same rfl rfl
  exact h1.of_view (by simp [d2, d3])

theorem gaugeSwap_emission : EmissionOk (gaugeSwap d) := hd.of_same rfl rfl

theorem latchSettings_emission : EmissionOk (latchSettings d) := by
  unfold latchSettings
  have h0 : EmissionOk (applyMasks (repairLanes (repairSegments d))) := hd.of_view (by simp)
  exact (gaugeSwap_emission h0).of_view (by simp)

theorem stateFrame_emission : EmissionOk (stateFrame d) := by
  unfold stateFrame
  extract_lets n last
  split
  · exact .of_view (d := toState .running d) (fun _ => .inr (toState_op d .running)) (by simp)
  · exact .of_view (d := toState .armed d) (fun _ => .inl (toState_op d .armed)) (by simp)
  · next c _ _ =>
    refine .of_view (d := openRail (modScan (fun s => { s with tripped := false }) (toState .ready d))) ?_ (by simp)
    simp [EmissionOk]
  · exact hd

theorem frameWork_emission : EmissionOk (frameWork d) := by
  unfold frameWork
  extract_lets d1 d2 d3
  have h0 : EmissionOk (selectSet (alignFrame d)) := hd.of_view (by simp)
  have h1 : EmissionOk d1 := (stateFrame_emission h0).of_view (by simp [d1])
  exact h1.of_view (by simp [d2, d3])

end Keeps

theorem frameTickAll_rail {d : Dev} (hd : RailOk d) : RailOk (frameTickAll d) := by
  unfold frameTickAll
  split
  · exact hd
  · next ht =>
    have ho := op_of_ticking (by simpa using ht)
    have h0 : EmissionOk d := hd.emissionOk (by rcases ho with ho | ho | ho | ho <;> simp [ho])
    have h1 : EmissionOk (if d.seq.started then endFrame (advanceTo d.seq.nextFrame d) else d) := h0.of_view (by simp)
    exact (frameWork_emission (latchSettings_emission (newFrame_emission h1))).railOk

/-! ### What follows every command -/

theorem devReset_rail (por : Bool) (d : Dev) : RailOk (devReset por d) := railOk_of_open rfl

theorem nreset_rail {d : Dev} (hd : RailOk d) (lowNs : Nat) : RailOk (nreset lowNs d) := by
  unfold nreset
  refine .ite hd (.ite (hd.of_view (by simp)) ?_)
  extract_lets d1
  exact .ite (hd.of_view (by simp [d1])) (devReset_rail _ _)

theorem resetDue_rail {d : Dev} (hd : RailOk d) : RailOk (resetDue d) := by
  unfold resetDue
  split
  · exact .ite hd (devReset_rail _ _)
  · exact hd

theorem settle_rail (before : Bool) {d : Dev} (hd : RailOk d) : RailOk (settle before d) := by
  unfold settle
  have h0 : RailOk (haltSession (followOuts (eventTriggers 16 d))) := hd.of_view (by simp)
  exact (resetDue_rail h0).of_view (by simp)

theorem railOk_of_fields {d e : Dev} (hd : RailOk d) (hs : e.sys = d.sys) (hf : e.saf = d.saf) (hg : e.gauge = d.gauge) : RailOk e := by
  rwa [RailOk, hs, hf, hg]

/-- An outcome keeps the condition: it holds of the next state where it held before. -/
def RailKept (s : State) (o : Host.Outcome State Fault Refusal) : Prop := s.railSafe → ∀ t, o = .next t → t.railSafe

theorem railKept_of {f : Dev → Dev} {s : State} (hf : ∀ d, RailOk d → RailOk (f d)) : RailKept s (runDev f s) := by
  intro hs t h
  have h0 : RailOk s.fresh := hs
  have h1 : RailOk (settle (irqLow s.dev) (f s.fresh)) := settle_rail (irqLow s.dev) (hf s.fresh h0)
  have ht : t.dev = { settle (irqLow s.dev) (f s.fresh) with writes := [] } := congrArg State.dev (Host.Outcome.next.inj h).symm
  refine (railSafe_iff t).2 (railOk_of_fields h1 ?_ ?_ ?_) <;> rw [ht]

theorem railKept_of_frame {f : Dev → Dev} {s : State} (hf : ∀ d, Facet.rail.view (f d) = Facet.rail.view d) :
    RailKept s (runDev f s) :=
  railKept_of fun d hd => hd.of_view (hf d)

theorem afterHookB_rail {f : Dev → Dev} (hf : ∀ d, RailOk d → RailOk (f d)) {d : Dev} (hd : RailOk d) : RailOk (afterHookB f d) :=
  .ite hd (hf d hd)

theorem startCmd_rail {op mb : Nat} {f : Cmd → Dev → Dev} (hf : ∀ c d, RailOk d → RailOk (f c d)) {d : Dev} (hd : RailOk d) :
    RailOk (startCmd op mb f d) := by
  unfold startCmd
  split
  · exact hd
  · exact hf _ _ (hd.of_view (by simp))

theorem answer_rail {op mb : Nat} {f : Cmd → Dev → Nat × Bytes × Dev} (hf : ∀ c d, RailOk d → RailOk (f c d).2.2) {d : Dev}
    (hd : RailOk d) : RailOk (answer op mb f d) :=
  startCmd_rail (fun c d hd => (hf c d hd).of_view (by simp)) hd

theorem reader_railKept (op mb : Nat) (f : Cmd → Dev → Nat × Bytes) (s : State) : RailKept s (runDev (reader op mb f) s) :=
  railKept_of_frame fun d => by simp

theorem stager_railKept (op mb : Nat) (f : Cmd → Dev → Nat × Bytes × ConfigSet) (s : State) :
    RailKept s (runDev (stager op mb f) s) :=
  railKept_of_frame fun d => by simp

theorem answer_railKept {op mb : Nat} {f : Cmd → Dev → Nat × Bytes × Dev} {s : State}
    (hf : ∀ c d, Facet.rail.view (f c d).2.2 = Facet.rail.view d) : RailKept s (runDev (answer op mb f) s) :=
  railKept_of_frame fun d => answer_frame d op mb f (by simp) hf

theorem launch_railKept {op mb : Nat} {check : Cmd → Dev → Option (Nat × Bytes)} {go : Cmd → Dev → Dev} {s : State}
    (hg : ∀ c d, Facet.rail.view (go c d) = Facet.rail.view d) : RailKept s (runDev (launch op mb check go) s) :=
  railKept_of_frame fun d => launch_frame d op mb check go (by simp) hg

/-- Every command keeps the rail's condition. -/
theorem exec_rail (i : Instr) (s : State) : RailKept s (exec i s) := by
  cases i with
  | powerOnReset => exact railKept_of fun d _ => devReset_rail true d
  | nresetAssert _ => exact railKept_of fun d hd => nreset_rail hd _
  | bistComplete _ _ _ _ _ _ _ _ => exact railKept_of fun d hd => bistComplete_rail hd _ _ _ _ _ _ _ _
  | fwInitComplete => exact railKept_of fun d hd => fwInitComplete_rail hd
  | castOnGaugeCollectionEnd _ => exact railKept_of fun d hd => castOnGauge_rail hd _
  | calibrationFiringEnd _ _ _ _ _ => exact railKept_of fun d hd => calibrationEnd_rail hd _ _ _ _ _
  | frameTick => exact railKept_of fun d hd => frameTickAll_rail hd
  | pointTagCheck _ _ => exact railKept_of fun d hd => tagCheck_rail hd _ _
  | tensionTick _ => exact railKept_of fun d hd => tensionTick_rail hd _
  | gaugeCollectionEnd => exact railKept_of fun d hd => gaugeCollectionEnd_rail hd
  | gaugeTableDerive _ _ => exact railKept_of fun d hd => gaugeDeriveChecked_rail hd _ _
  | railSwitchTest _ _ => exact railKept_of fun d hd => railTest_rail hd _ _
  | pulseReport _ => exact railKept_of fun d hd => pulseReport_rail hd _
  | pulseReportTimeout _ => exact railKept_of fun d hd => pulseTimeout_rail hd _
  | clockCrossCheck _ => exact railKept_of fun d hd => clockCheck_rail hd _
  | tussockInternalFault _ => exact railKept_of fun d hd => tussockFault_rail hd
  | tussockScrubBlock _ _ _ _ _ => exact railKept_of fun d hd => afterHookB_rail (fun d hd => scrubTussock_rail hd _ _ _ _ _) hd
  | supplyOutOfRange _ => exact railKept_of fun d hd => supplyOut_rail hd _
  | unrecoverableFault => exact railKept_of fun d hd => unrecoverable_rail hd
  | bindOffComplete => exact railKept_of fun d hd => bindOffComplete_rail hd
  | firmwareScrubBlock _ _ _ _ => exact railKept_of fun d hd => scrubFirmware_rail hd _ _ _ _
  | patrolScrub _ _ _ => exact railKept_of fun d hd => patrolScrub_rail hd _ _ _
  | rptrWrite r x => exact railKept_of_frame (f := fun d => rptrWrite r x (hostWrites 0 d)) fun d => by simp
  | bindOff _ => exact railKept_of fun d hd => startCmd_rail (fun c d hd => doBindOff_rail hd c) hd
  | safeLoad _ => exact railKept_of fun d hd =>
      afterHookB_rail (fun d hd => hd.of_view (answer_frame d _ _ _ (by simp) fun c d => by simp)) hd
  | safeResume _ => exact railKept_of fun d hd => answer_rail (fun c d hd => doSafeResume_rail hd c) hd
  | safeStop _ => exact railKept_of fun d hd => answer_rail (fun c d hd => doSafeStop_rail hd c) hd
  | sysInfo _ | sysHealth _ | getStatus _ | sessionRenew _ | planRead _ | planCheck _ | planColumns _ | syncStatus _
  | recvGet _ | alignRead _ | gaugeRead _ | laneStats _ | laneStatus _ | timeGet _ | timeStatus _ | pointGet _
  | intensityRead _ | attestMeasure _ | mapRead _ | emitterGet _ | scannerGet _ | senseGet _ | loopGet _ | streamGet _
  | netGet _ | driveRead _ | emitStatus _ | emitCounters _ | scanStats _ | entryRead _ | senseValues _ | loopRead _
  | loopStatus _ | subsRead _ | portStatus _ | portStats _ | peatConfigRead _ | peatDescriptors _ | hookResult _ | safeRead _
  | safeStatus _ | hstStatus _ | ipGet _ | macsecStatus _ | netStatus _ | ringRead _ =>
    exact reader_railKept _ _ _ _
  | planWrite _ | recvSet _ | alignWrite _ | timeSet _ | pointSet _ | intensityWrite _ | maskForce _ | retire _ | emitterSet _
  | scannerSet _ | senseSet _ | loopSet _ | streamSet _ | driveWrite _ | entryWrite _ | loopWrite _ | subscribe _ | poolSet _ =>
    exact stager_railKept _ _ _ _
  | romInfo _ | loadBegin _ | loadChunk _ | loadEnd _ | sysReset _ | eventRoute _ | sessionOpen _ | sessionRollback _
  | syncCancel _ | laneClear _ | attestExtend _ | attestPath _ | attestReport _ | debugChallenge _ | debugUnlock _
  | emitClear _ | scanClear _ | loopClear _ | portClear _ | safeClear _ | traceTrigger _ | classSet _ | freeze _
  | watchdogSet _ | peatConfig _ | peatTrigger _ | peatRelease _ | peatDisarm _ | safeConfirm _ | outputAck _ | hstRestart _
  | saInstall _ | saSwitch _ | destSet _ | hstPeer _ | trigPulse _ =>
    exact answer_railKept fun c d => by simp
  | arm _ | start _ | stop _ | disarm _ | syncStart _ | timeAgeing _ | emitSelftest _ | scanStart _ | scanStop _ | loopMode _
  | traceArm _ | traceRead _ | peatArm _ | peatRead _ | hookStart _ | syncCode _ | diagStamp _ | diagHist _ =>
    exact launch_railKept fun c d => by simp
  | abort _ | sessionClose _ | sessionCommit _ | netSet _ | ipSet _ | saDelete _ | resetRelease _ _ _ | pllLock
  | repairMapBuilt | loaderClaimExpiry | dwellTick _ _ _ | flushTick _ | windowBias | shotTick _ _ | startLaneEdge _ _ _
  | spadAvalanche _ _ _ _ _ _ | coarsePhaseClose | pointFormat | sedgeSlot _ | openWireTest | probeRound _ _
  | probeConfirmSlot _ _ | probeBlockEnd | darkCountPositionEnd _ | gaugeRandomEdge _ _ | testToneSlot _ _ _
  | outputSwitchTest _ _ _ _ | outputOvercurrent _ | emitterSelftestRun _ | accumulatorSubinterval _ | safetyInputSample _
  | testPulse _ _ | restartDelayExpiry _ | vsafeJudgementChange _ _ | driveStageTrip _ | armLockTimeout | ageingSlewComplete
  | commitPoint | leaseExpiry | safePendingExpiry | hookAJobComplete _ _ _ | grantIssue _ | grantComplete _
  | grantHoldWatchdog _ | ringModerationTimer _ | peatTriggerAccept | peatRearm | trigInEdge _ _ | trigOutPulseEnd
  | linkStateChange _ _ | prpFrameReceive _ _ _ _ _ _ _ _ _ _ | prpSupervisionSend | gptpMessageReceive _ _ _ _ _ _ _
  | servoLockAchieved | syncLossHoldover | slavePortReselect | arpNdReceive _ _ _ _ _ | kmpDatagramReceive _ _ _ _ _ _
  | kmpReassemblyTimeout _ | hstDatagramArrival _ _ _ _ _ | hstReceiveCheck | hstCycleSend _ | hstChangeSend _
  | hstWatchdogExpiry _ | hstAutoRestart _ | syncCycleStart | syncFollowerSlot | syncBeaconMsg _ | syncPrepareMsg _
  | syncReadyMsg _ | syncRefuseMsg _ | syncGoMsg _ | syncCancelMsg _ | syncCodeMsg _ | syncXtrigMsg _ | syncDeadline
  | syncBeaconLoss | doorbell _ _ | rspCiWrite _ _ | bulkRelease _ | irqStatusClear _ _ | errInfoRead _ | errCountRead _
  | devTimeRead _ | registerWrite _ _ _ | pcieFunctionReset _ | spiWrite _ _ _ | spiRead _ _ _ | spiStatus _ | spiStream _ _
  | spiStrapReset | pcieLinkTrained | prpSupervisionLoss | commitCheckFailure =>
    exact railKept_of_frame fun d => by simp

/-- Settles O4: every command keeps the condition, and an empty queue changes nothing. -/
theorem railIsClosedOnlyWhereEmissionIsPermitted : Obligations.RailIsClosedOnlyWhereEmissionIsPermitted := by
  intro s t hs h
  unfold step at h
  split at h
  · exact Host.Outcome.next.inj h ▸ hs
  · next i rest _ => exact exec_rail i { s with pending := rest } hs t h

end Sys2Proof.Laws
end

section
/-!
Dwell ticks, flush ticks and the window's bias (R25, R26, R27).
-/
namespace Sys2Proof.Laws

open Sys2Proof.Machine

/-! ### What the parts of a dwell or flush tick leave -/

section Parts

variable (d : Dev)

@[simp] theorem closeDwell_sys : (closeDwell d).1.sys = d.sys := sys_of_view (by simp)

@[simp] theorem closeDwell_seq : (closeDwell d).1.seq = d.seq := seq_of_view (by simp)

theorem closeDwell_work (h : d.sys.op ≠ .running) : (closeDwell d).2 = none := by
  simp [closeDwell, h]

@[simp] theorem openDwell_sys : (openDwell d).sys = d.sys := sys_of_view (by simp)

@[simp] theorem openDwell_seq : (openDwell d).seq = d.seq := seq_of_view (by simp)

@[simp] theorem openDwell_pts : (openDwell d).pts = d.pts := pts_of_view (by simp)

@[simp] theorem judgeLocks_sys (ps : List Nat) : (judgeLocks ps d).sys = d.sys := sys_of_view (by simp)

@[simp] theorem judgeLocks_seq (ps : List Nat) : (judgeLocks ps d).seq = d.seq := seq_of_view (by simp)

@[simp] theorem judgeLocks_pts (ps : List Nat) : (judgeLocks ps d).pts = d.pts := pts_of_view (by simp)

@[simp] theorem advancePipe_sys (new : Option Work) (stalled : List (Nat × Nat)) : (advancePipe new stalled d).sys = d.sys :=
  sys_of_view (by simp)

@[simp] theorem advancePipe_seq (new : Option Work) (stalled : List (Nat × Nat)) : (advancePipe new stalled d).seq = d.seq :=
  seq_of_view (by simp)

@[simp] theorem advancePipe_recv (new : Option Work) (stalled : List (Nat × Nat)) : (advancePipe new stalled d).recv = d.recv :=
  recv_of_view (by simp)

@[simp] theorem advancePipe_reduce (new : Option Work) (stalled : List (Nat × Nat)) : (advancePipe new stalled d).pts.reduce = new := rfl

@[simp] theorem advanceTo_sys (t : Nat) : (advanceTo t d).sys = { d.sys with now := max d.sys.now t } := rfl

@[simp] theorem advanceTo_seq (t : Nat) : (advanceTo t d).seq = d.seq := rfl

@[simp] theorem advanceTo_recv (t : Nat) : (advanceTo t d).recv = d.recv := rfl

end Parts

/-! ### Dwell ticks -/

variable {d : Dev}

theorem ticking_of_dwellDue (h : dwellDue d = true) : ticking d = true := by
  simp only [dwellDue, Bool.and_eq_true] at h
  exact h.1.1.1

/-- The first dwell of a sweep begins at the frame tick. -/
theorem dwellTick_first (lost : List Nat) (stalled : List (Nat × Nat)) (h : dwellDue d = true) (ho : d.seq.dwellOpen = false) :
    (dwellTick lost stalled d).sys = d.sys ∧ (dwellTick lost stalled d).pts.reduce = none ∧
      (dwellTick lost stalled d).seq = { d.seq with
        dwellOpen := true, dwell := 0, shot := 0, dwellTime := d.seq.frameTime, dwellNo := wrapU 32 (d.seq.dwellNo + 1) } := by
  simp [dwellTick, h, ho]

/-- Each later dwell begins at the end of the one before. -/
theorem dwellTick_next (lost : List Nat) (stalled : List (Nat × Nat)) (h : dwellDue d = true) (ho : d.seq.dwellOpen = true) :
    (dwellTick lost stalled d).sys = { d.sys with now := max d.sys.now (d.seq.dwellTime + dwellLen (dwellZone d)) } ∧
      (dwellTick lost stalled d).pts.reduce = (closeDwell d).2 ∧
      (dwellTick lost stalled d).seq = { d.seq with
        dwell := d.seq.dwell + 1, shot := 0, dwellTime := d.seq.dwellTime + dwellLen (dwellZone d),
        dwellNo := wrapU 32 (d.seq.dwellNo + 1) } := by
  simp [dwellTick, h, ho]

theorem sliceOn_of_gated {d e : Dev} (h : e.recv.gated = d.recv.gated) (g : Nat) : sliceOn e g = sliceOn d g := by
  simp [sliceOn, h]

theorem slicePend_of_groupBroken {p : Nat × Nat} (h : p ∈ d.recv.slicePend) (g : Nat) : p ∈ (groupBroken d g).recv.slicePend := by
  unfold groupBroken
  split
  · exact h
  · exact List.mem_append_left _ h

theorem slicePend_of_groupsBroken {p : Nat × Nat} (broken : List Nat) (h : p ∈ d.recv.slicePend) :
    p ∈ (broken.foldl groupBroken d).recv.slicePend := by
  induction broken generalizing d with
  | nil => exact h
  | cons b bs ih => exact ih (slicePend_of_groupBroken h b)

/-- A group reported broken on a slice that is on puts the slice among those to gate. -/
theorem slicePend_of_broken {g : Nat} {broken : List Nat} (hg : g ∈ broken) (hlt : g < 16) (hon : sliceOn d g = true) :
    (g / 4, 1) ∈ (broken.foldl groupBroken d).recv.slicePend := by
  induction broken generalizing d with
  | nil => simp at hg
  | cons b bs ih =>
    rcases List.mem_cons.1 hg with rfl | hbs
    · exact slicePend_of_groupsBroken bs (by simp [groupBroken, hon, Nat.not_le.2 hlt])
    · exact ih hbs ((sliceOn_of_gated (gated_of_view (by simp)) g).trans hon)

/-- What a dwell tick leaves, once the dwell that ends is judged and the groups reported broken are noted. -/
theorem dwellTickAll_spec (lost : List Nat) (stalled : List (Nat × Nat)) (broken : List Nat) (h : dwellDue d = true) :
    (dwellTickAll lost stalled broken d).sys = (dwellTick lost stalled d).sys ∧
      (dwellTickAll lost stalled broken d).seq = (dwellTick lost stalled d).seq ∧
      (dwellTickAll lost stalled broken d).pts = (dwellTick lost stalled d).pts ∧
      (dwellTickAll lost stalled broken d).recv = (broken.foldl groupBroken (dwellTick lost stalled d)).recv := by
  unfold dwellTickAll
  extract_lets d0 d1
  have h1 : d1 = broken.foldl groupBroken d0 := if_pos (ticking_of_dwellDue h)
  have h2 (v : Facet) (hv : v ∉ [.saf, .ev]) :
      v.view (if dwellDue d && d.seq.dwellOpen then blockEnded false d1 else d1) = v.view (broken.foldl groupBroken d0) := by
    rw [h1]
    split
    · exact blockEnded_frame _ _ hv
    · rfl
  refine ⟨sys_of_view ?_, seq_of_view ?_, pts_of_view ?_, recv_of_view (h2 _ (by simp))⟩
  all_goals exact (h2 _ (by simp)).trans (by simp [d0])

/-- A dwell tick that begins the sweep's first dwell. -/
theorem dwellTickAll_first (lost : List Nat) (stalled : List (Nat × Nat)) (broken : List Nat) (h : dwellDue d = true)
    (ho : d.seq.dwellOpen = false) :
    (dwellTickAll lost stalled broken d).sys.now = d.sys.now ∧ (dwellTickAll lost stalled broken d).seq = { d.seq with
      dwellOpen := true, dwell := 0, shot := 0, dwellTime := d.seq.frameTime, dwellNo := wrapU 32 (d.seq.dwellNo + 1) } := by
  obtain ⟨hsys, hseq, -, -⟩ := dwellTickAll_spec lost stalled broken h
  obtain ⟨hsys', -, hseq'⟩ := dwellTick_first lost stalled h ho
  exact ⟨by rw [hsys, hsys'], hseq.trans hseq'⟩

/-- A dwell tick within the sweep. -/
theorem dwellTickAll_next (lost : List Nat) (stalled : List (Nat × Nat)) (broken : List Nat) (h : dwellDue d = true)
    (ho : d.seq.dwellOpen = true) :
    (dwellTickAll lost stalled broken d).sys.now = max d.sys.now (d.seq.dwellTime + dwellLen (dwellZone d)) ∧
      (dwellTickAll lost stalled broken d).seq = { d.seq with
        dwell := d.seq.dwell + 1, shot := 0, dwellTime := d.seq.dwellTime + dwellLen (dwellZone d),
        dwellNo := wrapU 32 (d.seq.dwellNo + 1) } := by
  obtain ⟨hsys, hseq, -, -⟩ := dwellTickAll_spec lost stalled broken h
  obtain ⟨hsys', -, hseq'⟩ := dwellTick_next lost stalled h ho
  exact ⟨by rw [hsys, hsys'], hseq.trans hseq'⟩

/-- Outside RUNNING a dwell tick hands nothing on to be reduced. -/
theorem dwellTickAll_reduce (lost : List Nat) (stalled : List (Nat × Nat)) (broken : List Nat) (h : dwellDue d = true)
    (hr : d.sys.op ≠ .running) : (dwellTickAll lost stalled broken d).pts.reduce = none := by
  obtain ⟨-, -, hpts, -⟩ := dwellTickAll_spec lost stalled broken h
  rw [hpts]
  cases ho : d.seq.dwellOpen with
  | false => exact (dwellTick_first lost stalled h ho).2.1
  | true => exact (dwellTick_next lost stalled h ho).2.1.trans (closeDwell_work d hr)

theorem dwellTickAll_slicePend (lost : List Nat) (stalled : List (Nat × Nat)) {broken : List Nat} (h : dwellDue d = true) {g : Nat}
    (hg : g ∈ broken) (hlt : g < 16) (hon : sliceOn d g = true) : (g / 4, 1) ∈ (dwellTickAll lost stalled broken d).recv.slicePend := by
  obtain ⟨-, -, -, hrecv⟩ := dwellTickAll_spec lost stalled broken h
  rw [hrecv]
  exact slicePend_of_broken hg hlt ((sliceOn_of_gated (gated_of_view (by simp)) g).trans hon)

theorem dwellTickAll_of_not_due (lost : List Nat) (stalled : List (Nat × Nat)) (h : dwellDue d = false) :
    dwellTickAll lost stalled [] d = d := by
  simp [dwellTickAll, dwellTick, h]

/-- The groups a dwell or flush tick may touch. -/
def dwellParts : List Part := [.sys, .seq, .recv, .tim, .histo, .pts, .emi, .saf, .slu, .peat, .pcie, .kmp, .ev, .writes, .out]

theorem dwellTickAll_only (lost : List Nat) (stalled : List (Nat × Nat)) (broken : List Nat) :
    Only dwellParts d (dwellTickAll lost stalled broken d) := by
  refine only_of_views fun p hp => dwellTickAll_frame d lost stalled broken ?_
  cases p <;> simp [dwellParts] at hp ⊢

theorem flushTickAll_only (stalled : List (Nat × Nat)) : Only dwellParts d (flushTickAll stalled d) := by
  refine only_of_views fun p hp => flushTickAll_frame d stalled ?_
  cases p <;> simp [dwellParts] at hp ⊢

/-! ### Flush ticks -/

/-- The first flush tick is due. -/
def flushFirst (d : Dev) : Prop := d.seq.phase = .sweep ∧ d.seq.dwellOpen = true ∧ planColumns d.seq.plan ≤ d.seq.dwell + 1

/-- The second flush tick is due. -/
def flushSecond (d : Dev) : Prop := d.seq.phase = .turnaround ∧ d.seq.flushes = 1

theorem flushTick_first (stalled : List (Nat × Nat)) (ht : ticking d = true) (h : flushFirst d) :
    (flushTick stalled d).sys = { d.sys with now := max d.sys.now (d.seq.dwellTime + dwellLen (dwellZone d)) } ∧
      (flushTick stalled d).seq = { d.seq with
        phase := .turnaround, dwellOpen := false, dwellTime := d.seq.dwellTime + dwellLen (dwellZone d), flushes := 1, shot := 0 } ∧
      (flushTick stalled d).recv.window = none ∧ (flushTick stalled d).pts.reduce = (closeDwell d).2 := by
  obtain ⟨hp, ho, hn⟩ := h
  simp [flushTick, ht, hp, ho, hn]

theorem headQueue_reduce (q : Nat) (d : Dev) : (headQueue q d).pts.reduce = d.pts.reduce := by
  unfold headQueue
  split
  · rfl
  · rw [pts_of_view (d := modPts (fun p => { p with headed := q :: p.headed }) d) (by simp)]
    rfl

theorem headEmpty_reduce (d : Dev) : (headEmpty d).pts.reduce = d.pts.reduce := by
  unfold headEmpty
  generalize subQueues (fun q => !statsQueue q) d = queues
  induction queues generalizing d with
  | nil => rfl
  | cons q qs ih => exact (ih (headQueue q d)).trans (headQueue_reduce q d)

theorem flushTick_second (stalled : List (Nat × Nat)) (ht : ticking d = true) (h : flushSecond d) :
    (flushTick stalled d).sys = { d.sys with now := max d.sys.now (d.seq.dwellTime + dwellLen (dwellZone d)) } ∧
      (flushTick stalled d).seq = { d.seq with dwellTime := d.seq.dwellTime + dwellLen (dwellZone d), flushes := 2 } ∧
      (flushTick stalled d).recv = d.recv ∧ (flushTick stalled d).pts.reduce = none := by
  obtain ⟨hp, hf⟩ := h
  have hsys (d : Dev) : (headEmpty d).sys = d.sys := sys_of_view (by simp)
  have hseq (d : Dev) : (headEmpty d).seq = d.seq := seq_of_view (by simp)
  have hrecv (d : Dev) : (headEmpty d).recv = d.recv := recv_of_view (by simp)
  simp [flushTick, ht, hp, hf, apply_ite Dev.sys, apply_ite Dev.seq, apply_ite Dev.recv, apply_ite Dev.pts, apply_ite Pts.reduce,
    hsys, hseq, hrecv, headEmpty_reduce]

theorem flushTick_out_of_place (stalled : List (Nat × Nat)) (h : ticking d = true → ¬ flushFirst d ∧ ¬ flushSecond d) :
    flushTick stalled d = d := by
  unfold flushTick
  extract_lets z
  split
  · rfl
  · next ht =>
    obtain ⟨h1, h2⟩ := h (by simpa using ht)
    rw [if_neg (by simpa [flushFirst, and_assoc] using h1), if_neg (by simpa [flushSecond] using h2)]

/-- What a flush tick leaves: the work handed on is judged, and a self-test is due at the turnaround's begin. -/
theorem flushTickAll_same (stalled : List (Nat × Nat)) :
    (flushTickAll stalled d).sys = (flushTick stalled d).sys ∧ (flushTickAll stalled d).seq = (flushTick stalled d).seq ∧
      (flushTickAll stalled d).pts = (flushTick stalled d).pts ∧ (flushTickAll stalled d).recv = (flushTick stalled d).recv := by
  have hv (v : Facet) (h : v ∉ [.emi, .saf, .ev]) : v.view (flushTickAll stalled d) = v.view (flushTick stalled d) := by
    simp at h
    unfold flushTickAll
    simp [h]
  exact ⟨sys_of_view (hv _ (by simp)), seq_of_view (hv _ (by simp)), pts_of_view (hv _ (by simp)), recv_of_view (hv _ (by simp))⟩

theorem flushTickAll_out_of_place (stalled : List (Nat × Nat)) (h : ticking d = true → ¬ flushFirst d ∧ ¬ flushSecond d) :
    flushTickAll stalled d = d := by
  unfold flushTickAll
  extract_lets d1
  have h1 : d1 = d := flushTick_out_of_place stalled h
  rw [h1, if_neg]
  simp +contextual

/-! ### The obligation -/

variable {s : State}

theorem dwellTick_completes (hc : Calm s.dev) (lost : List Nat) (stalled : List (Nat × Nat)) (broken : List Nat) :
    Completes (.dwellTick lost stalled broken) s (dwellTickAll lost stalled broken s.fresh) :=
  completes_of_views rfl rfl hc (by simp) (by simp) (by simp)

theorem flushTick_completes (hc : Calm s.dev) (stalled : List (Nat × Nat)) :
    Completes (.flushTick stalled) s (flushTickAll stalled s.fresh) :=
  completes_of_views rfl rfl hc (by simp) (by simp) (by simp)

theorem windowBias_completes (hc : Calm s.dev) {d : Dev} (hd : windowBias s.fresh = d) : Completes .windowBias s d :=
  completes_of_views rfl hd hc (by simp [← hd]) (by simp [← hd]) (by simp [← hd])

/-- The window powered for a dwell. -/
def windowSet (w : Option Window) (d : Dev) : Dev := modRecv (fun r => { r with window := w }) d

theorem windowBias_next (ht : ticking d = true) (hp : d.seq.phase = .sweep) (hn : d.seq.dwell + 1 < planColumns d.seq.plan)
    (ho : d.seq.dwellOpen = true) : windowBias d = windowSet (some ⟨colOfDwell d.seq.plan d.seq.frame (d.seq.dwell + 1)⟩) d := by
  simp [windowBias, ht, hp, hn, ho, windowSet]

theorem windowBias_first (ht : ticking d = true) (hp : d.seq.phase = .sweep) (hn : d.seq.dwell + 1 < planColumns d.seq.plan)
    (ho : d.seq.dwellOpen = false) : windowBias d = windowSet (some ⟨colOfDwell d.seq.plan d.seq.frame 0⟩) d := by
  simp [windowBias, ht, hp, hn, ho, windowSet]

theorem windowBias_last (ht : ticking d = true) (hp : d.seq.phase = .sweep) (hn : planColumns d.seq.plan ≤ d.seq.dwell + 1) :
    windowBias d = windowSet none d := by
  simp [windowBias, ht, hp, Nat.not_lt.2 hn, windowSet]

theorem windowBias_turnaround (ht : ticking d = true) (hp : d.seq.phase = .turnaround) :
    windowBias d = windowSet (some ⟨colOfDwell (planAfter d) (wrapU 32 (d.seq.frame + 1)) 0⟩) d := by
  simp [windowBias, ht, hp, windowSet]

theorem windowBias_idle (ht : ticking d = true) (hp : d.seq.phase = .idle) :
    windowBias d = windowSet (some ⟨colOfDwell (planAfter d) 0 0⟩) d := by
  simp [windowBias, ht, hp, windowSet]

theorem not_flush_of_place (h : ticking d = false ∨ (d.seq.phase = .sweep ∧ d.seq.dwellOpen = false) ∨
    (d.seq.phase = .sweep ∧ d.seq.dwell + 1 < planColumns d.seq.plan) ∨ (d.seq.phase = .turnaround ∧ d.seq.flushes ≠ 1) ∨
    d.seq.phase = .idle) (ht : ticking d = true) : ¬ flushFirst d ∧ ¬ flushSecond d := by
  rcases h with h | ⟨hp, ho⟩ | ⟨hp, hn⟩ | ⟨hp, hf⟩ | hp
  · simp [h] at ht
  · simp [flushFirst, flushSecond, hp, ho]
  · simp [flushFirst, flushSecond, hp, hn]
  · simp [flushFirst, flushSecond, hp, hf]
  · simp [flushFirst, flushSecond, hp]

/-- Settles O46: the frames of a tick's parts leave `sys` and `seq` as its own update sets them, and bound the groups it touches. -/
theorem dwellsFollowThePlan : Obligations.DwellsFollowThePlan := by
  intro s hc q next touched window
  refine ⟨fun lost stalled broken hd => ?_, fun lost stalled hd => ?_, fun stalled ht hp ho hn => ?_, fun stalled ht hp hf => ?_,
    fun stalled h => ?_, fun ht => ⟨fun hp hn ho => ?_, fun hp hn ho => ?_, fun hp hn => ?_, fun hp => ?_, fun hp => ?_⟩⟩
  · have hd' : dwellDue s.fresh = true := hd
    exact ⟨dwellTickAll lost stalled broken s.fresh, dwellTick_completes hc lost stalled broken,
      dwellTickAll_first (d := s.fresh) lost stalled broken hd', dwellTickAll_next (d := s.fresh) lost stalled broken hd',
      dwellTickAll_reduce (d := s.fresh) lost stalled broken hd',
      fun g hg hlt hon => dwellTickAll_slicePend (d := s.fresh) lost stalled hd' hg hlt hon, dwellTickAll_only lost stalled broken⟩
  · exact dwellTickAll_of_not_due (d := s.fresh) lost stalled hd ▸ dwellTick_completes hc lost stalled []
  · obtain ⟨hsys, hseq, hpts, hrecv⟩ := flushTickAll_same (d := s.fresh) stalled
    obtain ⟨hsys', hseq', hwindow, hreduce⟩ := flushTick_first (d := s.fresh) stalled ht ⟨hp, ho, hn⟩
    exact ⟨flushTickAll stalled s.fresh, flushTick_completes hc stalled, by rw [hsys, hsys']; rfl, by rw [hrecv, hwindow],
      hseq.trans hseq', fun hr => by rw [hpts, hreduce, closeDwell_work s.fresh hr], flushTickAll_only stalled⟩
  · obtain ⟨hsys, hseq, hpts, hrecv⟩ := flushTickAll_same (d := s.fresh) stalled
    obtain ⟨hsys', hseq', hrecv', hreduce⟩ := flushTick_second (d := s.fresh) stalled ht ⟨hp, hf⟩
    exact ⟨flushTickAll stalled s.fresh, flushTick_completes hc stalled, by rw [hsys, hsys']; rfl, hseq.trans hseq',
      by rw [hpts, hreduce], hrecv.trans hrecv', flushTickAll_only stalled⟩
  · exact flushTickAll_out_of_place (d := s.fresh) stalled (not_flush_of_place h) ▸ flushTick_completes hc stalled
  · exact windowBias_completes hc (windowBias_next (d := s.fresh) ht hp hn ho)
  · exact windowBias_completes hc (windowBias_first (d := s.fresh) ht hp hn ho)
  · exact windowBias_completes hc (windowBias_last (d := s.fresh) ht hp hn)
  · exact windowBias_completes hc (windowBias_turnaround (d := s.fresh) ht hp)
  · exact windowBias_completes hc (windowBias_idle (d := s.fresh) ht hp)

end Sys2Proof.Laws
end

section
/-!
Supplies, timeouts and scrubs that do not halt (R31, R284, R285, R470, R473).
-/
namespace Sys2Proof.Laws

open Sys2Proof.Machine

variable {s : State}

/-! ### A supply out of range -/

theorem deEnergise_energised (m n : Nat) (d : Dev) :
    (safeOut (deEnergise m d) n).energised = if m = n then false else (safeOut d n).energised := by
  have hsaf : (deEnergise m d).saf = (modOut m (fun o => { o with energised := false }) d).saf := by
    unfold deEnergise
    extract_lets was d1
    split
    · exact raise_saf _ _ _ d1
    · rfl
  rw [safeOut, hsaf, safeOut, modOut, modSaf_saf, listMod, List.getD_eq_getElem?_getD, List.getD_eq_getElem?_getD, List.getElem?_modify]
  cases d.saf.outs[n]? with
  | none => by_cases h : m = n <;> simp [h, SafeOut.reset]
  | some o => by_cases h : m = n <;> simp [h]

theorem deEnergiseAll_energised (d : Dev) {n : Nat} (hn : n < 2) : (safeOut (deEnergiseAll d) n).energised = false := by
  rw [deEnergiseAll, deEnergise_energised, deEnergise_energised]
  split_ifs
  · rfl
  · rfl
  · omega

/-- BIND_OFF of an operating device: rail open under the inhibit, outputs off, session and queues gone. -/
theorem enterBindOff_spec {d : Dev} (ht : ticking d = true) :
    (enterBindOff d).sys.op = .bindOff ∧ (enterBindOff d).saf.railClosed = false ∧ (enterBindOff d).emi.inhibit = true ∧
      (enterBindOff d).kmp.session = none ∧ (enterBindOff d).slu.queues = [] ∧
      ∀ n, n < 2 → (safeOut (enterBindOff d) n).energised = false := by
  unfold enterBindOff
  rw [if_neg (by simp [ht])]
  extract_lets d1 d2 d3 d4 d5 d6
  refine ⟨?_, ?_, ?_, ?_, ?_, fun n hn => ?_⟩
  · exact op_of_view (d := d5) (by simp [d6])
  · have h4 : d4.saf.railClosed = (openRail d1).saf.railClosed := railClosed_of_view (by simp [d2, d3, d4])
    have h6 : (loopsOff (rampFrom (lastData d6))).saf.railClosed = d5.saf.railClosed := railClosed_of_view (by simp [d6])
    exact h6.trans h4
  · exact inhibit_of_view (d := openRail d1) (by simp [d6, d5, d4, d3, d2])
  · rw [session_of_view (d := d2) (by simp [d6, d5, d4, d3])]
    exact endSession_session 2 _
  · exact queues_of_view (d := d6) (by simp)
  · have ho : (loopsOff (rampFrom (lastData d6))).saf.outs = (deEnergiseAll (openRail d1)).saf.outs :=
      outs_of_view (by simp [d6, d5, d4, d3, d2])
    rw [safeOut, ho]
    exact deEnergiseAll_energised _ hn

theorem supplyOut_of_ticking (vin : Bool) {d : Dev} (ht : ticking d = true) (hr : d.sys.inReset = false) :
    supplyOut vin d = enterBindOff (raise 3 0 [] (modSys (fun y => { y with vinOk := y.vinOk && !vin }) d)) := by
  have ho : d.sys.op ≠ .castOn := by rcases op_of_ticking ht with h | h | h | h <;> simp [h]
  simp [supplyOut, hr, ho]

/-- The groups that a bind-off may touch. -/
def bindOffParts : List Part := [.sys, .pts, .emi, .scan, .loops, .saf, .hst, .slu, .peat, .pcie, .kmp, .ev, .writes, .out]

theorem supplyOut_only (vin : Bool) {d : Dev} (ht : ticking d = true) (hr : d.sys.inReset = false) :
    Only bindOffParts d (supplyOut vin d) := by
  rw [supplyOut_of_ticking vin ht hr]
  refine only_of_views fun p hp => ?_
  cases p <;> simp [bindOffParts] at hp ⊢

theorem supplyOut_completes (hc : Calm s.dev) (vin : Bool) (ht : ticking s.dev = true) (hr : s.dev.sys.inReset = false) :
    ∃ d, Completes (.supplyOutOfRange vin) s d ∧ d.sys.op = .bindOff ∧ d.saf.railClosed = false ∧ d.emi.inhibit = true ∧
      d.kmp.session = none ∧ d.slu.queues = [] ∧ (∀ n, n < 2 → (safeOut d n).energised = false) ∧ Only bindOffParts s.fresh d := by
  have he := supplyOut_of_ticking (d := s.fresh) vin ht hr
  have ht' : ticking (raise 3 0 [] (modSys (fun y => { y with vinOk := y.vinOk && !vin }) s.fresh)) = true :=
    (ticking_of_op (d := s.fresh) (by simp)).trans ht
  obtain ⟨hop, hrail, hinh, hses, hq, hout⟩ := enterBindOff_spec ht'
  rw [← he] at hop hrail hinh hses hq hout
  have hcalm : Calm (supplyOut vin s.fresh) :=
    ⟨(awaited_of_view (d := s.fresh) (by simp)).trans hc.1, fun hh => absurd (hop.symm.trans hh) (by decide)⟩
  exact ⟨supplyOut vin s.fresh, completes_of _ (supplyOut vin) s rfl hcalm, hop, hrail, hinh, hses, hq, hout,
    supplyOut_only (d := s.fresh) vin ht hr⟩

/-! ### An ARM without lock -/

theorem armTimeout_completes (hc : Calm s.dev) {c : Cmd} (h : findRunning s.dev 0x0103 = some c) :
    Completes .armLockTimeout s (finishRunning c stHwFault [] (advanceTuss (c.t + 2000000000) s.fresh)) := by
  have h' : findRunning s.fresh 0x0103 = some c := h
  exact completes_of_views (f := armTimeout) rfl (by simp [armTimeout, h']) hc (by simp) (by simp) (by simp)

/-! ### Hook A -/

/-- The record of a Hook A job at its end. -/
def hookEnded (status check corrected : Nat) (d : Dev) : HookRec := { d.hst.hook with
  status := status, check := check, corrected := satU 16 corrected, tEnd := d.sys.now, run := none }

theorem hookEnd_eq {d : Dev} {r : Nat × Nat} {c : Cmd} (hr : d.hst.hook.run = some r) (hc : findTag d r.1 r.2 = some c)
    (status check corrected : Nat) (hs : status ≠ stAborted) :
    hookEnd status check corrected d = finishRunning c status (hookBytes (hookEnded status check corrected d))
      (modHst (fun x => { x with hook := hookEnded status check corrected d }) d) := by
  have hc' (f : Hst → Hst) : findTag (modHst f d) r.1 r.2 = some c := hc
  simp [hookEnd, hr, hc', hs, hookEnded]

theorem hookComplete_completes (hc : Calm s.dev) (corrected : Nat) (bad : Bool) (data : Bytes) {d : Dev}
    (h : hookComplete corrected bad data s.fresh = d) : Completes (.hookAJobComplete corrected bad data) s d :=
  completes_of_views rfl h hc (by simp [← h]) (by simp [← h]) (by simp [← h])

/-- An uncorrectable error, or a bad word among those read, ends the job HW_FAULT. -/
theorem hookComplete_faulty {d : Dev} {r : Nat × Nat} {c : Cmd} (hr : d.hst.hook.run = some r) (hc : findTag d r.1 r.2 = some c)
    (corrected : Nat) (bad : Bool) (data : Bytes) (h : bad = true ∨ hookBadWord d d.hst.hook.addr d.hst.hook.length = true) :
    hookComplete corrected bad data d = finishRunning c stHwFault (hookBytes (hookEnded stHwFault d.hst.hook.check corrected d))
      (modHst (fun x => { x with hook := hookEnded stHwFault d.hst.hook.check corrected d }) d) := by
  rw [← hookEnd_eq hr hc stHwFault _ corrected (by decide)]
  simp [hookComplete, h]

/-- Else the job ends OK with the check of the bytes read. -/
theorem hookComplete_ok {d : Dev} {r : Nat × Nat} {c : Cmd} (hr : d.hst.hook.run = some r) (hc : findTag d r.1 r.2 = some c)
    (corrected : Nat) (data : Bytes) (h : hookBadWord d d.hst.hook.addr d.hst.hook.length = false)
    (hl : data.length = d.hst.hook.length) :
    let check := hookCheck d.hst.hook.a d.hst.hook.s (hookReads d d.hst.hook.addr data)
    hookComplete corrected false data d = finishRunning c stOk (hookBytes (hookEnded stOk check corrected d))
      (modHst (fun x => { x with hook := hookEnded stOk check corrected d }) d) := by
  intro check
  rw [← hookEnd_eq hr hc stOk check corrected (by decide)]
  simp [hookComplete, h, hl, check]

/-! ### Scrubs -/

/-- A corrected word is counted. -/
def eccCounted (d : Dev) : Dev := modEv (fun e => { e with eccCorrected := incSat 32 e.eccCorrected }) d

/-- A round of Tussock's scrub is counted at its last block. -/
def tussockRound (block : Nat) (d : Dev) : Dev :=
  if block = 127 then modEv (fun e => { e with tussockRounds := incSat 32 e.tussockRounds }) d else d

@[simp] theorem eccCounted_frame {v : Facet} (d : Dev) (h : v ∉ [.ev]) : v.view (eccCounted d) = v.view d := by
  simp at h
  simp [eccCounted, h]

@[simp] theorem tussockRound_frame {v : Facet} (block : Nat) (d : Dev) (h : v ∉ [.ev]) : v.view (tussockRound block d) = v.view d := by
  simp at h
  simp [tussockRound, h]

theorem scrubFirmware_equal {d : Dev} (hf : d.sys.firmware = true) (ho : d.sys.op ≠ .halted) {block readAt : Nat}
    {flips : List (Nat × Nat)} (h : hookDiffers (4096 * block) (4096 * readAt) d.sec.app.version 4096 flips 0 = false) (last : Bool) :
    scrubFirmware last block readAt flips d =
      if last then modEv (fun e => { e with fwRounds := incSat 32 e.fwRounds }) d else d := by
  simp [scrubFirmware, hf, ho, h]

theorem scrubTussock_equal {d : Dev} (ho : d.sys.op ≠ .halted) (hr : d.sys.inReset = false) {block readAt : Nat}
    {flips : List (Nat × Nat)} (h : scrubHasRef d block = false ∨ hookDiffers (4096 * block) (4096 * readAt) 0 4096 flips 0 = false)
    (corrected : Bool) : scrubTussock block readAt flips corrected false d =
      tussockRound block (if corrected then raise 516 0 [] (eccCounted d) else d) := by
  have h' : (scrubHasRef d block && hookDiffers (4096 * block) (4096 * readAt) 0 4096 flips 0) = false := by
    rcases h with h | h <;> simp [h]
  simp [scrubTussock, ho, hr, h', tussockRound, eccCounted]

theorem scrubTussock_completes (hc : Calm s.dev) (hw : hookBWaits s.dev = false) {block readAt : Nat} {flips : List (Nat × Nat)}
    {corrected : Bool} {d : Dev} (h : scrubTussock block readAt flips corrected false s.fresh = tussockRound block d)
    (hd : ∀ v : Facet, v ∉ [.ev] → v.view d = v.view s.fresh) :
    Completes (.tussockScrubBlock block readAt flips corrected false) s (tussockRound block d) := by
  have hw' : hookBWaits s.fresh = false := hw
  exact completes_of_views (f := afterHookB (scrubTussock block readAt flips corrected false)) rfl
    ((if_neg (by simp [hw'])).trans h) hc (by simp [hd]) (by simp [hd]) (by simp [hd])

theorem patrolScrub_corrected {d : Dev} (ht : ticking d = true) {region : Nat} (hr : region < 3) (addr : Nat) :
    patrolScrub region addr true d = raise 14 0 (le 1 region ++ le 4 addr) (eccCounted d) := by
  simp [patrolScrub, ht, Nat.not_le.2 hr, eccCounted]

theorem patrolScrub_completes (hc : Calm s.dev) {region addr : Nat} {correctable : Bool} {d : Dev}
    (h : patrolScrub region addr correctable s.fresh = d) (hd : ∀ v : Facet, v ∉ [.peat, .ev] → v.view d = v.view s.fresh) :
    Completes (.patrolScrub region addr correctable) s d :=
  completes_of_views rfl h hc (hd _ (by simp)) (hd _ (by simp)) (hd _ (by simp))

/-- An uncorrectable word of the Peat store is marked. -/
theorem patrolScrub_store {d : Dev} (ht : ticking d = true) {addr : Nat} (ha : addr ∉ d.peat.badWords) :
    patrolScrub 2 addr false d =
      modPeat (fun p => { p with badWords := p.badWords ++ [addr] }) (raise 14 1 (le 1 2 ++ le 4 addr) d) := by
  have hp : (raise 14 1 (le 1 2 ++ le 4 addr) d).peat = d.peat := peat_of_view (by simp)
  simp [patrolScrub, ht, modPeat, hp, ha]

/-- An uncorrectable word of the egress buffer where no unit lies is reported alone. -/
theorem patrolScrub_buffer {d : Dev} (ht : ticking d = true) {addr : Nat} (hu : unitAt d addr = none) :
    patrolScrub 1 addr false d = raise 14 1 (le 1 1 ++ le 4 addr) d := by
  have hs : (raise 14 1 (le 1 1 ++ le 4 addr) d).slu = d.slu := slu_of_view (by simp)
  have hu' : unitAt (raise 14 1 (le 1 1 ++ le 4 addr) d) addr = none := by rwa [unitAt, hs]
  simp [patrolScrub, ht, hu']

/-- Settles O44: the effect of each command, reduced to the branch that its premises name, is what the record asks for. -/
theorem scrubsAndTimeoutsAreRecorded : Obligations.ScrubsAndTimeoutsAreRecorded := by
  intro s hc job ended counted
  refine ⟨fun vin ht hr => supplyOut_completes hc vin ht hr, fun c h => armTimeout_completes hc h, ?_, ?_, ?_, ?_, ?_, ?_⟩
  · intro r c corrected data hr hf h faulty
    exact ⟨hookComplete_completes hc _ _ _ (hookComplete_faulty (d := s.fresh) hr hf corrected true data (.inl rfl)),
      fun hb => hookComplete_completes hc _ _ _ (hookComplete_faulty (d := s.fresh) hr hf corrected false data (.inr hb)),
      fun hb hl => hookComplete_completes hc _ _ _ (hookComplete_ok (d := s.fresh) hr hf corrected data hb hl)⟩
  · intro block readAt flips hf ho hd
    exact ⟨completes_of_views rfl (scrubFirmware_equal (d := s.fresh) hf ho hd true) hc (by simp) (by simp) (by simp),
      completes_of_views rfl (scrubFirmware_equal (d := s.fresh) hf ho hd false) hc (by simp) (by simp) (by simp)⟩
  · intro block readAt flips ho hr hw hd round
    refine ⟨scrubTussock_completes hc hw (scrubTussock_equal (d := s.fresh) ho hr hd false) fun v _ => rfl,
      scrubTussock_completes hc hw (scrubTussock_equal (d := s.fresh) ho hr hd true) fun v hv => ?_⟩
    simp at hv
    simp [counted, hv]
  · intro region addr ht hr
    refine patrolScrub_completes hc (patrolScrub_corrected (d := s.fresh) ht hr addr) fun v hv => ?_
    simp at hv
    simp [counted, hv]
  · intro addr ht ha
    refine patrolScrub_completes hc (patrolScrub_store (d := s.fresh) ht ha) fun v hv => ?_
    simp at hv
    simp [hv]
  · intro addr ht hu
    refine patrolScrub_completes hc (patrolScrub_buffer (d := s.fresh) ht hu) fun v hv => ?_
    simp at hv
    simp [hv]

end Sys2Proof.Laws
end

section
/-!
The frame tick (R23, R24, R28, R31): what ends with a frame, what begins, and what is latched at the tick.
-/
namespace Sys2Proof.Laws

open Sys2Proof.Machine

/-! ### The end of a frame -/

/-- What is latched at the end of a frame (R28): the counters of the frame that ends and its number, with the running counters anew. -/
def Latched (d e : Dev) : Prop :=
  e.histo.latched = d.histo.lanes ∧ e.histo.latchedFrame = d.seq.frame ∧ e.histo.latchedShots = d.histo.shots ∧
    e.histo.lanes = [] ∧ e.histo.banks = [] ∧ e.histo.shots = 0 ∧ e.emi.latched = d.emi.stats ∧ e.emi.latchedFrame = d.seq.frame ∧
    e.slu.latchedFrame = d.seq.frame

theorem latched_view (d e : Dev) : Latched d (Facet.latches.view e) ↔ Latched d e := Iff.rfl

theorem Latched.of_view {d e f : Dev} (h : Latched d e) (hv : Facet.latches.view f = Facet.latches.view e) : Latched d f :=
  (latched_view d f).1 (hv ▸ (latched_view d e).2 h)

theorem running_of_latches {d e : Dev} (h : Facet.latches.view e = Facet.latches.view d) :
    e.histo.lanes = d.histo.lanes ∧ e.histo.shots = d.histo.shots :=
  ⟨(congrArg (fun x : Dev => x.histo.lanes) h :), (congrArg (fun x : Dev => x.histo.shots) h :)⟩

theorem latchFrame_latched (d : Dev) : Latched d (latchFrame d) := by
  refine ⟨rfl, rfl, rfl, rfl, rfl, rfl, ?_, ?_, ?_⟩
  all_goals simp [latchFrame, scanLatch, notePeak]

theorem endFrame_latched (d : Dev) : Latched d (endFrame d) := by
  have hl : Facet.latches.view (latchCals (judgeSaturated d)) = Facet.latches.view d := by simp
  obtain ⟨hlanes, hshots⟩ := running_of_latches hl
  have hemi : (latchCals (judgeSaturated d)).emi = d.emi := emi_of_view (by simp)
  have hseq : (latchCals (judgeSaturated d)).seq = d.seq := seq_of_view (by simp)
  have h := latchFrame_latched (latchCals (judgeSaturated d))
  rw [Latched, hlanes, hshots, hemi, hseq] at h
  exact Latched.of_view (d := d) h (by simp [endFrame])

/-! ### The frame that begins -/

/-- The number of the frame that begins at a tick. -/
def nextNo (d : Dev) : Nat := if d.seq.started then wrapU 32 (d.seq.frame + 1) else 0

/-- The device at a frame tick, its counters latched and the frame begun. -/
def frameBegun (d : Dev) : Dev := newFrame (if d.seq.started then endFrame (advanceTo d.seq.nextFrame d) else d)

theorem frameTickAll_of_ticking {d : Dev} (h : ticking d = true) : frameTickAll d = frameWork (latchSettings (frameBegun d)) := by
  simp [frameTickAll, h, frameBegun]

/-- The place in the frame at its beginning. -/
def PlaceBegun (d e : Dev) : Prop :=
  e.seq.started = true ∧ e.seq.frame = nextNo d ∧ e.seq.frameTime = d.seq.nextFrame ∧ e.seq.phase = .sweep ∧ e.seq.dwell = 0 ∧
    e.seq.dwellOpen = false ∧ e.seq.shot = 0 ∧ e.seq.flushes = 0

theorem placeBegun_view (d e : Dev) : PlaceBegun d (Facet.place.view e) ↔ PlaceBegun d e := Iff.rfl

theorem newFrame_place (d : Dev) : PlaceBegun d (newFrame d) := ⟨rfl, rfl, rfl, rfl, rfl, rfl, rfl, rfl⟩

theorem frameBegun_place (d : Dev) : PlaceBegun d (frameBegun d) := by
  have h := newFrame_place (if d.seq.started then endFrame (advanceTo d.seq.nextFrame d) else d)
  have hseq : (if d.seq.started then endFrame (advanceTo d.seq.nextFrame d) else d).seq = d.seq := seq_of_view (by simp)
  rwa [PlaceBegun, nextNo, hseq] at h

theorem newFrame_sys (d : Dev) : (newFrame d).sys = { d.sys with now := max d.sys.now d.seq.nextFrame, boot := 0x80 } := rfl

theorem frameBegun_sys (d : Dev) : (frameBegun d).sys = { d.sys with now := max d.sys.now d.seq.nextFrame, boot := 0x80 } := by
  unfold frameBegun
  split
  · have hsys : (endFrame (advanceTo d.seq.nextFrame d)).sys = (advanceTo d.seq.nextFrame d).sys := sys_of_view (by simp)
    have hseq : (endFrame (advanceTo d.seq.nextFrame d)).seq = (advanceTo d.seq.nextFrame d).seq := seq_of_view (by simp)
    rw [newFrame_sys, hsys, hseq]
    simp [advanceTo]
  · exact newFrame_sys d

theorem frameBegun_latched {d : Dev} (h : d.seq.started = true) : Latched d (frameBegun d) := by
  rw [frameBegun, if_pos h]
  exact Latched.of_view (endFrame_latched (advanceTo d.seq.nextFrame d)) (by simp)

/-! ### What is latched at the tick -/

/-- The tables in shadow, put in force with the frame's number. -/
def swapTables (n : Nat) (tables shadow : Tab GaugeRec) : Tab GaugeRec := shadow.foldl (fun t e =>
  let old := tabGet GaugeRec.none t e.1
  tabPut e.1 { e.2 with frame := n, starved := old.starved, failBound := old.failBound } t) tables

theorem swapTables_kept {n k : Nat} (shadow : Tab GaugeRec) {tables : Tab GaugeRec} (h : (tabGet GaugeRec.none tables k).frame = n) :
    (tabGet GaugeRec.none (swapTables n tables shadow) k).frame = n := by
  induction shadow generalizing tables with
  | nil => exact h
  | cons e es ih =>
    refine ih ?_
    rw [tabGet_tabPut]
    split
    · rfl
    · exact h

theorem swapTables_frame (n : Nat) (shadow tables : Tab GaugeRec) :
    ∀ e ∈ shadow, (tabGet GaugeRec.none (swapTables n tables shadow) e.1).frame = n := by
  induction shadow generalizing tables with
  | nil => simp
  | cons e es ih =>
    intro x hx
    rcases List.mem_cons.1 hx with rfl | hes
    · exact swapTables_kept es (by rw [tabGet_tabPut, if_pos rfl])
    · exact ih _ x hes

theorem gaugeSwap_tables (d : Dev) : (gaugeSwap d).gauge.tables = swapTables d.seq.frame d.gauge.tables d.gauge.shadow := rfl

theorem applyDue_pending (d : Dev) : (applyDue d).prm.pending = d.prm.pending.filter (fun p => p.frame != d.seq.frame) := by
  unfold applyDue
  extract_lets due
  rw [pending_of_view (d := modPrm (fun p => { p with pending := p.pending.filter (fun q => q.frame != d.seq.frame) }) d) (by simp)]
  rfl

/-- What the settings latched at a tick leave. -/
theorem latchSettings_spec (d : Dev) :
    (latchSettings d).gauge.shadow = [] ∧ (latchSettings d).gauge.closed = false ∧
      (∀ e ∈ d.gauge.shadow, (gaugeOf (latchSettings d) e.1).frame = d.seq.frame) ∧
      (latchSettings d).prm.pending = d.prm.pending.filter (fun p => p.frame != d.seq.frame) := by
  unfold latchSettings
  set r := applyMasks (repairLanes (repairSegments d)) with hr
  have hg : r.gauge = d.gauge := gauge_of_view (by simp [hr])
  have hs : r.seq = d.seq := seq_of_view (by simp [hr])
  have hp : (gaugeSwap r).prm = d.prm := prm_of_view (by simp [hr])
  have hq : (gaugeSwap r).seq = d.seq := seq_of_view (by simp [hr])
  have he : (mapUpdate (autoApply (applyCode (endHeld (applyDue (gaugeSwap r)))))).gauge = (gaugeSwap r).gauge :=
    gauge_of_view (by simp)
  refine ⟨?_, ?_, fun e hm => ?_, ?_⟩
  · rw [he]; rfl
  · rw [he]; rfl
  · rw [gaugeOf, he, gaugeSwap_tables, hg, hs]
    exact swapTables_frame _ _ _ e hm
  · rw [pending_of_view (d := applyDue (gaugeSwap r)) (by simp), applyDue_pending, hp, hq]

/-! ### The work at the tick -/

theorem alignCorrection_off {d : Dev} (h : prmGet d 0x0501 = 0) : alignCorrection d = 0 := by
  simp [alignCorrection, h]

theorem alignFrame_seq (d : Dev) : (alignFrame d).seq = { d.seq with
    nextFrame := ((d.seq.frameTime : Int) + d.seq.plan.period + alignCorrection d).toNat } := by
  unfold alignFrame
  extract_lets en e lock c d1 d2
  have hr (k : Nat) : (raise 13 k [] d2).seq = d2.seq := seq_of_view (by simp)
  rw [apply_ite Dev.seq, apply_ite Dev.seq, hr, hr, ite_self, ite_self]
  rfl

/-- The work at the tick after the alignment leaves the sequencer. -/
theorem frameWork_of_align (d : Dev) {v : Facet} (h : v ∉ [.sys, .pts, .emi, .scan, .loops, .saf, .slu, .peat, .pcie, .trig, .kmp,
    .diag, .ev, .writes, .out, .rail, .inhibit]) : v.view (frameWork d) = v.view (alignFrame d) := by
  simp at h
  simp [frameWork, h]

theorem frameWork_nextFrame {d : Dev} (h : prmGet (frameWork d) 0x0501 = 0) :
    (frameWork d).seq.nextFrame = (frameWork d).seq.frameTime + (frameWork d).seq.plan.period := by
  have hseq : (frameWork d).seq = (alignFrame d).seq := seq_of_view (frameWork_of_align d (by simp))
  have hprm (id : Nat) : prmGet (frameWork d) id = prmGet d id := by
    rw [prmGet, prmGet, prm_of_view (d := d) (frameWork_frame d (by simp))]
  have h0 : alignCorrection d = 0 := alignCorrection_off ((hprm _).symm.trans h)
  rw [hseq, alignFrame_seq, h0]
  simp
  omega

/-! ### State commands at the tick -/

section Commands

variable {d : Dev}

theorem stateFrame_start (h : findRunning d 0x0104 ≠ none) : (stateFrame d).sys.op = .running := by
  obtain ⟨c, hc⟩ := Option.ne_none_iff_exists'.1 h
  simp only [stateFrame, hc]
  exact (op_of_view (d := toState .running d) (by simp)).trans (toState_op d .running)

theorem stateFrame_stop (h : findRunning d 0x0104 = none) (h' : findRunning d 0x0105 ≠ none) :
    (stateFrame d).sys.op = .armed ∧ (stateFrame d).saf = d.saf := by
  obtain ⟨c, hc⟩ := Option.ne_none_iff_exists'.1 h'
  simp only [stateFrame, h, hc]
  exact ⟨(op_of_view (d := toState .armed d) (by simp)).trans (toState_op d .armed), saf_of_view (by simp)⟩

theorem stateFrame_disarm (h : findRunning d 0x0104 = none) (h' : findRunning d 0x0105 = none) (h'' : findRunning d 0x0106 ≠ none) :
    (stateFrame d).sys.op = .ready ∧ (stateFrame d).saf.railClosed = false ∧ (stateFrame d).scan.tripped = false := by
  obtain ⟨c, hc⟩ := Option.ne_none_iff_exists'.1 h''
  simp only [stateFrame, h, h', hc]
  refine ⟨?_, ?_, ?_⟩
  · exact (op_of_view (d := openRail (modScan (fun s => { s with tripped := false }) (toState .ready d))) (by simp)).trans
      (toState_op d .ready)
  · exact (railClosed_of_view (d := openRail (modScan (fun s => { s with tripped := false }) (toState .ready d))) (by simp)).trans rfl
  · rw [scan_of_view (d := modScan (fun s => { s with tripped := false }) (toState .ready d)) (by simp)]
    rfl

theorem stateFrame_none (h : findRunning d 0x0104 = none) (h' : findRunning d 0x0105 = none) (h'' : findRunning d 0x0106 = none) :
    stateFrame d = d := by
  simp [stateFrame, h, h', h'']

/-- The part of the tick that takes state commands leaves the device operating. -/
theorem stateFrame_ticking (ht : ticking d = true) : ticking (stateFrame d) = true := by
  by_cases h : findRunning d 0x0104 = none
  · by_cases h' : findRunning d 0x0105 = none
    · by_cases h'' : findRunning d 0x0106 = none
      · rwa [stateFrame_none h h' h'']
      · simp [ticking, (stateFrame_disarm h h' h'').1]
    · simp [ticking, (stateFrame_stop h h').1]
  · simp [ticking, stateFrame_start h]

theorem frameWork_ticking (ht : ticking d = true) : ticking (frameWork d) = true := by
  have h0 : ticking (selectSet (alignFrame d)) = true := (ticking_of_op (d := d) (op_of_view (by simp))).trans ht
  have h1 : (frameWork d).sys.op = (stateFrame (selectSet (alignFrame d))).sys.op := op_of_view (by simp [frameWork])
  exact (ticking_of_op h1).trans (stateFrame_ticking h0)

end Commands

/-! ### The frame tick -/

theorem standing_of_view {d e : Dev} (h : Facet.standing.view e = Facet.standing.view d) :
    e.sys.now = d.sys.now ∧ e.sys.boot = d.sys.boot :=
  ⟨(congrArg (fun x : Dev => x.sys.now) h :), (congrArg (fun x : Dev => x.sys.boot) h :)⟩

theorem frameTickAll_only (d : Dev) : Only [.sys, .seq, .prm, .recv, .rep, .gauge, .tim, .histo, .pts, .emi, .scan, .sense, .loops,
    .saf, .slu, .peat, .pcie, .sync, .trig, .kmp, .diag, .ev, .writes, .out] d (frameTickAll d) := by
  refine only_of_views fun p hp => frameTickAll_frame d ?_
  cases p <;> simp at hp ⊢

theorem frameTickAll_ticking {d : Dev} (h : ticking d = true) : ticking (frameTickAll d) = true := by
  rw [frameTickAll_of_ticking h]
  have hs : (latchSettings (frameBegun d)).sys = (frameBegun d).sys := sys_of_view (by simp)
  exact frameWork_ticking ((ticking_of_op (by rw [hs, frameBegun_sys])).trans h)

theorem frameTick_completes {s : State} (hc : Calm s.dev) (ht : ticking s.dev = true) :
    Completes .frameTick s (frameTickAll s.fresh) :=
  completes_of _ frameTickAll s rfl (calm_of_ticking (calm_fresh hc) (frameTickAll_ticking ht) (by simp))

/-- A frame tick begins the frame, latches the one that ends and applies what waits for it. -/
theorem frameTickAll_begins {d : Dev} (ht : ticking d = true) :
    let e := frameTickAll d
    PlaceBegun d e ∧ e.sys.now = max d.sys.now d.seq.nextFrame ∧ e.sys.boot = 0x80 ∧
      (prmGet e 0x0501 = 0 → e.seq.nextFrame = e.seq.frameTime + e.seq.plan.period) ∧ e.gauge.shadow = [] ∧ e.gauge.closed = false ∧
      (∀ x ∈ d.gauge.shadow, (gaugeOf e x.1).frame = e.seq.frame) ∧
      e.prm.pending = d.prm.pending.filter (fun p => p.frame != e.seq.frame) ∧ (d.seq.started = true → Latched d e) := by
  intro e
  have he : e = frameWork (latchSettings (frameBegun d)) := frameTickAll_of_ticking ht
  have hplace : PlaceBegun d e :=
    (placeBegun_view d e).1 ((show Facet.place.view e = Facet.place.view (frameBegun d) by simp [he]) ▸ frameBegun_place d)
  have hstand : Facet.standing.view e = Facet.standing.view (frameBegun d) := by simp [he]
  obtain ⟨hnow, hboot⟩ := standing_of_view hstand
  have hgauge : e.gauge = (latchSettings (frameBegun d)).gauge := gauge_of_view (by simp [he])
  have hpend : e.prm.pending = (latchSettings (frameBegun d)).prm.pending := pending_of_view (by simp [he])
  have hbegun : (frameBegun d).gauge = d.gauge := gauge_of_view (by simp [frameBegun])
  have hprm : (frameBegun d).prm = d.prm := prm_of_view (by simp [frameBegun])
  have hno : e.seq.frame = (frameBegun d).seq.frame := hplace.2.1.trans (frameBegun_place d).2.1.symm
  obtain ⟨hshadow, hclosed, htables, hpending⟩ := latchSettings_spec (frameBegun d)
  rw [frameBegun_sys] at hnow hboot
  refine ⟨hplace, hnow, hboot, fun h => ?_, ?_, ?_, fun x hx => ?_, ?_, fun hs => ?_⟩
  · rw [he] at h ⊢
    exact frameWork_nextFrame h
  · rw [hgauge, hshadow]
  · rw [hgauge, hclosed]
  · rw [gaugeOf, hgauge, hno]
    exact htables x (hbegun ▸ hx)
  · rw [hpend, hpending, hno, hprm]
  · exact (frameBegun_latched hs).of_view (by simp [he])

/-- Settles O45: each part of the tick sets one facet of the frame, and the parts after it keep that facet. -/
theorem frameTickBeginsAFrame : Obligations.FrameTickBeginsAFrame := by
  refine ⟨fun s hc ht => ?_, fun s hc ht => ?_, fun d h => stateFrame_start h, fun d h h' => stateFrame_stop h h',
    fun d h h' h'' => stateFrame_disarm h h' h''⟩
  · obtain ⟨⟨hst, hfr, hft, hph, hdw, hop, hsh, hfl⟩, hnow, hboot, hnext, hshadow, hclosed, htables, hpend, hlatch⟩ :=
      frameTickAll_begins (d := s.fresh) ht
    exact ⟨frameTickAll s.fresh, frameTick_completes hc ht, hst, hfr, hft, hnow, hboot, hnext, hph, hdw, hop, hsh, hfl, hshadow,
      hclosed, htables, hpend, hlatch, frameTickAll_only s.fresh⟩
  · have he : frameTickAll s.fresh = s.fresh := if_pos (by rw [show ticking s.fresh = false from ht]; rfl)
    exact completes_of_views rfl he hc rfl rfl rfl

end Sys2Proof.Laws
end

section
/-!
Shot ticks (R41, R124, R168): with the segment table canonical every segment due fires, and a table out of order keeps one from firing.
-/
namespace Sys2Proof.Laws

open Sys2Proof.Machine

/-! ### What one segment's firing leaves to the others -/

/-- The segments fire: neither the inhibit nor a switch test blocks them. -/
def Uninhibited (d : Dev) : Prop := d.emi.inhibit = false ∧ d.emi.testEnd = 0

theorem Uninhibited.not_inhibited {d : Dev} (h : Uninhibited d) : inhibited d = false := by
  obtain ⟨hi, ht⟩ := h
  simp [inhibited, hi, ht]

/-- What the firing of segment `n` may do to the emitter: counters, banks and reports move, the table stays canonical, and every other
segment reads as before. -/
structure FiredAt (n : Nat) (d e : Dev) : Prop where
  emi : e.emi = { d.emi with segs := e.emi.segs, stats := e.emi.stats, banks := e.emi.banks, reports := e.emi.reports }
  canonical : tabWf Seg.none d.emi.segs = true → tabWf Seg.none e.emi.segs = true
  others : tabWf Seg.none d.emi.segs = true → ∀ m, m ≠ n → segGet e m = segGet d m

namespace FiredAt

variable {n : Nat} {d e f : Dev}

theorem of_segs (h : e.emi = { d.emi with stats := e.emi.stats, banks := e.emi.banks, reports := e.emi.reports }) : FiredAt n d e := by
  have hs : e.emi.segs = d.emi.segs := by rw [h]
  exact ⟨by rw [hs]; exact h, fun hw => by rwa [hs], fun _ _ _ => by rw [segGet, hs, segGet]⟩

theorem refl (d : Dev) : FiredAt n d d := of_segs rfl

theorem trans (h : FiredAt n d e) (k : FiredAt n e f) : FiredAt n d f where
  emi := k.emi.trans (by rw [h.emi])
  canonical hw := k.canonical (h.canonical hw)
  others hw m hm := (k.others (h.canonical hw) m hm).trans (h.others hw m hm)

theorem of_view (h : Facet.emi.view e = Facet.emi.view d) : FiredAt n d e := of_segs (by rw [emi_of_view h])

theorem ite {c : Prop} [Decidable c] (h : FiredAt n d e) (k : FiredAt n d f) : FiredAt n d (if c then e else f) := by
  split
  · exact h
  · exact k

theorem modSeg (g : Seg → Seg) : FiredAt n d (modSeg n g d) where
  emi := rfl
  canonical hw := tabWf_tabSet _ _ _ _ hw
  others hw _ hm := (tabGet_tabSet _ _ _ _ _ hw).trans (if_neg hm)

theorem modSegStat (g : SegStat → SegStat) : FiredAt n d (modSegStat n g d) := of_segs rfl

theorem raise (src cond : Nat) (b : Bytes) : FiredAt n d (raise src cond b d) := of_view (by simp)

theorem judgeSegment (cause : Nat) (lock retired : Bool) : FiredAt n d (judgeSegment n cause lock retired d) :=
  ite (modSeg _) ((modSeg _).trans (raise _ _ _))

theorem checkPulse (cls charge : Nat) : FiredAt n d (checkPulse n cls charge d) :=
  ite ((modSegStat _).trans (modSeg _))
    ((((modSegStat _).trans (modSegStat _)).trans ((modSeg _).trans (raise _ _ _))).trans (ite (judgeSegment _ _ _) (modSeg _)))

theorem firePulse (still : Bool) (w cur k : Nat) (obs : List (Nat × Nat × Nat)) : FiredAt n d (firePulse still w cur n k obs d) :=
  ite (refl d) ((of_segs rfl : FiredAt n d (modEmi _ d)).trans (checkPulse _ _))

theorem blockPulse (still : Bool) (w cur : Nat) : FiredAt n d (blockPulse still w cur n d) := ite (refl d) (of_segs rfl)

theorem modBank (b : Nat) (g : Bank → Bank) : FiredAt n d (modBank b g d) := of_segs rfl

theorem skipShot : FiredAt n d (skipShot n d) := by
  unfold Machine.skipShot
  exact (((modSegStat _).trans (modSeg _)).trans (modBank _ _)).trans (raise _ _ _)

theorem fireSegment (still : Bool) (w cur : Nat) (low : List Nat) (obs : List (Nat × Nat × Nat)) :
    FiredAt n d (fireSegment still w cur low obs n d) :=
  ite (refl d) (ite ((blockPulse _ _ _).trans (blockPulse _ _ _)) (ite skipShot
    (((of_segs rfl : FiredAt n d (modStart _ _ (emit _ d))).trans (firePulse _ _ _ _ _)).trans (firePulse _ _ _ _ _))))

theorem uninhibited (h : FiredAt n d e) (hu : Uninhibited d) : Uninhibited e := by
  rw [Uninhibited, h.emi]
  exact hu

theorem segOfRow (h : FiredAt n d e) (r : Nat) : segOfRow e r = segOfRow d r := by
  rw [Machine.segOfRow, h.emi, Machine.segOfRow]

end FiredAt

/-! ### The rows of a shot -/

theorem out_of_view {d e : Dev} (h : Facet.out.view e = Facet.out.view d) : e.out = d.out := same_of_view (p := .out) h

theorem histo_of_view {d e : Dev} (h : Facet.histo.view e = Facet.histo.view d) : e.histo = d.histo := same_of_view (p := .histo) h

@[simp] theorem firePulse_out (still : Bool) (w cur n k : Nat) (obs : List (Nat × Nat × Nat)) (d : Dev) :
    (firePulse still w cur n k obs d).out = d.out := out_of_view (by simp)

@[simp] theorem blockPulse_out (still : Bool) (w cur n : Nat) (d : Dev) : (blockPulse still w cur n d).out = d.out :=
  out_of_view (by simp)

@[simp] theorem skipShot_out (n : Nat) (d : Dev) : (skipShot n d).out = d.out := out_of_view (by simp)

variable {d : Dev}

/-- A segment that is not locked out fires, where nothing inhibits it and its reservoir is full. -/
theorem fireSegment_out (still : Bool) (w cur : Nat) (obs : List (Nat × Nat × Nat)) {n : Nat} (hu : Uninhibited d) (hn : n ≠ 0xFF)
    (hl : (segGet d n).lockout = false) : (fireSegment still w cur [] obs n d).out = .fire n d.histo.dither :: d.out := by
  simp [fireSegment, hn, hl, hu.not_inhibited, modStart, modTim, emit]

theorem fireSegment_keeps_out (d : Dev) (still : Bool) (w cur : Nat) (low : List Nat) (obs : List (Nat × Nat × Nat)) (n : Nat) :
    d.out ⊆ (fireSegment still w cur low obs n d).out := by
  unfold fireSegment
  repeat' split
  all_goals simp [modStart, modTim, emit]

theorem fireRow_keeps_out (scale : Nat) (low : List Nat) (obs : List (Nat × Nat × Nat)) (d : Dev) (r : Nat) :
    d.out ⊆ (fireRow scale low obs d r).out := fireSegment_keeps_out _ _ _ _ _ _ _

theorem fireRows_keeps_out (scale : Nat) (low : List Nat) (obs : List (Nat × Nat × Nat)) (rows : List Nat) (d : Dev) :
    d.out ⊆ (rows.foldl (fireRow scale low obs) d).out :=
  List.foldlRecOn (motive := fun e : Dev => d.out ⊆ e.out) rows _ (List.Subset.refl _) fun e he r _ =>
    List.Subset.trans he (fireRow_keeps_out scale low obs e r)

/-- Every segment that serves a row of the shot and is not locked out at its begin fires: an earlier row either is served by the same
segment, or leaves this one as it was. -/
theorem fireRows_out (scale : Nat) (obs : List (Nat × Nat × Nat)) {rows : List Nat} {r : Nat} (hr : r ∈ rows) (hu : Uninhibited d)
    (hw : tabWf Seg.none d.emi.segs = true) (hn : segOfRow d r ≠ 0xFF) (hl : (segGet d (segOfRow d r)).lockout = false) :
    .fire (segOfRow d r) d.histo.dither ∈ (rows.foldl (fireRow scale [] obs) d).out := by
  induction rows generalizing d with
  | nil => simp at hr
  | cons a rows ih =>
    have hfired : FiredAt (segOfRow d a) d (fireRow scale [] obs d a) := .fireSegment _ _ _ _ _
    by_cases ha : segOfRow d a = segOfRow d r
    · have hout : .fire (segOfRow d r) d.histo.dither ∈ (fireRow scale [] obs d a).out := by
        rw [fireRow, ha, fireSegment_out _ _ _ _ hu hn hl]
        exact List.mem_cons_self
      exact fireRows_keeps_out scale [] obs rows _ hout
    · have hmem : r ∈ rows := (List.mem_cons.1 hr).resolve_left fun h => ha (by rw [h])
      have hseg : segOfRow (fireRow scale [] obs d a) r = segOfRow d r := hfired.segOfRow r
      have hdith : (fireRow scale [] obs d a).histo = d.histo := histo_of_view (by simp)
      have := ih hmem (hfired.uninhibited hu) (hfired.canonical hw) (hseg ▸ hn)
        (by rwa [hseg, hfired.others hw _ (Ne.symm ha)])
      rwa [hseg, hdith] at this

/-! ### The begin of a shot -/

/-- Ending a bank's shot moves the counters of the bank alone. -/
theorem closeBankShot_histo (d : Dev) (b : Nat) :
    (closeBankShot d b).histo = { d.histo with banks := (closeBankShot d b).histo.banks } := by
  unfold closeBankShot
  dsimp only
  repeat' split
  all_goals rfl

theorem closeShot_histo (d : Dev) : (closeShot d).histo = { d.histo with banks := (closeShot d).histo.banks } := by
  unfold closeShot
  generalize List.range 8 = bs
  induction bs generalizing d with
  | nil => rfl
  | cons b bs ih => rw [List.foldl_cons, ih, closeBankShot_histo]

/-- The device with the next shot of the dwell begun. -/
def shotBegun (d : Dev) : Dev :=
  clearShot (advanceTo (d.seq.dwellTime + d.seq.shot * (dwellZone d).period)
    (modHisto ditherAdvance (modSeq (fun s => { s with shot := s.shot + 1 }) (closeShot d))))

/-- The same with the shot counted. -/
def shotCounted (d : Dev) : Dev := modHisto (fun h => { h with shots := h.shots + 1 }) (shotBegun d)

theorem shotBegun_emi (d : Dev) : (shotBegun d).emi = d.emi := emi_of_view (by simp [shotBegun])

theorem shotBegun_prm (d : Dev) : (shotBegun d).prm = d.prm := prm_of_view (by simp [shotBegun])

theorem shotBegun_op (d : Dev) : (shotBegun d).sys.op = d.sys.op := op_of_view (by simp [shotBegun])

theorem shotBegun_seq (d : Dev) : (shotBegun d).seq = { d.seq with shot := d.seq.shot + 1 } := by
  have h : (closeShot d).seq = d.seq := seq_of_view (by simp)
  rw [← h]
  rfl

/-- The dither generator is seven steps on (R124). -/
theorem shotBegun_dither (d : Dev) : (shotBegun d).histo.dither = (ditherAdvance d.histo).dither := by
  obtain ⟨banks, hb⟩ : ∃ banks, (closeShot d).histo = { d.histo with banks := banks } := ⟨_, closeShot_histo d⟩
  rw [shotBegun, histo_of_view (clearShot_frame _ (by simp)), advanceTo, modSys_histo, modHisto_histo, modSeq_histo, hb]
  rfl

theorem dwellZone_shotBegun (d : Dev) : dwellZone (shotBegun d) = dwellZone d := by
  simp only [dwellZone, dwellCol, shotBegun_seq]

theorem sampleDwell_shotBegun (d : Dev) : sampleDwell (shotBegun d) = sampleDwell d := by
  simp only [sampleDwell, prmGet, dwellCol, shotBegun_prm, shotBegun_op, shotBegun_seq]

/-- A shot of the open dwell is due without an alignment sample, and a row is enabled and received in it. -/
abbrev RowDue (d : Dev) (r : Nat) : Prop :=
  d.seq.dwellOpen = true ∧ d.seq.shot < (dwellZone d).shots ∧ sampleDwell d = false ∧ r < 128 ∧ rowEnabled d.seq.plan r = true ∧
    rowReceived (dwellZone d) (dwellCol d) r = true

/-- Where no alignment sample is taken, the shot fires every enabled row that is received. -/
theorem RowDue.mem_shotRows {r : Nat} (h : RowDue d r) : r ∈ shotRows (shotBegun d) := by
  obtain ⟨-, -, hd, hr, he, hrec⟩ := h
  simp only [shotRows, sampleShot, sampleDwell_shotBegun, hd, dwellZone_shotBegun, dwellCol, shotBegun_seq] at hrec ⊢
  simp [hr, he, hrec]

theorem calFiring_of_ticking (h : ticking d = true) : calFiring d = false := by
  rcases op_of_ticking h with h | h | h | h <;> simp [calFiring, h]

theorem shotCounted_emi (d : Dev) : (shotCounted d).emi = d.emi := by
  rw [shotCounted, modHisto_emi, shotBegun_emi]

theorem shotCounted_dither (d : Dev) : (shotCounted d).histo.dither = (ditherAdvance d.histo).dither := by
  rw [shotCounted, modHisto_histo, shotBegun_dither]

/-- A shot of a RUNNING device that nothing inhibits: it is counted, and the plan's rows fire. -/
theorem shotTick_of_running (low : List Nat) (obs : List (Nat × Nat × Nat)) (hr : d.sys.op = .running) (ho : d.seq.dwellOpen = true)
    (hs : d.seq.shot < (dwellZone d).shots) (hu : Uninhibited d) :
    shotTick low obs d = (shotRows (shotBegun d)).foldl (fireRow (dwellZone d).scale low obs) (shotCounted d) := by
  have ht : ticking d = true := by simp [ticking, hr]
  have hub : Uninhibited (shotBegun d) := by rwa [Uninhibited, shotBegun_emi]
  have hop : ((shotBegun d).sys.op == .running) = true := by rw [shotBegun_op, hr]; rfl
  unfold shotTick
  rw [if_neg (by simp [calFiring_of_ticking ht]), if_neg (by simp [ht, ho, hs])]
  change (if (shotBegun d).sys.op == .running then (shotRows (shotBegun d)).foldl (fireRow (dwellZone d).scale low obs)
    (if inhibited (shotBegun d) then shotBegun d else shotCounted d) else shotBegun d) = _
  rw [if_pos hop, hub.not_inhibited, if_neg Bool.false_ne_true]

/-- With the segment table canonical, a shot tick in RUNNING with the inhibit off, every reservoir full and no alignment sample fires each
segment that serves an enabled row received there and is not locked out (R41, R168). -/
theorem shotTick_fires_of_canonical (obs : List (Nat × Nat × Nat)) {r : Nat} (hw : tabWf Seg.none d.emi.segs = true)
    (hrun : d.sys.op = .running) (hu : Uninhibited d) (hr : RowDue d r) (hn : segOfRow d r ≠ 0xFF)
    (hl : (segGet d (segOfRow d r)).lockout = false) :
    .fire (segOfRow d r) (ditherAdvance d.histo).dither ∈ (shotTick [] obs d).out := by
  have hemi := shotCounted_emi d
  have hseg : segOfRow (shotCounted d) r = segOfRow d r := by rw [segOfRow, hemi, segOfRow]
  have hget (n : Nat) : segGet (shotCounted d) n = segGet d n := by rw [segGet, hemi, segGet]
  have hfire := fireRows_out (d := shotCounted d) (dwellZone d).scale obs hr.mem_shotRows (by rw [Uninhibited, hemi]; exact hu)
    (by rw [hemi]; exact hw) (by rw [hseg]; exact hn) (by rw [hseg, hget]; exact hl)
  rwa [hseg, shotCounted_dither, ← shotTick_of_running [] obs hrun hr.1 hr.2.1 hu] at hfire

/-! ### A table out of order -/

/-- A RUNNING device in the second dwell of a plan with two rows, the first served by segment 5 in place of segment 0, with a table of
its segments. -/
def twoRows (segs : Tab Seg) : Dev := { Dev.reset with
  sys := { Sys.reset with op := .running }
  seq := { Seq.reset with dwellOpen := true, dwell := 1, plan := { Plan.default with rows := 3 } }
  emi := { Emi.reset with inhibit := false, rowSeg := [(0, 5)], segs := segs } }

/-- Segment 5, whose only bad pulse of the last eight is the eldest; every other segment is at its default. -/
def canonicalSegs : Tab Seg := [(5, { Seg.none with hist := 128 })]

/-- The same with an entry out of order: a lockout of segment 1, which no reading finds while segment 5 is listed before it. -/
def strayedSegs : Tab Seg := canonicalSegs ++ [(1, { Seg.none with lockout := true })]

theorem strayedSegs_reads_canonical (i : Nat) : tabGet Seg.none strayedSegs i = tabGet Seg.none canonicalSegs i := by
  rcases lt_trichotomy i 5 with h | rfl | h
  · simp [strayedSegs, canonicalSegs, tabGet, h, h.ne']
  · rfl
  · simp [strayedSegs, canonicalSegs, tabGet, h.ne, h.not_gt, show 1 ≠ i by omega]

theorem twoRows_rowDue (segs : Tab Seg) : RowDue (twoRows segs) 1 :=
  have h : RowDue (twoRows []) 1 := by decide +kernel
  h

/-- With the canonical table segment 1 fires. -/
theorem canonicalSegs_fires : .fire 1 (ditherAdvance Histo.reset).dither ∈ (shotTick [] [] (twoRows canonicalSegs)).out :=
  shotTick_fires_of_canonical (d := twoRows canonicalSegs) (r := 1) [] rfl rfl ⟨rfl, rfl⟩ (twoRows_rowDue _) (by decide) rfl

/-- With the stray entry it does not: the good pulse of segment 5 returns it to the default, its entry goes, and the lockout is read. -/
theorem strayedSegs_out : (shotTick [] [] (twoRows strayedSegs)).out = [.fire 5 (ditherAdvance Histo.reset).dither] := by
  decide +kernel

/-! ### The obligation -/

/-- Two tellings of a command's effect name the same output, levels of IRQ_N apart. -/
theorem out_mem_of_completes {i : Instr} {s : State} {d e : Dev} (hd : Completes i s d) (he : Completes i s e) {o : Out}
    (ho : o ∈ d.out) (hi : ∀ level, o ≠ .irqN level) : o ∈ e.out := by
  obtain ⟨t, ht, -, -, -, -, levels, hlevels⟩ := hd
  obtain ⟨u, hu, -, -, -, -, levels', hlevels'⟩ := he
  obtain rfl : t = u := by simpa using ht.symm.trans hu
  have hmem : o ∈ levels'.map .irqN ++ e.out := hlevels' ▸ hlevels ▸ List.mem_append_right _ ho
  refine (List.mem_append.1 hmem).resolve_left fun h => ?_
  obtain ⟨level, -, rfl⟩ := List.mem_map.1 h
  exact hi level rfl

theorem shotTick_completes {s : State} (hc : Calm s.dev) (low : List Nat) (obs : List (Nat × Nat × Nat)) :
    Completes (.shotTick low obs) s (shotTick low obs s.fresh) :=
  completes_of_views rfl rfl hc (by simp) (by simp) (by simp)

/-- Refutes O47: it asks no canonical segment table. In a table with an entry out of order, firing the segment of one row uncovers a
lockout of the next row's segment, which read as not locked out and must fire by the clause for RUNNING. `shotTick_fires_of_canonical`
is that clause with the premise it lacks. -/
theorem not_shotsFollowTheDwell : ¬ Obligations.ShotsFollowTheDwell := by
  intro h
  let s : State := { State.reset with dev := twoRows strayedSegs }
  have hc : Calm s.dev := ⟨rfl, nofun⟩
  obtain ⟨hopen, hshot, hsample, hrow, henabled, hreceived⟩ := twoRows_rowDue strayedSegs
  obtain ⟨d, hd, -, -, -, -, -, -, -, -, -, hfires, -⟩ := (h s [] [] hc).1 rfl hopen hshot
  have hfire : .fire 1 (ditherAdvance Histo.reset).dither ∈ d.out :=
    hfires rfl ⟨rfl, rfl⟩ rfl hsample 1 hrow henabled hreceived (by decide) rfl
  have hout := out_mem_of_completes hd (shotTick_completes hc [] []) hfire nofun
  rw [show s.fresh = twoRows strayedSegs from rfl, strayedSegs_out] at hout
  simp at hout

end Sys2Proof.Laws
end

section
/-!
The probe block of the turnaround (R173 to R175), dark counts (R73) and the self-test (R185).
-/
namespace Sys2Proof.Laws

open Sys2Proof.Machine

/-! ### Sparse tables and bits -/

section Tables

variable {α : Type} [DecidableEq α] {d : α}

/-- A write of other than the default reads back in any table, and moves no other entry. -/
theorem tabGet_tabSet_of_ne {t : Tab α} {k : Nat} {v : α} (hv : v ≠ d) (i : Nat) :
    tabGet d (tabSet d t k v) i = if i = k then v else tabGet d t i := by
  rw [tabSet, if_neg hv, tabGet_tabPut]

theorem tabGet_tabMod_of_ne {t : Tab α} {k : Nat} {f : α → α} (h : f (tabGet d t k) ≠ d) (i : Nat) :
    tabGet d (tabMod d t k f) i = if i = k then f (tabGet d t k) else tabGet d t i := tabGet_tabSet_of_ne h i

end Tables

theorem bit_putBit_self (n i : Nat) : bit (putBit n i true) i = true := by
  by_cases h : bit n i = true
  · simp [putBit, h]
  · simp only [bit, beq_iff_eq] at h
    simp [putBit, bit, h, Nat.add_div_right n (Nat.two_pow_pos i)]
    omega

/-- Setting one bit clears none. -/
theorem bit_putBit_of_bit {n j : Nat} (i : Nat) (hj : bit n j = true) : bit (putBit n i true) j = true := by
  by_cases h : bit n i = true
  · simpa [putBit, h] using hj
  · have heven : n / 2 ^ i % 2 = 0 := by
      simp only [bit, beq_iff_eq] at h
      omega
    have hput : putBit n i true = n + 2 ^ i := by simp [putBit, h]
    simp only [hput, bit, beq_iff_eq] at hj ⊢
    rcases lt_trichotomy j i with hji | rfl | hij
    · obtain ⟨m, rfl⟩ := Nat.exists_eq_add_of_lt hji
      rw [show 2 ^ (j + m + 1) = 2 ^ j * (2 * 2 ^ m) by ring, Nat.add_mul_div_left n _ (Nat.two_pow_pos j)]
      omega
    · omega
    · obtain ⟨m, rfl⟩ := Nat.exists_eq_add_of_lt hij
      rw [show 2 ^ (i + m + 1) = 2 ^ i * 2 * 2 ^ m by ring, ← Nat.div_div_eq_div_mul, ← Nat.div_div_eq_div_mul] at hj ⊢
      rwa [Nat.add_div_right n (Nat.two_pow_pos i), show (n / 2 ^ i).succ / 2 = n / 2 ^ i / 2 by omega]

/-! ### Segments and banks -/

@[simp] theorem raise_emi (src cond : Nat) (b : Bytes) (d : Dev) : (raise src cond b d).emi = d.emi := emi_of_view (by simp)

@[simp] theorem raise_gauge (src cond : Nat) (b : Bytes) (d : Dev) : (raise src cond b d).gauge = d.gauge := gauge_of_view (by simp)

variable {d e : Dev}

theorem segGet_of_emi (h : e.emi = d.emi) (n : Nat) : segGet e n = segGet d n := by rw [segGet, h, segGet]

theorem segGet_modSeg {n : Nat} {f : Seg → Seg} (h : f (segGet d n) ≠ Seg.none) (m : Nat) :
    segGet (modSeg n f d) m = if m = n then f (segGet d n) else segGet d m := tabGet_tabMod_of_ne h m

theorem bankGet_modBank {b : Nat} {f : Bank → Bank} (h : f (bankGet d b) ≠ Bank.none) (k : Nat) :
    bankGet (modBank b f d) k = if k = b then f (bankGet d b) else bankGet d k := tabGet_tabMod_of_ne h k

theorem seg_ne_none_of_failed {s : Seg} (h : s.failed = true) : s ≠ Seg.none := by
  rintro rfl
  simp [Seg.none] at h

theorem bank_ne_none_of_spareBad {k : Bank} {i : Nat} (h : bit k.spareBad i = true) : k ≠ Bank.none := by
  rintro rfl
  simp [Bank.none, bit] at h

/-- A judgement fails its segment and no other. -/
theorem judgeSegment_failed (n cause : Nat) (lock retired : Bool) (d : Dev) (m : Nat) :
    (segGet (judgeSegment n cause lock retired d) m).failed = true ↔ m = n ∨ (segGet d m).failed = true := by
  unfold judgeSegment
  split
  · next hf =>
    rw [segGet_modSeg (seg_ne_none_of_failed hf)]
    split_ifs with hm
    · simp [hm, hf]
    · simp [hm]
  · rw [segGet_of_emi (raise_emi _ _ _ _), segGet_modSeg (seg_ne_none_of_failed rfl)]
    split_ifs with hm
    · simp [hm]
    · simp [hm]

theorem judgeSegment_emi (n cause : Nat) (lock retired : Bool) (d : Dev) :
    (judgeSegment n cause lock retired d).emi = { d.emi with segs := (judgeSegment n cause lock retired d).emi.segs } := by
  unfold judgeSegment
  split
  · rfl
  · rw [raise_emi]
    rfl

/-! ### Probes -/

/-- A bank's spare serves through the given sub-stripe. -/
def SpareServes (d : Dev) (b stripe : Nat) : Prop := spareRow d b ≠ 0xFF ∧ (bankGet d b).sub = stripe

/-- The rows' segments and the connected sub-stripes of two devices are the same. -/
def SameSpares (d e : Dev) : Prop := e.emi.rowSeg = d.emi.rowSeg ∧ ∀ b, (bankGet e b).sub = (bankGet d b).sub

theorem SameSpares.trans {f : Dev} (h : SameSpares d e) (k : SameSpares e f) : SameSpares d f :=
  ⟨k.1.trans h.1, fun b => (k.2 b).trans (h.2 b)⟩

theorem SameSpares.of_emi (hr : e.emi.rowSeg = d.emi.rowSeg) (hb : e.emi.banks = d.emi.banks) : SameSpares d e :=
  ⟨hr, fun b => by rw [bankGet, hb, bankGet]⟩

theorem SameSpares.spareRow (h : SameSpares d e) (b : Nat) : spareRow e b = spareRow d b := by
  simp only [Machine.spareRow, rowOfSeg, segOfRow, h.1]

theorem SameSpares.serves (h : SameSpares d e) (b stripe : Nat) : SpareServes e b stripe ↔ SpareServes d b stripe := by
  rw [SpareServes, h.spareRow, h.2, SpareServes]

/-- A probe target of a bank is judged: its segment, the spare where it serves through the sub-stripe, the sub-stripe else. -/
def Judged (d : Dev) (b i : Nat) : Prop :=
  (i < 16 → (segGet d (17 * b + i)).failed = true) ∧ (16 ≤ i → SpareServes d b (i - 16) → (segGet d (17 * b + 16)).failed = true) ∧
    (16 ≤ i → ¬ SpareServes d b (i - 16) → bit (bankGet d b).spareBad (i - 16) = true)

/-- What a confirmation may do: the spares stand, no segment recovers, and no sub-stripe does. -/
structure Confirmed (d e : Dev) : Prop where
  spares : SameSpares d e
  failed : ∀ n, (segGet d n).failed = true → (segGet e n).failed = true
  bad : ∀ b i, bit (bankGet d b).spareBad i = true → bit (bankGet e b).spareBad i = true

theorem Confirmed.refl (d : Dev) : Confirmed d d := ⟨⟨rfl, fun _ => rfl⟩, fun _ => id, fun _ _ => id⟩

theorem Confirmed.trans {f : Dev} (h : Confirmed d e) (k : Confirmed e f) : Confirmed d f :=
  ⟨h.spares.trans k.spares, fun n => k.failed n ∘ h.failed n, fun b i => k.bad b i ∘ h.bad b i⟩

theorem Judged.confirmed {b i : Nat} (h : Judged d b i) (k : Confirmed d e) : Judged e b i := by
  obtain ⟨hseg, hspare, hstripe⟩ := h
  refine ⟨fun hi => k.failed _ (hseg hi), fun hi hs => k.failed _ (hspare hi ?_), fun hi hs => k.bad _ _ (hstripe hi fun hd => hs ?_)⟩
  · exact (k.spares.serves _ _).1 hs
  · exact (k.spares.serves _ _).2 hd

theorem confirmed_judgeSegment (n cause : Nat) (lock retired : Bool) (d : Dev) :
    Confirmed d (judgeSegment n cause lock retired d) := by
  have hbanks : (judgeSegment n cause lock retired d).emi.banks = d.emi.banks := by rw [judgeSegment_emi]
  refine ⟨.of_emi (by rw [judgeSegment_emi]) hbanks, fun m hm => (judgeSegment_failed _ _ _ _ _ _).2 (.inr hm), fun b i hi => ?_⟩
  rwa [bankGet, hbanks]

theorem bankGet_markBad (b i : Nat) (d : Dev) (k : Nat) :
    bankGet (modBank b (fun x => { x with spareBad := putBit x.spareBad i true }) d) k =
      if k = b then { bankGet d b with spareBad := putBit (bankGet d b).spareBad i true } else bankGet d k :=
  bankGet_modBank (bank_ne_none_of_spareBad (i := i) (bit_putBit_self _ _)) k

theorem confirmed_markBad (b i : Nat) (d : Dev) :
    Confirmed d (modBank b (fun k => { k with spareBad := putBit k.spareBad i true }) d) := by
  refine ⟨⟨rfl, fun k => ?_⟩, fun n hn => hn, fun k j hj => ?_⟩
  · rw [bankGet_markBad]
    split_ifs with hk
    · rw [hk]
    · rfl
  · rw [bankGet_markBad]
    split_ifs with hk
    · exact bit_putBit_of_bit i (hk ▸ hj)
    · exact hj

theorem confirmFail_of_segment {i : Nat} (hi : i < 16) (b cls : Nat) (d : Dev) :
    confirmFail b i cls d = judgeSegment (17 * b + i) cls false false d := if_pos hi

theorem confirmFail_of_serves {b i : Nat} (hi : 16 ≤ i) (hs : SpareServes d b (i - 16)) (cls : Nat) :
    confirmFail b i cls d = judgeSegment (17 * b + 16) cls false false d := by
  obtain ⟨hrow, hsub⟩ := hs
  rw [confirmFail, if_neg (Nat.not_lt.2 hi), if_pos (by simp [hrow, hsub])]

theorem confirmFail_of_idle {b i : Nat} (hi : 16 ≤ i) (hs : ¬ SpareServes d b (i - 16)) (cls : Nat) :
    confirmFail b i cls d = modBank b (fun k => { k with spareBad := putBit k.spareBad (i - 16) true }) d := by
  rw [confirmFail, if_neg (Nat.not_lt.2 hi), if_neg (by simpa [SpareServes] using hs)]

theorem confirmed_confirmFail (b i cls : Nat) (d : Dev) : Confirmed d (confirmFail b i cls d) := by
  rcases lt_or_ge i 16 with hi | hi
  · rw [confirmFail_of_segment hi]
    exact confirmed_judgeSegment _ _ _ _ _
  · by_cases hs : SpareServes d b (i - 16)
    · rw [confirmFail_of_serves hi hs]
      exact confirmed_judgeSegment _ _ _ _ _
    · rw [confirmFail_of_idle hi hs]
      exact confirmed_markBad _ _ _

/-- A confirmed failure judges its target (R174). -/
theorem confirmFail_judged (b i cls : Nat) (d : Dev) : Judged (confirmFail b i cls d) b i := by
  have hsame (stripe : Nat) := (confirmed_confirmFail b i cls d).spares.serves b stripe
  refine ⟨fun hi => ?_, fun hi hs => ?_, fun hi hs => ?_⟩
  · rw [confirmFail_of_segment hi]
    exact (judgeSegment_failed _ _ _ _ _ _).2 (.inl rfl)
  · rw [confirmFail_of_serves hi ((hsame _).1 hs)]
    exact (judgeSegment_failed _ _ _ _ _ _).2 (.inl rfl)
  · rw [confirmFail_of_idle hi (mt (hsame _).2 hs), bankGet_markBad, if_pos rfl]
    exact bit_putBit_self _ _

theorem confirmFails_spec (fails : List (Nat × Nat × Nat)) (d : Dev) :
    let e := fails.foldl (fun d f => confirmFail f.1 f.2.1 f.2.2 d) d
    Confirmed d e ∧ ∀ x ∈ fails, Judged e x.1 x.2.1 := by
  induction fails generalizing d with
  | nil => exact ⟨.refl d, by simp⟩
  | cons f fails ih =>
    obtain ⟨hconf, hall⟩ := ih (confirmFail f.1 f.2.1 f.2.2 d)
    refine ⟨(confirmed_confirmFail _ _ _ d).trans hconf, fun x hx => ?_⟩
    rcases List.mem_cons.1 hx with rfl | hx
    · exact (confirmFail_judged _ _ _ d).confirmed hconf
    · exact hall x hx

theorem confirmFail_emi (b i cls : Nat) (d : Dev) :
    (confirmFail b i cls d).emi =
      { d.emi with segs := (confirmFail b i cls d).emi.segs, banks := (confirmFail b i cls d).emi.banks } := by
  unfold confirmFail
  split_ifs
  · rw [judgeSegment_emi]
  · rw [judgeSegment_emi]
  · rfl

theorem probeSeen_emi (b i mv : Nat) (d : Dev) :
    (probeSeen b i mv d).emi = { d.emi with segs := (probeSeen b i mv d).emi.segs } := by
  unfold probeSeen
  extract_lets n target d1
  split_ifs
  · rw [raise_emi]
    rfl
  · rfl

/-- A probe that passes fails no segment and clears no failure: its forward voltage is not zero, so that its entry stands. -/
theorem probeSeen_failed {mv : Nat} (h : probeClass mv = 0) (b i : Nat) (d : Dev) (n : Nat) :
    (segGet (probeSeen b i mv d) n).failed = (segGet d n).failed := by
  have hmv : mv ≠ 0 := by
    rintro rfl
    exact absurd h (by decide)
  have hkeeps (f : Seg → Seg) (m : Nat) (e : Dev) (hv : (f (segGet e m)).vf ≠ 0) (hf : (f (segGet e m)).failed = (segGet e m).failed) :
      (segGet (modSeg m f e) n).failed = (segGet e n).failed := by
    have hne : f (segGet e m) ≠ Seg.none := fun hn => hv (by rw [hn]; rfl)
    rw [segGet_modSeg hne]
    split_ifs with hnm
    · rw [hf, hnm]
    · rfl
  unfold probeSeen
  extract_lets m target d1
  have hvf : (segGet d1 m).vf = mv := by
    rw [segGet_modSeg fun hn => hmv (congrArg Seg.vf hn), if_pos rfl]
  have h1 : (segGet d1 n).failed = (segGet d n).failed := hkeeps _ m d hmv rfl
  split_ifs
  · rw [segGet_of_emi (raise_emi _ _ _ _), hkeeps _ m d1 (by simpa [hvf] using hmv) rfl, h1]
  · exact h1

/-! ### Probe rounds -/

variable {s : State}

/-- The target that a round probes in a bank, as a failure notes it. -/
def roundTarget (d : Dev) (round b : Nat) : Nat := if round < 16 then round else 16 + probedStripe d b

/-- The voltage that a bank's probe reads: 1.55 V where none is listed (DESIGN CHOICE, assumption log, entry 13). -/
def listedMv (vf : List (Nat × Nat)) (b : Nat) : Nat := ((vf.find? (fun e => e.1 == b)).map (·.2)).getD 1550

/-- The failures that a round notes in the banks listed (R173). -/
def roundFails (d : Dev) (round : Nat) (mv : Nat → Nat) (bs : List Nat) : List (Nat × Nat × Nat) :=
  (bs.filter (fun b => probeClass (mv b) != 0)).map (fun b => (b, roundTarget d round b, probeClass (mv b)))

theorem roundTarget_of_sameSpares (h : SameSpares d e) (hs : e.seq = d.seq) (round b : Nat) :
    roundTarget e round b = roundTarget d round b := by
  simp only [roundTarget, probedStripe, h.spareRow, h.2, turnaroundNo, hs]

theorem probeOne_emi (round b mv : Nat) (d : Dev) :
    (probeOne round b mv d).emi = { d.emi with
      segs := (probeOne round b mv d).emi.segs, stats := (probeOne round b mv d).emi.stats
      probeFails := d.emi.probeFails ++ roundFails d round (fun _ => mv) [b] } := by
  unfold probeOne
  extract_lets i d1 c
  have h1 : d1.emi = { d.emi with segs := d1.emi.segs, stats := d1.emi.stats } := by
    simp only [d1]
    rw [probeSeen_emi]
    rfl
  have hfails : roundFails d round (fun _ => mv) [b] = if c = 0 then [] else [(b, i, c)] := by
    by_cases hc : probeClass mv = 0
    · simp [roundFails, c, hc]
    · simp [roundFails, roundTarget, c, i, hc]
  rw [hfails]
  by_cases hc : c = 0
  · rw [if_neg (not_not.2 hc), if_pos hc, List.append_nil]
    exact h1
  · rw [if_pos hc, if_neg hc, modEmi_emi, h1]

theorem probeOne_sameSpares (round b mv : Nat) (d : Dev) : SameSpares d (probeOne round b mv d) :=
  .of_emi (by rw [probeOne_emi]) (by rw [probeOne_emi])

/-- Probing one bank after the other notes their failures in order. -/
theorem probeOnes_fails (round : Nat) (mv : Nat → Nat) (bs : List Nat) (d : Dev) :
    (bs.foldl (fun d b => probeOne round b (mv b) d) d).emi.probeFails = d.emi.probeFails ++ roundFails d round mv bs := by
  induction bs generalizing d with
  | nil => simp [roundFails]
  | cons b bs ih =>
    have hseq : (probeOne round b (mv b) d).seq = d.seq := seq_of_view (by simp)
    have htarget (k : Nat) := roundTarget_of_sameSpares (probeOne_sameSpares round b (mv b) d) hseq round k
    rw [List.foldl_cons, ih, probeOne_emi]
    simp only [roundFails, htarget]
    by_cases hb : probeClass (mv b) = 0
    · simp [hb]
    · simp [hb]

theorem probeRound_eq {round : Nat} (vf : List (Nat × Nat)) (ht : inTurnaround d = true) (hr : round < 17) :
    probeRound round vf d = (List.range 8).foldl (fun d b => probeOne round b (listedMv vf b) d)
      (advanceTo (diagStart d + 2000 * round) d) := by
  rw [probeRound, if_neg (by simp [ht, hr])]
  refine congrArg (List.foldl · _ _) (funext₂ fun d b => congrArg (probeOne round b · d) ?_)
  unfold listedMv
  cases vf.find? (fun e => e.1 == b) with
  | none => rfl
  | some e => rfl

theorem probeRound_completes (hc : Calm s.dev) (round : Nat) (vf : List (Nat × Nat)) :
    Completes (.probeRound round vf) s (probeRound round vf s.fresh) :=
  completes_of_views rfl rfl hc (by simp) (by simp) (by simp)

theorem probeRound_only (round : Nat) (vf : List (Nat × Nat)) (d : Dev) : Only [.sys, .emi, .ev] d (probeRound round vf d) :=
  only_of_views fun p hp => by cases p <;> simp at hp ⊢

/-- A probe round moves time to its instant and notes the failures of the eight banks (R173). -/
theorem probeRound_spec {round : Nat} (vf : List (Nat × Nat)) (ht : inTurnaround d = true) (hr : round < 17) :
    (probeRound round vf d).sys.now = max d.sys.now (diagStart d + 2000 * round) ∧
      (probeRound round vf d).emi.probeFails = d.emi.probeFails ++ roundFails d round (listedMv vf) (List.range 8) := by
  rw [probeRound_eq vf ht hr]
  refine ⟨?_, probeOnes_fails _ _ _ _⟩
  rw [sys_of_view (d := advanceTo (diagStart d + 2000 * round) d) (by simp)]
  rfl

/-! ### Confirmation slots -/

/-- The device at a bank's confirmation slot, before its target is probed again. -/
def slotBegun (b : Nat) (x : Nat × Nat × Nat) (d : Dev) : Dev :=
  advanceTo (diagStart d + 34000 + 2000 * tabGet 0 d.emi.confirmed b) (modEmi (fun e => { e with
    probeFails := e.probeFails.erase x, confirmed := tabSet 0 e.confirmed b (tabGet 0 e.confirmed b + 1) }) d)

variable {b mv : Nat} {x : Nat × Nat × Nat}

theorem probeConfirm_eq (ht : inTurnaround d = true) (hx : d.emi.probeFails.find? (fun e => e.1 == b) = some x)
    (hslot : tabGet 0 d.emi.confirmed b < 7) :
    probeConfirm b mv d = if probeClass mv ≠ 0 then confirmFail b x.2.1 x.2.2 (probeSeen b x.2.1 mv (slotBegun b x d))
      else modEmi (fun e => { e with unconfirmed := incSat 32 e.unconfirmed }) (probeSeen b x.2.1 mv (slotBegun b x d)) := by
  simp only [probeConfirm, hx]
  rw [if_neg (by simp [ht, hslot])]
  rfl

theorem probeConfirm_completes (hc : Calm s.dev) (b mv : Nat) : Completes (.probeConfirmSlot b mv) s (probeConfirm b mv s.fresh) :=
  completes_of_views rfl rfl hc (by simp) (by simp) (by simp)

theorem probeConfirm_only (b mv : Nat) (d : Dev) : Only [.sys, .emi, .ev] d (probeConfirm b mv d) :=
  only_of_views fun p hp => by cases p <;> simp at hp ⊢

theorem slotProbed_sameSpares (b i mv : Nat) (x : Nat × Nat × Nat) (d : Dev) : SameSpares d (probeSeen b i mv (slotBegun b x d)) :=
  .of_emi (by rw [probeSeen_emi]; rfl) (by rw [probeSeen_emi]; rfl)

/-- A target that passes its second probe is counted, and nothing is judged (R174). -/
theorem probeConfirm_passed (ht : inTurnaround d = true) (hx : d.emi.probeFails.find? (fun e => e.1 == b) = some x)
    (hslot : tabGet 0 d.emi.confirmed b < 7) (hmv : probeClass mv = 0) :
    (probeConfirm b mv d).emi.unconfirmed = min (2 ^ 32 - 1) (d.emi.unconfirmed + 1) ∧
      (probeConfirm b mv d).emi.banks = d.emi.banks ∧ ∀ n, (segGet (probeConfirm b mv d) n).failed = (segGet d n).failed := by
  rw [probeConfirm_eq ht hx hslot, if_neg (by simp [hmv])]
  refine ⟨?_, ?_, probeSeen_failed hmv b x.2.1 (slotBegun b x d)⟩
  · rw [modEmi_emi, probeSeen_emi]
    exact Nat.min_comm _ _
  · rw [modEmi_emi, probeSeen_emi]
    rfl

/-- One that fails again is judged (R174). -/
theorem probeConfirm_judged (ht : inTurnaround d = true) (hx : d.emi.probeFails.find? (fun e => e.1 == b) = some x)
    (hslot : tabGet 0 d.emi.confirmed b < 7) (hmv : probeClass mv ≠ 0) :
    SameSpares d (probeConfirm b mv d) ∧ Judged (probeConfirm b mv d) b x.2.1 ∧
      (probeConfirm b mv d).emi.unconfirmed = d.emi.unconfirmed := by
  rw [probeConfirm_eq ht hx hslot, if_pos hmv]
  refine ⟨(slotProbed_sameSpares _ _ _ _ d).trans (confirmed_confirmFail _ _ _ _).spares, confirmFail_judged _ _ _ _, ?_⟩
  rw [confirmFail_emi, probeSeen_emi]
  rfl

/-- The slot takes its target off those that wait and lies at its instant (R174). -/
theorem probeConfirm_slot (ht : inTurnaround d = true) (hx : d.emi.probeFails.find? (fun e => e.1 == b) = some x)
    (hslot : tabGet 0 d.emi.confirmed b < 7) :
    (probeConfirm b mv d).emi.probeFails = d.emi.probeFails.erase x ∧
      (probeConfirm b mv d).sys.now = max d.sys.now (diagStart d + 34000 + 2000 * tabGet 0 d.emi.confirmed b) := by
  have hsys : (probeConfirm b mv d).sys = (slotBegun b x d).sys := by
    rw [probeConfirm_eq ht hx hslot]
    exact sys_of_view (by simp)
  refine ⟨?_, by rw [hsys]; rfl⟩
  rw [probeConfirm_eq ht hx hslot]
  split_ifs
  · rw [confirmFail_emi, probeSeen_emi]
    rfl
  · rw [modEmi_emi, probeSeen_emi]
    rfl

/-! ### The end of the probe block -/

theorem probeEnd_completes (hc : Calm s.dev) : Completes .probeBlockEnd s (probeEnd s.fresh) :=
  completes_of_views rfl rfl hc (by simp) (by simp) (by simp)

theorem probeEnd_only (d : Dev) : Only [.sys, .emi, .ev] d (probeEnd d) :=
  only_of_views fun p hp => by cases p <;> simp at hp ⊢

theorem confirmFails_emi (fails : List (Nat × Nat × Nat)) (d : Dev) :
    let e := fails.foldl (fun d f => confirmFail f.1 f.2.1 f.2.2 d) d
    e.emi = { d.emi with segs := e.emi.segs, banks := e.emi.banks } := by
  induction fails generalizing d with
  | nil => rfl
  | cons f fails ih =>
    intro e
    have he := ih (confirmFail f.1 f.2.1 f.2.2 d)
    rw [confirmFail_emi] at he
    exact he

/-- What found no slot is judged at the end of the block (R174). -/
theorem probeEnd_spec (ht : inTurnaround d = true) :
    (probeEnd d).emi.probeFails = [] ∧ (probeEnd d).emi.confirmed = [] ∧ SameSpares d (probeEnd d) ∧
      ∀ x ∈ d.emi.probeFails, Judged (probeEnd d) x.1 x.2.1 := by
  have he : probeEnd d = d.emi.probeFails.foldl (fun d f => confirmFail f.1 f.2.1 f.2.2 d)
      (modEmi (fun e => { e with probeFails := [], confirmed := [] }) (advanceTo (diagStart d + 50000) d)) := by
    rw [probeEnd, if_neg (by simp [ht])]
    rfl
  rw [he]
  obtain ⟨hconf, hjudged⟩ := confirmFails_spec d.emi.probeFails
    (modEmi (fun e => { e with probeFails := [], confirmed := [] }) (advanceTo (diagStart d + 50000) d))
  exact ⟨by rw [confirmFails_emi]; rfl, by rw [confirmFails_emi]; rfl, hconf.spares, hjudged⟩

/-! ### Dark counts and the self-test -/

theorem judgeMacros_recv (cnt : Nat → Nat → Nat) (keys : List Nat) (d : Dev) :
    let e := keys.foldl (fun d key => judgeMacro (cnt key) d key) d
    e.recv.mapPos = d.recv.mapPos ∧ e.recv.masks = d.recv.masks := by
  induction keys generalizing d with
  | nil => exact ⟨rfl, rfl⟩
  | cons key keys ih => exact ih (judgeMacro (cnt key) d key)

theorem darkCountEnd_completes (hc : Calm s.dev) (counts : List (Nat × Nat)) :
    Completes (.darkCountPositionEnd counts) s (darkCountEnd counts s.fresh) :=
  completes_of_views rfl rfl hc (by simp) (by simp) (by simp)

theorem darkCountEnd_only (counts : List (Nat × Nat)) (d : Dev) : Only [.sys, .recv] d (darkCountEnd counts d) :=
  only_of_views fun p hp => by cases p <;> simp at hp ⊢

/-- A position's counts are judged at its end, and no mask changes before the frame tick (R73, R76). -/
theorem darkCountEnd_spec (counts : List (Nat × Nat)) (ht : inTurnaround d = true) (hp : d.recv.mapPos < 8) :
    (darkCountEnd counts d).recv.mapPos = d.recv.mapPos + 1 ∧ (darkCountEnd counts d).recv.masks = d.recv.masks ∧
      (darkCountEnd counts d).sys.now = max d.sys.now (diagStart d + 50000 + 100000 * (d.recv.mapPos + 1)) := by
  unfold darkCountEnd
  extract_lets i first rows here named known running keys
  rw [if_neg (by simp [ht, i, hp])]
  obtain ⟨hpos, hmasks⟩ := judgeMacros_recv (fun key q => match counts.find? (fun c => c.1 == 4 * key + q) with
    | some c => c.2
    | none => 0) keys (modRecv (fun r => { r with mapPos := i + 1 }) (advanceTo (diagStart d + 50000 + 100000 * (i + 1)) d))
  refine ⟨hpos, hmasks, ?_⟩
  rw [sys_of_view (d := advanceTo (diagStart d + 50000 + 100000 * (i + 1)) d) (by simp)]
  rfl

theorem selfTestRun_completes (hc : Calm s.dev) (vf : List (Nat × Nat)) :
    Completes (.emitterSelftestRun vf) s (selfTestRun vf s.fresh) :=
  completes_of_views rfl rfl hc (by simp) (by simp) (by simp)

theorem selfTestRun_only (vf : List (Nat × Nat)) (d : Dev) : Only [.sys, .emi] d (selfTestRun vf d) :=
  only_of_views fun p hp => by cases p <;> simp at hp ⊢

/-- The self-test keeps its samples (R185). -/
theorem selfTestRun_emi (vf : List (Nat × Nat)) {x : SelfTest} (ht : inTurnaround d = true) (hx : d.emi.selfTest = some x)
    (hdue : x.due = true) (hran : x.ran = false) :
    ∃ v, (selfTestRun vf d).emi = { d.emi with selfTest := some { x with ran := true, vf := v } } := by
  simp only [selfTestRun, hx]
  rw [if_neg (by simp [ht, hdue, hran])]
  exact ⟨_, rfl⟩

end Sys2Proof.Laws
end

section
/-!
Gauge in the turnaround and the frame after (R92 to R96, R258), and the end of an ageing slew (R104).
-/
namespace Sys2Proof.Laws

open Sys2Proof.Machine

variable {s : State} {d e : Dev}

/-! ### Gauge: random edges -/

theorem ticking_of_inTurnaround (h : inTurnaround d = true) : ticking d = true := by
  simp only [inTurnaround, Bool.and_eq_true] at h
  exact h.1.1

theorem accGet_of_gauge (h : e.gauge = d.gauge) (k : Nat) : accGet e k = accGet d k := by rw [accGet, h, accGet]

theorem accGet_modAcc {lane : Nat} {f : GaugeAcc → GaugeAcc} (h : f (accGet d lane) ≠ GaugeAcc.none) (k : Nat) :
    accGet (modAcc lane f d) k = if k = lane then f (accGet d lane) else accGet d k := tabGet_tabMod_of_ne h k

theorem gaugeOf_modTable {lane : Nat} {f : GaugeRec → GaugeRec} (h : f (gaugeOf d lane) ≠ GaugeRec.none) (k : Nat) :
    gaugeOf (modTable lane f d) k = if k = lane then f (gaugeOf d lane) else gaugeOf d k := tabGet_tabMod_of_ne h k

theorem incSat_eq (w n : Nat) : incSat w n = min (2 ^ w - 1) (n + 1) := Nat.min_comm _ _

theorem tabPut_ne_nil {α : Type} (k : Nat) (v : α) (t : Tab α) : tabPut k v t ≠ [] := by
  cases t with
  | nil => simp [tabPut]
  | cons x t => simp only [tabPut]; split_ifs <;> simp

/-- A counted hit is not zero, so that its table lists it. -/
theorem tabMod_hit (t : Tab Nat) (k : Nat) : tabMod 0 t k (incSat 20) = tabPut k (incSat 20 (tabGet 0 t k)) t := by
  have h : incSat 20 (tabGet 0 t k) ≠ 0 := by rw [incSat_eq]; omega
  rw [tabMod, tabSet, if_neg h]

theorem gaugeEdge_eq {lane : Nat} (ht : inTurnaround d = true) (hc : d.gauge.closed = false) (hr : gaugeRuns d lane = true) (code : Nat) :
    gaugeEdge lane code d = modAcc lane (fun a => { a with hits := tabMod 0 a.hits (code % 64) (incSat 20) }) d := by
  rw [gaugeEdge, if_neg (by simp [ht, hc, hr])]

theorem gaugeEdge_completes (hc : Calm s.dev) (lane code : Nat) : Completes (.gaugeRandomEdge lane code) s (gaugeEdge lane code s.fresh) :=
  completes_of_views rfl rfl hc (by simp) (by simp) (by simp)

theorem gaugeEdge_only (lane code : Nat) (d : Dev) : Only [.gauge] d (gaugeEdge lane code d) :=
  only_of_views fun p hp => by cases p <;> simp at hp ⊢

theorem accGet_gaugeEdge {lane : Nat} (ht : inTurnaround d = true) (hc : d.gauge.closed = false) (hr : gaugeRuns d lane = true)
    (code k : Nat) : accGet (gaugeEdge lane code d) k =
      if k = lane then { accGet d lane with hits := tabMod 0 (accGet d lane).hits (code % 64) (incSat 20) } else accGet d k := by
  rw [gaugeEdge_eq ht hc hr]
  refine accGet_modAcc (fun h => ?_) k
  rw [tabMod_hit] at h
  exact tabPut_ne_nil _ _ _ (congrArg GaugeAcc.hits h)

/-- A random edge counts in its tap of its lane and nowhere else (R92). -/
theorem gaugeEdge_hits {lane : Nat} (ht : inTurnaround d = true) (hc : d.gauge.closed = false) (hr : gaugeRuns d lane = true)
    (code k tap : Nat) : tabGet 0 (accGet (gaugeEdge lane code d) k).hits tap =
      if k = lane ∧ tap = code % 64 then min (2 ^ 20 - 1) (tabGet 0 (accGet d lane).hits (code % 64) + 1)
      else tabGet 0 (accGet d k).hits tap := by
  rw [accGet_gaugeEdge ht hc hr]
  by_cases hk : k = lane
  · subst hk
    rw [if_pos rfl, tabMod_hit, tabGet_tabPut, incSat_eq]
    simp
  · rw [if_neg hk, if_neg (fun h => hk h.1)]

/-! ### Gauge: the end of collection -/

/-- A lane's refresh completes: it runs, none waits, and frames and hits are enough (R93). -/
abbrev RefreshCompletes (d : Dev) (lane : Nat) : Prop :=
  gaugeRuns d lane = true ∧ (accGet d lane).ready = none ∧ prmGet d 0x0429 ≤ gaugeAge d lane ∧ 65536 ≤ totalHits (accGet d lane).hits

/-- The end of a lane's collection completes the lane's refresh or leaves it, and touches no other lane's. -/
theorem gaugeEndLane_acc (d : Dev) (lane : Nat) :
    (∀ k, k ≠ lane → accGet (gaugeEndLane d lane) k = accGet d k) ∧
      (accGet (gaugeEndLane d lane) lane).ready = if RefreshCompletes d lane then some d.seq.frame else (accGet d lane).ready := by
  unfold gaugeEndLane
  extract_lets a age period d1
  by_cases hidle : (!gaugeRuns d lane || a.ready.isSome) = true
  · have hnot : ¬ RefreshCompletes d lane := fun ⟨hruns, hready, _⟩ => by simp [hruns, a, hready] at hidle
    rw [if_pos hidle, if_neg hnot]
    exact ⟨fun _ _ => rfl, rfl⟩
  rw [if_neg hidle]
  have hwaits : gaugeRuns d lane = true ∧ (accGet d lane).ready = none := by simpa [a] using hidle
  by_cases hdone : period ≤ age ∧ 65536 ≤ totalHits a.hits
  · have hne : { accGet d lane with ready := some d.seq.frame, starvedRaised := false } ≠ GaugeAcc.none := fun h => by
      simpa [GaugeAcc.none] using congrArg GaugeAcc.ready h
    have hacc (k : Nat) : accGet (modTable lane (fun t => { t with starved := false })
        (modAcc lane (fun a => { a with ready := some d.seq.frame, starvedRaised := false }) d)) k =
        if k = lane then { accGet d lane with ready := some d.seq.frame, starvedRaised := false } else accGet d k :=
      accGet_modAcc (f := fun a => { a with ready := some d.seq.frame, starvedRaised := false }) hne k
    rw [if_pos hdone, if_pos ⟨hwaits.1, hwaits.2, hdone⟩]
    exact ⟨fun k hk => by rw [hacc, if_neg hk], by rw [hacc, if_pos rfl]⟩
  rw [if_neg hdone, if_neg fun h : RefreshCompletes d lane => hdone h.2.2]
  have hne : { accGet d lane with starvedRaised := true } ≠ GaugeAcc.none := fun h => by
    simpa [GaugeAcc.none] using congrArg GaugeAcc.starvedRaised h
  have hacc (k : Nat) : accGet d1 k = if k = lane then { accGet d lane with starvedRaised := true } else accGet d k :=
    accGet_modAcc (f := fun a => { a with starvedRaised := true }) hne k
  split_ifs
  · rw [accGet_of_gauge (raise_gauge _ _ _ d1)]
    exact ⟨fun k hk => by rw [accGet_of_gauge (raise_gauge _ _ _ d1), hacc, if_neg hk], by rw [hacc, if_pos rfl]⟩
  · exact ⟨fun k hk => by rw [hacc, if_neg hk], by rw [hacc, if_pos rfl]⟩
  · exact ⟨fun _ _ => rfl, rfl⟩

theorem gaugeEndLane_gauge (d : Dev) (lane : Nat) :
    (gaugeEndLane d lane).gauge.shadow = d.gauge.shadow ∧ (gaugeEndLane d lane).gauge.closed = d.gauge.closed := by
  unfold gaugeEndLane
  extract_lets a age period d1
  split_ifs
  · exact ⟨rfl, rfl⟩
  · exact ⟨rfl, rfl⟩
  · rw [raise_gauge]
    exact ⟨rfl, rfl⟩
  · exact ⟨rfl, rfl⟩
  · exact ⟨rfl, rfl⟩

/-- What a lane's completion reads, the end of another lane's collection leaves. -/
theorem refreshCompletes_gaugeEndLane {d : Dev} {lane k : Nat} (h : k ≠ lane) :
    RefreshCompletes (gaugeEndLane d lane) k ↔ RefreshCompletes d k := by
  have hacc := (gaugeEndLane_acc d lane).1 k h
  have hrecv : (gaugeEndLane d lane).recv = d.recv := recv_of_view (by simp)
  have hprm : (gaugeEndLane d lane).prm = d.prm := prm_of_view (by simp)
  have hseq : (gaugeEndLane d lane).seq = d.seq := seq_of_view (by simp)
  simp only [RefreshCompletes, gaugeRuns, sliceOn, prmGet, gaugeAge, hacc, hrecv, hprm, hseq]

/-- The lanes' collections end each on its own. -/
theorem gaugeEndLanes_ready (lanes : List Nat) (hn : lanes.Nodup) (d : Dev) (k : Nat) :
    (accGet (lanes.foldl gaugeEndLane d) k).ready =
      if k ∈ lanes ∧ RefreshCompletes d k then some d.seq.frame else (accGet d k).ready := by
  induction lanes generalizing d with
  | nil => simp
  | cons lane lanes ih =>
    obtain ⟨hlane, hlanes⟩ := List.nodup_cons.1 hn
    have hseq : (gaugeEndLane d lane).seq = d.seq := seq_of_view (by simp)
    rw [List.foldl_cons, ih hlanes, hseq]
    by_cases hk : k = lane
    · subst hk
      simp only [hlane, false_and, if_false, List.mem_cons_self, true_and]
      exact (gaugeEndLane_acc d k).2
    · simp only [refreshCompletes_gaugeEndLane hk, (gaugeEndLane_acc d lane).1 k hk, List.mem_cons, hk, false_or]

theorem gaugeEndLanes_gauge (lanes : List Nat) (d : Dev) :
    (lanes.foldl gaugeEndLane d).gauge.shadow = d.gauge.shadow ∧ (lanes.foldl gaugeEndLane d).gauge.closed = d.gauge.closed := by
  induction lanes generalizing d with
  | nil => exact ⟨rfl, rfl⟩
  | cons lane lanes ih =>
    obtain ⟨hshadow, hclosed⟩ := ih (gaugeEndLane d lane)
    exact ⟨hshadow.trans (gaugeEndLane_gauge d lane).1, hclosed.trans (gaugeEndLane_gauge d lane).2⟩

theorem gaugeCollectionEnd_eq (ht : inTurnaround d = true) (hc : d.gauge.closed = false) :
    gaugeCollectionEnd d = (List.range 1096).foldl gaugeEndLane
      (modGauge (fun g => { g with closed := true }) (advanceTo (diagStart d + 1850000) d)) := by
  rw [gaugeCollectionEnd, if_neg (by simp [ht, hc])]

theorem gaugeCollectionEnd_sys (ht : inTurnaround d = true) (hc : d.gauge.closed = false) :
    (gaugeCollectionEnd d).sys = { d.sys with now := max d.sys.now (diagStart d + 1850000) } := by
  rw [gaugeCollectionEnd_eq ht hc,
    sys_of_view (d := modGauge (fun g => { g with closed := true }) (advanceTo (diagStart d + 1850000) d)) (by simp)]
  rfl

theorem gaugeCollectionEnd_completes (hc : Calm s.dev) (ht : inTurnaround s.dev = true) (ho : s.dev.gauge.closed = false) :
    Completes .gaugeCollectionEnd s (gaugeCollectionEnd s.fresh) := by
  have hop : (gaugeCollectionEnd s.fresh).sys.op = s.fresh.sys.op := by rw [gaugeCollectionEnd_sys (d := s.fresh) ht ho]
  have hticks : ticking (gaugeCollectionEnd s.fresh) = true := (ticking_of_op hop).trans (ticking_of_inTurnaround ht)
  exact completes_of _ gaugeCollectionEnd s rfl (calm_of_ticking (calm_fresh hc) hticks (by simp))

theorem gaugeCollectionEnd_only (d : Dev) : Only [.sys, .gauge, .ev] d (gaugeCollectionEnd d) :=
  only_of_views fun p hp => by cases p <;> simp at hp ⊢

/-- The end of collection completes the refresh of each lane with hits and frames enough, and of no other (R93). -/
theorem gaugeCollectionEnd_spec (ht : inTurnaround d = true) (hc : d.gauge.closed = false) :
    (gaugeCollectionEnd d).gauge.closed = true ∧ (gaugeCollectionEnd d).gauge.shadow = d.gauge.shadow ∧
      (gaugeCollectionEnd d).sys.now = max d.sys.now (diagStart d + 1850000) ∧
      ∀ k, (accGet (gaugeCollectionEnd d) k).ready =
        if k ∈ List.range 1096 ∧ RefreshCompletes d k then some d.seq.frame else (accGet d k).ready := by
  refine ⟨?_, ?_, by rw [gaugeCollectionEnd_sys ht hc], fun k => ?_⟩
  all_goals rw [gaugeCollectionEnd_eq ht hc]
  · exact (gaugeEndLanes_gauge _ _).2
  · exact (gaugeEndLanes_gauge _ _).1
  · exact gaugeEndLanes_ready _ List.nodup_range _ k

/-! ### Gauge: tables -/

/-- The hit counts of a lane's 64 taps. -/
def tapHits (d : Dev) (lane : Nat) : List Nat := (List.range 64).map (tabGet 0 (accGet d lane).hits)

/-- The bound that a lane's derived table fails; 0 none (R95). -/
def boundOf (d : Dev) (lane : Nat) : Nat := gaugeBound (gaugeOf d lane) (tapHits d lane) (deriveWidths (tapHits d lane))

theorem gaugeFailed_gauge (lane : Nat) (d : Dev) :
    (gaugeFailed lane d).gauge = { d.gauge with startsJudged := (gaugeFailed lane d).gauge.startsJudged } := by
  unfold gaugeFailed
  split_ifs
  · rw [gauge_of_view (judgeLane_frame _ _ _ (by simp))]
  · rfl

/-- Deriving a lane's table begins its next refresh, whatever the table is worth. -/
theorem gaugeDerive_acc {lane : Nat} (h : deriveDue d lane = true) :
    ∃ (fails : GaugeAcc → Nat) (since : Nat), (gaugeDerive lane d).gauge.acc =
      tabMod GaugeAcc.none d.gauge.acc lane (fun a => { a with hits := [], ready := none, since := since, fails := fails a }) := by
  unfold gaugeDerive
  extract_lets a hits ws bound d1 d2 d3
  refine ⟨fun a => if bound = 0 then 0 else a.fails + 1, wrapU 32 (d.seq.frame + 1), ?_⟩
  rw [if_neg (by simp [h])]
  change _ = d1.gauge.acc
  have h3 : d3.gauge.acc = d1.gauge.acc := by
    simp only [d3]
    split_ifs
    · rw [raise_gauge]
      rfl
    · rfl
  split_ifs
  · rfl
  · rw [gaugeFailed_gauge]
    exact h3
  · exact h3

/-- In a canonical table of refreshes the lane's begins anew. -/
theorem gaugeDerive_restarts {lane : Nat} (h : deriveDue d lane = true) (hw : tabWf GaugeAcc.none d.gauge.acc = true) :
    (accGet (gaugeDerive lane d) lane).ready = none ∧ (accGet (gaugeDerive lane d) lane).hits = [] := by
  obtain ⟨fails, since, hacc⟩ := gaugeDerive_acc h
  rw [accGet, hacc, tabMod, tabGet_tabSet _ _ _ _ _ hw, if_pos rfl]
  exact ⟨rfl, rfl⟩

/-- A table within its bounds waits in shadow (R95, R96). -/
theorem gaugeDerive_shadow {lane : Nat} (h : deriveDue d lane = true) (hb : boundOf d lane = 0) :
    (gaugeDerive lane d).gauge.shadow = tabPut lane ⟨deriveWidths (tapHits d lane), true, false, false,
      (gaugeOf d lane).failBound, satU 24 (tapHits d lane).sum, 0⟩ d.gauge.shadow := by
  unfold gaugeDerive
  extract_lets a hits ws bound d1 d2 d3
  have hb' : bound = 0 := hb
  rw [if_neg (by simp [h]), if_pos hb']
  rfl

/-- One outside them marks its lane (R95, R98). -/
theorem gaugeDerive_marks {lane : Nat} (h : deriveDue d lane = true) (hb : boundOf d lane ≠ 0) :
    (gaugeDerive lane d).gauge.shadow = d.gauge.shadow ∧
      gaugeOf (gaugeDerive lane d) lane = { gaugeOf d lane with boundFail := true, failBound := boundOf d lane } := by
  unfold gaugeDerive
  extract_lets a hits ws bound d1 d2 d3
  have hb' : bound ≠ 0 := hb
  rw [if_neg (by simp [h]), if_neg hb']
  have h3 : d3.gauge = d2.gauge := by
    simp only [d3]
    split_ifs
    · exact raise_gauge _ _ _ d2
    · rfl
  have h2 : gaugeOf d2 lane = { gaugeOf d lane with boundFail := true, failBound := bound } := by
    have hne : { gaugeOf d1 lane with boundFail := true, failBound := bound } ≠ GaugeRec.none := fun hn => by
      simpa [GaugeRec.none] using congrArg GaugeRec.boundFail hn
    exact (gaugeOf_modTable hne lane).trans (if_pos rfl)
  split_ifs
  · rw [gaugeOf, gaugeFailed_gauge, h3]
    exact ⟨rfl, h2⟩
  · rw [gaugeOf, h3]
    exact ⟨rfl, h2⟩

theorem gaugeDeriveChecked_eq {lane : Nat} (h : deriveDue d lane = true) (differs : Bool) :
    gaugeDeriveChecked lane differs d = if differs then trip [cGauge] (gaugeDerive lane d) else gaugeDerive lane d := by
  rw [gaugeDeriveChecked, if_neg (by simp [h])]

theorem deriveDue_of_ready {lane n : Nat} (ht : ticking d = true) (hr : (accGet d lane).ready = some n)
    (hn : (n + 1) % 2 ^ 32 = d.seq.frame) : deriveDue d lane = true := by
  have hw : wrapU 32 (n + 1) = d.seq.frame := hn
  simp [deriveDue, ht, hr, hw]

theorem gaugeDerive_completes (hc : Calm s.dev) {lane : Nat} (h : deriveDue s.fresh lane = true) :
    Completes (.gaugeTableDerive lane false) s (gaugeDerive lane s.fresh) :=
  completes_of_views rfl (gaugeDeriveChecked_eq h false) hc (by simp) (by simp) (by simp)

theorem gaugeDerive_only (lane : Nat) (d : Dev) : Only [.recv, .gauge, .ev] d (gaugeDerive lane d) :=
  only_of_views fun p hp => by cases p <;> simp at hp ⊢

/-! ### Trips -/

theorem deEnergise_latched (n : Nat) (d : Dev) : (deEnergise n d).saf.latched = d.saf.latched := by
  unfold deEnergise
  extract_lets was d1
  split_ifs
  · rw [raise_saf]
    rfl
  · rfl

theorem trip_latched (bits : List Nat) (d : Dev) :
    (trip bits d).saf.latched = bits.foldl (fun w b => putBit w b true) d.saf.latched := by
  have hstop (e : Dev) (b : Bytes) :
      (raise 512 0 b (deEnergiseAll (toState .safeStop (cancelStateCmds e)))).saf.latched = e.saf.latched := by
    rw [raise_saf, deEnergiseAll, deEnergise_latched, deEnergise_latched, toState_saf, cancelStateCmds_saf]
  unfold trip
  dsimp only
  split
  · exact hstop _ _
  · exact hstop _ _
  · exact hstop _ _
  · rfl

/-- A trip of an operating device leads to SAFE_STOP (R269). -/
theorem trip_op (bits : List Nat) (ht : ticking d = true) : (trip bits d).sys.op = .safeStop := by
  have hstop (e : Dev) : (raise 512 0 (le 4 (openRail (latchCauses bits d)).saf.latched) (deEnergiseAll (toState .safeStop e))).sys.op =
      .safeStop := by
    rw [raise_sys, sys_of_view (deEnergiseAll_frame _ (by simp)), toState_op]
  have hop : (openRail (latchCauses bits d)).sys.op = d.sys.op := rfl
  unfold trip
  dsimp only
  rcases op_of_ticking ht with h | h | h | h <;> simp only [hop, h, hstop]

theorem gaugeDerive_ticking (lane : Nat) (d : Dev) : ticking (gaugeDerive lane d) = ticking d :=
  ticking_of_op (op_of_view (by simp))

theorem gaugeTrip_completes (hc : Calm s.dev) {lane : Nat} (ht : ticking s.fresh = true) (h : deriveDue s.fresh lane = true) :
    Completes (.gaugeTableDerive lane true) s (trip [cGauge] (gaugeDerive lane s.fresh)) := by
  have hop : ticking (gaugeDerive lane s.fresh) = true := (gaugeDerive_ticking _ _).trans ht
  have hcalm : Calm (trip [cGauge] (gaugeDerive lane s.fresh)) :=
    ⟨(awaited_of_view (d := s.fresh) (by simp)).trans hc.1, fun hh => absurd ((trip_op _ hop).symm.trans hh) (by decide)⟩
  have he : gaugeDeriveChecked lane true s.fresh = trip [cGauge] (gaugeDerive lane s.fresh) := gaugeDeriveChecked_eq h true
  exact he ▸ completes_of _ (gaugeDeriveChecked lane true) s rfl (he ▸ hcalm)

theorem gaugeTrip_only (lane : Nat) (d : Dev) : Only [.sys, .recv, .gauge, .pts, .emi, .saf, .slu, .pcie, .kmp, .ev, .writes, .out] d
    (trip [cGauge] (gaugeDerive lane d)) :=
  only_of_views fun p hp => by cases p <;> simp at hp ⊢

/-! ### Ageing -/

theorem ageingComplete_of_slewing (h : d.tim.slewing = true) :
    ageingComplete d = finishWhere (fun c => c.op == 0x0502) stOk (leS 4 d.tim.ageingTarget)
      (modTim (fun t => { t with ageing := t.ageingTarget, slewing := false }) (advanceTuss (slewEnd d) d)) := by
  rw [ageingComplete, if_neg (by simp [h])]

theorem ageingComplete_of_still (h : d.tim.slewing = false) : ageingComplete d = d := by
  rw [ageingComplete, if_pos (by simp [h])]

theorem ageingComplete_completes (hc : Calm s.dev) (h : ageingComplete s.fresh = e) : Completes .ageingSlewComplete s e := by
  subst h
  refine completes_of_views rfl rfl hc ?_ ?_ ?_
  all_goals simp

end Sys2Proof.Laws
end

section
/-!
The turnaround's diagnostics as a whole.
-/
namespace Sys2Proof.Laws

open Sys2Proof.Machine

/-- Settles O51: each command's effect, told part by part above, is what the turnaround's diagnostics ask for. Every entry that a
probe, a judgement or a count writes differs from its table's default, so that it reads back from any table. -/
theorem turnaroundDiagnosticsAct : Obligations.TurnaroundDiagnosticsAct := by
  intro s hc f spare judged
  have hjudged {d : Dev} (hs : SameSpares s.fresh d) {b i : Nat} (h : Judged d b i) : judged d b i := by
    obtain ⟨hseg, hspare, hstripe⟩ := h
    exact ⟨hseg, fun hi hp => hspare hi ((hs.serves _ _).2 hp), fun hi hp => hstripe hi (mt (hs.serves _ _).1 hp)⟩
  refine ⟨?_, ?_, ?_, ?_, ?_, ?_, ?_, ?_, fun hslew => ?_, fun hslew => ?_⟩
  · intro round vf ht hr mv idx
    obtain ⟨hnow, hfails⟩ := probeRound_spec (d := s.fresh) vf ht hr
    exact ⟨_, probeRound_completes hc round vf, hnow, hfails, probeRound_only round vf _⟩
  · intro b mv x ht hx hslot
    obtain ⟨herased, hnow⟩ := probeConfirm_slot (d := s.fresh) (mv := mv) ht hx hslot
    refine ⟨_, probeConfirm_completes hc b mv, herased, hnow, probeConfirm_passed (d := s.fresh) ht hx hslot, fun hmv => ?_,
      probeConfirm_only b mv _⟩
    obtain ⟨hsame, hj, hcount⟩ := probeConfirm_judged (d := s.fresh) ht hx hslot hmv
    exact ⟨hjudged hsame hj, hcount⟩
  · intro ht
    obtain ⟨hfails, hconfirmed, hsame, hall⟩ := probeEnd_spec (d := s.fresh) ht
    exact ⟨_, probeEnd_completes hc, hfails, hconfirmed, fun x hx => hjudged hsame (hall x hx), probeEnd_only _⟩
  · intro counts ht hp
    obtain ⟨hpos, hmasks, hnow⟩ := darkCountEnd_spec (d := s.fresh) counts ht hp
    exact ⟨_, darkCountEnd_completes hc counts, hpos, hmasks, hnow, darkCountEnd_only counts _⟩
  · intro vf x ht hx hdue hran
    obtain ⟨v, hemi⟩ := selfTestRun_emi (d := s.fresh) vf ht hx hdue hran
    exact ⟨_, v, selfTestRun_completes hc vf, hemi, selfTestRun_only vf _⟩
  · intro lane code ht ho hr hits
    have hhits := gaugeEdge_hits (d := s.fresh) ht ho hr code
    exact ⟨_, gaugeEdge_completes hc lane code, by rw [gaugeEdge_eq (d := s.fresh) ht ho hr]; rfl,
      (hhits lane _).trans (if_pos ⟨rfl, rfl⟩), fun k tap hk => (hhits k tap).trans (if_neg (not_and_or.2 hk)),
      gaugeEdge_only lane code _⟩
  · intro ht ho completes
    obtain ⟨hclosed, hshadow, hnow, hready⟩ := gaugeCollectionEnd_spec (d := s.fresh) ht ho
    have hiff (lane : Nat) : lane ∈ List.range 1096 ∧ RefreshCompletes s.fresh lane ↔ completes lane := by
      rw [List.mem_range]
      rfl
    exact ⟨_, gaugeCollectionEnd_completes hc ht ho, hclosed, hnow, hshadow,
      fun lane h => (hready lane).trans (if_pos ((hiff lane).2 h)), fun lane h => (hready lane).trans (if_neg (mt (hiff lane).1 h)),
      gaugeCollectionEnd_only _⟩
  · intro lane n ht hr hn hits ws old bound
    have hdue : deriveDue s.fresh lane = true := deriveDue_of_ready (d := s.fresh) ht hr hn
    have hticks : ticking (gaugeDerive lane s.fresh) = true := (gaugeDerive_ticking _ _).trans ht
    have hhits : tapHits s.fresh lane = hits := rfl
    have hbound : boundOf s.fresh lane = bound := rfl
    constructor
    · refine ⟨_, gaugeDerive_completes hc hdue, gaugeDerive_restarts (d := s.fresh) hdue, fun hb => ?_, fun hb => ?_,
        gaugeDerive_only lane _⟩
      · exact hhits ▸ gaugeDerive_shadow (d := s.fresh) hdue (hbound.trans hb)
      · exact hbound ▸ gaugeDerive_marks (d := s.fresh) hdue (hbound.trans_ne hb)
    · refine ⟨_, gaugeTrip_completes hc ht hdue, ?_, trip_railClosed _ _, fun _ => trip_op _ hticks, gaugeTrip_only lane _⟩
      rw [trip_latched]
      exact bit_putBit_self _ _
  · exact ageingComplete_completes hc (ageingComplete_of_slewing (d := s.fresh) hslew)
  · exact ageingComplete_completes hc (ageingComplete_of_still (d := s.fresh) hslew)

end Sys2Proof.Laws
end

section
/-!
SUPPORT. What one firing does to the lane it reaches (R65, R66), and what it leaves to the others: each write that it makes to a lane
differs from a lane at rest, so that it reads back from any table.
-/
namespace Sys2Proof.Laws

open Sys2Proof.Machine

/-! ### Writes to one lane -/

theorem laneGet_modLane {d : Dev} {p : Nat} {f : Lane → Lane} (h : f (laneGet d p) ≠ Lane.idle) (q : Nat) :
    laneGet (modLane p f d) q = if q = p then f (laneGet d p) else laneGet d q := tabGet_tabMod_of_ne h q

theorem lane_ne_idle_of_hold {l : Lane} (h : l.hold ≠ 0) : l ≠ Lane.idle := by
  rintro rfl
  exact h rfl

theorem lane_ne_idle_of_fires {l : Lane} (h : l.fires ≠ []) : l ≠ Lane.idle := by
  rintro rfl
  exact h rfl

theorem lane_ne_idle_of_timed {l : Lane} {i : Nat} (h : bit l.timed i = true) : l ≠ Lane.idle := by
  rintro rfl
  simp [Lane.idle, bit] at h

/-- A lane that has counted a firing of one of its four SPADs is not at rest. -/
theorem lane_ne_idle_of_counted (l : Lane) {i : Nat} (hi : i < 4) : { l with raw := listMod l.raw i (incSat 16) } ≠ Lane.idle := by
  intro h
  have hraw : listMod l.raw i (incSat 16) = [0, 0, 0, 0] := congrArg Lane.raw h
  have hat : (listMod l.raw i (incSat 16))[i]? = some 0 := by
    rw [hraw]
    interval_cases i <;> rfl
  simp [listMod, incSat, satU] at hat

/-- A step moves no lane but one, and no dead time or mask. -/
structure LaneOnly (p : Nat) (d e : Dev) : Prop where
  blind : e.recv.blind = d.recv.blind
  masks : e.recv.masks = d.recv.masks
  others : ∀ q, q ≠ p → laneGet e q = laneGet d q

/-- A step moves no lane but one, and leaves that one's open coincidence and hold-off. -/
structure KeepsCoincidence (p : Nat) (d e : Dev) : Prop extends LaneOnly p d e where
  fires : (laneGet e p).fires = (laneGet d p).fires
  hold : (laneGet e p).hold = (laneGet d p).hold

section

variable {p : Nat} {c d e : Dev} {f : Lane → Lane}

theorem LaneOnly.refl (d : Dev) : LaneOnly p d d := ⟨rfl, rfl, fun _ _ => rfl⟩

theorem LaneOnly.trans (h : LaneOnly p c d) (k : LaneOnly p d e) : LaneOnly p c e :=
  ⟨k.blind.trans h.blind, k.masks.trans h.masks, fun q hq => (k.others q hq).trans (h.others q hq)⟩

theorem LaneOnly.modLane (h : f (laneGet d p) ≠ Lane.idle) : LaneOnly p d (modLane p f d) :=
  ⟨rfl, rfl, fun q hq => (laneGet_modLane h q).trans (if_neg hq)⟩

theorem KeepsCoincidence.of_recv (h : e.recv = d.recv) : KeepsCoincidence p d e := by
  refine ⟨⟨?_, ?_, fun q _ => ?_⟩, ?_, ?_⟩
  all_goals simp only [laneGet, h]

theorem KeepsCoincidence.refl (d : Dev) : KeepsCoincidence p d d := .of_recv rfl

theorem KeepsCoincidence.trans (h : KeepsCoincidence p c d) (k : KeepsCoincidence p d e) : KeepsCoincidence p c e :=
  ⟨h.toLaneOnly.trans k.toLaneOnly, k.fires.trans h.fires, k.hold.trans h.hold⟩

theorem KeepsCoincidence.modLane (h : f (laneGet d p) ≠ Lane.idle) (hf : (f (laneGet d p)).fires = (laneGet d p).fires)
    (hh : (f (laneGet d p)).hold = (laneGet d p).hold) : KeepsCoincidence p d (modLane p f d) := by
  have hp : laneGet (Machine.modLane p f d) p = f (laneGet d p) := (laneGet_modLane h p).trans (if_pos rfl)
  exact ⟨.modLane h, by rw [hp, hf], by rw [hp, hh]⟩

end

/-! ### A stamp -/

/-- What a lane in its hold-off is told moves no other lane, and leaves its coincidence and hold-off. -/
def KeepsHeld (p : Nat) (d e : Dev) : Prop := (laneGet d p).hold ≠ 0 → KeepsCoincidence p d e

section

variable {p : Nat} {c d e : Dev} {f : Lane → Lane}

theorem KeepsHeld.trans (h : KeepsHeld p c d) (k : KeepsHeld p d e) : KeepsHeld p c e := fun hc =>
  (h hc).trans (k ((h hc).hold ▸ hc))

theorem KeepsHeld.of_recv (h : e.recv = d.recv) : KeepsHeld p d e := fun _ => .of_recv h

theorem KeepsHeld.refl (d : Dev) : KeepsHeld p d d := .of_recv rfl

theorem KeepsHeld.modLane (hf : (f (laneGet d p)).fires = (laneGet d p).fires)
    (hh : (f (laneGet d p)).hold = (laneGet d p).hold) : KeepsHeld p d (modLane p f d) := fun hd =>
  .modLane (lane_ne_idle_of_hold (hh.trans_ne hd)) hf hh

theorem saturate_keepsHeld (p : Nat) (d : Dev) : KeepsHeld p d (saturate p d) :=
  .trans (d := modLane p (fun l => { l with sat := true }) d) (.modLane rfl rfl) (.of_recv (recv_of_view (by simp [saturate])))

theorem coarseInc_keepsHeld (p j : Nat) (d : Dev) : KeepsHeld p d (coarseInc p j d) := by
  unfold coarseInc
  extract_lets span s tag v d1
  have h1 : KeepsHeld p d d1 := .modLane rfl rfl
  split_ifs
  · exact h1.trans (saturate_keepsHeld p d1)
  · exact h1

theorem modFineBank_fires (n : Nat) (g : Tab Nat → Tab Nat) (l : Lane) : (modFineBank n g l).fires = l.fires := by
  unfold modFineBank
  split_ifs <;> rfl

theorem modFineBank_hold (n : Nat) (g : Tab Nat → Tab Nat) (l : Lane) : (modFineBank n g l).hold = l.hold := by
  unfold modFineBank
  split_ifs <;> rfl

theorem fineInc_keepsHeld (p : Nat) (r : Int) (d : Dev) : KeepsHeld p d (fineInc p r d) := by
  unfold fineInc
  split
  · exact .refl d
  · extract_lets n v d1
    have h1 : KeepsHeld p d d1 := .modLane (modFineBank_fires _ _ _) (modFineBank_hold _ _ _)
    split_ifs
    · exact h1.trans (saturate_keepsHeld p d1)
    · exact h1

theorem alignHit_keepsHeld (p : Nat) (d : Dev) : KeepsHeld p d (alignHit p d) := by
  intro _
  unfold alignHit
  split_ifs
  · exact .refl d
  · split
    · exact ⟨⟨rfl, rfl, fun _ _ => rfl⟩, rfl, rfl⟩
    · exact .refl d

theorem laneStamp_keepsHeld (p code : Nat) (d : Dev) : KeepsHeld p d (laneStamp p code d) := by
  unfold laneStamp
  extract_lets bank x dz z near v d1 d2 d3
  have h1 : KeepsHeld p d d1 := by
    simp only [d1]
    split_ifs
    · exact .modLane rfl rfl
    · exact .refl d
  have h2 : KeepsHeld p d1 d2 := by
    simp only [d2]
    split_ifs
    · exact (alignHit_keepsHeld p d1).trans (.trans (d := modCal p _ (alignHit p d1)) (.of_recv rfl) (.modLane rfl rfl))
    · exact .refl d1
  have h3 : KeepsHeld p d d3 := (h1.trans h2).trans (.of_recv (recv_of_view (by simp [d3])))
  split_ifs
  · exact .modLane rfl rfl
  · exact .refl d
  · exact h3
  · exact h3.trans (coarseInc_keepsHeld _ _ _)
  · exact h3.trans ((fineInc_keepsHeld _ _ _).trans (fineInc_keepsHeld _ _ _))

end

/-! ### A firing at one lane -/

variable {p key t stamp recharge : Nat} {d : Dev}

theorem rawCount_keepsCoincidence {q : Nat} (hq : q < 4) (p : Nat) (rel : Int) (recharge : Nat) (d : Dev) :
    KeepsCoincidence p d (rawCount p q rel recharge d) := by
  unfold rawCount
  extract_lets l d1
  have h1 : KeepsCoincidence p d d1 := .modLane (lane_ne_idle_of_counted _ hq) rfl rfl
  split_ifs
  · exact .refl d
  · exact h1
  · exact h1.trans (.trans (d := modCal p _ d1) (.of_recv rfl) (.modLane (lane_ne_idle_of_timed (bit_putBit_self _ _)) rfl rfl))

/-- The open coincidence of a lane with a firing added: what the window of `w` ps still holds of it, and the firing. -/
def coincidence (w t key stamp : Nat) (l : Lane) : List (Nat × Nat × Nat) :=
  recentFires w t l.live (key / 4) l.fires ++ [(t, key, stamp)]

/-- What a firing makes of a lane's coincidence and hold-off: a masked SPAD changes nothing, one in the hold-off is at most counted, one
short of the depth is kept, and with `k` distinct SPADs the lane holds off 2.0 ns from the first. -/
structure FiringOutcome (w t key stamp : Nat) (l m : Lane) : Prop where
  masked : bit l.live (key % 4) = false → m = l
  held : bit l.live (key % 4) = true → t < l.hold → m.fires = l.fires ∧ m.hold = l.hold
  kept : bit l.live (key % 4) = true → l.hold ≤ t → distinctSpads (coincidence w t key stamp l) < l.k →
    m.fires = coincidence w t key stamp l ∧ m.hold = l.hold
  detected : bit l.live (key % 4) = true → l.hold ≤ t → l.k ≤ distinctSpads (coincidence w t key stamp l) →
    ∀ f rest, coincidence w t key stamp l = f :: rest →
      m.fires = (coincidence w t key stamp l).filter (fun e => decide (f.1 + 2000 ≤ e.1)) ∧ m.hold = f.1 + 2000

/-- The firing of a live SPAD counted (R68, R121). -/
def firingCounted (p key t recharge : Nat) (d : Dev) : Dev :=
  rawCount p (key % 4) (relShot d t - startTime d (bankOfLane p)) recharge d

theorem firingCounted_keeps (p key t recharge : Nat) (d : Dev) : KeepsCoincidence p d (firingCounted p key t recharge d) :=
  rawCount_keepsCoincidence (Nat.mod_lt _ (by decide)) _ _ _ _

/-- A lane that detects at the first firing of its coincidence holds off 2.0 ns from there (R65, R66). -/
def detectAt (f : Nat × Nat × Nat) (fs : List (Nat × Nat × Nat)) (gated : Bool) (l : Lane) : Lane :=
  { l with fires := fs.filter (fun e => decide (f.1 + 2000 ≤ e.1)), hold := f.1 + 2000, det := if gated then incSat 16 l.det else l.det }

theorem laneFire_of_masked (hbit : bit (laneGet d p).live (key % 4) = false) : laneFire p key t stamp recharge d = d := by
  simp [laneFire, hbit]

section

variable (hbit : bit (laneGet d p).live (key % 4) = true)

include hbit

theorem laneFire_of_held (hhold : t < (laneGet d p).hold) :
    laneFire p key t stamp recharge d = firingCounted p key t recharge d := by
  simp [laneFire, firingCounted, hbit, hhold]

variable (hhold : (laneGet d p).hold ≤ t) {f : Nat × Nat × Nat} {rest : List (Nat × Nat × Nat)}
  (hfs : coincidence (prmGet d 0x0401 * 125) t key stamp (laneGet d p) = f :: rest)

include hhold hfs

theorem laneFire_of_kept (hk : distinctSpads (f :: rest) < (laneGet d p).k) :
    laneFire p key t stamp recharge d = modLane p (fun l => { l with fires := f :: rest }) (firingCounted p key t recharge d) := by
  simp only [coincidence] at hfs
  simp [laneFire, firingCounted, hbit, hhold, hfs, hk]

theorem laneFire_of_detected (hk : (laneGet d p).k ≤ distinctSpads (f :: rest)) :
    laneFire p key t stamp recharge d = laneStamp p (f.2.2 - 64 * (shotPs d / 1000))
      (modLane p (detectAt f (f :: rest) (inGate (dwellZone d) (relShot d f.1 - startTime d (bankOfLane p))))
        (firingCounted p key t recharge d)) := by
  simp only [coincidence] at hfs
  simp only [laneFire, firingCounted, hbit, hfs, Nat.not_lt.2 hhold, Nat.not_lt.2 hk, Bool.not_true, Bool.false_eq_true, if_false]
  rfl

end

/-- A firing moves no lane but the one it reaches, and that one as the coincidence asks. -/
theorem laneFire_spec (p key t stamp recharge : Nat) (d : Dev) :
    LaneOnly p d (laneFire p key t stamp recharge d) ∧
      FiringOutcome (prmGet d 0x0401 * 125) t key stamp (laneGet d p) (laneGet (laneFire p key t stamp recharge d) p) := by
  have hcount := firingCounted_keeps p key t recharge d
  rcases Bool.eq_false_or_eq_true (bit (laneGet d p).live (key % 4)) with hbit | hbit
  case inr =>
    rw [laneFire_of_masked hbit]
    exact ⟨.refl d, fun _ => rfl, by simp [hbit], by simp [hbit], by simp [hbit]⟩
  rcases lt_or_ge t (laneGet d p).hold with hhold | hhold
  · rw [laneFire_of_held hbit hhold]
    exact ⟨hcount.toLaneOnly, by simp [hbit], fun _ _ => ⟨hcount.fires, hcount.hold⟩, fun _ h => absurd hhold (Nat.not_lt.2 h),
      fun _ h => absurd hhold (Nat.not_lt.2 h)⟩
  obtain ⟨f, rest, hfs⟩ := List.exists_cons_of_ne_nil
    (show coincidence (prmGet d 0x0401 * 125) t key stamp (laneGet d p) ≠ [] by simp [coincidence])
  rcases lt_or_ge (distinctSpads (f :: rest)) (laneGet d p).k with hk | hk
  · have hne : { laneGet (firingCounted p key t recharge d) p with fires := f :: rest } ≠ Lane.idle :=
      lane_ne_idle_of_fires (List.cons_ne_nil f rest)
    rw [laneFire_of_kept hbit hhold hfs hk, laneGet_modLane hne, if_pos rfl]
    refine ⟨hcount.toLaneOnly.trans (.modLane hne), by simp [hbit], fun _ h => absurd h (Nat.not_lt.2 hhold),
      fun _ _ _ => ⟨hfs.symm, hcount.hold⟩, fun _ _ h => absurd hk (Nat.not_lt.2 (hfs ▸ h))⟩
  · rw [laneFire_of_detected hbit hhold hfs hk]
    generalize inGate _ _ = gated, f.2.2 - _ = code
    have hne : detectAt f (f :: rest) gated (laneGet (firingCounted p key t recharge d) p) ≠ Lane.idle :=
      lane_ne_idle_of_hold (Nat.succ_ne_zero _)
    have hp := (laneGet_modLane hne p).trans (if_pos rfl)
    have hstamp := laneStamp_keepsHeld p code _ (by rw [hp]; exact Nat.succ_ne_zero _)
    refine ⟨(hcount.toLaneOnly.trans (.modLane hne)).trans hstamp.toLaneOnly, by simp [hbit],
      fun _ h => absurd h (Nat.not_lt.2 hhold), fun _ _ h => absurd hk (Nat.not_le.2 (hfs ▸ h)), fun _ _ _ g r hg => ?_⟩
    obtain ⟨rfl, rfl⟩ := List.cons.inj (hfs.symm.trans hg)
    exact ⟨hstamp.fires.trans (by rw [hp, hfs]; rfl), hstamp.hold.trans (by rw [hp]; rfl)⟩

/-! ### The lanes that a firing feeds -/

/-- A firing reaches one lane after the other, with the raw stamp of each counted from the start of elapsed time. -/
def fireLane (key t recharge : Nat) (code : Nat → Nat) (d : Dev) (p : Nat) : Dev :=
  laneFire p key t (code p + 64 * (shotPs d / 1000)) recharge d

theorem fireLane_prm (key t recharge : Nat) (code : Nat → Nat) (d : Dev) (p : Nat) : (fireLane key t recharge code d p).prm = d.prm :=
  prm_of_view (by simp [fireLane])

theorem fireLane_shotPs (key t recharge : Nat) (code : Nat → Nat) (d : Dev) (p : Nat) :
    shotPs (fireLane key t recharge code d p) = shotPs d := by
  have hsys : (fireLane key t recharge code d p).sys = d.sys := sys_of_view (by simp [fireLane])
  have hseq : (fireLane key t recharge code d p).seq = d.seq := seq_of_view (by simp [fireLane])
  simp only [shotPs, dwellZone, dwellCol, hsys, hseq]

/-- Distinct lanes are each told once, and see the firing as the first does. -/
theorem fireLanes_spec (key t recharge : Nat) (code : Nat → Nat) (ps : List Nat) (hps : ps.Nodup) (d : Dev) :
    let e := ps.foldl (fireLane key t recharge code) d
    e.recv.blind = d.recv.blind ∧ e.recv.masks = d.recv.masks ∧ (∀ p, p ∉ ps → laneGet e p = laneGet d p) ∧
      ∀ p ∈ ps, FiringOutcome (prmGet d 0x0401 * 125) t key (code p + 64 * (shotPs d / 1000)) (laneGet d p) (laneGet e p) := by
  induction ps generalizing d with
  | nil => simp
  | cons a ps ih =>
    obtain ⟨ha, hps⟩ := List.nodup_cons.1 hps
    obtain ⟨honly, hout⟩ := laneFire_spec a key t (code a + 64 * (shotPs d / 1000)) recharge d
    obtain ⟨hblind, hmasks, hothers, hfed⟩ := ih hps (fireLane key t recharge code d a)
    simp only [prmGet, fireLane_prm, fireLane_shotPs] at hfed
    refine ⟨hblind.trans honly.blind, hmasks.trans honly.masks, fun p hp => ?_, fun p hp => ?_⟩
    · obtain ⟨hpa, hpps⟩ := not_or.1 (mt List.mem_cons.2 hp)
      exact (hothers p hpps).trans (honly.others p hpa)
    · rcases List.mem_cons.1 hp with rfl | hp
      · exact (hothers p ha).symm ▸ hout
      · have hpa : p ≠ a := fun h => ha (h ▸ hp)
        exact honly.others p hpa ▸ hfed p hp

end Sys2Proof.Laws
end

section
/-!
Start edges, avalanches and the close of the coarse phase (R63, R65, R87, R115).
-/
namespace Sys2Proof.Laws

open Sys2Proof.Machine

variable {d : Dev} {s : State}

/-! ### Start edges -/

/-- A start lane of bank `b` that works is in a shot, of the plan or of calibration firing. -/
structure StartEdgeDue (b coarse tap : Nat) (d : Dev) : Prop where
  inShot : (ticking d = true ∧ d.seq.dwellOpen = true ∧ d.seq.shot ≠ 0) ∨ (calFiring d = true ∧ d.emi.calShots ≠ 0)
  coarse : coarse < 48
  tap : tap < 64
  bank : b < 8
  works : b ∉ d.gauge.startsFailed

/-- The corrected time of a start edge (R89). -/
def startEdgeTime (b coarse tap : Nat) (d : Dev) : Nat := corrected (gaugeOf d (1088 + b)) (coarse * 64 + tap)

/-- The first edge is the start, the second the spacing, and the rest are counted (R87). -/
theorem startLaneEdge_eq {b coarse tap : Nat} (h : StartEdgeDue b coarse tap d) : startLaneEdge b coarse tap d =
    if (startOf d b).first = none then modStart b (fun y => { y with first := some (startEdgeTime b coarse tap d) }) d
    else if (startOf d b).second = none then modStart b (fun y => { y with second := some (startEdgeTime b coarse tap d) }) d
    else modBankStat b (bankBump 1 (·.extra) (fun k v => { k with extra := v })) d := by
  obtain ⟨hshot, hcoarse, htap, hbank, hworks⟩ := h
  have hin : ((calFiring d && d.emi.calShots != 0) || (ticking d && d.seq.dwellOpen && d.seq.shot != 0)) = true := by
    simpa [and_assoc, or_comm] using hshot
  simp [startLaneEdge, startEdgeTime, hin, hcoarse, htap, hbank, hworks]

theorem startLaneEdge_completes (hc : Calm s.dev) {b coarse tap : Nat} {e : Dev} (h : startLaneEdge b coarse tap s.fresh = e) :
    Completes (.startLaneEdge b coarse tap) s e := by
  subst h
  exact completes_of_views rfl rfl hc (by simp) (by simp) (by simp)

theorem bankBump_extra (k : BankStat) : (bankBump 1 (·.extra) (fun k v => { k with extra := v }) k).extra =
    min (2 ^ 32 - 1) (k.extra + 1) := by
  simp only [bankBump, stick]
  split_ifs <;> simp <;> omega

/-- A count that has moved differs from a bank without counts, so that it reads back, and no other bank's moves. -/
theorem extraEdge_banks (b : Nat) (d : Dev) (k : Nat) :
    tabGet BankStat.none (modBankStat b (bankBump 1 (·.extra) (fun k v => { k with extra := v })) d).histo.banks k =
      if k = b then bankBump 1 (·.extra) (fun k v => { k with extra := v }) (tabGet BankStat.none d.histo.banks b)
      else tabGet BankStat.none d.histo.banks k := by
  refine tabGet_tabMod_of_ne (fun h => ?_) k
  have hextra := (bankBump_extra (tabGet BankStat.none d.histo.banks b)).symm.trans (congrArg BankStat.extra h)
  simp only [BankStat.none] at hextra
  omega

theorem extraEdge_only (b : Nat) (f : BankStat → BankStat) (d : Dev) : Only [.histo] d (modBankStat b f d) :=
  only_of_views fun p hp => by cases p <;> simp at hp ⊢

/-! ### Avalanches -/

/-- The SPAD is dead from `t` on for τ_d (R60). -/
def firedBlind (key t : Nat) (d : Dev) : Dev := modRecv (fun r => { r with blind := tabPut key (t + deadPs d) r.blind }) d

/-- The raw stamp that a lane reads: the one listed, else that of the nominal taps. -/
def listedCode (readings : List (Nat × Nat)) (ps p : Nat) : Nat :=
  ((readings.find? (fun e => e.1 == p)).map (fun e => e.2 % 2 ^ 22)).getD (nominalCode ps)

/-- An avalanche of SPAD `key`, `ps` after the shot tick: its SPAD is powered and not blind, and the shot runs. -/
structure AvalancheDue (y x spad ps : Nat) (d : Dev) : Prop where
  inShot : ticking d = true ∧ d.seq.dwellOpen = true ∧ d.seq.shot ≠ 0
  powered : powered d y x = true
  within : ps < (dwellZone d).period * 1000
  place : spad < 4
  awake : tabGet 0 d.recv.blind ((y * 640 + x) * 4 + spad) ≤ shotPs d + ps

theorem spadAvalanche_eq {y x spad ps : Nat} (h : AvalancheDue y x spad ps d) (recharge : Nat) (readings : List (Nat × Nat)) :
    spadAvalanche y x spad ps recharge readings d =
      (lanesFed d y x).foldl (fireLane ((y * 640 + x) * 4 + spad) (shotPs d + ps) recharge (listedCode readings ps))
        (firedBlind ((y * 640 + x) * 4 + spad) (shotPs d + ps) d) := by
  obtain ⟨⟨hticks, hopen, hshot⟩, hpowered, hwithin, hspad, hawake⟩ := h
  rw [spadAvalanche, if_neg (by simp [hticks, hopen, hshot, hpowered, hwithin, hspad, hawake])]
  refine congrArg (List.foldl · _ _) (funext₂ fun d p => ?_)
  unfold fireLane listedCode
  cases readings.find? (fun e => e.1 == p) with
  | none => rfl
  | some e => rfl

/-- A SPAD that is not powered, is blind, or fires outside the shot changes nothing. -/
theorem spadAvalanche_of_idle {y x spad ps : Nat} (h : powered d y x = false ∨ (dwellZone d).period * 1000 ≤ ps ∨ 4 ≤ spad ∨
    shotPs d + ps < tabGet 0 d.recv.blind ((y * 640 + x) * 4 + spad) ∨ d.seq.shot = 0) (recharge : Nat)
    (readings : List (Nat × Nat)) : spadAvalanche y x spad ps recharge readings d = d := by
  rw [spadAvalanche, if_pos]
  rcases h with h | h | h | h | h <;> simp [h]

theorem spadAvalanche_completes (hc : Calm s.dev) (y x spad ps recharge : Nat) (readings : List (Nat × Nat)) :
    Completes (.spadAvalanche y x spad ps recharge readings) s (spadAvalanche y x spad ps recharge readings s.fresh) :=
  completes_of_views rfl rfl hc (by simp) (by simp) (by simp)

theorem spadAvalanche_only (y x spad ps recharge : Nat) (readings : List (Nat × Nat)) (d : Dev) :
    Only [.recv, .tim, .histo, .diag, .ev] d (spadAvalanche y x spad ps recharge readings d) :=
  only_of_views fun p hp => by cases p <;> simp at hp ⊢

/-- An avalanche blinds its SPAD and reaches the lanes its macropixel feeds, and no other (R60, R63). -/
theorem spadAvalanche_spec {y x spad ps : Nat} (h : AvalancheDue y x spad ps d) (hfed : (lanesFed d y x).Nodup) (recharge : Nat)
    (readings : List (Nat × Nat)) :
    let key := (y * 640 + x) * 4 + spad
    let t := shotPs d + ps
    let e := spadAvalanche y x spad ps recharge readings d
    e.recv.blind = tabPut key (t + deadPs d) d.recv.blind ∧ e.recv.masks = d.recv.masks ∧
      (∀ p, p ∉ lanesFed d y x → laneGet e p = laneGet d p) ∧
      ∀ p ∈ lanesFed d y x, FiringOutcome (prmGet d 0x0401 * 125) t key (listedCode readings ps p + 64 * (shotPs d / 1000))
        (laneGet d p) (laneGet e p) := by
  have hspec := fireLanes_spec ((y * 640 + x) * 4 + spad) (shotPs d + ps) recharge (listedCode readings ps) (lanesFed d y x) hfed
    (firedBlind ((y * 640 + x) * 4 + spad) (shotPs d + ps) d)
  rw [← spadAvalanche_eq h] at hspec
  exact hspec

/-! ### The close of the coarse phase -/

/-- The coarse phase is over in the open dwell and not yet closed. -/
structure CoarseCloseDue (d : Dev) : Prop where
  ticks : ticking d = true
  isOpen : d.seq.dwellOpen = true
  unclosed : d.histo.phaseClosed = false
  ended : (dwellZone d).coarse ≤ d.seq.shot

/-- The device with every lane's candidates fixed (R115). -/
def coarseShut (d : Dev) : Dev :=
  modHisto (fun h => { h with phaseClosed := true })
    (modRecv (fun r => { r with lanes := r.lanes.map (fun e => (e.1, { e.2 with cands := candidates e.2.slots })) }) d)

theorem coarseClose_of_due (h : CoarseCloseDue d) : coarseClose d = coarseShut d := by
  obtain ⟨hticks, hopen, hclosed, hover⟩ := h
  rw [coarseClose, if_neg (by simp [hticks, hopen, hclosed, hover])]
  rfl

theorem coarseCloseAll_of_none (h : CoarseCloseDue d) (hh : d.diag.hist = none) : coarseCloseAll d = coarseShut d := by
  have hd : (coarseShut d).diag.hist = none := hh
  simp only [coarseCloseAll, coarseClose_of_due h, hd]

theorem coarseCloseAll_of_other (h : CoarseCloseDue d) {g : DiagHist} (hh : d.diag.hist = some g)
    (hg : g.begun = false ∨ g.column ≠ dwellCol d) : coarseCloseAll d = coarseShut d := by
  have hd : (coarseShut d).diag.hist = some g := hh
  have hcol : dwellCol (coarseShut d) = dwellCol d := rfl
  simp only [coarseCloseAll, coarseClose_of_due h, hd, hcol]
  rw [if_neg]
  rcases hg with hg | hg
  · simp [hg]
  · simp [Ne.symm hg]

/-- A DIAG_HIST of the dwell's column takes its copy (R456). -/
theorem coarseCloseAll_of_hist (h : CoarseCloseDue d) {g : DiagHist} (hh : d.diag.hist = some g) (hbegun : g.begun = true)
    (hg : g.column = dwellCol d) : coarseCloseAll d =
      modDiag (fun y => { y with hist := none, bulk := some ⟨g.mb, g.tag, 0x1001, histData (coarseShut d) g, 0,
        bulkParts (histData (coarseShut d) g).length⟩ }) (coarseShut d) := by
  have hd : (coarseShut d).diag.hist = some g := hh
  have hcol : dwellCol (coarseShut d) = g.column := hg.symm
  have hshut : (coarseShut d).histo.phaseClosed = true := rfl
  simp [coarseCloseAll, coarseClose_of_due h, hd, hcol, hshut, hbegun, h.unclosed]

theorem coarsePhaseClose_completes (hc : Calm s.dev) {e : Dev} (h : coarseCloseAll s.fresh = e) : Completes .coarsePhaseClose s e := by
  subst h
  exact completes_of_views rfl rfl hc (by simp) (by simp) (by simp)

/-! ### The statement -/

/-- Settles O48: a start edge, an avalanche and the close of the coarse phase, told one by one above. An avalanche tells the lanes its
macropixel feeds one after the other, and what each is told moves no other lane, so that each sees it as it stood before. Which lanes
a macropixel feeds where more than four would is DESIGN CHOICE (assumption log, entry 69), and so is it that an event out of place changes
nothing (entry 1). -/
theorem detectionsReachTheirLanes : Obligations.DetectionsReachTheirLanes := by
  intro s hc z inShot
  refine ⟨?_, ?_, ?_⟩
  · intro b coarse tap hshot hcoarse htap hb hworks t x extra
    have heq := startLaneEdge_eq (d := s.fresh) ⟨hshot, hcoarse, htap, hb, hworks⟩
    refine ⟨fun h1 => ?_, fun h1 h2 => ?_, fun h1 h2 => ?_⟩
    · exact startLaneEdge_completes hc (heq.trans (if_pos h1))
    · exact startLaneEdge_completes hc (heq.trans ((if_neg h1).trans (if_pos h2)))
    · have hbanks := extraEdge_banks b s.fresh
      refine ⟨_, startLaneEdge_completes hc (heq.trans ((if_neg h1).trans (if_neg h2))), ?_,
        fun k hk => (hbanks k).trans (if_neg hk), extraEdge_only _ _ _⟩
      exact (congrArg BankStat.extra ((hbanks b).trans (if_pos rfl))).trans (bankBump_extra _)
  · intro y x spad ps recharge readings key t
    constructor
    · intro hidle
      have hcompletes := spadAvalanche_completes hc y x spad ps recharge readings
      rwa [spadAvalanche_of_idle (d := s.fresh) hidle] at hcompletes
    · intro hshot hpowered hps hspad hawake hfed
      obtain ⟨hblind, hmasks, hothers, hout⟩ :=
        spadAvalanche_spec (d := s.fresh) ⟨hshot, hpowered, hps, hspad, hawake⟩ hfed recharge readings
      refine ⟨_, spadAvalanche_completes hc y x spad ps recharge readings, hblind, hmasks, hothers, fun p hp => ?_,
        spadAvalanche_only _ _ _ _ _ _ _⟩
      obtain ⟨hmasked, hheld, hkept, hdetected⟩ := hout p hp
      have hq : ((y * 640 + x) * 4 + spad) % 4 = spad := by omega
      have hm : ((y * 640 + x) * 4 + spad) / 4 = y * 640 + x := by omega
      simp only [coincidence, hq, hm] at hmasked hheld hkept hdetected
      exact ⟨hmasked, hheld, hkept, hdetected⟩
  · intro hticks hopen hclosed hover shut
    have hdue : CoarseCloseDue s.fresh := ⟨hticks, hopen, hclosed, hover⟩
    refine ⟨fun hh => ?_, fun g hh hg => ?_, fun g hh hbegun hg => ?_⟩
    · exact coarsePhaseClose_completes hc (coarseCloseAll_of_none hdue hh)
    · exact coarsePhaseClose_completes hc (coarseCloseAll_of_other hdue hh hg)
    · exact coarsePhaseClose_completes hc (coarseCloseAll_of_hist hdue hh hbegun hg)

end Sys2Proof.Laws
end

section
/-!
The formatter writes the dwell that waits and hands it to Tussock, which checks its tag (R135, R257).
-/
namespace Sys2Proof.Laws

open Sys2Proof.Machine

variable {d : Dev} {s : State}

/-! ### What writing a dwell's units leaves -/

/-- Of the point formatter's group only the counts and the marks of headers written may differ. -/
def CountsOnly (d d' : Dev) : Prop := d'.pts = { d.pts with counts := d'.pts.counts, headed := d'.pts.headed }

theorem CountsOnly.refl (d : Dev) : CountsOnly d d := rfl

theorem CountsOnly.trans {a b c : Dev} (h : CountsOnly a b) (k : CountsOnly b c) : CountsOnly a c :=
  Eq.trans k (congrArg (fun p : Pts => { p with counts := c.pts.counts, headed := c.pts.headed }) h)

theorem CountsOnly.of_view {d e : Dev} (h : Facet.pts.view e = Facet.pts.view d) : CountsOnly d e := by
  rw [CountsOnly, pts_of_view h]

theorem headQueue_countsOnly (q : Nat) (d : Dev) : CountsOnly d (headQueue q d) := by
  unfold headQueue
  split
  · exact .refl d
  · exact .trans (b := modPts (fun p => { p with headed := q :: p.headed }) d) rfl (.of_view (by simp))

theorem writeUnit_countsOnly (d0 : Dev) (w : Work) (sector band type : Nat) (pts : List Pt) (d : Dev) :
    CountsOnly d (writeUnit d0 w sector band type pts d) := by
  unfold writeUnit
  extract_lets q bs
  split
  · exact .refl d
  · split
    · exact .refl d
    · have hcount : CountsOnly (headQueue q d) (modPts (fun p => { p with
          counts := tabMod QCount.none p.counts q (countUnit type pts) }) (headQueue q d)) := rfl
      exact ((headQueue_countsOnly q d).trans hcount).trans (.of_view (by simp))

theorem foldl_countsOnly {α : Type} {f : Dev → α → Dev} (h : ∀ d a, CountsOnly d (f d a)) (l : List α) (d : Dev) :
    CountsOnly d (l.foldl f d) :=
  List.foldlRecOn (motive := CountsOnly d) l f (.refl d) fun e he a _ => he.trans (h e a)

/-! ### The formatter -/

/-- The dwell leaves the formatter and joins those that Tussock is to check. -/
theorem pointFormat_pts {w : Work} (h : d.pts.format = some w) :
    (pointFormat d).pts.format = none ∧ (pointFormat d).pts.reduce = d.pts.reduce ∧
      (pointFormat d).pts.evalDwells = d.pts.evalDwells ++ [(w.dwellNo, w.col, dwellPoints d w)] := by
  simp only [pointFormat, h, modPts_pts]
  generalize sectorOfCol (aMaxDev d) d.seq.plan w.col = sector
  have hwritten := foldl_countsOnly (fun x i => writeUnit_countsOnly d w sector (i / 6) (i % 6)
    ((dwellPoints d w).filter (fun p => p.row / 8 == i / 6)) x) (List.range 96) d
  rw [pts_of_view (peatDwell_frame _ w _ _ _ (by simp)), hwritten]
  exact ⟨trivial, rfl, rfl⟩

theorem pointFormat_of_none (h : d.pts.format = none) : pointFormat d = d := by
  simp [pointFormat, h]

theorem pointFormat_completes (hc : Calm s.dev) {e : Dev} (h : pointFormat s.fresh = e) : Completes .pointFormat s e := by
  subst h
  exact completes_of_views rfl rfl hc (by simp) (by simp) (by simp)

theorem pointFormat_only (d : Dev) : Only [.pts, .slu, .peat, .pcie, .kmp, .ev, .writes, .out] d (pointFormat d) :=
  only_of_views fun p hp => by cases p <;> simp at hp ⊢

/-! ### What judging the held dwells leaves -/

/-- Of the safety processor's group only the fields' states, the held dwells and the verdicts over them may differ. -/
def FieldsOnly (d d' : Dev) : Prop :=
  d'.saf = { d.saf with
    fields := d'.saf.fields, oldFields := d'.saf.oldFields, held := d'.saf.held, verdicts := d'.saf.verdicts }

theorem FieldsOnly.refl (d : Dev) : FieldsOnly d d := rfl

theorem FieldsOnly.trans {a b c : Dev} (h : FieldsOnly a b) (k : FieldsOnly b c) : FieldsOnly a c :=
  Eq.trans k (congrArg (fun x : Saf => { x with
    fields := c.saf.fields, oldFields := c.saf.oldFields, held := c.saf.held, verdicts := c.saf.verdicts }) h)

theorem FieldsOnly.of_view {d e : Dev} (h : Facet.saf.view e = Facet.saf.view d) : FieldsOnly d e := by
  rw [FieldsOnly, saf_of_view h]

theorem FieldsOnly.tagBad {d e : Dev} (h : FieldsOnly d e) : e.saf.tagBad = d.saf.tagBad :=
  (congrArg Saf.tagBad h :)

theorem FieldsOnly.lastDwell {d e : Dev} (h : FieldsOnly d e) : e.saf.lastDwell = d.saf.lastDwell :=
  (congrArg Saf.lastDwell h :)

theorem FieldsOnly.latched {d e : Dev} (h : FieldsOnly d e) : e.saf.latched = d.saf.latched :=
  (congrArg Saf.latched h :)

theorem FieldsOnly.railClosed {d e : Dev} (h : FieldsOnly d e) : e.saf.railClosed = d.saf.railClosed :=
  (congrArg Saf.railClosed h :)

theorem noteFields_fieldsOnly (before : List FieldRun) (d : Dev) : FieldsOnly d (noteFields before d) := by
  refine List.foldlRecOn (motive := FieldsOnly d) _ _ (.refl d) fun e he i _ => he.trans ?_
  split
  · exact .of_view (by simp)
  · exact .refl e

theorem evalDwell_fieldsOnly (h : HeldDwell) (rows : Nat) (d : Dev) : FieldsOnly d (evalDwell h rows d) := by
  unfold evalDwell
  extract_lets az blind before d1 d2
  have h1 : FieldsOnly d d1 := by
    cases hset : d.saf.set with
    | none => simp only [d1, hset, FieldsOnly.refl]
    | some k => simp only [d1, hset, FieldsOnly, modSaf_saf]
  have h2 : FieldsOnly d1 d2 := by
    cases hset : d.saf.oldSet with
    | none => simp only [d2, hset, FieldsOnly.refl]
    | some k => simp only [d2, hset, FieldsOnly, modSaf_saf]
  exact (h1.trans h2).trans (noteFields_fieldsOnly _ _)

theorem evalHeld_fieldsOnly (n : Nat) (d : Dev) : FieldsOnly d (evalHeld n d) := by
  induction n generalizing d with
  | zero => exact .refl d
  | succ n ih =>
    unfold evalHeld
    split
    · exact .refl d
    · next h hs _ =>
      split
      · exact .refl d
      · next rows _ =>
        have htaken : FieldsOnly d (modSaf (fun s => { s with
            held := hs, verdicts := s.verdicts.filter (fun v => decide (h.dwellNo ≤ v.2.1)) }) d) := rfl
        exact (htaken.trans (evalDwell_fieldsOnly h rows _)).trans (ih _)

theorem evalReady_fieldsOnly (d : Dev) : FieldsOnly d (evalReady d) := evalHeld_fieldsOnly _ d

/-! ### Trips -/

theorem deEnergise_saf (n : Nat) (d : Dev) : (deEnergise n d).saf = { d.saf with outs := (deEnergise n d).saf.outs } := by
  unfold deEnergise
  extract_lets was d1
  split
  · rw [raise_saf]
    rfl
  · rfl

/-- Of the safety processor's group a trip moves the rail, the latched causes and the safety outputs. -/
theorem trip_saf (bits : List Nat) (d : Dev) :
    (trip bits d).saf = { (openRail (latchCauses bits d)).saf with outs := (trip bits d).saf.outs } := by
  have hstop (e : Dev) (b : Bytes) : (raise 512 0 b (deEnergiseAll (toState .safeStop (cancelStateCmds e)))).saf =
      { e.saf with outs := (raise 512 0 b (deEnergiseAll (toState .safeStop (cancelStateCmds e)))).saf.outs } := by
    rw [raise_saf, deEnergiseAll, deEnergise_saf, deEnergise_saf, toState_saf, cancelStateCmds_saf]
  unfold trip
  dsimp only
  split
  · exact hstop _ _
  · exact hstop _ _
  · exact hstop _ _
  · rfl

theorem ticking_of_operating (h : d.sys.op = .ready ∨ d.sys.op = .armed ∨ d.sys.op = .running) : ticking d = true := by
  rcases h with h | h | h <;> simp [ticking, h]

theorem trip_op_of_not_ticking (bits : List Nat) (h : ticking d = false) : (trip bits d).sys.op = d.sys.op := by
  have hop : (openRail (latchCauses bits d)).sys.op = d.sys.op := rfl
  unfold trip
  dsimp only
  cases ho : d.sys.op <;> simp [ticking, ho] at h <;> simp only [hop, ho]

/-- A trip halts nothing and leaves the session and a reset that waits. -/
theorem trip_calm (bits : List Nat) (h : Calm d) : Calm (trip bits d) := by
  cases ht : ticking d with
  | true => exact ⟨(awaited_of_view (by simp)).trans h.1, fun hh => absurd ((trip_op bits ht).symm.trans hh) (by decide)⟩
  | false =>
    refine ⟨(awaited_of_view (by simp)).trans h.1, fun hh => ?_⟩
    rw [session_of_view (d := d) (by simp)]
    exact h.2 ((trip_op_of_not_ticking bits ht).symm.trans hh)

theorem toState_evalDwells (o : OpState) (d : Dev) : (toState o d).pts.evalDwells = d.pts.evalDwells := by
  have hraised (b : Bytes) : (raise 1 0 b (modSys (fun y => { y with op := o }) d)).pts = d.pts :=
    pts_of_view (d := modSys (fun y => { y with op := o }) d) (by simp)
  unfold toState
  split
  · rfl
  · dsimp only
    split
    · simp only [modPts_pts, hraised]
    · rw [hraised]

/-- A trip may drop the work of the formatter, never the dwells handed to Tussock. -/
theorem trip_evalDwells (bits : List Nat) (d : Dev) : (trip bits d).pts.evalDwells = d.pts.evalDwells := by
  have hstop (e : Dev) (b : Bytes) :
      (raise 512 0 b (deEnergiseAll (toState .safeStop (cancelStateCmds e)))).pts.evalDwells = e.pts.evalDwells := by
    rw [pts_of_view (d := toState .safeStop (cancelStateCmds e)) (by simp), toState_evalDwells, pts_of_view (d := e) (by simp)]
  unfold trip
  dsimp only
  split
  · exact hstop _ _
  · exact hstop _ _
  · exact hstop _ _
  · rfl

/-! ### The tag check -/

/-- The tag over the records as they came differs, or a number was skipped (R257). -/
def tagBroken (flips : List (Nat × Nat)) (tagXor : Nat) (d : Dev) (e : Nat × Nat × List Pt) : Bool :=
  hookDiffers 0 0 e.1 (recordBlockLen e.2.2) flips tagXor || d.saf.lastDwell.any (fun n => wrapU 32 (n + 1) != e.1)

theorem tagBroken_iff (flips : List (Nat × Nat)) (tagXor : Nat) (d : Dev) (e : Nat × Nat × List Pt) :
    tagBroken flips tagXor d e = true ↔ hookDiffers 0 0 e.1 (recordBlockLen e.2.2) flips tagXor = true ∨
      ∃ n, d.saf.lastDwell = some n ∧ (n + 1) % 2 ^ 32 ≠ e.1 := by
  simp [tagBroken, wrapU, Option.any_eq_true]

/-- The dwell is taken from those that wait, counted where its tag is broken, and held until its block is judged. -/
def tagNoted (bad : Bool) (e : Nat × Nat × List Pt) (rest : List (Nat × Nat × List Pt)) (d : Dev) : Dev :=
  modSaf (fun s => { s with
      lastDwell := some e.1, tagBad := s.tagBad + (if bad then 1 else 0), held := s.held ++ [⟨e.1, e.2.1, bad, e.2.2⟩] })
    (modPts (fun p => { p with evalDwells := rest }) d)

/-- A broken tag is reported, and the fourth in a frame trips. -/
def tagReported (e : Nat × Nat × List Pt) (rest : List (Nat × Nat × List Pt)) (d : Dev) : Dev :=
  if d.saf.tagBad = 3 then trip [cTag] (raise 541 0 [] (tagNoted true e rest d)) else raise 541 0 [] (tagNoted true e rest d)

@[simp] theorem tagNoted_frame {v : Facet} (bad : Bool) (e : Nat × Nat × List Pt) (rest : List (Nat × Nat × List Pt)) (d : Dev)
    (h : v ∉ [.pts, .saf]) : v.view (tagNoted bad e rest d) = v.view d := by
  simp at h
  simp [tagNoted, h]

section Check

variable {e : Nat × Nat × List Pt} {rest : List (Nat × Nat × List Pt)} {flips : List (Nat × Nat)} {tagXor : Nat}

theorem tagCheck_of_none (h : d.pts.evalDwells = []) : tagCheck flips tagXor d = d := by
  simp [tagCheck, h]

/-- A tag check reports where the tag is broken, then judges the held dwells whose block is told. -/
theorem tagCheck_eq (h : d.pts.evalDwells = e :: rest) : tagCheck flips tagXor d =
    evalReady (if tagBroken flips tagXor d e then tagReported e rest d else tagNoted false e rest d) := by
  have hcounted : (tagNoted true e rest d).saf.tagBad = d.saf.tagBad + 1 := rfl
  unfold tagCheck
  split
  · next hnone => simp [h] at hnone
  · next e' rest' hsome =>
    obtain ⟨rfl, rfl⟩ := List.cons.inj (h.symm.trans hsome)
    extract_lets skip bad d1 d2 d3
    have hskip : skip = d.saf.lastDwell.any (fun n => wrapU 32 (n + 1) != e.1) := by
      unfold skip
      cases d.saf.lastDwell <;> rfl
    have hbad : bad = tagBroken flips tagXor d e := by rw [tagBroken, ← hskip]
    have hnoted : d1 = tagNoted bad e rest d := rfl
    clear_value bad d1
    subst hbad hnoted
    cases hb : tagBroken flips tagXor d e with
    | false => simp [d3, d2, hb]
    | true => simp [d3, d2, hb, hcounted, tagReported]

theorem tagReported_evalDwells (d : Dev) : (tagReported e rest d).pts.evalDwells = rest := by
  have hraised : (raise 541 0 [] (tagNoted true e rest d)).pts = (tagNoted true e rest d).pts := pts_of_view (by simp)
  unfold tagReported
  split
  · rw [trip_evalDwells, hraised]
    rfl
  · rw [hraised]
    rfl

theorem tagReported_counts (d : Dev) :
    (tagReported e rest d).saf.lastDwell = some e.1 ∧ (tagReported e rest d).saf.tagBad = d.saf.tagBad + 1 := by
  unfold tagReported
  split
  · rw [trip_saf]
    simp only [openRail, latchCauses, modEmi_saf, modSaf_saf, raise_saf]
    exact ⟨rfl, rfl⟩
  · rw [raise_saf]
    exact ⟨rfl, rfl⟩

/-- The dwell is taken off, its number noted, and it is counted where its tag is broken. -/
theorem tagCheck_takes (h : d.pts.evalDwells = e :: rest) :
    (tagCheck flips tagXor d).pts.evalDwells = rest ∧ (tagCheck flips tagXor d).saf.lastDwell = some e.1 ∧
      (tagCheck flips tagXor d).saf.tagBad = d.saf.tagBad + if tagBroken flips tagXor d e then 1 else 0 := by
  rw [tagCheck_eq h, (evalReady_fieldsOnly _).lastDwell, (evalReady_fieldsOnly _).tagBad, pts_of_view (evalReady_frame _ (by simp))]
  split
  · exact ⟨tagReported_evalDwells d, tagReported_counts d⟩
  · exact ⟨rfl, rfl, rfl⟩

/-- The fourth broken tag of a frame trips with cause TAG. -/
theorem tagCheck_trips (h : d.pts.evalDwells = e :: rest) (hb : tagBroken flips tagXor d e = true) (h3 : d.saf.tagBad = 3) :
    bit (tagCheck flips tagXor d).saf.latched 10 = true ∧ (tagCheck flips tagXor d).saf.railClosed = false ∧
      (ticking d = true → (tagCheck flips tagXor d).sys.op = .safeStop) := by
  have heq : tagCheck flips tagXor d = evalReady (trip [cTag] (raise 541 0 [] (tagNoted true e rest d))) := by
    rw [tagCheck_eq h, if_pos hb, tagReported, if_pos h3]
  rw [heq, (evalReady_fieldsOnly _).latched, (evalReady_fieldsOnly _).railClosed, sys_of_view (evalReady_frame _ (by simp)),
    trip_latched]
  exact ⟨bit_putBit_self _ _, trip_railClosed _ _, fun ht => trip_op _ ((ticking_of_op (op_of_view (by simp))).trans ht)⟩

theorem tagCheck_calm (h : d.pts.evalDwells = e :: rest) (hc : Calm d) : Calm (tagCheck flips tagXor d) := by
  have hraised : Calm (raise 541 0 [] (tagNoted true e rest d)) := calm_of_views hc (by simp) (by simp) (by simp)
  have hreported : Calm (tagReported e rest d) := by
    unfold tagReported
    split
    · exact trip_calm _ hraised
    · exact hraised
  rw [tagCheck_eq h]
  split
  · exact calm_of_views hreported (by simp) (by simp) (by simp)
  · exact calm_of_views hc (by simp) (by simp) (by simp)

theorem tagCheck_only (flips : List (Nat × Nat)) (tagXor : Nat) (d : Dev) :
    Only [.sys, .pts, .emi, .saf, .slu, .pcie, .kmp, .ev, .writes, .out] d (tagCheck flips tagXor d) :=
  only_of_views fun p hp => by cases p <;> simp at hp ⊢

theorem tagCheck_only_of_sound (h : d.pts.evalDwells = e :: rest) (hb : tagBroken flips tagXor d e = false) :
    Only [.pts, .saf, .ev] d (tagCheck flips tagXor d) := by
  rw [tagCheck_eq h, if_neg (by simp [hb])]
  exact only_of_views fun p hp => by cases p <;> simp at hp ⊢

theorem tagCheck_completes (hc : Calm s.dev) (h : s.dev.pts.evalDwells = e :: rest) :
    Completes (.pointTagCheck flips tagXor) s (tagCheck flips tagXor s.fresh) :=
  completes_of _ (tagCheck flips tagXor) s rfl (tagCheck_calm h (calm_fresh hc))

theorem tagCheck_completes_of_none (hc : Calm s.dev) (h : s.dev.pts.evalDwells = []) :
    Completes (.pointTagCheck flips tagXor) s s.fresh :=
  completes_of_views rfl (tagCheck_of_none h) hc rfl rfl rfl

end Check

/-! ### The statement -/

/-- Settles O49: the formatter's hand-over and Tussock's check of the tag, told one by one above. A command with no dwell to work on
changes nothing, which is DESIGN CHOICE (assumption log, entry 1). -/
theorem pointsAreFormattedAndChecked : Obligations.PointsAreFormattedAndChecked := by
  intro s hc
  refine ⟨fun h => ?_, fun w h => ?_, fun flips tagXor h => tagCheck_completes_of_none hc h, fun flips tagXor e rest h => ?_⟩
  · exact pointFormat_completes hc (pointFormat_of_none h)
  · obtain ⟨hformat, hreduce, hhanded⟩ := pointFormat_pts (d := s.fresh) h
    exact ⟨_, pointFormat_completes hc rfl, hformat, hreduce, hhanded, pointFormat_only _⟩
  · intro differs bad
    have hbroken : tagBroken flips tagXor s.fresh e = true ↔ bad := tagBroken_iff flips tagXor s.fresh e
    have hsound (hb : ¬ bad) : tagBroken flips tagXor s.fresh e = false := Bool.eq_false_iff.2 (mt hbroken.1 hb)
    obtain ⟨htaken, hlast, hcount⟩ := tagCheck_takes (d := s.fresh) (flips := flips) (tagXor := tagXor) h
    refine ⟨_, tagCheck_completes hc h, htaken, hlast, fun hb => ?_, fun hb => ⟨?_, tagCheck_only_of_sound h (hsound hb)⟩,
      fun hb h3 => ?_, tagCheck_only _ _ _⟩
    · rw [hcount, if_pos (hbroken.2 hb)]
      rfl
    · rw [hcount, if_neg (mt hbroken.1 hb)]
      rfl
    · obtain ⟨hlatched, hrail, hstop⟩ := tagCheck_trips (d := s.fresh) h (hbroken.2 hb) h3
      exact ⟨hlatched, hrail, fun ho => hstop (ticking_of_operating ho)⟩

end Sys2Proof.Laws
end

section
/-!
Tension ticks (R191, R219, R220) and the ARM transition (R31).
-/
namespace Sys2Proof.Laws

open Sys2Proof.Machine

variable {d e : Dev} {s : State}

/-! ### ARM -/

/-- ARM takes effect or stands as it was. -/
theorem armNow_arms_or_waits (d : Dev) : (armNow d).sys.op = .armed ∨ armNow d = d := by
  unfold armNow
  split
  · exact .inr rfl
  · next c _ =>
    split_ifs
    · refine .inl ?_
      rw [op_of_view (d := closeRail (toState .armed d)) (by simp)]
      exact toState_op d .armed
    · exact .inr rfl

/-- In READY with lock and both switch tests a waiting ARM arms and closes the rail (R31). -/
theorem armNow_arms {c : Cmd} (hrun : findRunning d 0x0103 = some c) (hready : d.sys.op = .ready) (hlock : d.scan.lock = true)
    (htests : d.saf.armTests = 3) :
    (armNow d).sys.op = .armed ∧ (armNow d).saf.railClosed = true ∧ (armNow d).emi.inhibit = false := by
  have heq : armNow d = finishRunning c stOk (le 4 d.seq.frame) (closeRail (toState .armed d)) := by
    simp [armNow, hrun, hready, hlock, htests]
  rw [heq, op_of_view (d := closeRail (toState .armed d)) (by simp), saf_of_view (d := closeRail (toState .armed d)) (by simp),
    emi_of_view (d := closeRail (toState .armed d)) (by simp)]
  exact ⟨toState_op d .armed, rfl, rfl⟩

theorem armNow_calm (h : Calm d) : Calm (armNow d) := by
  rcases armNow_arms_or_waits d with ha | ha
  · exact ⟨(awaited_of_view (by simp)).trans h.1, fun hh => absurd (ha.symm.trans hh) (by decide)⟩
  · rwa [ha]

theorem judgeStall_calm (h : Calm d) : Calm (judgeStall d) := by
  unfold judgeStall
  split
  · exact h
  · extract_lets p s t dev dis a b c fz frozen d1 bits
    have h1 : Calm d1 := h
    split
    · exact h1
    · exact calm_of_views (trip_calm bits h1) (by simp) (by simp) (by simp)

/-! ### The tick at hand -/

/-- The computations that end the tick at hand; before the first tick there are none. -/
def tickEnded (slow : List Nat) (d : Dev) : Dev :=
  if d.seq.tickNo = 0 then d else apexReset (armNow (finishSlots slow (judgeStall (finishAngles d))))

@[simp] theorem tickEnded_frame {v : Facet} (slow : List Nat) (d : Dev)
    (h : v ∉ [.sys, .pts, .emi, .scan, .loops, .saf, .slu, .peat, .pcie, .kmp, .ev, .writes, .out, .rail, .outs, .inhibit]) :
    v.view (tickEnded slow d) = v.view d := by
  simp at h
  simp [tickEnded, h]

theorem tickEnded_calm (slow : List Nat) (h : Calm d) : Calm (tickEnded slow d) := by
  unfold tickEnded
  split
  · exact h
  · have hangles : Calm (finishAngles d) := calm_of_views h (by simp) (by simp) (by simp)
    have hslots : Calm (finishSlots slow (judgeStall (finishAngles d))) :=
      calm_of_views (judgeStall_calm hangles) (by simp) (by simp) (by simp)
    exact calm_of_views (armNow_calm hslots) (by simp) (by simp) (by simp)

/-! ### The next tick -/

theorem nextTick_congr (hseq : e.seq = d.seq) (hprm : e.prm = d.prm) : nextTick e = nextTick d := by
  rw [nextTick, prmGet, hseq, hprm, nextTick, prmGet]

theorem beginTick_calm (t : Nat) (h : Calm d) : Calm (beginTick t d) := calm_of_views h (by simp) (by simp) (by simp)

/-- The device at the instant of a tick that begins, its outputs not yet applied. -/
def tickPlaced (t : Nat) (d : Dev) : Dev := advanceTo t (modSeq (fun x => { x with tickNo := x.tickNo + 1, tickTime := t }) d)

/-- A tick begins at its instant with no conversion done. -/
theorem beginTick_spec (t : Nat) (d : Dev) :
    (beginTick t d).seq = { d.seq with tickNo := d.seq.tickNo + 1, tickTime := t } ∧ (beginTick t d).sys.now = max d.sys.now t ∧
      (beginTick t d).sense.done = [] := by
  have hseq : (beginTick t d).seq = (tickPlaced t d).seq := seq_of_view (by simp [beginTick, tickPlaced])
  have hsys : (beginTick t d).sys = (tickPlaced t d).sys := sys_of_view (by simp [beginTick, tickPlaced])
  exact ⟨hseq, by rw [hsys]; rfl, rfl⟩

/-- In an operating state or BIND_OFF the tick at hand ends and the next begins (R219, R220). -/
theorem tensionTick_begins (slow : List Nat) (h : ticking d = true ∨ d.sys.op = .bindOff) :
    tensionTick slow d = beginTick (nextTick d) (tickEnded slow d) := by
  have hhalted : d.sys.op ≠ .halted := by
    rcases h with h | h
    · exact op_ne_halted_of_ticking h
    · simp [h]
  have hnext : nextTick (tickEnded slow d) = nextTick d := nextTick_congr (seq_of_view (by simp)) (prm_of_view (by simp))
  rw [← hnext, tensionTick, if_neg (by simpa using hhalted), if_neg (by simpa [or_iff_not_imp_left] using h)]
  rfl

theorem tensionTick_spec (slow : List Nat) (h : ticking d = true ∨ d.sys.op = .bindOff) :
    (tensionTick slow d).seq = { d.seq with tickNo := d.seq.tickNo + 1, tickTime := nextTick d } ∧
      (tensionTick slow d).sys.now = max d.sys.now (nextTick d) ∧ (tensionTick slow d).sense.done = [] := by
  have hseq : (tickEnded slow d).seq = d.seq := seq_of_view (by simp)
  have hnow : (tickEnded slow d).sys.now = d.sys.now := (standing_of_view (by simp)).1
  rw [tensionTick_begins slow h, ← hseq, ← hnow]
  exact beginTick_spec _ _

theorem tensionTick_completes (hc : Calm s.dev) (slow : List Nat) (h : ticking s.dev = true ∨ s.dev.sys.op = .bindOff) :
    Completes (.tensionTick slow) s (tensionTick slow s.fresh) := by
  refine completes_of _ (tensionTick slow) s rfl ?_
  rw [tensionTick_begins (d := s.fresh) slow h]
  exact beginTick_calm _ (tickEnded_calm slow (calm_fresh hc))

theorem tensionTick_only (slow : List Nat) (d : Dev) :
    Only [.sys, .seq, .prm, .pts, .emi, .scan, .sense, .loops, .saf, .slu, .peat, .pcie, .kmp, .ev, .writes, .out] d
      (tensionTick slow d) :=
  only_of_views fun p hp => by cases p <;> simp at hp ⊢

/-! ### At rest -/

/-- The device in HALTED at its next tick, the drive's output ramping on. -/
def ramped (d : Dev) : Dev :=
  modScan (fun x => { x with out := rampCode (advanceTo (nextTick d) d) })
    (modSeq (fun x => { x with tickTime := nextTick d }) (advanceTo (nextTick d) d))

/-- In HALTED a tick carries on the ramp of the drive's output (R191). -/
theorem restTick_spec (h : d.scan.out ≠ 0) :
    (restTick d).seq = { d.seq with tickTime := nextTick d } ∧
      (restTick d).scan = { d.scan with out := rampCode (advanceTo (nextTick d) d) } := by
  have heq : restTick d = driveRest (ramped d) := if_neg h
  rw [heq, seq_of_view (d := ramped d) (by simp), scan_of_view (d := ramped d) (by simp)]
  exact ⟨rfl, rfl⟩

theorem restTick_only (d : Dev) : Only [.sys, .seq, .prm, .scan] d (restTick d) :=
  only_of_views fun p hp => by cases p <;> simp at hp ⊢

theorem restTick_completes (hc : Calm s.dev) (slow : List Nat) (h : s.dev.sys.op = .halted) :
    Completes (.tensionTick slow) s (restTick s.fresh) :=
  completes_of_views (f := tensionTick slow) rfl (if_pos (by simp [State.fresh, h])) hc (by simp) (by simp) (by simp)

/-- In cast-on there is no tick, and a ramp that is over stays so. -/
theorem tensionTick_idle (slow : List Nat) (h : d.sys.op = .castOn ∨ (d.sys.op = .halted ∧ d.scan.out = 0)) :
    tensionTick slow d = d := by
  rcases h with hcast | ⟨hhalted, hout⟩
  · simp [tensionTick, ticking, hcast]
  · simp [tensionTick, restTick, hhalted, hout]

theorem tensionTick_completes_of_idle (hc : Calm s.dev) (slow : List Nat)
    (h : s.dev.sys.op = .castOn ∨ (s.dev.sys.op = .halted ∧ s.dev.scan.out = 0)) : Completes (.tensionTick slow) s s.fresh :=
  completes_of_views rfl (tensionTick_idle (d := s.fresh) slow h) hc rfl rfl rfl

end Sys2Proof.Laws
end

section
/-!
Sedge slots (R206, R207) and the verdict of open-wire tests (R212, R213).
-/
namespace Sys2Proof.Laws

open Sys2Proof.Machine

variable {d e : Dev} {s : State}

/-! ### The diagnostics' place in a slot -/

/-- No open-wire test is under way or waits, and the diagnostic period is not over. -/
structure DiagIdle (d : Dev) : Prop where
  noTest : d.sense.diag = none
  noInput : d.sense.diagQueue = []
  within : tussNow d < d.sense.diagAt + 1000000 * prmGet d 0x0901

theorem diagAdvance_of_idle (h : DiagIdle d) (next : Nat) : diagAdvance next d = d := by
  obtain ⟨htest, hinput, hwithin⟩ := h
  have hperiod : diagPeriod d = d := by simp [diagPeriod, hwithin]
  simp [diagAdvance, htest, hperiod, hinput]

/-- A test that is not judged yet goes on, and keeps the next from starting. -/
theorem diagAdvance_of_test {g : WireTest} (h : d.sense.diag = some g) (hphase : g.phase ≠ 3) (next : Nat) : diagAdvance next d = d := by
  have hperiod : diagPeriod d = d := by simp [diagPeriod, h]
  simp [diagAdvance, h, hphase, hperiod]

theorem diagDue_of_idle (h : DiagIdle d) : diagDue d = none := by simp [diagDue, h.noTest]

theorem disturbed_of_idle (h : DiagIdle d) (src : Nat) : disturbed d src = false := by simp [disturbed, h.noTest]

/-! ### What a slot converts -/

/-- A slot is due that ends before the next Tension tick, with the diagnostics where they stand. -/
structure SlotDue (d : Dev) : Prop where
  ticks : ticking d = true
  room : d.seq.tickNo = 0 ∨ d.sys.now + 500 ≤ nextTick d
  settled : diagAdvance (nextTick d) d = d

/-- A slot takes 500 ns for what is due: urgent, then diagnostic, then the sequence (R207). -/
theorem sedgeSlot_due (h : SlotDue d) (code : Int) :
    (∀ u, urgentDue d = some u →
      sedgeSlot code d = advanceTo (d.sys.now + 500) (urgentConversion u (clampI (-32768) 32767 code) d)) ∧
    (∀ g, urgentDue d = none → diagDue d = some g →
      sedgeSlot code d = advanceTo (d.sys.now + 500) (diagConversion g (clampI (-32768) 32767 code) d)) ∧
    (urgentDue d = none → diagDue d = none →
      sedgeSlot code d = advanceTo (d.sys.now + 500) (sequenceVisit (clampI (-32768) 32767 code) d)) := by
  obtain ⟨hticks, hroom, hsettled⟩ := h
  have hlate : ¬ (d.seq.tickNo ≠ 0 ∧ nextTick d < d.sys.now + 500) := by omega
  unfold sedgeSlot
  extract_lets next k d0 d1
  have h0 : d0 = d := hsettled
  rw [if_neg (by simp [hticks]), if_neg hlate]
  refine ⟨fun u hu => ?_, fun g hu hg => ?_, fun hu hg => ?_⟩
  · simp only [d1, h0, hu, k]
  · simp only [d1, h0, hu, hg, k]
  · simp only [d1, h0, hu, hg, k]

/-- A slot too near the next tick is aborted there (R206). -/
theorem sedgeSlot_aborted (ht : ticking d = true) (hno : d.seq.tickNo ≠ 0) (hnear : nextTick d < d.sys.now + 500) (code : Int) :
    sedgeSlot code d = advanceTo (nextTick d) d := by
  simp [sedgeSlot, ht, hno, hnear]

theorem sedgeSlot_completes (hc : Calm s.dev) {code : Int} (h : sedgeSlot code s.fresh = e) : Completes (.sedgeSlot code) s e := by
  subst h
  exact completes_of_views rfl rfl hc (by simp) (by simp) (by simp)

theorem sedgeSlot_only (code : Int) (d : Dev) :
    Only [.sys, .recv, .emi, .scan, .sense, .slu, .peat, .pcie, .kmp, .ev, .writes, .out] d (sedgeSlot code d) :=
  only_of_views fun p hp => by cases p <;> simp at hp ⊢

/-! ### Urgent conversions -/

theorem urgentDue_of_nil (h : d.sense.urgent = []) : urgentDue d = none := by simp [urgentDue, h]

theorem urgentDue_of_first {u : Nat × Nat} {us : List (Nat × Nat)} (h : d.sense.urgent = u :: us) (hfirst : u.2 = 0)
    (hsecond : d.sys.now < secondAt d ∨ ∀ v ∈ us, v.2 ≠ 1) : urgentDue d = some u := by
  rcases hsecond with hearly | hnone
  · simp [urgentDue, h, hfirst, Nat.not_le.2 hearly]
  · have hfind : us.find? (fun v => v.2 == 1) = none := by simpa using hnone
    simp [urgentDue, h, hfirst, hfind]

theorem urgentDue_of_second {v : Nat × Nat} (h : d.sense.urgent.find? (fun u => u.2 == 1) = some v) (hdue : secondAt d ≤ d.sys.now) :
    urgentDue d = some v := by
  simp [urgentDue, h, hdue]

/-- The result of an urgent conversion that no test disturbs. -/
def urgentResult (u : Nat × Nat) (k : Int) (d : Dev) : Conv :=
  ⟨u.1, u.2, k, (sourceValue d u.1 (urgentGain u.1) k).1, false, tussNow d⟩

theorem urgentConversion_of_idle (h : DiagIdle d) (u : Nat × Nat) (k : Int) : urgentConversion u k d =
    modSense (fun x => { x with urgent := x.urgent.erase u, done := x.done ++ [urgentResult u k d] }) d := by
  simp [urgentConversion, disturbed_of_idle h, urgentResult]

theorem sedgeSlot_urgent {u : Nat × Nat} (hdue : SlotDue d) (hidle : DiagIdle d) (hu : urgentDue d = some u) (code : Int) :
    sedgeSlot code d = advanceTo (d.sys.now + 500) (modSense (fun x => { x with
      urgent := x.urgent.erase u, done := x.done ++ [urgentResult u (clampI (-32768) 32767 code) d] }) d) := by
  obtain ⟨hurgent, _, _⟩ := sedgeSlot_due hdue code
  exact (hurgent u hu).trans (congrArg _ (urgentConversion_of_idle hidle u _))

/-! ### Diagnostic conversions -/

/-- The baseline is due at once, the test conversion once the current has settled (R212). -/
theorem diagDue_of_test {g : WireTest} (h : d.sense.diag = some g)
    (hphase : g.phase = 0 ∨ (g.phase = 1 ∧ g.since + settleNs d ≤ tussNow d)) : diagDue d = some g := by
  rcases hphase with h0 | ⟨h1, hsettled⟩
  · simp [diagDue, h, h0]
  · simp [diagDue, h, h1, hsettled]

theorem sedgeSlot_diag {g : WireTest} (hdue : SlotDue d) (hu : d.sense.urgent = []) (hg : diagDue d = some g) (code : Int) :
    sedgeSlot code d = advanceTo (d.sys.now + 500) (diagConversion g (clampI (-32768) 32767 code) d) := by
  obtain ⟨_, hdiag, _⟩ := sedgeSlot_due hdue code
  exact hdiag g (urgentDue_of_nil hu) hg

theorem diagConversion_baseline {g : WireTest} (h : g.phase = 0) (k : Int) (d : Dev) : diagConversion g k d =
    modSense (fun x => { x with diag := some { g with
      base := codeMicrovolts (diagGain d g.source) k, phase := 1, since := tussNow d + 500 } }) d := by
  simp [diagConversion, h]

theorem diagConversion_test {g : WireTest} (h : g.phase = 1) (k : Int) (d : Dev) : diagConversion g k d =
    modSense (fun x => { x with diag := some { g with
      test := codeMicrovolts (diagGain d g.source) k, full := fullScale k, phase := 2, since := tussNow d + 500 } }) d := by
  simp [diagConversion, h]

/-! ### Sequence visits -/

/-- Of Sedge's group only the result ring may differ. -/
def RingOnly (d e : Dev) : Prop :=
  e.sense = { d.sense with ring := e.sense.ring, ringNext := e.sense.ringNext, overwritten := e.sense.overwritten }

theorem sense_of_view (h : Facet.sense.view e = Facet.sense.view d) : e.sense = d.sense := same_of_view (p := .sense) h

theorem RingOnly.of_view (h : Facet.sense.view e = Facet.sense.view d) : RingOnly d e := by
  rw [RingOnly, sense_of_view h]

theorem RingOnly.trans {f : Dev} (h : RingOnly d e) (k : RingOnly e f) : RingOnly d f :=
  Eq.trans k (congrArg (fun x : Sense => { x with
    ring := f.sense.ring, ringNext := f.sense.ringNext, overwritten := f.sense.overwritten }) h)

theorem RingOnly.ite {c : Prop} [Decidable c] {f : Dev} (h : RingOnly d e) (k : RingOnly d f) : RingOnly d (if c then e else f) := by
  split
  · exact h
  · exact k

theorem ringPut_ringOnly (n src : Nat) (m : Member) (d : Dev) : RingOnly d (ringPut n src m d) := by
  unfold ringPut
  extract_lets r full d1 d2
  have h1 : RingOnly d d1 := rfl
  exact h1.trans (.of_view (by simp [d2]))

/-- A visit moves on to the next entry and counts the entry's visit; the conversions stay as they were (R204). -/
theorem sequenceVisit_sense {n : Nat} (h : nextEntry d = some n) (code : Int) :
    ∃ members ring ringNext overwritten, (sequenceVisit code d).sense = { d.sense with
      next := (n + 1) % 16, visits := tabSet 0 d.sense.visits n (tabGet 0 d.sense.visits n + 1),
      members := members, ring := ring, ringNext := ringNext, overwritten := overwritten } := by
  unfold sequenceVisit
  split
  · next hnone => simp [h] at hnone
  · next n' hsome =>
    obtain rfl := Option.some.inj (h.symm.trans hsome)
    extract_lets w k src old v r m d1 ring d2 d3 d4
    have h2 : RingOnly d1 d2 := .ite (.of_view (by simp)) rfl
    have h3 : RingOnly d1 d3 := .ite (h2.trans (.of_view (by simp))) h2
    have h4 : RingOnly d1 d4 := .ite (.ite (h3.trans (ringPut_ringOnly _ _ _ _)) h3) rfl
    have hend : RingOnly d1 (if r.2.2 = true then raise (432 + n) 1 [] d4 else d4) := .ite (h4.trans (.of_view (by simp))) h4
    exact ⟨_, _, _, _, hend⟩

/-- A slot of the sequence visits the next entry (R204, R207). -/
theorem sedgeSlot_visits {n : Nat} (hdue : SlotDue d) (hidle : DiagIdle d) (hurgent : d.sense.urgent = []) (hn : nextEntry d = some n)
    (code : Int) :
    (sedgeSlot code d).sense.next = (n + 1) % 16 ∧
      tabGet 0 (sedgeSlot code d).sense.visits n = tabGet 0 d.sense.visits n + 1 ∧
      (sedgeSlot code d).sys.now = d.sys.now + 500 ∧ (sedgeSlot code d).sense.done = d.sense.done ∧
      (sedgeSlot code d).sense.urgent = [] := by
  obtain ⟨_, _, hvisit⟩ := sedgeSlot_due hdue code
  obtain ⟨members, ring, ringNext, overwritten, hsense⟩ := sequenceVisit_sense hn (clampI (-32768) 32767 code)
  have hsys : (sequenceVisit (clampI (-32768) 32767 code) d).sys = d.sys := sys_of_view (by simp)
  rw [hvisit (urgentDue_of_nil hurgent) (diagDue_of_idle hidle)]
  simp only [advanceTo, modSys_sense, modSys_sys, hsense, hsys]
  refine ⟨trivial, ?_, by omega, trivial, hurgent⟩
  rw [tabGet_tabSet_of_ne (by omega), if_pos rfl]

/-! ### Open-wire tests -/

/-- An open-wire test has both its conversions and is not judged yet. -/
structure TestTaken (g : WireTest) (d : Dev) : Prop where
  ticks : ticking d = true
  test : d.sense.diag = some g
  taken : g.phase = 2

/-- What a pin's record becomes at a failing test: the second failure in a row confirms it open (R213). -/
def wireFailed (w : Wire) : Wire := { w with fails := w.fails + 1, passes := 0, opened := w.opened || decide (2 ≤ w.fails + 1) }

/-- What it becomes at a passing test: the second pass in a row clears it (R213). -/
def wirePassed (now : Nat) (w : Wire) : Wire := ⟨0, w.passes + 1, w.opened && decide (w.passes + 1 < 2), now⟩

/-- A failure confirms an open wire that was not confirmed before. -/
abbrev Confirms (w : Wire) : Prop := w.opened = false ∧ 2 ≤ w.fails + 1

/-- Sedge's group with the test judged, its pin's record written and the result ring given. -/
def judgedSense (g : WireTest) (w : Wire) (ring : List SedgeRec) (x : Sense) : Sense :=
  { x with diag := some { g with phase := 3 }, wires := tabSet Wire.none x.wires (2 * g.source + g.pin) w, ring := ring }

variable {g : WireTest}

/-- A void test is over and says nothing (R213). -/
theorem openWireTest_of_void (h : TestTaken g d) (hvoid : g.void = true) :
    openWireTest d = modSense (fun x => { x with diag := some { g with phase := 3 } }) d := by
  obtain ⟨hticks, htest, htaken⟩ := h
  simp [openWireTest, htest, hticks, htaken, hvoid]

theorem openWireTest_of_pass (h : TestTaken g d) (hvoid : g.void = false) (hpass : diagFails d g = false) :
    (openWireTest d).sense = judgedSense g (wirePassed d.sys.now (wireGet d g.source g.pin)) d.sense.ring d.sense := by
  obtain ⟨hticks, htest, htaken⟩ := h
  simp [openWireTest, htest, hticks, htaken, hvoid, hpass, judgedSense, wirePassed]

/-- A failure is counted; one that confirms the open wire marks the records since the last pass (R213). -/
theorem openWireTest_of_failure (h : TestTaken g d) (hvoid : g.void = false) (hfails : diagFails d g = true) :
    (openWireTest d).sense = judgedSense g (wireFailed (wireGet d g.source g.pin))
      (if Confirms (wireGet d g.source g.pin) then markSuspect g.source (wireGet d g.source g.pin).lastPass d.sense.ring
        else d.sense.ring) d.sense := by
  obtain ⟨hticks, htest, htaken⟩ := h
  unfold openWireTest
  split
  · next hnone => simp [htest] at hnone
  · next g' hsome =>
    obtain rfl := Option.some.inj (htest.symm.trans hsome)
    extract_lets src key w d0 w2 first
    rw [if_neg (by simp [hticks, htaken]), if_neg (by simp [hvoid]), if_neg (by simp [hfails])]
    by_cases hconf : Confirms w
    · have hopened : wireFailed w = { w with fails := w.fails + 1, passes := 0, opened := true } := by
        simp [wireFailed, hconf.2]
      rw [if_neg (by simp [hconf.1]; omega), if_pos hconf, sense_of_view (raiseOpen_frame _ _ _ _ (by simp)), hopened]
      rfl
    · have hstands : w.opened = true ∨ w.fails + 1 < 2 := by simpa [Confirms, imp_iff_or_not, or_comm] using hconf
      have hkept : wireFailed w = { w with fails := w.fails + 1, passes := 0 } := by
        rcases hstands with ho | hfew
        · simp [wireFailed, ho]
        · simp [wireFailed, Nat.not_le.2 hfew]
      rw [if_pos (by simpa using hstands), if_neg hconf, hkept]
      rfl

theorem openWireTest_of_none (h : d.sense.diag = none) : openWireTest d = d := by simp [openWireTest, h]

/-- A record that a verdict wrote differs from a pin's never tested, so that it reads back; no other pin's moves. -/
theorem judged_reads_back {w : Wire} {ring : List SedgeRec} (hw : w ≠ Wire.none) (h : e.sense = judgedSense g w ring d.sense) :
    e.sense.diag = some { g with phase := 3 } ∧ e.sense.ring = ring ∧ wireGet e g.source g.pin = w ∧
      ∀ src pin, 2 * src + pin ≠ 2 * g.source + g.pin → wireGet e src pin = wireGet d src pin := by
  have hwire (src pin : Nat) : wireGet e src pin = if 2 * src + pin = 2 * g.source + g.pin then w else wireGet d src pin := by
    rw [wireGet, h]
    exact tabGet_tabSet_of_ne hw _
  exact ⟨by rw [h]; rfl, by rw [h]; rfl, (hwire _ _).trans (if_pos rfl), fun src pin hp => (hwire src pin).trans (if_neg hp)⟩

theorem openWireTest_completes (hc : Calm s.dev) : Completes .openWireTest s (openWireTest s.fresh) :=
  completes_of_views rfl rfl hc (by simp) (by simp) (by simp)

theorem openWireTest_only (d : Dev) : Only [.sense, .ev] d (openWireTest d) :=
  only_of_views fun p hp => by cases p <;> simp at hp ⊢

theorem wireFailed_ne_none (w : Wire) : wireFailed w ≠ Wire.none := by simp [wireFailed, Wire.none]

theorem wirePassed_ne_none (now : Nat) (w : Wire) : wirePassed now w ≠ Wire.none := by simp [wirePassed, Wire.none]

end Sys2Proof.Laws
end

section
/-!
Trips of the drive stage (R192) and the test tone (R200 to R202).
-/
namespace Sys2Proof.Laws

open Sys2Proof.Machine

variable {d e : Dev} {s : State}

/-! ### Trips of the drive stage -/

@[simp] theorem raise_scan (src cond : Nat) (b : Bytes) (d : Dev) : (raise src cond b d).scan = d.scan := scan_of_view (by simp)

theorem loopsOff_scan (d : Dev) : (loopsOff d).scan = { d.scan with lock := false } := by
  have hleft (e : Dev) : (if (slotGet e 0).mode == .fallback then fallLeave 0 e else e).scan = e.scan := scan_of_view (by simp)
  rw [loopsOff, leaveL0, modSlot, modSlot, modLoops_scan, modLoops_scan, modScan_scan, hleft]

/-- A trip takes the output off and notes its cause; the lock may go with L0 (R192). -/
theorem tripStage_scan (cause : Nat) (d : Dev) : (tripStage cause d).scan = { d.scan with
    tripped := true, tripSeen := true, tripCause := cause % 4, out := 0, holdFrom := 0, started := false,
    lock := (tripStage cause d).scan.lock } := by
  unfold tripStage
  extract_lets d1
  have h1 : d1.scan = { d.scan with
    tripped := true, tripSeen := true, tripCause := cause % 4, out := 0, holdFrom := 0, started := false } := raise_scan _ _ _ _
  split
  · rw [h1]
  · rw [loopsOff_scan, h1]

theorem driveTrip_arises {cause : Nat} (hreset : d.sys.inReset = false) (htrip : d.scan.tripped = false)
    (hover : cause % 4 = 0 → driveMode d ≠ 0) (hrail : cause % 4 = 3 → driveMode d = 2) : driveTrip cause d = tripStage cause d := by
  have harises : tripArises cause d = true := by
    unfold tripArises
    split_ifs with h0 h3
    · simpa using hover h0
    · simpa using hrail h3
    · rfl
  simp [driveTrip, hreset, htrip, harises]

theorem driveTrip_of_tripped (cause : Nat) (h : d.scan.tripped = true) : driveTrip cause d = d := by simp [driveTrip, h]

theorem driveTrip_completes (hc : Calm s.dev) {cause : Nat} (h : driveTrip cause s.fresh = e) :
    Completes (.driveStageTrip cause) s e := by
  subst h
  exact completes_of_views rfl rfl hc (by simp) (by simp) (by simp)

theorem tripStage_only (cause : Nat) (d : Dev) : Only [.emi, .scan, .loops, .ev] d (tripStage cause d) :=
  only_of_views fun p hp => by cases p <;> simp at hp ⊢

/-! ### The test tone -/

/-- What a group's check reads, lead by lead. -/
def toneRead (g : Nat) (ohms : List Nat) : List Nat := (List.range (toneLeads g)).map (ohms.getD · 0)

/-- The baseline of a group: its first check's readings (R202). -/
def toneBase (t : Tone) (read : List Nat) : List Nat := if t.base = [] then read else t.base

/-- A check reads a short: to the other lead, or on a lead (R202). -/
def ToneShort (base read : List Nat) (cross : Nat) : Prop := cross ≠ 0 ∨ ∃ p ∈ base.zip read, toneLow p.1 p.2 = true

/-- A check reads a fault: a short or an open (R202). -/
def ToneFault (base read : List Nat) (cross : Nat) : Prop :=
  ToneShort base read cross ∨ ∃ p ∈ base.zip read, toneOpen p.1 p.2 = true

/-- A group after a check with a fault: the second in a row confirms it. -/
def toneFailed (base : List Nat) (t : Tone) : Tone := ⟨base, t.fails + 1, 0, t.bad || decide (2 ≤ t.fails + 1)⟩

/-- A group after a check without: the third in a row clears it. -/
def tonePassed (base : List Nat) (t : Tone) : Tone := ⟨base, 0, t.passes + 1, t.bad && decide (t.passes + 1 < 3)⟩

/-- The group `g` of the tone is due next in the turnaround, and stands as `t`. -/
structure ToneSlotDue (g : Nat) (t : Tone) (d : Dev) : Prop where
  due : toneDue d = true
  next : g = d.scan.tonePhase
  group : g < 5
  stands : d.scan.tones[g]? = some t

/-- The device at the end of a group's slot, its verdict noted. -/
def toneNoted (g : Nat) (t : Tone) (d : Dev) : Dev :=
  advanceTo (diagStart d + 850000 + 40000 * (g + 1))
    (modScan (fun x => { x with tones := listMod x.tones g (fun _ => t), tonePhase := g + 1 }) d)

/-- A slot that is due notes the verdict `t1`, with its event where that confirms a fault; then the stage trips, or no confirmed short of
the drive pair asks for it. -/
theorem testTone_due {g : Nat} {t : Tone} (h : ToneSlotDue g t d) (ohms : List Nat) (cross : Nat) :
    let read := toneRead g ohms
    let base := toneBase t read
    ∃ t1 e, (ToneFault base read cross → t1 = toneFailed base t) ∧ (¬ ToneFault base read cross → t1 = tonePassed base t) ∧
      (e = toneNoted g t1 d ∨ e = raise (406 + g) 0 [] (toneNoted g t1 d)) ∧
      (testTone g ohms cross d = e ∧ ¬ (g = 0 ∧ t1.bad = true ∧ ToneShort base read cross ∧ e.scan.tripped = false) ∨
        testTone g ohms cross d = tripStage 1 e) := by
  intro read base
  obtain ⟨hdue, hnext, hgroup, hstands⟩ := h
  unfold testTone
  extract_lets t' read' base' short fault t1 d1 d2
  have ht : t' = t := by simp [t', List.getD_eq_getElem?_getD, hstands]
  have hbase : base' = base := by simp [base', base, toneBase, ht, read', read, toneRead]
  have hshort : short = true ↔ ToneShort base read cross := by
    simp [short, hbase, ToneShort, read, toneRead, read']
  have hfault : fault = true ↔ ToneFault base read cross := by
    simp [fault, hshort, hbase, ToneFault, read, toneRead, read']
  refine ⟨t1, d2, fun hf => ?_, fun hf => ?_, ?_, ?_⟩
  · simp only [t1, hfault.2 hf, hbase, ht, if_true, toneFailed]
  · simp only [t1, if_neg (mt hfault.1 hf), hbase, ht, tonePassed]
  · by_cases hraised : (t1.bad && !t'.bad) = true
    · exact .inr (if_pos hraised)
    · exact .inl (if_neg hraised)
  · rw [if_neg (by simpa [hdue, hnext] using hnext ▸ hgroup), ← hshort]
    split_ifs with htrips
    · exact .inr rfl
    · exact .inl ⟨rfl, by simpa using htrips⟩

/-- A slot lies at the end of its group's 40 µs, whatever its verdict (R200). -/
theorem testTone_now {g : Nat} {t : Tone} (h : ToneSlotDue g t d) (ohms : List Nat) (cross : Nat) :
    (testTone g ohms cross d).sys.now = max d.sys.now (diagStart d + 850000 + 40000 * (g + 1)) := by
  obtain ⟨t1, e, -, -, he, heq⟩ := testTone_due h ohms cross
  have hnoted : e.sys = (toneNoted g t1 d).sys := by rcases he with rfl | rfl <;> simp
  have hsys : (testTone g ohms cross d).sys = e.sys := by
    rcases heq with ⟨heq, -⟩ | heq
    · rw [heq]
    · rw [heq]
      exact sys_of_view (by simp)
  rw [hsys, hnoted]
  rfl

/-- The verdict is noted at its group and at no other; a confirmed short of the drive pair leaves the stage tripped (R202). -/
theorem testTone_scan {g : Nat} {t : Tone} (h : ToneSlotDue g t d) (ohms : List Nat) (cross : Nat) :
    let read := toneRead g ohms
    let base := toneBase t read
    let e := testTone g ohms cross d
    e.scan.tonePhase = g + 1 ∧ (ToneFault base read cross → e.scan.tones[g]? = some (toneFailed base t)) ∧
      (¬ ToneFault base read cross → e.scan.tones[g]? = some (tonePassed base t)) ∧
      (∀ k, k ≠ g → e.scan.tones[k]? = d.scan.tones[k]?) ∧
      (g = 0 → ToneShort base read cross → t.bad = true ∨ 1 ≤ t.fails → e.scan.tripped = true) := by
  intro read base x
  obtain ⟨t1, e, hfailed, hpassed, he, heq⟩ := testTone_due h ohms cross
  have hnoted : e.scan = (toneNoted g t1 d).scan := by rcases he with rfl | rfl <;> simp
  have hscan : x.scan.tonePhase = (toneNoted g t1 d).scan.tonePhase ∧ x.scan.tones = (toneNoted g t1 d).scan.tones := by
    rcases heq with ⟨heq, -⟩ | heq
    · rw [show x = e from heq, hnoted]
      exact ⟨rfl, rfl⟩
    · rw [show x = tripStage 1 e from heq, tripStage_scan, hnoted]
      exact ⟨rfl, rfl⟩
  obtain ⟨hphase, htones⟩ := hscan
  have hat : x.scan.tones[g]? = some t1 := by
    rw [htones]
    simp [toneNoted, advanceTo, listMod, h.stands]
  refine ⟨hphase, fun hf => hat.trans (congrArg some (hfailed hf)), fun hf => hat.trans (congrArg some (hpassed hf)), fun k hk => ?_,
    fun h0 hshort hbefore => ?_⟩
  · rw [htones]
    simp [toneNoted, advanceTo, listMod, Ne.symm hk]
  · have hbad : t1.bad = true := by
      rw [hfailed (.inl hshort)]
      rcases hbefore with hb | hb
      · simp [toneFailed, hb]
      · simp only [toneFailed, Bool.or_eq_true, decide_eq_true_iff]
        omega
    rcases heq with ⟨heq, hquiet⟩ | heq
    · rw [show x = e from heq]
      exact Bool.eq_true_of_not_eq_false fun htripped => hquiet ⟨h0, hbad, hshort, htripped⟩
    · rw [show x = tripStage 1 e from heq, tripStage_scan]

theorem testTone_completes (hc : Calm s.dev) (g : Nat) (ohms : List Nat) (cross : Nat) :
    Completes (.testToneSlot g ohms cross) s (testTone g ohms cross s.fresh) :=
  completes_of_views rfl rfl hc (by simp) (by simp) (by simp)

theorem testTone_only (g : Nat) (ohms : List Nat) (cross : Nat) (d : Dev) :
    Only [.sys, .emi, .scan, .loops, .ev] d (testTone g ohms cross d) :=
  only_of_views fun p hp => by cases p <;> simp at hp ⊢

end Sys2Proof.Laws
end

section
/-!
The Tension tick, Sedge's slots and tests, and the drive stage as a whole.
-/
namespace Sys2Proof.Laws

open Sys2Proof.Machine

/-- Settles O50: the commands of the tick, of Sedge and of the drive stage, told one by one above. That a slot takes 500 ns is DEDUCED
(assumption log, entry 53); that a tick, a test or a trip out of place changes nothing is DESIGN CHOICE (entry 1). -/
theorem tensionSenseAndDriveStep : Obligations.TensionSenseAndDriveStep := by
  refine ⟨fun s hc => ?_, fun d c hrun hready hlock htests => armNow_arms hrun hready hlock htests⟩
  intro next slot sensed
  refine ⟨fun slow h => ?_, fun slow hhalted hout => ?_, fun slow h => tensionTick_completes_of_idle hc slow h,
    fun code ht hno hnear => ?_, fun code ht hroom => ?_, fun g ht htest htaken => ?_, fun h => ?_,
    fun g ohms cross t hdue hphase hgroup hstands => ?_, fun cause hreset htrip hover hrail => ?_, fun cause h => ?_⟩
  · obtain ⟨hseq, hnow, hdone⟩ := tensionTick_spec (d := s.fresh) slow h
    exact ⟨_, tensionTick_completes hc slow h, hseq, hnow, hdone, tensionTick_only slow _⟩
  · obtain ⟨hseq, hscan⟩ := restTick_spec (d := s.fresh) hout
    exact ⟨_, restTick_completes hc slow hhalted, hseq, hscan, restTick_only _⟩
  · exact sedgeSlot_completes hc (sedgeSlot_aborted (d := s.fresh) ht hno hnear code)
  · intro k conv idle
    have hdue (hsettled : diagAdvance (nextTick s.fresh) s.fresh = s.fresh) : SlotDue s.fresh := ⟨ht, hroom, hsettled⟩
    have hidle (h : idle) : DiagIdle s.fresh :=
      have ⟨htest, hinput, hwithin⟩ := h
      ⟨htest, hinput, hwithin⟩
    have hfree (h : idle) : SlotDue s.fresh := hdue (diagAdvance_of_idle (hidle h) _)
    have htesting {g : WireTest} (hg : s.fresh.sense.diag = some g) (hp : g.phase ≠ 3) : SlotDue s.fresh :=
      hdue (diagAdvance_of_test hg hp _)
    refine ⟨fun u us h hu hfirst hsecond => ?_, fun v h hv hsecond => ?_, fun g hu hg hphase => ?_, fun g hu hg hphase hsince => ?_,
      fun n h hu hn => ?_⟩
    · have heq := sedgeSlot_urgent (hfree h) (hidle h) (urgentDue_of_first (d := s.fresh) hu hfirst hsecond) code
      have herased : s.fresh.sense.urgent.erase u = us := hu ▸ List.erase_cons_head u us
      rw [modSense, herased] at heq
      exact sedgeSlot_completes hc heq
    · exact sedgeSlot_completes hc (sedgeSlot_urgent (hfree h) (hidle h) (urgentDue_of_second (d := s.fresh) hv hsecond) code)
    · have heq := sedgeSlot_diag (htesting hg (by omega)) hu (diagDue_of_test hg (.inl hphase)) code
      exact sedgeSlot_completes hc (heq.trans (congrArg _ (diagConversion_baseline hphase _ _)))
    · have heq := sedgeSlot_diag (htesting hg (by omega)) hu (diagDue_of_test hg (.inr ⟨hphase, hsince⟩)) code
      exact sedgeSlot_completes hc (heq.trans (congrArg _ (diagConversion_test hphase _ _)))
    · obtain ⟨hnext, hvisits, hnow, hdone, hurgent⟩ := sedgeSlot_visits (hfree h) (hidle h) hu hn code
      exact ⟨_, sedgeSlot_completes hc rfl, hnext, hvisits, hnow, hdone, hurgent, sedgeSlot_only code _⟩
  · intro w judged
    have hdue : TestTaken g s.fresh := ⟨ht, htest, htaken⟩
    have hcompletes := openWireTest_completes hc
    have honly := openWireTest_only s.fresh
    refine ⟨fun hvoid => ?_, fun hvoid hpass => ?_, fun hvoid hfails => ?_⟩
    · rw [openWireTest_of_void hdue hvoid] at hcompletes honly
      exact ⟨_, hcompletes, ⟨rfl, honly, fun _ _ _ => rfl⟩, rfl, rfl⟩
    · obtain ⟨hdiag, hring, hwire, hothers⟩ := judged_reads_back (wirePassed_ne_none _ _) (openWireTest_of_pass hdue hvoid hpass)
      exact ⟨_, hcompletes, ⟨hdiag, honly, hothers⟩, hring, hwire⟩
    · obtain ⟨hdiag, hring, hwire, hothers⟩ := judged_reads_back (wireFailed_ne_none _) (openWireTest_of_failure hdue hvoid hfails)
      exact ⟨_, hcompletes, ⟨hdiag, honly, hothers⟩, hwire, hring⟩
  · exact completes_of_views rfl (openWireTest_of_none (d := s.fresh) h) hc rfl rfl rfl
  · have hslot : ToneSlotDue g t s.fresh := ⟨hdue, hphase, hgroup, hstands⟩
    obtain ⟨hnext, hfailed, hpassed, hothers, htrips⟩ := testTone_scan hslot ohms cross
    exact ⟨_, testTone_completes hc g ohms cross, hnext, hfailed, hpassed, hothers, htrips, testTone_now hslot ohms cross,
      testTone_only g ohms cross _⟩
  · have heq := driveTrip_arises (d := s.fresh) hreset htrip hover hrail
    have hscan := tripStage_scan cause s.fresh
    refine ⟨_, driveTrip_completes hc heq, ?_, ?_, ?_, ?_, ?_, tripStage_only cause _⟩
    all_goals rw [hscan]
  · exact driveTrip_completes hc (driveTrip_of_tripped (d := s.fresh) cause h)

end Sys2Proof.Laws
end
section
/-!
The safety outputs after a command (R267, R382): what an output's conditions read, what following them does to it, and what the rest of
a command's aftermath leaves of it.
-/
namespace Sys2Proof.Laws

open Sys2Proof.Machine

variable {d e : Dev} {n : Nat}

/-! ### The conditions -/

/-- Of the safety processor's group only the outputs differ. -/
def OutsOnly (d e : Dev) : Prop := ∃ outs, e.saf = { d.saf with outs := outs }

theorem OutsOnly.of_saf (h : e.saf = d.saf) : OutsOnly d e := ⟨d.saf.outs, h⟩

theorem OutsOnly.refl (d : Dev) : OutsOnly d d := .of_saf rfl

theorem OutsOnly.trans {a b c : Dev} (h : OutsOnly a b) (k : OutsOnly b c) : OutsOnly a c := by
  obtain ⟨x, hx⟩ := h
  obtain ⟨y, hy⟩ := k
  exact ⟨y, by rw [hy, hx]⟩

/-- The conditions of an output, one by one. -/
theorem outConditions_iff (d : Dev) (n : Nat) : outConditions d n = true ↔
    d.sys.op = .running ∧ bit d.sec.scopes 1 = false ∧ d.saf.committed ≠ none ∧ d.saf.set ≠ none ∧ outViolated d n = false ∧
      (∀ k, k < 8 → inFunction d k = 1 → inDemand d k = false) ∧ (safeOut d n).locked = false ∧ d.saf.vsafeOk = true ∧
      hstPermits d n = true := by
  simp [outConditions, and_assoc, Option.isSome_iff_ne_none, imp_iff_not_or]

/-- The conditions read the operating state, the scopes, the connections, and of the safety processor's group all but the outputs, of
which they read the lockout. -/
theorem outConditions_congr (hop : e.sys.op = d.sys.op) (hsec : e.sec = d.sec) (hhst : e.hst = d.hst)
    (hsaf : OutsOnly d e) (hlocked : (safeOut e n).locked = (safeOut d n).locked) :
    outConditions e n = outConditions d n := by
  obtain ⟨outs, hsaf⟩ := hsaf
  obtain ⟨⟩ := d
  obtain ⟨⟩ := e
  dsimp only at hop hsec hhst hsaf
  subst hsec hhst hsaf
  rw [outConditions, hop, hlocked]
  rfl

/-! ### Following the conditions -/

theorem safeOut_of_outs (h : e.saf.outs = d.saf.outs) (n : Nat) : safeOut e n = safeOut d n := by rw [safeOut, h, safeOut]

theorem safeOut_setWrites (d : Dev) (ws : List (Nat × Bytes)) (n : Nat) : safeOut { d with writes := ws } n = safeOut d n := rfl

theorem listMod_getD {α : Type} (l : List α) (m n : Nat) (f : α → α) (x : α) :
    (listMod l m f).getD n x = if m = n ∧ n < l.length then f (l.getD n x) else l.getD n x := by
  simp only [listMod, List.getD_eq_getElem?_getD, List.getElem?_modify]
  by_cases hn : n < l.length
  · by_cases hm : m = n <;> simp [hm, hn]
  · simp [hn]

theorem safeOut_modOut (m n : Nat) (f : SafeOut → SafeOut) (d : Dev) :
    safeOut (modOut m f d) n = if m = n ∧ n < d.saf.outs.length then f (safeOut d n) else safeOut d n :=
  listMod_getD d.saf.outs m n f SafeOut.reset

theorem safeOut_deEnergise (m n : Nat) (d : Dev) :
    safeOut (deEnergise m d) n = if m = n then { safeOut d n with energised := false } else safeOut d n := by
  have hsaf : (deEnergise m d).saf = (modOut m (fun o => { o with energised := false }) d).saf := by
    unfold deEnergise
    extract_lets was d1
    split
    · exact raise_saf _ _ _ d1
    · rfl
  rw [safeOut, hsaf, ← safeOut, safeOut_modOut]
  by_cases hn : n < d.saf.outs.length
  · simp [hn]
  · have hreset : safeOut d n = SafeOut.reset := by simp [safeOut, hn]
    simp [hn, hreset, SafeOut.reset]

/-- An output with only its timing noted anew, energised as told. -/
def Retimed (energised : Bool) (o o' : SafeOut) : Prop :=
  ∃ since rise, o' = { o with energised := energised, condSince := since, rise := rise }

/-- Following an output de-energises it where its conditions fail; lockouts and passed tests stay. -/
theorem followOut_out (m n : Nat) (d : Dev) :
    Retimed ((safeOut d n).energised && (m != n || outConditions d m)) (safeOut d n) (safeOut (followOut m d) n) := by
  unfold followOut
  split
  · next h =>
    rw [safeOut_modOut]
    split_ifs
    · exact ⟨some ((safeOut d n).condSince.getD (tussNow d)), (safeOut d n).rise, by simp [h]⟩
    · exact ⟨(safeOut d n).condSince, (safeOut d n).rise, by simp [h]⟩
  · next h =>
    rw [safeOut_modOut, safeOut_deEnergise]
    by_cases hm : m = n
    · simp only [hm, true_and, if_true]
      split_ifs
      · exact ⟨none, none, by simp [hm ▸ h]⟩
      · exact ⟨(safeOut d n).condSince, (safeOut d n).rise, by simp [hm ▸ h]⟩
    · rw [if_neg (fun hc => hm hc.1), if_neg hm]
      exact ⟨(safeOut d n).condSince, (safeOut d n).rise, by simp [bne_iff_ne.2 hm]⟩

theorem followOut_outsOnly (n : Nat) (d : Dev) : OutsOnly d (followOut n d) := by
  unfold followOut
  split
  · exact ⟨_, rfl⟩
  · exact .trans ⟨_, deEnergise_saf n d⟩ ⟨_, rfl⟩

theorem followOuts_outsOnly (d : Dev) : OutsOnly d (followOuts d) := (followOut_outsOnly 0 d).trans (followOut_outsOnly 1 _)

theorem followOut_conditions (m n : Nat) (d : Dev) : outConditions (followOut m d) n = outConditions d n := by
  obtain ⟨since, rise, hout⟩ := followOut_out m n d
  refine outConditions_congr ?_ ?_ ?_ (followOut_outsOnly m d) (by rw [hout])
  · exact op_of_view (by simp)
  · exact same_of_view (p := .sec) (by simp)
  · exact same_of_view (p := .hst) (by simp)

/-- Both outputs followed: each stays energised where its conditions hold. -/
theorem followOuts_out (hn : n < 2) (d : Dev) :
    Retimed ((safeOut d n).energised && outConditions d n) (safeOut d n) (safeOut (followOuts d) n) := by
  obtain ⟨since, rise, h0⟩ := followOut_out 0 n d
  obtain ⟨since', rise', h1⟩ := followOut_out 1 n (followOut 0 d)
  refine ⟨since', rise', ?_⟩
  rw [followOuts, h1, h0, followOut_conditions]
  obtain rfl | rfl : n = 0 ∨ n = 1 := by omega
  all_goals simp

theorem followOuts_conditions (d : Dev) (n : Nat) : outConditions (followOuts d) n = outConditions d n :=
  (followOut_conditions 1 n _).trans (followOut_conditions 0 n d)

/-! ### The rest of the aftermath -/

/-- An output that is energised meets its conditions (R267). -/
def OutsOk (d : Dev) : Prop := ∀ n, n < 2 → (safeOut d n).energised = true → outConditions d n = true

theorem OutsOk.of_views (h : OutsOk d) (hsys : Facet.sys.view e = Facet.sys.view d) (hsaf : Facet.saf.view e = Facet.saf.view d)
    (hsec : Facet.sec.view e = Facet.sec.view d) (hhst : Facet.hst.view e = Facet.hst.view d) : OutsOk e := by
  intro n hn he
  have hout : safeOut e n = safeOut d n := safeOut_of_outs (congrArg Saf.outs (saf_of_view hsaf)) n
  rw [outConditions_congr (congrArg Sys.op (sys_of_view hsys)) (same_of_view (p := .sec) hsec) (same_of_view (p := .hst) hhst)
    (.of_saf (saf_of_view hsaf)) (by rw [hout])]
  exact h n hn (hout ▸ he)

theorem OutsOk.setWrites (h : OutsOk d) (w : List (Nat × Bytes)) : OutsOk { d with writes := w } :=
  h.of_views rfl rfl rfl rfl

theorem outsOk_of_off (h : ∀ n, n < 2 → (safeOut d n).energised = false) : OutsOk d :=
  fun n hn he => absurd he (by simp [h n hn])

theorem followOuts_ok (d : Dev) : OutsOk (followOuts d) := by
  intro n hn he
  obtain ⟨since, rise, hout⟩ := followOuts_out hn d
  rw [followOuts_conditions]
  rw [hout] at he
  exact (Bool.and_eq_true_iff.1 he).2

/-- A session ends with a device in HALTED, whose outputs are off already. -/
theorem haltSession_ok (h : OutsOk d) : OutsOk (haltSession d) := by
  by_cases ho : d.sys.op = .halted
  · refine outsOk_of_off fun n hn => ?_
    rw [safeOut_of_outs (outs_of_view (d := d) (by simp))]
    refine Bool.eq_false_iff.2 fun he => ?_
    exact absurd (((outConditions_iff d n).1 (h n hn he)).1.symm.trans ho) (by decide)
  · rwa [haltSession, if_neg (by simp [ho])]

theorem devReset_ok (por : Bool) (d : Dev) : OutsOk (devReset por d) := by
  refine outsOk_of_off fun n hn => ?_
  obtain rfl | rfl : n = 0 ∨ n = 1 := by omega
  all_goals rfl

theorem resetDue_ok (h : OutsOk d) : OutsOk (resetDue d) := by
  unfold resetDue
  split
  · split
    · exact h
    · exact devReset_ok _ _
  · exact h

/-- Whatever a command did, what follows it leaves the outputs so. -/
theorem settle_ok (before : Bool) (d : Dev) : OutsOk (settle before d)  := by
  have h := resetDue_ok (haltSession_ok (followOuts_ok (eventTriggers 16 d)))
  refine h.of_views ?_ ?_ ?_ ?_
  all_goals simp [settle]

/-- Where no reset waits, what follows a command leaves an output as following it does. -/
theorem settle_out (hr : d.sys.resetAfter = none) (hn : n < 2) (before : Bool) :
    Retimed ((safeOut d n).energised && outConditions d n) (safeOut d n) (safeOut (settle before d) n) := by
  let d1 := eventTriggers 16 d
  have h1 : d1.saf = d.saf := saf_of_view (by simp [d1])
  have hr1 : (haltSession (followOuts d1)).sys.resetAfter = none := (awaited_of_view (d := d) (by simp [d1])).trans hr
  have hreset : resetDue (haltSession (followOuts d1)) = haltSession (followOuts d1) := by rw [resetDue, hr1]
  have houts : (settle before d).saf.outs = (followOuts d1).saf.outs :=
    outs_of_view (by rw [settle, show eventTriggers 16 d = d1 from rfl, hreset]; simp)
  have hout : safeOut d1 n = safeOut d n := safeOut_of_outs (congrArg Saf.outs h1) n
  have hcond : outConditions d1 n = outConditions d n :=
    outConditions_congr (op_of_view (by simp [d1])) (same_of_view (p := .sec) (by simp [d1])) (same_of_view (p := .hst) (by simp [d1]))
      (.of_saf h1) (by rw [hout])
  rw [safeOut_of_outs houts, ← hcond, ← hout]
  exact followOuts_out hn d1

/-- A command's answer, and what it leaves of an output. -/
theorem completes_with_out {i : Instr} {f : Dev → Dev} {s : State} (he : exec i s = runDev f s) (hc : Calm (f s.fresh)) (hn : n < 2) :
    ∃ t, Completes i s (f s.fresh) ∧ exec i s = .next t ∧
      Retimed ((safeOut (f s.fresh) n).energised && outConditions (f s.fresh) n) (safeOut (f s.fresh) n) (safeOut t.dev n) := by
  have hout := settle_out hc.1 hn (irqLow s.dev)
  obtain ⟨d, hd⟩ : ∃ d, settle (irqLow s.dev) (f s.fresh) = d := ⟨_, rfl⟩
  have hnext : exec i s = .next { s with ram := memWrites s.ram d.writes, dev := { d with writes := [] } } := by
    rw [he, ← hd]
    rfl
  rw [hd, ← safeOut_setWrites d []] at hout
  exact ⟨_, completes_of i f s he hc, hnext, hout⟩

/-- Every command is a change of the device and what follows it. -/
theorem exec_eq_runDev (i : Instr) (s : State) : ∃ f, exec i s = runDev f s := by
  cases i <;> unfold exec <;> exact ⟨_, rfl⟩

theorem exec_outsOk {i : Instr} {s t : State} (h : exec i s = .next t) : OutsOk t.dev := by
  obtain ⟨f, hf⟩ := exec_eq_runDev i s
  rw [hf] at h
  obtain rfl := Host.Outcome.next.inj h
  exact (settle_ok (irqLow s.dev) (f s.fresh)).setWrites []

/-- Settles O5: what follows every command leaves an output energised only where its conditions hold. -/
theorem energisedOutputsMeetTheirConditions : Obligations.EnergisedOutputsMeetTheirConditions := by
  intro i s t h n hn he
  obtain ⟨hop, hscope, hcommitted, hset, hviolated, hinputs, hlocked, hvsafe, hhst⟩ :=
    (outConditions_iff t.dev n).1 (exec_outsOk h n hn he)
  exact ⟨hop, hviolated, hinputs, hlocked, hvsafe, hhst, hset, hcommitted, hscope⟩

end Sys2Proof.Laws
end

section
/-!
SUPPORT. What a trip leaves (R269, R270), whole.
-/
namespace Sys2Proof.Laws

open Sys2Proof.Machine

variable {d e : Dev} {n : Nat}

/-- The states that a trip ends. -/
def Operating (d : Dev) : Prop := d.sys.op = .ready ∨ d.sys.op = .armed ∨ d.sys.op = .running

/-- The groups that a trip may touch. -/
def tripParts : List Part := [.sys, .pts, .emi, .saf, .slu, .pcie, .kmp, .ev, .writes, .out]

/-- The rail is open under the inhibit, and the states that a trip ends are left for SAFE_STOP. -/
structure Stopped (d e : Dev) : Prop where
  rail : e.saf.railClosed = false
  inhibit : e.emi.inhibit = true
  only : Only tripParts d e
  op : Operating d → e.sys.op = .safeStop

theorem trip_of_operating (bits : List Nat) (h : Operating d) :
    trip bits d = raise 512 0 (le 4 (openRail (latchCauses bits d)).saf.latched)
      (deEnergiseAll (toState .safeStop (cancelStateCmds (openRail (latchCauses bits d))))) := by
  have hop : (openRail (latchCauses bits d)).sys.op = d.sys.op := rfl
  unfold trip
  dsimp only
  rcases h with h | h | h <;> simp only [hop, h]

theorem trip_of_not_operating (bits : List Nat) (h : ¬ Operating d) : trip bits d = openRail (latchCauses bits d) := by
  have hop : (openRail (latchCauses bits d)).sys.op = d.sys.op := rfl
  unfold trip
  dsimp only
  cases ho : d.sys.op <;> simp [Operating, ho] at h <;> simp only [hop, ho]

theorem trip_emi (bits : List Nat) (d : Dev) : (trip bits d).emi = { d.emi with inhibit := true, closedAt := none } := by
  by_cases h : Operating d
  · rw [trip_of_operating bits h]
    exact emi_of_view (d := openRail (latchCauses bits d)) (by simp)
  · rw [trip_of_not_operating bits h]
    rfl

theorem trip_energised (bits : List Nat) (h : Operating d) (hn : n < 2) : (safeOut (trip bits d) n).energised = false := by
  rw [trip_of_operating bits h, safeOut_of_outs (congrArg Saf.outs (raise_saf ..))]
  exact deEnergiseAll_energised _ hn

theorem trip_only (bits : List Nat) (d : Dev) : Only tripParts d (trip bits d) :=
  only_of_views fun p hp => by cases p <;> simp [tripParts] at hp ⊢

theorem trip_stops (bits : List Nat) (d : Dev) : Stopped d (trip bits d) where
  rail := trip_railClosed d bits
  inhibit := congrArg Emi.inhibit (trip_emi bits d)
  only := trip_only bits d
  op h := trip_op bits (ticking_of_operating h)

/-- A trip stops what the device stood as before, where the steps to the trip left its state. -/
theorem Stopped.of_only {d0 : Dev} (h : Stopped d e) (hop : d.sys.op = d0.sys.op) (honly : Only tripParts d0 d) : Stopped d0 e where
  rail := h.rail
  inhibit := h.inhibit
  only := only_trans honly h.only
  op h0 := h.op (by rwa [Operating, hop])

/-- A device that was stopped stays so over a further trip. -/
theorem Stopped.trip (h : Stopped d e) (bits : List Nat) : Stopped d (trip bits e) where
  rail := trip_railClosed e bits
  inhibit := congrArg Emi.inhibit (trip_emi bits e)
  only := only_trans h.only (trip_only bits e)
  op h0 := trip_op bits (by simp [ticking, h.op h0])

/-- A trip latches each of its causes. -/
theorem trip_latches (c : Nat) (d : Dev) : bit (trip [c] d).saf.latched c = true := by
  rw [trip_latched]
  exact bit_putBit_self _ _

/-- What is latched stays so over a trip. -/
theorem trip_keeps_latched {c : Nat} (c' : Nat) (h : bit d.saf.latched c = true) : bit (trip [c'] d).saf.latched c = true := by
  rw [trip_latched]
  exact bit_putBit_of_bit _ h

end Sys2Proof.Laws
end

section
/-!
Commands on safety: ARM with Tussock not healthy (R272), loading and confirming a safety configuration (R274, R448, R449), and the
commands that resume, stop, acknowledge and restart (R271, R289, R450).
-/
namespace Sys2Proof.Laws

open Sys2Proof.Machine

variable {s : State} {mb : Nat} {c : Cmd} {d : Dev}

section Answers

variable {i : Instr} {op : Nat} {f : Cmd → Dev → Nat × Bytes × Dev} {st : Nat} {p : Bytes} (hs : Starts s op mb c)
  (he : exec i s = runDev (answer op mb f) s)
include hs he

theorem answers_calm (hf : f c (s.taken c mb) = (st, p, d)) (hc : Calm d) : Answers i s c st p d :=
  answer_completes i op mb f s c st p d he hs.2 hf hc

/-- A command that changes nothing but by its answer. -/
theorem answers_unchanged (hf : f c (s.taken c mb) = (st, p, s.taken c mb)) : Answers i s c st p (s.taken c mb) :=
  answers_calm hs he hf (calm_taken c mb hs.1)

/-- A command whose effect leaves the state, the session and a reset that waits. -/
theorem answers_with (hf : f c (s.taken c mb) = (st, p, d)) (ha : Facet.awaited.view d = Facet.awaited.view (s.taken c mb))
    (ho : Facet.rail.view d = Facet.rail.view (s.taken c mb)) (hk : Facet.session.view d = Facet.session.view (s.taken c mb)) :
    Answers i s c st p d :=
  answers_calm hs he hf (calm_of_views (calm_taken c mb hs.1) ha ho hk)

end Answers

/-! ### ARM -/

theorem healthy_iff (d : Dev) : healthy d = true ↔
    d.saf.tested = true ∧ presentWord d = 0 ∧ d.saf.vsafeOk = true ∧ d.saf.committed ≠ none := by
  simp [healthy, and_assoc, Option.isSome_iff_ne_none]

theorem checkArm_of_unhealthy (c : Cmd) (hw : stateCmdWaits d = false) (h : healthy d = false) :
    checkArm c d = some (stNotPermitted, []) := by
  simp [checkArm, hw, h]

/-- Settles O9: each condition that is missing makes Tussock unhealthy, and ARM is refused by its own check. -/
theorem armNeedsHealthyTussock : Obligations.ArmNeedsHealthyTussock := by
  intro s mb c ⟨hcalm, hnext⟩ hw hmissing
  have hunhealthy : healthy (s.taken c mb) = false := by
    refine Bool.eq_false_iff.2 fun hh => ?_
    obtain ⟨htested, hpresent, hvsafe, hcommitted⟩ := (healthy_iff _).1 hh
    rcases hmissing with h | h | h | h
    · exact absurd (htested.symm.trans h) (by decide)
    · exact h hpresent
    · exact absurd (hvsafe.symm.trans h) (by decide)
    · exact hcommitted h
  exact launch_refused _ 0x0103 mb checkArm beginArm s c _ _ rfl hnext hcalm (checkArm_of_unhealthy c hw hunhealthy)

/-! ### SAFE_LOAD -/

theorem runDev_congr {f g : Dev → Dev} (h : f s.fresh = g s.fresh) : runDev f s = runDev g s := by
  have h' : f { s.dev with out := [], writes := [] } = g { s.dev with out := [], writes := [] } := h
  rw [runDev, runDev, h']

/-- While Hook B has a job of a higher rank, SAFE_LOAD waits in its mailbox (R286). -/
theorem safeLoad_waits (hc : Calm s.dev) (hw : hookBWaits s.dev = true) (mb : Nat) : Completes (.safeLoad mb) s s.fresh :=
  completes_of_views (f := afterHookB (answer 0x0E00 mb doSafeLoad)) rfl (if_pos hw) hc rfl rfl rfl

/-- The payload that answers a load: check, identifier and the first wrong field. -/
def loadRsp (b : Bytes) (bad : Nat) : Bytes := le 4 (blobCheck b) ++ le 4 (rdU b 8 4) ++ le 4 bad ++ zeros 4

theorem doSafeLoad_of_wrong {off : Nat} (h : blobBad c.payload = some off) (d : Dev) :
    doSafeLoad c d = (stBadParam, loadRsp c.payload off, d) := by
  simp [doSafeLoad, loadRsp, h]

theorem doSafeLoad_of_right (h : blobBad c.payload = none) (d : Dev) :
    doSafeLoad c d = (stOk, loadRsp c.payload 0xFFFFFFFF,
      modSaf (fun x => { x with pending := some (c.payload, blobCheck c.payload, tussNow d) }) (dropPendingBlob d)) := by
  simp [doSafeLoad, loadRsp, h]

theorem dropPendingBlob_saf (d : Dev) : (dropPendingBlob d).saf = { d.saf with pending := none } := by
  unfold dropPendingBlob
  split
  · exact raise_saf _ _ _ _
  · next h => rw [← Option.not_isSome_iff_eq_none.1 h]

/-- With no job of a higher rank SAFE_LOAD is answered, and a blob with no field wrong held pending (R274, R448). -/
theorem safeLoad_answers_of_free (hs : Starts s 0x0E00 mb c) (hw : hookBWaits s.dev = false) :
    (∀ off, blobBad c.payload = some off → Answers (.safeLoad mb) s c stBadParam (loadRsp c.payload off) (s.taken c mb)) ∧
    (blobBad c.payload = none → ∃ e, Answers (.safeLoad mb) s c stOk (loadRsp c.payload 0xFFFFFFFF) e ∧
      e.saf = { s.dev.saf with pending := some (c.payload, blobCheck c.payload, tussNow s.dev) } ∧
      Only [.saf, .ev] (s.taken c mb) e) := by
  have hfree : exec (.safeLoad mb) s = runDev (answer 0x0E00 mb doSafeLoad) s :=
    runDev_congr (f := afterHookB (answer 0x0E00 mb doSafeLoad)) (if_neg (ne_true_of_eq_false hw))
  refine ⟨fun off h => answers_unchanged hs hfree (doSafeLoad_of_wrong h _), fun h => ⟨_, answers_with hs hfree
    (doSafeLoad_of_right h _) (by simp) (by simp) (by simp), ?_, only_of_views fun p hp => ?_⟩⟩
  · rw [modSaf_saf, dropPendingBlob_saf]
    rfl
  · cases p <;> simp at hp ⊢

/-- A blob without the magic number is wrong at its first field. -/
theorem blobBad_of_magic {b : Bytes} (h : rdU b 0 4 ≠ 0x5346E1A5) : blobBad b = some 0 := by
  simp [blobBad, blobForm, h]

/-- A blob of the least length, without the magic number. -/
def wrongBlob : Bytes := zeros 12 ++ le 4 1024 ++ zeros 1008

/-- The command that loads it through mailbox 1. -/
def wrongLoad : Cmd := ⟨1, 7, 0x0E00, 5, 2, wrongBlob, 0, [], 0⟩

/-- A device in READY with a datagram of connection 0 to check, and the command waiting. -/
def loadBehindJob : Dev := { Dev.reset with
  sys := { Sys.reset with op := .ready }
  hst := { Hst.reset with jobs := [(0, [])] }
  kmp := { Kmp.reset with mbs := listMod Kmp.reset.mbs 1 (fun m => { m with waiting := [wrongLoad] }) } }

/-- Two tellings of a command's effect name the same mailboxes. -/
theorem kmp_of_completes {i : Instr} {d e : Dev} (hd : Completes i s d) (he : Completes i s e) : e.kmp = d.kmp := by
  obtain ⟨t, ht, -, -, hdt, -⟩ := hd
  obtain ⟨u, hu, -, -, heu, -⟩ := he
  obtain rfl : t = u := by simpa using ht.symm.trans hu
  exact (congrArg Dev.kmp heu :).symm.trans (congrArg Dev.kmp hdt :)

/-- Refutes O33: it asks nothing of Hook B. With a datagram's check waiting, SAFE_LOAD of a wrong blob does not run: it still waits in its
mailbox (R286), where the clause for a wrong field has it answered. `safeLoad_answers_of_free` is the statement with the premise that it
lacks. -/
theorem not_safetyConfigurationLoads : ¬ Obligations.SafetyConfigurationLoads := by
  intro h
  let s : State := { State.reset with dev := loadBehindJob }
  have hs : Starts s 0x0E00 1 wrongLoad := ⟨⟨rfl, nofun⟩, rfl⟩
  have hanswers := (h s 1 wrongLoad hs).1 0 (blobBad_of_magic (by decide))
  have hkmp := kmp_of_completes hanswers (safeLoad_waits hs.1 rfl 1)
  have hwaits : (s.fresh.kmp.mbs.map (·.waiting)).flatten ≠ [] := by decide +kernel
  rw [hkmp] at hwaits
  exact hwaits (by decide +kernel)

end Sys2Proof.Laws
end

section
/-!
Confirming a safety configuration (R274, R449), and the commands that resume, stop, acknowledge and restart (R271, R289, R450).
-/
namespace Sys2Proof.Laws

open Sys2Proof.Machine

variable {s : State} {mb : Nat} {c : Cmd} {d : Dev}

/-! ### Connections and the safety processor's group -/

theorem foldl_outsOnly {α : Type} (f : Dev → α → Dev) (h : ∀ d a, OutsOnly d (f d a)) (l : List α) :
    ∀ d, OutsOnly d (l.foldl f d) := by
  induction l with
  | nil => exact .refl
  | cons a l ih => exact fun d => (h d a).trans (ih _)

theorem connStart_outsOnly (k : Nat) (d : Dev) : OutsOnly d (connStart k d) := .trans (.of_saf rfl) (followOuts_outsOnly _)

theorem connFault_outsOnly (k cause : Nat) (d : Dev) : OutsOnly d (connFault k cause d) := by
  unfold connFault
  exact .trans (.of_saf (saf_of_view (by simp))) (followOuts_outsOnly _)

theorem connCommit_outsOnly (k : Nat) (d : Dev) : OutsOnly d (connCommit k d) := by
  unfold connCommit
  extract_lets d1
  have h1 : OutsOnly d d1 := by
    by_cases h : ((connGet d k).state == .run) = true
    · simpa only [d1, if_pos h] using connFault_outsOnly k 6 d
    · simpa only [d1, if_neg h] using .refl d
  split
  · exact h1.trans (.of_saf rfl)
  · exact h1.trans (connStart_outsOnly k d1)

/-! ### SAFE_CONFIRM -/

/-- A committed configuration, of the safety processor's group: it is in force with its check, none is pending, no field set is chosen and
every field starts clear; else only accumulators merge and outputs follow. -/
theorem commitBlob_saf (b : Bytes) (check : Nat) (d : Dev) : ∃ cells fill outs, (commitBlob b check d).saf = { d.saf with
    committed := some b, committedCheck := check, pending := none, set := none, oldSet := none,
    fields := List.replicate 4 FieldRun.clear, oldFields := [], cells := cells, fill := fill, outs := outs } := by
  unfold commitBlob
  extract_lets d1 d2 d3
  have h1 : ∃ cells fill, d1.saf = { d.saf with cells := cells, fill := fill } := by
    by_cases h : cellCentre d.saf.committed = cellCentre (some b)
    · exact ⟨_, _, by rw [show d1 = d from if_pos h]⟩
    · exact ⟨_, _, by rw [show d1 = mergeCells d from if_neg h]; rfl⟩
  have h3 : d3.saf = d2.saf := saf_of_view (by simp [d3, extendM])
  obtain ⟨cells, fill, h1⟩ := h1
  obtain ⟨outs, hout⟩ := foldl_outsOnly (fun d c => connCommit c d) (fun d c => connCommit_outsOnly c d) (List.range 8) d3
  exact ⟨cells, fill, outs, by rw [raise_saf, hout, h3, modSaf_saf, h1]⟩

theorem extendM_sec (m : Nat) (v : Bytes) (d : Dev) :
    (extendM m v d).sec = { d.sec with measures := listMod d.sec.measures m (fun x => sha384 (x ++ v)) } := rfl

/-- M5 is extended by the configuration's identifier and check. -/
theorem commitBlob_sec (b : Bytes) (check : Nat) (d : Dev) : (commitBlob b check d).sec = { d.sec with
    measures := listMod d.sec.measures 5 (fun m => sha384 (m ++ (le 4 (rdU b 8 4) ++ le 4 check))) } := by
  unfold commitBlob
  extract_lets d1 d2 d3
  have h2 : (noteFit d.saf.committed d2).sec = d.sec := same_of_view (p := .sec) (by simp [d2, d1])
  have hend : (raise 517 0 [] ((List.range 8).foldl (fun d c => connCommit c d) d3)).sec = d3.sec :=
    same_of_view (p := .sec) (by simp)
  rw [hend, extendM_sec, h2]

theorem doSafeConfirm_of_none (h : d.saf.pending = none) : doSafeConfirm c d = (stNotPermitted, [], d) := by
  rw [doSafeConfirm, h]

section Pending

variable {b : Bytes} {check t : Nat} (hp : d.saf.pending = some (b, check, t)) (hlive : tussNow d < t + 10000000000)
include hp hlive

theorem doSafeConfirm_of_state (hready : d.sys.op ≠ .ready) (hstop : d.sys.op ≠ .safeStop) :
    doSafeConfirm c d = (stNotPermitted, [], d) := by
  simp [doSafeConfirm, hp, hlive, hready, hstop]

theorem doSafeConfirm_of_wrong (hop : d.sys.op = .ready ∨ d.sys.op = .safeStop)
    (h : rdU c.payload 0 4 ≠ rdU b 8 4 ∨ rdU c.payload 4 4 ≠ check) : doSafeConfirm c d = (stBadParam, [], dropPendingBlob d) := by
  have hstate : (d.sys.op != .ready && d.sys.op != .safeStop) = false := by rcases hop with ho | ho <;> simp [ho]
  simp only [doSafeConfirm, hp, hstate, if_neg (Nat.not_le.2 hlive), if_pos h]
  rfl

theorem doSafeConfirm_of_right (hop : d.sys.op = .ready ∨ d.sys.op = .safeStop) (hident : rdU c.payload 0 4 = rdU b 8 4)
    (hcheck : rdU c.payload 4 4 = check) :
    doSafeConfirm c d = (stOk, le 4 (rdU b 8 4) ++ le 4 check ++ le 8 d.sys.now, commitBlob b check d) := by
  have hstate : (d.sys.op != .ready && d.sys.op != .safeStop) = false := by rcases hop with ho | ho <;> simp [ho]
  simp [doSafeConfirm, hp, hstate, Nat.not_le.2 hlive, hident, hcheck]

end Pending

/-- Settles O34: the branches of the confirmation, and what a commit leaves of each group it touches. -/
theorem safetyConfigurationCommits : Obligations.SafetyConfigurationCommits := by
  intro s mb c hs
  refine ⟨fun h => answers_unchanged hs rfl (doSafeConfirm_of_none h), fun b check t hp hlive => ?_⟩
  have hp' : (s.taken c mb).saf.pending = some (b, check, t) := hp
  have hlive' : tussNow (s.taken c mb) < t + 10000000000 := hlive
  refine ⟨fun hready hstop => answers_unchanged hs rfl (doSafeConfirm_of_state hp' hlive' hready hstop), fun hop => ⟨fun hwrong => ?_,
    fun hident hcheck => ?_⟩⟩
  · exact answers_with hs rfl (doSafeConfirm_of_wrong hp' hlive' hop hwrong) (by simp) (by simp) (by simp)
  · obtain ⟨cells, fill, outs, hsaf⟩ := commitBlob_saf b check (s.taken c mb)
    refine ⟨commitBlob b check (s.taken c mb), answers_with hs rfl (doSafeConfirm_of_right hp' hlive' hop hident hcheck) (by simp)
      (by simp) (by simp), ?_, ?_, ?_, ?_, ?_, ?_, ?_, commitBlob_sec b check _,
      only_of_views fun p hp => by cases p <;> simp at hp ⊢⟩
    all_goals rw [hsaf]
    all_goals rfl

/-! ### SAFE_RESUME and SAFE_STOP -/

theorem toState_sys (o : OpState) (d : Dev) : (toState o d).sys = { d.sys with op := o } := by
  unfold toState
  split
  · next h => rw [← eq_of_beq h]
  · dsimp only
    split
    · rw [modPts_sys, raise_sys]
      rfl
    · rw [raise_sys]
      rfl

/-- Work in the pipeline stays where emission may go on. -/
theorem toState_ready_only (d : Dev) : Only [.sys, .ev] d (toState .ready d) := by
  unfold toState
  split
  · exact only_refl _ _
  · exact only_of_views fun p hp => by cases p <;> simp at hp ⊢

/-- The device out of SAFE_STOP, its causes cleared. -/
def resumed (d : Dev) : Dev := toState .ready (modSaf (fun x => { x with latched := 0 }) d)

theorem doSafeResume_of_stopped (ho : d.sys.op = .safeStop) (hp : presentWord d = 0) :
    doSafeResume c d = (stOk, le 4 d.saf.latched, releaseDrive (raise 513 0 [] (resumed d))) := by
  simp [doSafeResume, ho, hp, resumed]

theorem doSafeResume_of_not (h : d.sys.op ≠ .safeStop ∨ presentWord d ≠ 0) : doSafeResume c d = (stNotPermitted, [], d) := by
  simp [doSafeResume, h]

/-- A resumed device is in READY with no cause latched, its rail as it was and its drive no longer held. -/
theorem resume_spec (ho : d.sys.op = .safeStop) (hp : presentWord d = 0) :
    (doSafeResume c d).2.2.sys = { d.sys with op := .ready } ∧ (doSafeResume c d).2.2.saf = { d.saf with latched := 0 } ∧
      Only [.sys, .scan, .saf, .ev] d (doSafeResume c d).2.2 := by
  rw [doSafeResume_of_stopped ho hp]
  refine ⟨?_, ?_, ?_⟩
  · exact (sys_of_view (d := resumed d) (by simp)).trans (toState_sys _ _)
  · exact (saf_of_view (d := resumed d) (by simp)).trans (toState_saf _ _)
  · have hlatched : Only [.sys, .scan, .saf, .ev] d (modSaf (fun x => { x with latched := 0 }) d) :=
      only_of_views fun p hp => by cases p <;> simp at hp ⊢
    have hready : Only [.sys, .scan, .saf, .ev] _ (resumed d) := only_mono (by simp) (toState_ready_only _)
    exact only_trans (only_trans hlatched hready) (only_of_views fun p hp => by cases p <;> simp at hp ⊢)

theorem doSafeStop_of_operating (h : Operating d) : doSafeStop c d = (stOk, [], trip [cHost] d) := by
  rcases h with h | h | h <;> simp [doSafeStop, h]

theorem doSafeStop_of_not (h : ¬ Operating d) : doSafeStop c d = (stOk, [], latchCauses [cHost] d) := by
  simp only [Operating, not_or] at h
  simp [doSafeStop, h]

/-! ### OUTPUT_ACK and HST_RESTART -/

theorem doOutputAck_of_undefined (h : 3 < rdU c.payload 0 1) : doOutputAck c d = (stBadParam, [], d) := by
  simp [doOutputAck, h]

/-- The lockout of output 0 stays while a switch has not passed. -/
theorem doOutputAck_of_locked (h : rdU c.payload 0 1 = 1) (hl : (safeOut d 0).locked = true) (hp : (safeOut d 0).passed ≠ 3) :
    doOutputAck c d = (stNotPermitted, [], d) := by
  have hlist : bitList 2 1 = [0] := by decide
  simp [doOutputAck, h, hlist, ackable, hl, hp]

/-- It ends once both have. -/
theorem doOutputAck_of_passed (h : rdU c.payload 0 1 = 1) (hp : (safeOut d 0).passed = 3) :
    ∃ q, doOutputAck c d = (stOk, q, modOut 0 (fun o => { o with locked := false, passed := 0 }) d) := by
  have hlist : bitList 2 1 = [0] := by decide
  simp [doOutputAck, h, hlist, ackable, hp]

section Restart

variable (h : rdU c.payload 0 1 = 1)
include h

theorem doHstRestart_of_fault (hf : (connGet d 0).state = .fault) (hm : connCfg d 0 0x0A 1 = 0) :
    doHstRestart c d = (stOk, [], connStart 0 d) := by
  have hlist : bitList 8 1 = [0] := by decide
  simp [doHstRestart, h, hlist, hf, hm]

theorem doHstRestart_of_not (hf : (connGet d 0).state ≠ .fault) : doHstRestart c d = (stNotPermitted, [], d) := by
  have hlist : bitList 8 1 = [0] := by decide
  simp [doHstRestart, h, hlist, hf]

end Restart

/-- Settles O35: the branches of the four commands, told one by one above. -/
theorem safetyCommandsAct : Obligations.SafetyCommandsAct := by
  intro s mb c d
  refine ⟨fun hs => ⟨fun h => ?_, fun ho hp => ?_⟩, fun hs => ⟨fun h => ?_, fun hready harmed hrunning => ?_⟩,
    fun hs => ⟨fun h => ?_, fun h hl hp => ?_, fun h hp => ?_⟩, fun hs h => ⟨fun hf hm => ?_, fun hf => ?_⟩⟩
  · exact answers_unchanged hs rfl (doSafeResume_of_not h)
  · obtain ⟨hsys, hsaf, honly⟩ := resume_spec (c := c) (d := d) ho hp
    rw [doSafeResume_of_stopped (d := d) ho hp] at hsys hsaf honly
    refine ⟨_, answers_calm hs rfl (doSafeResume_of_stopped ho hp) ⟨?_, fun hh => ?_⟩, hsys, ?_, ?_, honly⟩
    · rw [hsys]
      exact hs.1.1
    · exact OpState.noConfusion ((congrArg Sys.op hsys).symm.trans hh)
    · rw [hsaf]
    · rw [hsaf]
      rfl
  · obtain ⟨hrail, hinhibit, honly, hop⟩ := trip_stops [cHost] d
    exact ⟨_, answers_calm hs rfl (doSafeStop_of_operating h) (trip_calm _ (calm_taken c mb hs.1)), hop h, hrail, hinhibit,
      trip_latched _ _, fun n hn => trip_energised _ h hn, honly⟩
  · have hnot : ¬ Operating d := not_or.2 ⟨hready, not_or.2 ⟨harmed, hrunning⟩⟩
    exact answers_calm hs rfl (doSafeStop_of_not hnot) (calm_taken c mb hs.1)
  · exact answers_unchanged hs rfl (doOutputAck_of_undefined h)
  · exact answers_unchanged hs rfl (doOutputAck_of_locked h hl hp)
  · obtain ⟨q, hq⟩ := doOutputAck_of_passed (d := d) h hp
    exact ⟨q, answers_with hs rfl hq (by simp [d]) (by simp [d]) (by simp [d])⟩
  · exact answers_with hs rfl (doHstRestart_of_fault h hf hm) (by simp [d]) (by simp [d]) (by simp [d])
  · exact answers_unchanged hs rfl (doHstRestart_of_not h hf)

end Sys2Proof.Laws
end

section
/-!
Safety inputs, test pulses, automatic outputs, VSAFE and the pending configuration (R264 to R268, R274, R474).
-/
namespace Sys2Proof.Laws

open Sys2Proof.Machine

variable {s : State} {d e : Dev} {n : Nat}

theorem advanceTuss_sys (t : Nat) (d : Dev) :
    (advanceTuss t d).sys = { d.sys with now := max d.sys.now ((t : Int) + d.sys.stepSum).toNat } := rfl

/-! ### One sample of an input -/

/-- The level, the count of missed pulses and the fault of an input are the same in both. -/
def SameSample (x y : SafeIn) : Prop := y.filt = x.filt ∧ y.missed = x.missed ∧ y.fault = x.fault

theorem SameSample.refl (x : SafeIn) : SameSample x x := ⟨rfl, rfl, rfl⟩

theorem SameSample.trans {x y z : SafeIn} (h : SameSample x y) (k : SameSample y z) : SameSample x z := by
  obtain ⟨h1, h2, h3⟩ := h
  obtain ⟨k1, k2, k3⟩ := k
  exact ⟨k1.trans h1, k2.trans h2, k3.trans h3⟩

/-- Outside its own pulses an input takes a level that has lasted its filter time. -/
theorem sampleIn_filt_of_none {t i : Nat} (h : ownPulse d i t = none) (level : Bool) :
    (sampleIn d t i level).filt = if level ≠ (safeIn d i).filt ∧ (safeIn d i).since + cfgU d (0x43 + 8 * i) 1 * 1000000 ≤ t then level
      else (safeIn d i).filt := by
  by_cases hl : level = (safeIn d i).filt
  · simp [sampleIn, h, hl]
  · simp [sampleIn, h, hl]

section Pulse

variable {t i p : Nat} (h : ownPulse d i t = some p)
include h

/-- Within a pulse of its own source an input keeps its level. -/
theorem sampleIn_filt_of_pulse (level : Bool) : (sampleIn d t i level).filt = (safeIn d i).filt := by
  simp only [sampleIn, h]
  split_ifs <;> rfl

/-- A high input not yet judged, 300 µs into its pulse: it must read low. -/
structure JudgedAt (d : Dev) (t i p : Nat) : Prop where
  fresh : (safeIn d i).judged = false
  begun : p + 300000 ≤ t
  before : t < p + 400000
  high : (safeIn d i).filt = true

theorem sampleIn_judged (hj : JudgedAt d t i p) (level : Bool) : (sampleIn d t i level).missed =
    if level then (safeIn d i).missed + 1 else 0 := by
  obtain ⟨hfresh, hbegun, hbefore, hhigh⟩ := hj
  cases level <;> simp [sampleIn, h, hfresh, hhigh, Nat.not_lt.2 hbegun, Nat.not_le.2 hbefore]

end Pulse

theorem faultIn_filt (d : Dev) (i : Nat) (x : SafeIn) : (faultIn d i x).filt = x.filt := by
  unfold faultIn
  dsimp only
  split_ifs <;> rfl

theorem faultIn_missed_of_none {x : SafeIn} (h : x.missed = 0) (d : Dev) (i : Nat) : (faultIn d i x).missed = 0 := by
  unfold faultIn
  dsimp only
  split_ifs
  all_goals simp [h]

theorem faultIn_fault_of_missed {x : SafeIn} (h : 2 ≤ x.missed) (d : Dev) (i : Nat) : (faultIn d i x).fault = true := by
  simp [faultIn, h]

/-! ### Pairs, and a sample of all inputs -/

/-- Of the safety processor's group a pair's step writes its inputs and its discrepancy. -/
theorem pairStep_saf (t k : Nat) (d : Dev) : ∃ inputs disc, (pairStep t d k).saf = { d.saf with inputs := inputs, disc := disc } :=
  ⟨_, _, rfl⟩

/-- A pair's step marks the pair's fault alone. -/
theorem pairStep_sample (t k i : Nat) (d : Dev) : SameSample (safeIn d i) (safeIn (pairStep t d k) i) := by
  unfold pairStep
  extract_lets ok since start late a b low clear put
  have hput (x : SafeIn) : SameSample x (put x) := by
    simp only [put]
    split_ifs <;> exact .refl x
  simp only [safeIn, modSaf_saf, listMod_getD]
  split_ifs
  · exact (hput _).trans (hput _)
  · exact hput _
  · exact hput _
  · exact .refl _

/-- The pairs of all inputs, one after another. -/
theorem pairSteps_spec (t : Nat) (l : List Nat) (d : Dev) :
    (∃ inputs disc, (l.foldl (pairStep t) d).saf = { d.saf with inputs := inputs, disc := disc }) ∧
      ∀ i, SameSample (safeIn d i) (safeIn (l.foldl (pairStep t) d) i) := by
  induction l generalizing d with
  | nil => exact ⟨⟨_, _, rfl⟩, fun i => .refl _⟩
  | cons k l ih =>
    obtain ⟨⟨inputs, disc, hsaf⟩, hsample⟩ := ih (pairStep t d k)
    exact ⟨⟨inputs, disc, by rw [List.foldl_cons, hsaf]; rfl⟩, fun i => (pairStep_sample t k i d).trans (hsample i)⟩

theorem energise_outsOnly (n : Nat) (d : Dev) : OutsOnly d (energise n d) := by
  unfold energise
  split
  · exact .refl d
  · exact ⟨_, raise_saf _ _ _ (modOut n _ d)⟩

theorem followRestart_outsOnly (n : Nat) (d : Dev) : OutsOnly d (followRestart n d) := by
  have hedge (t : Nat) : OutsOnly d (restartEdge n t d) := by
    unfold restartEdge
    extract_lets now held
    split
    · exact energise_outsOnly n d
    · exact .refl d
  unfold followRestart
  dsimp only
  split
  · exact .refl d
  · split
    · exact ⟨_, rfl⟩
    · split
      · exact .refl d
      · exact (hedge _).trans ⟨_, rfl⟩

/-- The instant of the next sample. -/
def sampleTime (d : Dev) : Nat := max (tussNow d) (d.saf.sampleAt + 50000)

/-- An input as its sample alone leaves it. -/
def sampled (levels : Nat) (d : Dev) (i : Nat) : SafeIn := faultIn d i (sampleIn d (sampleTime d) i (bit levels i))

/-- The sample of an input reads nothing of the sample before. -/
theorem sample_congr {u : Nat} (h : e.saf = { d.saf with sampleAt := u }) (t i : Nat) (level : Bool) :
    faultIn e i (sampleIn e t i level) = faultIn d i (sampleIn d t i level) := by
  have hcfg : cfgU e = cfgU d := by
    funext off k
    rw [cfgU, h, cfgU]
  have hpulse : ownPulse e i t = ownPulse d i t := by rw [ownPulse, inSource, hcfg, h, ownPulse, inSource]
  have hin : safeIn e i = safeIn d i := by rw [safeIn, h, safeIn]
  have hsample : sampleIn e t i level = sampleIn d t i level := by simp only [sampleIn, hpulse, hin, hcfg]
  rw [hsample, faultIn, inSource, hcfg, h, faultIn, inSource]

/-- A sample moves the time to its instant, and of the safety processor's group writes its own instant, inputs, discrepancies and
outputs; each input reads as its own sample leaves it. -/
theorem inputSample_spec (levels : Nat) (ht : ticking d = true) :
    (inputSample levels d).sys = (advanceTuss (sampleTime d) d).sys ∧
      (∃ inputs disc outs, (inputSample levels d).saf = { d.saf with
        sampleAt := sampleTime d, inputs := inputs, disc := disc, outs := outs }) ∧
      ∀ i, i < 8 → SameSample (sampled levels d i) (safeIn (inputSample levels d) i) := by
  unfold inputSample
  rw [if_neg (by simp [ht])]
  extract_lets t d0 d1 d2
  have h0 : d0.saf = { d.saf with sampleAt := t } := rfl
  obtain ⟨⟨inputs, disc, hsaf⟩, hsample⟩ := pairSteps_spec t (List.range 4) d1
  have hnoted : OutsOnly d2 (noteInputs d d2) := .of_saf (saf_of_view (by simp))
  obtain ⟨outs, houts⟩ := ((hnoted.trans (followOuts_outsOnly _)).trans (followRestart_outsOnly 0 _)).trans (followRestart_outsOnly 1 _)
  refine ⟨?_, ⟨inputs, disc, outs, ?_⟩, fun i hi => ?_⟩
  · exact sys_of_view (d := d0) (by simp [d2, d1])
  · have h1 : d1.saf = { d.saf with sampleAt := sampleTime d, inputs := d1.saf.inputs } := rfl
    rw [houts, hsaf, h1]
  · have hin : safeIn d1 i = sampled levels d i := by
      simp only [safeIn, d1, modSaf_saf, List.getD_eq_getElem?_getD, List.getElem?_map, List.getElem?_range hi, Option.map_some,
        Option.getD_some]
      rw [sample_congr h0 t i, sampled, sampleTime]
    rw [safeIn, houts, ← hin]
    exact hsample i

theorem inputSample_completes (hc : Calm s.dev) (levels : Nat) :
    Completes (.safetyInputSample levels) s (inputSample levels s.fresh) :=
  completes_of_views rfl rfl hc (by simp) (by simp) (by simp)

theorem inputSample_only (levels : Nat) (d : Dev) : Only [.sys, .saf, .ev] d (inputSample levels d) :=
  only_of_views fun p hp => by cases p <;> simp at hp ⊢

/-! ### Test pulses -/

/-- A test pulse drops at its next place, its readback judges it, and every input is to be judged again (R265). -/
theorem testPulse_spec (ht : ticking d = true) {k : Nat} (hk : k < 4) (readback : Nat) :
    (testPulse k readback d).sys = (advanceTuss (pulsePlace (tussNow d) k) d).sys ∧ (testPulse k readback d).saf = { d.saf with
      pulses := listMod d.saf.pulses k (fun _ => some (pulsePlace (tussNow d) k)),
      tpFault := putBit d.saf.tpFault k (decide (readback ≠ 0)),
      inputs := d.saf.inputs.map (fun x => { x with judged := false }) } := by
  unfold testPulse
  rw [if_neg (by simp [ht, hk])]
  extract_lets t fault d1
  split
  · exact ⟨raise_sys _ _ _ d1, raise_saf _ _ _ d1⟩
  · exact ⟨rfl, rfl⟩

/-! ### Automatic outputs -/

theorem energise_out (hn : n < d.saf.outs.length) : safeOut (energise n d) n = { safeOut d n with energised := true } := by
  unfold energise
  split
  · next h => rw [← h]
  · rw [safeOut_of_outs (congrArg Saf.outs (raise_saf ..)), safeOut_modOut, if_pos ⟨rfl, hn⟩]

theorem energise_conditions (hn : n < d.saf.outs.length) : outConditions (energise n d) n = outConditions d n :=
  outConditions_congr (op_of_view (by simp)) (same_of_view (p := .sec) (by simp)) (same_of_view (p := .hst) (by simp))
    (energise_outsOnly n d) (by rw [energise_out hn])

/-- An automatic output is energised when its delay is over and its conditions hold (R268). -/
theorem restartExpiry_of_due {since : Nat} (hn : n < 2) (hauto : restartAuto d n = true) (hoff : (safeOut d n).energised = false)
    (hcond : outConditions d n = true) (hsince : (safeOut d n).condSince = some since) :
    restartExpiry n d = energise n (advanceTuss (since + restartDelay d n) d) := by
  simp [restartExpiry, hn, hauto, hoff, hcond, hsince]

theorem restartExpiry_of_not (h : outConditions d n = false ∨ (safeOut d n).condSince = none) : restartExpiry n d = d := by
  unfold restartExpiry
  rcases h with h | h
  · rw [if_pos (by simp [h])]
  · rw [h]
    split <;> rfl

theorem restartExpiry_completes (hc : Calm s.dev) {d : Dev} (h : restartExpiry n s.fresh = d) : Completes (.restartDelayExpiry n) s d := by
  subst h
  exact completes_of_views rfl rfl hc (by simp) (by simp) (by simp)

/-! ### VSAFE and the pending configuration -/

theorem vsafeChange_saf (ok : Bool) (mv : Nat) (d : Dev) : (vsafeChange ok mv d).saf = { d.saf with
    vsafeOk := decide (17000 ≤ mv ∧ mv ≤ 29700) || (ok && !decide (mv < 16800 ∨ 30000 < mv)), vsafeMv := min mv 65535 } := by
  unfold vsafeChange
  extract_lets must never j d1
  split
  · rfl
  · exact raise_saf _ _ _ d1

theorem pendingExpiry_of_some {p : Bytes × Nat × Nat} (h : d.saf.pending = some p) :
    pendingExpiry d = dropPendingBlob (advanceTuss (p.2.2 + 10000000000) d) := by
  rw [pendingExpiry, h]

theorem pendingExpiry_of_none (h : d.saf.pending = none) : pendingExpiry d = d := by
  rw [pendingExpiry, h]

/-! ### The statement -/

/-- Settles O53: the commands of the safety inputs and outputs, told one by one above. That an expiry with nothing pending changes nothing
is DESIGN CHOICE (assumption log, entry 1). -/
theorem safetyInputsAndOutputsFollow : Obligations.SafetyInputsAndOutputsFollow := by
  intro s hc clock
  refine ⟨fun levels i ht hi => ?_, fun k readback ht hk => ?_, fun n hn hlen hauto hoff => ⟨fun since hcond hsince => ?_,
    fun h => ?_⟩, fun ok mv => ?_, fun p h => ?_, fun h => ?_⟩
  · intro x t
    obtain ⟨hsys, ⟨inputs, disc, outs, hsaf⟩, hsample⟩ := inputSample_spec (d := s.fresh) levels ht
    obtain ⟨hfilt, hmissed, hfault⟩ := hsample i hi
    refine ⟨_, inputSample_completes hc levels, by rw [hsaf]; rfl, hsys, fun hnone => ?_, fun p hp => ⟨?_, ?_, ?_⟩, by rw [hsaf]; rfl,
      by rw [hsaf]; rfl, inputSample_only _ _⟩
    · exact hfilt.trans ((faultIn_filt _ _ _).trans (sampleIn_filt_of_none hnone _))
    · exact hfilt.trans ((faultIn_filt _ _ _).trans (sampleIn_filt_of_pulse hp _))
    · intro hfresh hbegun hbefore hhigh hlow
      have hcount := sampleIn_judged (d := s.fresh) hp ⟨hfresh, hbegun, hbefore, hhigh⟩ (bit levels i)
      exact hmissed.trans (faultIn_missed_of_none (hcount.trans (by simp [hlow])) _ _)
    · intro hfresh hbegun hbefore hhigh hstays honce
      have hcount := sampleIn_judged (d := s.fresh) hp ⟨hfresh, hbegun, hbefore, hhigh⟩ (bit levels i)
      exact hfault.trans (faultIn_fault_of_missed (hcount ▸ if_pos hstays ▸ Nat.succ_le_succ honce) _ _)
  · intro t
    obtain ⟨hsys, hsaf⟩ := testPulse_spec (d := s.fresh) ht hk readback
    exact ⟨_, completes_of_views (f := testPulse k readback) rfl rfl hc (by simp) (by simp) (by simp), hsys, hsaf,
      only_of_views fun p hp => by cases p <;> simp at hp ⊢⟩
  · have heq := restartExpiry_of_due (d := s.fresh) hn hauto hoff hcond hsince
    have hcalm : Calm (restartExpiry n s.fresh) := calm_of_views (calm_fresh hc) (by simp) (by simp) (by simp)
    obtain ⟨t, hcompletes, hnext, since', rise, hout⟩ := completes_with_out (i := .restartDelayExpiry n) rfl hcalm hn
    have hlen' : n < (advanceTuss (since + restartDelay s.fresh n) s.fresh).saf.outs.length := hlen
    rw [heq] at hcompletes hout
    refine ⟨_, t, hcompletes, sys_of_view (d := advanceTuss (since + restartDelay s.fresh n) s.fresh) (by simp), ?_, hnext, ?_⟩
    · rw [← heq]
      exact only_of_views fun p hp => by cases p <;> simp at hp ⊢
    · have hcond' : outConditions (advanceTuss (since + restartDelay s.fresh n) s.fresh) n = true :=
        (outConditions_congr rfl rfl rfl (.of_saf rfl) rfl).trans hcond
      simp only [hout, energise_out hlen', energise_conditions hlen', hcond', Bool.true_and]
  · exact restartExpiry_completes hc (restartExpiry_of_not (d := s.fresh) h)
  · exact ⟨_, completes_of_views (f := vsafeChange ok mv) rfl rfl hc (by simp) (by simp) (by simp), vsafeChange_saf ok mv _,
      only_of_views fun p hp => by cases p <;> simp at hp ⊢⟩
  · have heq := pendingExpiry_of_some (d := s.fresh) h
    exact ⟨_, completes_of_views rfl heq hc (by simp) (by simp) (by simp), dropPendingBlob_saf _,
      sys_of_view (d := advanceTuss (p.2.2 + 10000000000) s.fresh) (by simp), only_of_views fun p hp => by cases p <;> simp at hp ⊢⟩
  · exact completes_of_views rfl (pendingExpiry_of_none (d := s.fresh) h) hc rfl rfl rfl

end Sys2Proof.Laws
end

section
/-!
The emission limiter (R248 to R251): what a pulse's charge adds to which accumulators, and when it trips.
-/
namespace Sys2Proof.Laws

open Sys2Proof.Machine

variable {d d0 d1 x : Dev} {az : List Nat} {b e : Nat} {r : PulseRep}

/-! ### Accumulators -/

theorem addNewest_ne_zeros (he : 0 < e) (l : List Nat) : addNewest e l ≠ List.replicate 17 0 := by
  cases l with
  | nil => simp [addNewest, List.replicate_succ]
  | cons y ys =>
    intro h
    have hhead : y + e = 0 := (List.cons.inj h).1
    omega

theorem addNewest_sum (e : Nat) (l : List Nat) : (addNewest e l).sum = l.sum + e := by
  cases l with
  | nil => simp [addNewest]
  | cons y ys => simp only [addNewest, List.sum_cons]; omega

/-- Accumulators charged one after another, each once. -/
theorem tabGet_charged {α : Type} (he : 0 < e) (place : α → Nat) (ks : List α) (hks : (ks.map place).Nodup) (t : Tab (List Nat))
    (i : Nat) :
    tabGet (List.replicate 17 0) (ks.foldl (fun t k => tabMod (List.replicate 17 0) t (place k) (addNewest e)) t) i =
      if i ∈ ks.map place then addNewest e (tabGet (List.replicate 17 0) t i) else tabGet (List.replicate 17 0) t i := by
  induction ks generalizing t with
  | nil => simp
  | cons k ks ih =>
    obtain ⟨hk, hks⟩ := List.nodup_cons.1 hks
    rw [List.foldl_cons, ih hks, tabGet_tabMod_of_ne (addNewest_ne_zeros he _), List.map_cons]
    by_cases hi : i = place k
    · subst hi
      simp [hk]
    · simp [hi]

/-- The accumulators that a charge adds to: base and cell. -/
def chargeKeys (az : List Nat) (b : Nat) : List (Nat × Nat) := (List.range 5).flatMap (fun base => az.map (fun a => (base, 8 * a + b)))

/-- The place of an accumulator in the table. -/
def accPlace (k : Nat × Nat) : Nat := k.1 * 256 + k.2

/-- Azimuth cells, each named once. -/
structure AzimuthCells (az : List Nat) : Prop where
  nodup : az.Nodup
  lt : ∀ a ∈ az, a < 32

theorem mem_chargeKeys {k : Nat × Nat} : k ∈ chargeKeys az b ↔ k.1 < 5 ∧ ∃ a ∈ az, k.2 = 8 * a + b := by
  obtain ⟨base, cell⟩ := k
  simp only [chargeKeys, List.mem_flatMap, List.mem_range, List.mem_map, Prod.mk.injEq]
  constructor
  · rintro ⟨base, hbase, a, ha, rfl, rfl⟩
    exact ⟨hbase, a, ha, rfl⟩
  · rintro ⟨hbase, a, ha, rfl⟩
    exact ⟨base, hbase, a, ha, rfl, rfl⟩

theorem accPlace_mem (haz : AzimuthCells az) (hb : b < 8) {base k : Nat} (hbase : base < 5) (hk : k < 256) :
    base * 256 + k ∈ (chargeKeys az b).map accPlace ↔ ∃ a ∈ az, k = 8 * a + b := by
  rw [List.mem_map]
  constructor
  · rintro ⟨⟨base', k'⟩, hmem, hplace⟩
    obtain ⟨-, a, ha, hcell⟩ := mem_chargeKeys.1 hmem
    have hlt := haz.lt a ha
    simp only [accPlace] at hplace hcell
    exact ⟨a, ha, by omega⟩
  · rintro ⟨a, ha, rfl⟩
    exact ⟨(base, 8 * a + b), mem_chargeKeys.2 ⟨hbase, a, ha, rfl⟩, rfl⟩

theorem chargeKeys_nodup (haz : AzimuthCells az) (b : Nat) : ((chargeKeys az b).map accPlace).Nodup := by
  have hprod : chargeKeys az b = (List.range 5 ×ˢ az).map (fun p => (p.1, 8 * p.2 + b)) := by
    simp [chargeKeys, SProd.sprod, List.product, List.map_flatMap, Function.comp_def]
  rw [hprod, List.map_map]
  refine List.Nodup.map_on ?_ (List.nodup_range.product haz.nodup)
  rintro ⟨p, a⟩ hp ⟨q, c⟩ hq heq
  obtain ⟨-, ha⟩ := List.mem_product.1 hp
  obtain ⟨-, hc⟩ := List.mem_product.1 hq
  have ha' := haz.lt a ha
  have hc' := haz.lt c hc
  simp only [Function.comp_apply, accPlace] at heq
  rw [Prod.mk.injEq]
  omega

/-- The accumulators after a charge. -/
def chargedCells (az : List Nat) (b e : Nat) (t : Tab (List Nat)) : Tab (List Nat) :=
  (chargeKeys az b).foldl (fun t k => tabMod (List.replicate 17 0) t (accPlace k) (addNewest e)) t

/-- A sum over a window reads the accumulators and what every cell holds besides. -/
theorem accSum_congr (hcells : x.saf.cells = d.saf.cells) (hfill : x.saf.fill = d.saf.fill) (base k : Nat) :
    accSum x base k = accSum d base k := by
  rw [accSum, accumulator, hcells, hfill, accSum, accumulator]

theorem accSum_of_charged (haz : AzimuthCells az) (hb : b < 8) (he : 0 < e) (hcells : x.saf.cells = chargedCells az b e d.saf.cells)
    (hfill : x.saf.fill = d.saf.fill) {base k : Nat} (hbase : base < 5) (hk : k < 256) :
    ((∃ a ∈ az, k = 8 * a + b) → accSum x base k = accSum d base k + e) ∧
      ((∀ a ∈ az, k ≠ 8 * a + b) → accSum x base k = accSum d base k) := by
  have hget := tabGet_charged he accPlace (chargeKeys az b) (chargeKeys_nodup haz b) d.saf.cells (base * 256 + k)
  rw [← chargedCells, ← hcells] at hget
  simp only [accSum, accumulator, hget, hfill, accPlace_mem haz hb hbase hk]
  refine ⟨fun h => ?_, fun h => ?_⟩
  · rw [if_pos h, addNewest_sum]
    omega
  · rw [if_neg fun ⟨a, ha, hk⟩ => h a ha hk]

/-! ### A charge -/

/-- What the limiter's steps leave: they stop the device or leave its state, and touch neither the reports on their way nor the count of
missing ones. -/
structure LimiterStep (d x : Dev) : Prop where
  only : Only tripParts d x
  state : x.sys.op = d.sys.op ∨ Stopped d x
  reports : x.emi.reports = d.emi.reports
  missing : x.saf.missing = d.saf.missing
  fill : x.saf.fill = d.saf.fill
  calm : Calm d → Calm x

theorem trip_limiterStep (bits : List Nat) (d : Dev) : LimiterStep d (trip bits d) where
  only := trip_only bits d
  state := .inr (trip_stops bits d)
  reports := by rw [trip_emi]
  missing := by rw [trip_saf]; rfl
  fill := by rw [trip_saf]; rfl
  calm := trip_calm bits

theorem trip_cells (bits : List Nat) (d : Dev) : (trip bits d).saf.cells = d.saf.cells := by
  rw [trip_saf]
  rfl

/-- The device with a charge added to its accumulators. -/
def charged (az : List Nat) (b e : Nat) (d : Dev) : Dev := modSaf (fun s => { s with cells := chargedCells az b e s.cells }) d

/-- A charge passes a budget. -/
def OverBudget (az : List Nat) (b : Nat) (d : Dev) : Prop := ∃ k ∈ chargeKeys az b, budgetOf d k.1 < accSum d k.1 k.2

/-- A charge is added, with its event where a budget is near, and trips where one is passed (R251). -/
theorem chargeCells_outcome (az : List Nat) (b e : Nat) (d : Dev) : ∃ d2, EvOnly (charged az b e d) d2 ∧
    (¬ OverBudget az b (charged az b e d) ∧ chargeCells az b e d = d2 ∨
      OverBudget az b (charged az b e d) ∧ chargeCells az b e d = trip [cLimit] d2) := by
  unfold chargeCells
  extract_lets keys d1 ovr near d2
  have hover : ovr = true ↔ OverBudget az b (charged az b e d) := by
    simp only [ovr, List.any_eq_true, decide_eq_true_eq]
    rfl
  refine ⟨d2, ?_, ?_⟩
  · change EvOnly d1 (if near then raise 514 0 [] d1 else d1)
    split
    · exact raise_evOnly _ _ _ _
    · exact EvOnly.refl _
  · by_cases h : ovr = true
    · exact .inr ⟨hover.1 h, if_pos h⟩
    · exact .inl ⟨mt hover.2 h, if_neg h⟩

theorem LimiterStep.trip_stops (h : LimiterStep d x) (bits : List Nat) : Stopped d (trip bits x) := by
  rcases h.state with hop | hstopped
  · exact (Laws.trip_stops bits x).of_only hop h.only
  · exact hstopped.trip bits

theorem charged_only (az : List Nat) (b e : Nat) (d : Dev) : Only tripParts d (charged az b e d) :=
  only_of_views fun p hp => by cases p <;> simp [charged, tripParts] at hp ⊢

/-- The events of a charge touch nothing that the limiter reads. -/
theorem EvOnly.limiterStep (h : EvOnly (charged az b e d) x) : LimiterStep d x := by
  have hsys : x.sys = d.sys := evOnly_only h .sys (by decide)
  have hsaf : x.saf = (charged az b e d).saf := evOnly_only h .saf (by decide)
  have hemi : x.emi = d.emi := evOnly_only h .emi (by decide)
  have hkmp : x.kmp = d.kmp := evOnly_only h .kmp (by decide)
  refine ⟨only_trans (charged_only az b e d) (only_mono (by simp [tripParts]) (evOnly_only h)), .inl (by rw [hsys]), by rw [hemi],
    by rw [hsaf]; rfl, by rw [hsaf]; rfl, fun hc => ?_⟩
  rwa [Calm, hsys, hkmp]

/-- A step of the limiter, and then a trip. -/
theorem LimiterStep.trip (h : LimiterStep d x) (bits : List Nat) : LimiterStep d (trip bits x) where
  only := only_trans h.only (trip_only bits x)
  state := .inr (h.trip_stops bits)
  reports := (trip_limiterStep bits x).reports.trans h.reports
  missing := (trip_limiterStep bits x).missing.trans h.missing
  fill := (trip_limiterStep bits x).fill.trans h.fill
  calm hc := trip_calm bits (h.calm hc)

theorem chargeCells_limiterStep (az : List Nat) (b e : Nat) (d : Dev) : LimiterStep d (chargeCells az b e d) := by
  obtain ⟨d2, h2, ⟨-, heq⟩ | ⟨-, heq⟩⟩ := chargeCells_outcome az b e d
  · rw [heq]
    exact h2.limiterStep
  · rw [heq]
    exact h2.limiterStep.trip _

theorem chargeCells_cells (az : List Nat) (b e : Nat) (d : Dev) :
    (chargeCells az b e d).saf.cells = chargedCells az b e d.saf.cells := by
  obtain ⟨d2, h2, ⟨-, heq⟩ | ⟨-, heq⟩⟩ := chargeCells_outcome az b e d
  · rw [heq, congrArg Saf.cells (evOnly_only h2 .saf (by decide))]
    rfl
  · rw [heq, trip_cells, congrArg Saf.cells (evOnly_only h2 .saf (by decide))]
    rfl

/-- A charge that passes a budget stops the device and latches LIMIT. -/
theorem chargeCells_trips (h : OverBudget az b (charged az b e d)) :
    Stopped d (chargeCells az b e d) ∧ bit (chargeCells az b e d).saf.latched cLimit = true := by
  obtain ⟨d2, h2, ⟨hnot, -⟩ | ⟨-, heq⟩⟩ := chargeCells_outcome az b e d
  · exact absurd h hnot
  · rw [heq]
    exact ⟨h2.limiterStep.trip_stops _, trip_latches _ _⟩


end Sys2Proof.Laws
end

section
/-!
Pulse reports that arrive and that do not (R249, R250).
-/
namespace Sys2Proof.Laws

open Sys2Proof.Machine

variable {s : State} {d d0 d1 x : Dev} {n e : Nat} {r : PulseRep}

/-! ### Where a pulse is charged -/

/-- A pulse lies beyond the span by more than 1.0°, and is none of calibration firing. -/
def BeyondSpan (d : Dev) (r : PulseRep) : Prop :=
  r.still = false ∧ 256000 < outsideSpan (cellCentre d.saf.committed) (pulseAngle d).1

/-- The azimuth cells that a pulse is charged to: calibration firing's every one (R253). -/
def pulseCells (d : Dev) (r : PulseRep) : List Nat :=
  if r.still = true then List.range 32 else cellsCharged (cellCentre d.saf.committed) (pulseAngle d).1 (pulseAngle d).2

theorem azimuthCell_lt (cc y : Int) : azimuthCell cc y < 32 := by
  unfold azimuthCell clampI
  split_ifs <;> omega

theorem pulseCells_azimuths (d : Dev) (r : PulseRep) : AzimuthCells (pulseCells d r) := by
  unfold pulseCells
  split
  · exact ⟨List.nodup_range, fun a => List.mem_range.1⟩
  · refine ⟨List.nodup_range.map (add_left_injective _), fun a ha => ?_⟩
    obtain ⟨i, hi, rfl⟩ := List.mem_map.1 ha
    have hhi := azimuthCell_lt (cellCentre d.saf.committed) ((pulseAngle d).1 + (pulseAngle d).2)
    have hi' := List.mem_range.1 hi
    omega

theorem chargeReport_beyond (h : BeyondSpan d r) (e : Nat) : chargeReport r e d = trip [cSpan] d := by
  obtain ⟨hstill, hout⟩ := h
  simp [chargeReport, hstill, chargePulse, hout]

theorem chargeReport_within (h : ¬ BeyondSpan d r) (e : Nat) :
    chargeReport r e d = chargeCells (pulseCells d r) (r.seg / 17) e d := by
  unfold chargeReport pulseCells
  split
  · rfl
  · next hstill =>
    have hout : ¬ 256000 < outsideSpan (cellCentre d.saf.committed) (pulseAngle d).1 :=
      fun hout => h ⟨Bool.eq_false_iff.2 hstill, hout⟩
    exact if_neg hout

theorem chargeReport_limiterStep (r : PulseRep) (e : Nat) (d : Dev) : LimiterStep d (chargeReport r e d) := by
  by_cases h : BeyondSpan d r
  · rw [chargeReport_beyond h]
    exact trip_limiterStep _ d
  · rw [chargeReport_within h]
    exact chargeCells_limiterStep _ _ _ d

/-! ### What a charge leaves -/

/-- What the charge of a pulse asks, of the device before it and the one after (R250, R251). -/
structure PulseCharged (r : PulseRep) (e : Nat) (d x : Dev) : Prop where
  beyond : BeyondSpan d r → Stopped d x ∧ bit x.saf.latched cSpan = true ∧ x.saf.cells = d.saf.cells
  within : ¬ BeyondSpan d r → r.seg < 136 → 0 < e → ∀ base, base < 5 →
    (∀ a ∈ pulseCells d r, accSum x base (8 * a + r.seg / 17) = accSum d base (8 * a + r.seg / 17) + e) ∧
    (∀ k, k < 256 → (∀ a ∈ pulseCells d r, k ≠ 8 * a + r.seg / 17) → accSum x base k = accSum d base k) ∧
    ((∃ a ∈ pulseCells d r, budgetOf d base < accSum d base (8 * a + r.seg / 17) + e) →
      Stopped d x ∧ bit x.saf.latched cLimit = true)

theorem chargeReport_charges (r : PulseRep) (e : Nat) (d : Dev) : PulseCharged r e d (chargeReport r e d) where
  beyond h := by
    rw [chargeReport_beyond h]
    exact ⟨trip_stops _ d, trip_latches _ d, trip_cells _ d⟩
  within h hseg he base hbase := by
    rw [chargeReport_within h]
    have haz := pulseCells_azimuths d r
    have hb : r.seg / 17 < 8 := by omega
    have hlt : ∀ a ∈ pulseCells d r, 8 * a + r.seg / 17 < 256 := fun a ha => by
      have := haz.lt a ha
      omega
    have hsum := fun x hcells hfill k => accSum_of_charged (x := x) (d := d) (k := k) haz hb he hcells hfill hbase
    refine ⟨fun a ha => ?_, fun k hk hnot => ?_, fun ⟨a, ha, hover⟩ => ?_⟩
    · exact (hsum _ (chargeCells_cells _ _ _ _) (chargeCells_limiterStep _ _ _ _).fill _ (hlt a ha)).1 ⟨a, ha, rfl⟩
    · exact (hsum _ (chargeCells_cells _ _ _ _) (chargeCells_limiterStep _ _ _ _).fill _ hk).2 hnot
    · refine chargeCells_trips ⟨(base, 8 * a + r.seg / 17), mem_chargeKeys.2 ⟨hbase, a, ha, rfl⟩, ?_⟩
      exact ((hsum (charged (pulseCells d r) (r.seg / 17) e d) rfl rfl _ (hlt a ha)).1 ⟨a, ha, rfl⟩).symm ▸ hover

/-- A further trip for another cause changes nothing of it. -/
theorem PulseCharged.trip (h : PulseCharged r e d x) (c : Nat) : PulseCharged r e d (trip [c] x) where
  beyond hb := by
    obtain ⟨hstopped, hlatched, hcells⟩ := h.beyond hb
    exact ⟨hstopped.trip _, trip_keeps_latched c hlatched, (trip_cells _ x).trans hcells⟩
  within hw hseg he base hbase := by
    obtain ⟨hcharged, hothers, hover⟩ := h.within hw hseg he base hbase
    have hsum := accSum_congr (trip_cells [c] x) (trip_limiterStep [c] x).fill base
    refine ⟨fun a ha => (hsum _).trans (hcharged a ha), fun k hk hnot => (hsum k).trans (hothers k hk hnot), fun hb => ?_⟩
    obtain ⟨hstopped, hlatched⟩ := hover hb
    exact ⟨hstopped.trip _, trip_keeps_latched c hlatched⟩

/-- The device with a report taken stands to the limiter as before. -/
structure SameLimiter (d d1 : Dev) : Prop where
  only : Only tripParts d d1
  op : d1.sys.op = d.sys.op
  angle : pulseAngle d1 = pulseAngle d
  committed : d1.saf.committed = d.saf.committed
  cells : d1.saf.cells = d.saf.cells
  fill : d1.saf.fill = d.saf.fill

theorem PulseCharged.of_same (h : PulseCharged r e d1 x) (hs : SameLimiter d d1) : PulseCharged r e d x := by
  have hbeyond : BeyondSpan d1 r ↔ BeyondSpan d r := by rw [BeyondSpan, hs.angle, hs.committed, BeyondSpan]
  have hpulse : pulseCells d1 r = pulseCells d r := by rw [pulseCells, hs.angle, hs.committed, pulseCells]
  have hsum (base k : Nat) : accSum d1 base k = accSum d base k := accSum_congr hs.cells hs.fill base k
  have hbudget (base : Nat) : budgetOf d1 base = budgetOf d base := by rw [budgetOf, hs.committed, budgetOf]
  have hstop (hx : Stopped d1 x) : Stopped d x := hx.of_only hs.op hs.only
  constructor
  case beyond =>
    intro hb
    obtain ⟨hstopped, hlatched, hcells⟩ := h.beyond (hbeyond.2 hb)
    exact ⟨hstop hstopped, hlatched, hcells.trans hs.cells⟩
  case within =>
    intro hw hseg he base hbase
    have hin := h.within (mt hbeyond.1 hw) hseg he base hbase
    simp only [hpulse, hsum, hbudget] at hin
    obtain ⟨hcharged, hothers, hover⟩ := hin
    exact ⟨hcharged, hothers, fun hb => ⟨hstop (hover hb).1, (hover hb).2⟩⟩

/-! ### Reports -/

/-- The oldest report of a segment on its way. -/
def oldestReport (d : Dev) (n : Nat) : Option PulseRep := d.emi.reports.find? (fun r => r.seg == n)

/-- The device with a report taken. -/
def reportTaken (r : PulseRep) (d : Dev) : Dev := modEmi (fun y => { y with reports := y.reports.erase r }) d

/-- The device with a report taken that did not arrive. -/
def reportMissed (r : PulseRep) (d : Dev) : Dev := raise 542 0 [] (modSaf (fun y => { y with missing := y.missing + 1 }) (reportTaken r d))

theorem reportTaken_same (r : PulseRep) (d : Dev) : SameLimiter d (reportTaken r d) where
  only := only_of_views fun p hp => by cases p <;> simp [reportTaken, tripParts] at hp ⊢
  op := rfl
  angle := rfl
  committed := rfl
  cells := rfl
  fill := rfl

theorem reportMissed_same (r : PulseRep) (d : Dev) : SameLimiter d (reportMissed r d) where
  only := only_of_views fun p hp => by cases p <;> simp [reportMissed, reportTaken, tripParts] at hp ⊢
  op := by rw [reportMissed, raise_sys]; rfl
  angle := by
    have h := (raise_evOnly 542 0 [] (modSaf (fun y => { y with missing := y.missing + 1 }) (reportTaken r d))).1
    rw [reportMissed, h]
    rfl
  committed := by rw [reportMissed, raise_saf]; rfl
  cells := by rw [reportMissed, raise_saf]; rfl
  fill := by rw [reportMissed, raise_saf]; rfl

theorem takeReport_of_oldest (h : oldestReport d n = some r) : takeReport n d = some (r, reportTaken r d) := by
  rw [takeReport, show d.emi.reports.find? (fun r => r.seg == n) = some r from h]
  rfl

theorem takeReport_of_none (h : oldestReport d n = none) : takeReport n d = none := by
  rw [takeReport, show d.emi.reports.find? (fun r => r.seg == n) = none from h]
  rfl

theorem pulseReport_of_oldest (h : oldestReport d n = some r) : pulseReport n d = chargeReport r (reportedFj r) (reportTaken r d) := by
  rw [pulseReport, takeReport_of_oldest h]

/-- A report that does not arrive is charged at worst case, and the eighth of a frame trips (R249). -/
theorem pulseTimeout_of_oldest (h : oldestReport d n = some r) :
    let x := chargeReport r 59856000 (reportMissed r d)
    pulseTimeout n d = if x.saf.missing = 8 then trip [cReport] x else x := by
  rw [pulseTimeout, takeReport_of_oldest h]
  rfl

theorem pulseReport_of_none (h : oldestReport d n = none) : pulseReport n d = d := by
  rw [pulseReport, takeReport_of_none h]

theorem pulseTimeout_of_none (h : oldestReport d n = none) : pulseTimeout n d = d := by
  rw [pulseTimeout, takeReport_of_none h]

/-- The report is gone and its pulse charged; the device is calm as before. -/
theorem pulseReport_spec (h : oldestReport d n = some r) (hc : Calm d) :
    Calm (pulseReport n d) ∧ (pulseReport n d).emi.reports = d.emi.reports.erase r ∧
      PulseCharged r (reportedFj r) d (pulseReport n d) ∧ Only tripParts d (pulseReport n d) := by
  have hsame := reportTaken_same r d
  have hstep := chargeReport_limiterStep r (reportedFj r) (reportTaken r d)
  rw [pulseReport_of_oldest h]
  exact ⟨hstep.calm hc, hstep.reports, (chargeReport_charges r _ _).of_same hsame, only_trans hsame.only hstep.only⟩

/-- So is a missing one, and it is counted; the eighth stops the device. -/
theorem pulseTimeout_spec (h : oldestReport d n = some r) (hc : Calm d) :
    Calm (pulseTimeout n d) ∧ (pulseTimeout n d).emi.reports = d.emi.reports.erase r ∧
      PulseCharged r 59856000 d (pulseTimeout n d) ∧ (pulseTimeout n d).saf.missing = d.saf.missing + 1 ∧
      (d.saf.missing = 7 → Stopped d (pulseTimeout n d) ∧ bit (pulseTimeout n d).saf.latched cReport = true) ∧
      Only tripParts d (pulseTimeout n d) := by
  have hsame := reportMissed_same r d
  have hstep := chargeReport_limiterStep r 59856000 (reportMissed r d)
  have hcharged := (chargeReport_charges r 59856000 (reportMissed r d)).of_same hsame
  have hreports : (reportMissed r d).emi.reports = d.emi.reports.erase r :=
    congrArg Emi.reports (emi_of_view (d := reportTaken r d) (by simp [reportMissed]))
  have hmissing : (reportMissed r d).saf.missing = d.saf.missing + 1 := by rw [reportMissed, raise_saf]; rfl
  have hcalm : Calm (reportMissed r d) := calm_of_views (d := reportTaken r d) hc (by simp [reportMissed]) (by simp [reportMissed])
    (by simp [reportMissed])
  have hstop : Stopped d (trip [cReport] (chargeReport r 59856000 (reportMissed r d))) :=
    (hstep.trip_stops [cReport]).of_only hsame.op hsame.only
  rw [pulseTimeout_of_oldest h]
  split
  · have htrip := hstep.trip [cReport]
    exact ⟨htrip.calm hcalm, htrip.reports.trans hreports, hcharged.trip cReport, htrip.missing.trans hmissing,
      fun _ => ⟨hstop, trip_latches _ _⟩, only_trans hsame.only htrip.only⟩
  · next h8 =>
    exact ⟨hstep.calm hcalm, hstep.reports.trans hreports, hcharged, hstep.missing.trans hmissing,
      fun h7 => absurd (hstep.missing.trans (hmissing.trans (congrArg (· + 1) h7))) h8, only_trans hsame.only hstep.only⟩

end Sys2Proof.Laws
end

section
/-!
Switch tests, the ageing of accumulators and the clock cross-check (R242, R245, R247, R251), and Tussock's judgements as a whole.
-/
namespace Sys2Proof.Laws

open Sys2Proof.Machine

variable {s : State} {d : Dev} {n k : Nat}

/-! ### Rail switches -/

/-- A rail switch is tested alone with the rail open, or in its own turnaround with the rail closed (R245). -/
def RailTestDue (k : Nat) (d : Dev) : Prop := d.saf.railClosed = false ∨ (inTurnaround d = true ∧ k = d.seq.frame % 2)

/-- The device at the instant of the test. -/
def railTestAt (d : Dev) : Dev := if d.saf.railClosed then advanceTo (diagStart d + 10000) d else d

/-- The device with both switches to be tested again, and its event. -/
def railFailed (k : Nat) (d : Dev) : Dev :=
  raise 515 0 [] (modSaf (fun x => { x with railFail := 3, armTests := putBit x.armTests k false }) (railTestAt d))

/-- The device with a switch passed, the rail open. -/
def railPassed (k : Nat) (d : Dev) : Dev :=
  modSaf (fun x => { x with railFail := putBit x.railFail k false,
                            armTests := if armWaiting d then putBit x.armTests k true else x.armTests }) d

theorem railTest_of_not_due (pass : Bool) (h : ¬ RailTestDue k d) : railTest k pass d = d := by
  simp only [RailTestDue, not_or, Bool.not_eq_false, not_and] at h
  obtain ⟨hclosed, hturn⟩ := h
  have hdue : (inTurnaround d && k == d.seq.frame % 2) = false := by simpa using hturn
  simp [railTest, hclosed, hdue]

section Due

variable (ht : ticking d = true) (hk : k < 2) (hdue : RailTestDue k d)
include ht hk hdue

theorem railTest_fails : railTest k false d = trip [cRail] (railFailed k d) := by
  have hdue' : (!d.saf.railClosed || (inTurnaround d && k == d.seq.frame % 2)) = true := by
    rcases hdue with h | ⟨h, hframe⟩
    · simp [h]
    · simp [h, ← hframe]
  simp only [railTest, ht, hdue', decide_eq_false (Nat.not_le.2 hk), railFailed, railTestAt]
  rfl

/-- A failed test stops the device for RAIL, and both switches are to pass again. -/
theorem railTest_stops (hc : Calm d) :
    Calm (railTest k false d) ∧ Stopped d (railTest k false d) ∧ bit (railTest k false d).saf.latched cRail = true ∧
      (railTest k false d).saf.railFail = 3 := by
  have hstand {v : Facet} (h : v ∉ [.sys, .saf, .ev, .rail, .outs, .standing]) : v.view (railFailed k d) = v.view d := by
    simp at h
    simp [railFailed, railTestAt, h]
  have hrail : Facet.rail.view (railFailed k d) = Facet.rail.view d := by simp [railFailed, railTestAt]
  have hfail : (railFailed k d).saf.railFail = 3 := by
    rw [railFailed, raise_saf]
    rfl
  have honly : Only tripParts d (railFailed k d) := only_of_views fun p hp => by
    cases p <;> simp [tripParts] at hp <;> exact hstand (by simp)
  rw [railTest_fails ht hk hdue]
  refine ⟨trip_calm _ (calm_of_views hc (hstand (by simp)) hrail (hstand (by simp))),
    (trip_stops _ _).of_only (op_of_view hrail) honly, trip_latches _ _, ?_⟩
  rw [trip_saf]
  exact hfail

end Due

/-- With the rail open a pass is noted, and a waiting ARM may take effect. -/
theorem railTest_passes_open (ht : ticking d = true) (hk : k < 2) (hopen : d.saf.railClosed = false) :
    railTest k true d = armNow (railPassed k d) := by
  simp [railTest, ht, hopen, hk, railPassed]

/-- With the rail closed a pass inhibits emission for 20 µs (R167). -/
theorem railTest_passes_closed (ht : ticking d = true) (hk : k < 2) (hclosed : d.saf.railClosed = true) (hdue : RailTestDue k d) :
    railTest k true d = modEmi (fun e => { e with testEnd := tussNow (advanceTo (diagStart d + 10000) d) + 20000 })
      (advanceTo (diagStart d + 10000) d) := by
  obtain ⟨hturn, hframe⟩ := hdue.resolve_left (by simp [hclosed])
  have hclosed' : (advanceTo (diagStart d + 10000) d).saf.railClosed = true := hclosed
  simp [railTest, ht, hclosed, hclosed', hk, hturn, ← hframe]

theorem railPassed_of_idle (h : findRunning d 0x0103 = none) :
    armNow (railPassed k d) = modSaf (fun x => { x with railFail := putBit x.railFail k false }) d := by
  have hrun : findRunning (railPassed k d) 0x0103 = none := h
  rw [armNow, hrun, railPassed, armWaiting, h]
  rfl

theorem railTest_completes_of {pass : Bool} (hc : Calm (railTest k pass s.fresh)) :
    Completes (.railSwitchTest k pass) s (railTest k pass s.fresh) :=
  completes_of _ (railTest k pass) s rfl hc

/-! ### Output switches -/

/-- An output locked out, both switches open. -/
def lockedOut (o : SafeOut) : SafeOut := { o with locked := true, passed := 0, energised := false }

theorem lockOut_out (hlen : n < d.saf.outs.length) : safeOut (lockOut n d) n = lockedOut (safeOut d n) := by
  have hout : safeOut (deEnergise n (modOut n (fun o => { o with locked := true, passed := 0 }) d)) n = lockedOut (safeOut d n) := by
    rw [safeOut_deEnergise, if_pos rfl, safeOut_modOut, if_pos ⟨rfl, hlen⟩]
    rfl
  unfold lockOut
  extract_lets was d1
  split
  · exact hout
  · rw [safeOut_of_outs (congrArg Saf.outs (raise_saf ..))]
    exact hout

theorem lockOut_only (n : Nat) (d : Dev) : Only [.saf, .ev] d (lockOut n d) :=
  only_of_views fun p hp => by cases p <;> simp at hp ⊢

/-- A command that locks an output out leaves it locked out, and off. -/
theorem lockOut_completes {i : Instr} {f : Dev → Dev} (hc : Calm s.dev) (he : exec i s = runDev f s) (hf : f s.fresh = lockOut n s.fresh)
    (hn : n < 2) (hlen : n < s.dev.saf.outs.length) :
    ∃ d t, Completes i s d ∧ Only [.saf, .ev] s.fresh d ∧ exec i s = .next t ∧ (safeOut t.dev n).locked = true ∧
      (safeOut t.dev n).energised = false ∧ (safeOut t.dev n).passed = 0 := by
  have hcalm : Calm (f s.fresh) := hf ▸ calm_of_views (calm_fresh hc) (by simp) (by simp) (by simp)
  obtain ⟨t, hcompletes, hnext, since, rise, hout⟩ := completes_with_out he hcalm hn
  rw [hf] at hcompletes hout
  rw [lockOut_out (d := s.fresh) hlen] at hout
  exact ⟨_, t, hcompletes, lockOut_only n _, hnext, by rw [hout]; rfl, by rw [hout]; rfl, by rw [hout]; rfl⟩

section Output

variable (ht : ticking d = true) (hn : n < 2) (hk : k < 2)
include ht hn hk

theorem outputTest_fails {pass shorted : Bool} (h : pass = false ∨ shorted = true) : outputTest n k pass shorted d = lockOut n d := by
  have hfail : (!pass || shorted) = true := by simpa using h
  simp [outputTest, ht, hn, hk, hfail]

theorem outputTest_passes_locked (hoff : (safeOut d n).energised = false) : outputTest n k true false d =
    modOut n (fun o => { o with passed := if o.locked then putBit o.passed k true else o.passed }) d := by
  simp [outputTest, ht, hn, hk, hoff]

end Output

theorem outputTest_passes_energised (hon : (safeOut d n).energised = true) : outputTest n k true false d = d := by
  simp [outputTest, hon]

/-- A test passed in lockout counts, and the lockout stays. -/
theorem outputTest_counts (hc : Calm s.dev) (ht : ticking s.dev = true) (hn : n < 2) (hk : k < 2) (hlen : n < s.dev.saf.outs.length)
    (hoff : (safeOut s.dev n).energised = false) (hlocked : (safeOut s.dev n).locked = true) :
    ∃ d t, Completes (.outputSwitchTest n k true false) s d ∧ Only [.saf] s.fresh d ∧
      exec (.outputSwitchTest n k true false) s = .next t ∧ (safeOut t.dev n).locked = true ∧
      (safeOut t.dev n).passed = putBit (safeOut s.dev n).passed k true := by
  have heq := outputTest_passes_locked (d := s.fresh) ht hn hk hoff
  have hcalm : Calm (outputTest n k true false s.fresh) := calm_of_views (calm_fresh hc) (by simp) (by simp) (by simp)
  obtain ⟨t, hcompletes, hnext, since, rise, hout⟩ := completes_with_out (i := .outputSwitchTest n k true false) rfl hcalm hn
  have hlen' : n < s.fresh.saf.outs.length := hlen
  have hlocked' : (safeOut s.fresh n).locked = true := hlocked
  rw [heq] at hcompletes hout
  rw [safeOut_modOut, if_pos ⟨rfl, hlen'⟩, if_pos hlocked'] at hout
  exact ⟨_, t, hcompletes, only_of_views fun p hp => by cases p <;> simp at hp ⊢, hnext, by rw [hout]; exact hlocked',
    by rw [hout]; rfl⟩

theorem outputOver_of_energised (hn : n < 2) (h : (safeOut d n).energised = true) : outputOver n d = lockOut n d := by
  simp [outputOver, hn, h]

theorem outputOver_of_off (h : (safeOut d n).energised = false) : outputOver n d = d := by simp [outputOver, h]

/-! ### Ageing and clocks -/

theorem ageBase_saf {base : Nat} (hb : base < 5) (hr : d.sys.inReset = false) : (ageBase base d).saf = { d.saf with
    fill := listMod d.saf.fill base agePlace
    cells := (d.saf.cells.map (fun e => if e.1 / 256 = base then (e.1, agePlace e.2) else e)).filter
      (fun e => e.2 != List.replicate 17 0) } := by
  rw [ageBase, if_neg (by simp [hr, hb])]
  rfl

/-- The accumulators of one base age, each by one sub-interval; those that hold nothing more are gone. -/
theorem ageBase_cells {base : Nat} (hb : base < 5) (hr : d.sys.inReset = false) (e : Nat × List Nat) :
    e ∈ (ageBase base d).saf.cells ↔ e.2 ≠ List.replicate 17 0 ∧ ∃ e' ∈ d.saf.cells, e.1 = e'.1 ∧
      e.2 = if e'.1 / 256 = base then (0 :: e'.2).take 17 else e'.2 := by
  rw [ageBase_saf hb hr, List.mem_filter, List.mem_map, bne_iff_ne, and_comm]
  refine and_congr_right fun _ => exists_congr fun e' => and_congr_right fun _ => ?_
  obtain ⟨place, held⟩ := e
  split
  · simp [agePlace, eq_comm]
  · simp [Prod.ext_iff, eq_comm]

/-- A ratio of the window is out of bounds (R242). -/
def clockOff (ratios : List Nat) (d : Dev) : Bool :=
  (List.range 3).any (fun i => ratioBad (d.saf.clockRatios.getD i 0) (ratios.getD i 0))

/-- The device after a window. -/
def clockNoted (ratios : List Nat) (d : Dev) : Dev :=
  advanceTuss (d.saf.clockAt + 1000000) (modSaf (fun x => { x with
    clockAt := d.saf.clockAt + 1000000, clockBad := clockOff ratios d, clockPresent := clockOff ratios d }) d)

/-- Two bad windows in a row trip. -/
theorem clockCheck_of_running (ratios : List Nat) (h : ticking d = true ∨ d.sys.op = .bindOff) :
    clockCheck ratios d = if clockOff ratios d && d.saf.clockBad then trip [cClock] (clockNoted ratios d) else clockNoted ratios d := by
  have hrun : (!ticking d && d.sys.op != .bindOff) = false := by rcases h with h | h <;> simp [h]
  rw [clockCheck, if_neg (by simp [hrun])]
  rfl

theorem clockCheck_of_idle (ratios : List Nat) (h : d.sys.op = .castOn ∨ d.sys.op = .halted) : clockCheck ratios d = d := by
  rcases h with h | h <;> simp [clockCheck, ticking, h]

theorem clockNoted_calm (ratios : List Nat) (h : Calm d) : Calm (clockNoted ratios d) := h

theorem clockNoted_only (ratios : List Nat) (d : Dev) : Only tripParts d (clockNoted ratios d) :=
  only_of_views fun p hp => by cases p <;> simp [clockNoted, tripParts] at hp ⊢

theorem clockCheck_completes {ratios : List Nat} (h : clockCheck ratios s.fresh = d) (hc : Calm d) :
    Completes (.clockCrossCheck ratios) s d := by
  subst h
  exact completes_of _ (clockCheck ratios) s rfl hc

/-! ### The statement -/

/-- Settles O52: Tussock's judgements, told one by one above. That both switch tests count since ARM's acceptance is DEDUCED (assumption
log, entry 52), so is the energy a report is charged with (entry 55) and calibration firing's charge to every azimuth (entry 51). -/
theorem tussockJudgesSwitchesPulsesAndClocks : Obligations.TussockJudgesSwitchesPulsesAndClocks := by
  intro s hc tripTouched stops cc a cells charged oldest
  have hstops {d : Dev} (h : Stopped s.fresh d) : stops d := ⟨h.rail, h.inhibit, h.only, h.op⟩
  have hcharged {d : Dev} {r : PulseRep} {e : Nat} (h : PulseCharged r e s.fresh d) : charged d r e := by
    refine ⟨fun hstill hout => ?_, fun hin hseg he base hbase => ?_⟩
    · obtain ⟨hstopped, hrest⟩ := h.beyond ⟨hstill, hout⟩
      exact ⟨hstops hstopped, hrest⟩
    · have hwithin : ¬ BeyondSpan s.fresh r := fun ⟨hstill, hout⟩ => hin.elim (by simp [hstill]) (Int.not_le.2 hout)
      obtain ⟨hsum, hothers, hover⟩ := h.within hwithin hseg he base hbase
      exact ⟨hsum, hothers, fun hb => ⟨hstops (hover hb).1, (hover hb).2⟩⟩
  have hfails {k : Nat} (ht : ticking s.dev = true) (hk : k < 2) (hdue : RailTestDue k s.fresh) :
      ∃ d, Completes (.railSwitchTest k false) s d ∧ stops d ∧ bit d.saf.latched 7 = true ∧ d.saf.railFail = 3 := by
    obtain ⟨hcalm, hstopped, hlatched, hfail⟩ := railTest_stops (d := s.fresh) ht hk hdue (calm_fresh hc)
    exact ⟨_, railTest_completes_of hcalm, hstops hstopped, hlatched, hfail⟩
  refine ⟨fun k ht hk hopen => ⟨hfails ht hk (.inl hopen), fun hidle => ?_, fun c hrun hready hlock htests => ?_⟩,
    fun k ht hk hclosed hturn hframe => ⟨?_, hfails ht hk (.inr ⟨hturn, hframe⟩)⟩, fun k pass hclosed hnot => ?_,
    fun n k ht hn hk hlen => ⟨fun pass shorted h => ?_, outputTest_counts hc ht hn hk hlen, fun hon => ?_⟩,
    fun n hn hlen hon => ?_, fun n hoff => ?_, fun n h => ⟨?_, ?_⟩, fun n r h => ⟨?_, ?_⟩, fun base hb hr => ?_,
    fun ratios h => ?_, fun ratios h => ?_⟩
  · have heq := (railTest_passes_open (d := s.fresh) ht hk hopen).trans (railPassed_of_idle hidle)
    exact completes_of_views rfl heq hc (by simp) (by simp) (by simp)
  · have heq := railTest_passes_open (d := s.fresh) ht hk hopen
    have hboth : (railPassed k s.fresh).saf.armTests = 3 := by
      have hwaits : armWaiting s.fresh = true := congrArg Option.isSome hrun
      exact (if_pos hwaits).trans htests
    have harms := armNow_arms (d := railPassed k s.fresh) hrun hready hlock hboth
    rw [← heq] at harms
    exact ⟨_, railTest_completes_of (heq ▸ armNow_calm (calm_fresh hc)), harms⟩
  · exact completes_of_views rfl (railTest_passes_closed (d := s.fresh) ht hk hclosed (.inr ⟨hturn, hframe⟩)) hc (by simp) (by simp)
      (by simp)
  · refine completes_of_views rfl (railTest_of_not_due (d := s.fresh) pass ?_) hc rfl rfl rfl
    rintro (hopen | ⟨hturn, hframe⟩)
    · exact absurd (hclosed.symm.trans hopen) (by decide)
    · exact hnot.elim (fun h => absurd (hturn.symm.trans h) (by decide)) (fun h => h hframe)
  · exact lockOut_completes hc rfl (outputTest_fails (d := s.fresh) ht hn hk h) hn hlen
  · exact completes_of_views rfl (outputTest_passes_energised (d := s.fresh) hon) hc rfl rfl rfl
  · obtain ⟨d, t, hcompletes, honly, hnext, hlocked, hoff, -⟩ :=
      lockOut_completes (i := .outputOvercurrent n) hc rfl (outputOver_of_energised (d := s.fresh) hn hon) hn hlen
    exact ⟨d, t, hcompletes, honly, hnext, hlocked, hoff⟩
  · exact completes_of_views rfl (outputOver_of_off (d := s.fresh) hoff) hc rfl rfl rfl
  · exact completes_of_views rfl (pulseReport_of_none (d := s.fresh) h) hc rfl rfl rfl
  · exact completes_of_views rfl (pulseTimeout_of_none (d := s.fresh) h) hc rfl rfl rfl
  · obtain ⟨hcalm, hreports, hpulse, honly⟩ := pulseReport_spec (d := s.fresh) h (calm_fresh hc)
    exact ⟨_, completes_of _ (pulseReport n) s rfl hcalm, hreports, hcharged hpulse, honly⟩
  · obtain ⟨hcalm, hreports, hpulse, hmissing, heighth, honly⟩ := pulseTimeout_spec (d := s.fresh) h (calm_fresh hc)
    exact ⟨_, completes_of _ (pulseTimeout n) s rfl hcalm, hreports, hcharged hpulse, hmissing,
      fun h7 => ⟨hstops (heighth h7).1, (heighth h7).2⟩, honly⟩
  · refine ⟨_, completes_of_views (f := ageBase base) rfl rfl hc (by simp) (by simp) (by simp), ?_, ageBase_cells (d := s.fresh) hb hr,
      only_of_views fun p hp => by cases p <;> simp at hp ⊢⟩
    rw [ageBase_saf (d := s.fresh) hb hr]
    rfl
  · intro bad t
    have heq := clockCheck_of_running (d := s.fresh) ratios h
    refine ⟨fun hquiet => ?_, fun hbad hbefore => ?_⟩
    · have hnot : (clockOff ratios s.fresh && s.fresh.saf.clockBad) = false := Bool.and_eq_false_iff.2 hquiet
      rw [hnot, if_neg (by decide)] at heq
      exact clockCheck_completes heq (clockNoted_calm ratios (calm_fresh hc))
    · have htwo : (clockOff ratios s.fresh && s.fresh.saf.clockBad) = true := Bool.and_eq_true_iff.2 ⟨hbad, hbefore⟩
      rw [htwo, if_pos rfl] at heq
      have hcalm := trip_calm [cClock] (clockNoted_calm ratios (calm_fresh hc))
      have hstopped := (trip_stops [cClock] (clockNoted ratios s.fresh)).of_only (d0 := s.fresh) (d := clockNoted ratios s.fresh) rfl
        (clockNoted_only ratios s.fresh)
      refine ⟨_, clockCheck_completes heq hcalm, hstops hstopped, trip_latches _ _, ?_, ?_⟩
      all_goals rw [trip_saf]
      · exact hbad
      · rfl
  · exact completes_of_views rfl (clockCheck_of_idle (d := s.fresh) ratios h) hc rfl rfl rfl

end Sys2Proof.Laws
end

section
/-!
SUPPORT. Hahild Safe Transport (R287 to R296): what an operation makes of the connection it works on. An operation on a connection
leaves the others, and the datagrams whose check waits, as they are.
-/
namespace Sys2Proof.Laws

open Sys2Proof.Machine

variable {a d e : Dev} {c : Nat} {x : Conn}

/-! ### One connection at a time -/

theorem connGet_modConn (k n : Nat) (f : Conn → Conn) (d : Dev) :
    connGet (modConn k f d) n = if k = n ∧ n < d.hst.conns.length then f (connGet d n) else connGet d n :=
  listMod_getD d.hst.conns k n f Conn.closed

/-- From `d` to `e` only connection `c` changed, and it reads `x` now. -/
structure ConnBecomes (c : Nat) (x : Conn) (d e : Dev) : Prop where
  here : c < e.hst.conns.length
  conn : connGet e c = x
  others : ∀ k, k ≠ c → connGet e k = connGet d k
  jobs : e.hst.jobs = d.hst.jobs

theorem ConnBecomes.refl (h : c < d.hst.conns.length) : ConnBecomes c (connGet d c) d d := ⟨h, rfl, fun _ _ => rfl, rfl⟩

theorem ConnBecomes.of_hst (h : ConnBecomes c x a d) (he : e.hst = d.hst) : ConnBecomes c x a e := by
  have hget (k : Nat) : connGet e k = connGet d k := by rw [connGet, he, connGet]
  exact ⟨he ▸ h.here, (hget c).trans h.conn, fun k hk => (hget k).trans (h.others k hk), by rw [he, h.jobs]⟩

/-- What leaves HST alone leaves the connection so. -/
theorem ConnBecomes.of_view (h : ConnBecomes c x a d) (he : Facet.hst.view e = Facet.hst.view d) : ConnBecomes c x a e :=
  h.of_hst (same_of_view (p := .hst) he)

theorem ConnBecomes.raise (h : ConnBecomes c x a d) (src cond : Nat) (detail : Bytes) : ConnBecomes c x a (raise src cond detail d) :=
  h.of_view (by simp)

theorem ConnBecomes.followOuts (h : ConnBecomes c x a d) : ConnBecomes c x a (followOuts d) := h.of_view (by simp)

theorem ConnBecomes.modConn (h : ConnBecomes c x a d) (f : Conn → Conn) : ConnBecomes c (f x) a (modConn c f d) where
  here := by simpa [Machine.modConn, listMod] using h.here
  conn := by rw [connGet_modConn, if_pos ⟨rfl, h.here⟩, h.conn]
  others k hk := by rw [connGet_modConn, if_neg (fun hc => hk hc.1.symm), h.others k hk]
  jobs := h.jobs

/-- A lifetime counter of a connection with some more counted (R296). -/
def counted (i k : Nat) (x : Conn) : Conn := { x with counters := listMod x.counters i (fun v => satU 32 (v + k)) }

theorem ConnBecomes.connCount (h : ConnBecomes c x a d) (i k : Nat) : ConnBecomes c (counted i k x) a (connCount c i k d) := by
  unfold Machine.connCount
  extract_lets v d1
  have h1 : ConnBecomes c (counted i k x) a d1 := h.modConn (counted i k)
  split
  · exact h1.of_view (by simp)
  · exact h1

/-! ### Entering START and FAULT -/

/-- A connection that enters START (R290). -/
def begun (seq now : Nat) (x : Conn) : Conn := { x with
  state := .start, txSeq := seq, rxSeq := none, echo := 0, stamps := [], fails := [], cycleAt := now, sent := [], rise := [none, none] }

theorem ConnBecomes.connStart (h : ConnBecomes c x a d) :
    ConnBecomes c (begun (wrapU 32 (Config.jitter d.drawn)) (tussNow d) x) a (connStart c d) :=
  have h1 := h.modConn (begun (wrapU 32 (Config.jitter d.drawn)) (tussNow d))
  (h1.of_view (draw_frame _ (by simp))).followOuts

/-- A connection that enters FAULT (R292). -/
def faulted (cause now : Nat) (x : Conn) : Conn := { x with
  state := .fault, cause := cause, seen := true, faultAt := now, rise := [none, none] }

theorem ConnBecomes.connFault (h : ConnBecomes c x a d) (cause : Nat) :
    ConnBecomes c (faulted cause (tussNow d) x) a (connFault c cause d) :=
  ((h.modConn (faulted cause (tussNow d))).raise _ _ _).followOuts

/-! ### Sending -/

@[simp] theorem hstMessage_length (conn seq stamp echo type : Nat) (data : Bytes) :
    (hstMessage conn seq stamp echo type data).length = 92 := by simp [hstMessage]

/-- From `x` to `y` a message left with the next sequence number, and no timing of the connection moved. -/
structure Sent (x y : Conn) : Prop where
  txSeq : y.txSeq = wrapU 32 (x.txSeq + 1)
  state : y.state = x.state
  cycleAt : y.cycleAt = x.cycleAt

theorem ConnBecomes.connSend (h : ConnBecomes c x a d) : ∃ y, ConnBecomes c y a (connSend c d) ∧ Sent x y := by
  unfold Machine.connSend
  extract_lets x0 sync data t m d1 peer
  obtain ⟨y, h1, hy⟩ : ∃ y, ConnBecomes c y a d1 ∧ Sent x y := ⟨_, (h.modConn _).connCount 0 1, rfl, rfl, rfl⟩
  refine ⟨y, ?_, hy⟩
  split
  · exact h1
  · exact h1.of_hst rfl

theorem portGet_queueMsg {p : Nat} (m : Msg) (hp : p < d.slu.ports.length) :
    (portGet (queueMsg p m d).slu p).msgs = (portGet d.slu p).msgs ++ [m] := by
  rw [portGet, queueMsg, modSlu_slu, listMod_getD, if_pos ⟨rfl, hp⟩, portGet]

/-- A message to a peer that is configured waits on port 0, of requester 1, for its grant. -/
theorem connSend_queues (hpeer : (d.net.peers.getD c Dest.unset).family ≠ 0) (hport : 0 < d.slu.ports.length) :
    ∃ msg, msg.requester = 1 ∧ (portGet (connSend c d).slu 0).msgs = (portGet d.slu 0).msgs ++ [msg] ∧
      msg.srcPort = 51200 + c ∧ msg.bytes.length = 92 := by
  unfold connSend
  extract_lets x0 sync data t m d1 peer
  have hslu : d1.slu = d.slu := slu_of_view (by simp [d1])
  rw [if_neg hpeer]
  exact ⟨_, rfl, (portGet_queueMsg _ (hslu ▸ hport)).trans (by rw [hslu]), rfl, hstMessage_length ..⟩

/-! ### Judging a message -/

/-- In START a check failure is counted and causes no fault, then or later (R291). -/
theorem ConnBecomes.connCheckFail (h : ConnBecomes c x a d) (hx : x.state = .start) :
    ConnBecomes c (counted 2 1 { x with fails := [] }) a (connCheckFail c d) := by
  unfold Machine.connCheckFail
  extract_lets t d1 y
  have h0 := h.modConn (fun x => { x with
    fails := if x.state == .run then (t :: x.fails).filter (fun u => decide (t < u + connWd d c)) else [] })
  rw [if_neg (by simp [hx])] at h0
  have h1 : ConnBecomes c (counted 2 1 { x with fails := [] }) a d1 := (h0.connCount 2 1).raise _ _ _
  have hy : y.state = .start := (congrArg Conn.state h1.conn).trans hx
  rwa [if_neg (by simp [hy])]

theorem ConnBecomes.connRestart (h : ConnBecomes c x a d) (n : Nat) (on_ : Bool) :
    ∃ rise, ConnBecomes c { x with rise := rise } a (connRestart c n on_ d) := by
  unfold Machine.connRestart
  extract_lets r put
  have hput (v : Option Nat) {e : Dev} (he : ConnBecomes c x a e) : ∃ rise, ConnBecomes c { x with rise := rise } a (put v e) :=
    ⟨listMod x.rise n (fun _ => v), he.modConn (fun x => { x with rise := listMod x.rise n (fun _ => v) })⟩
  clear_value r
  split
  · exact ⟨x.rise, h⟩
  · split
    · exact hput _ h
    · cases r with
      | none => exact ⟨x.rise, h⟩
      | some t => exact hput none (h.of_view (restartEdge_frame _ _ _ (by simp)))

/-- What a connection holds of the message it accepted latest (R291). -/
structure Accepted (m : Bytes) (now : Nat) (x : Conn) : Prop where
  state : x.state = .run
  rxSeq : x.rxSeq = some (rdU m 4 4)
  echo : x.echo = rdU m 8 4
  acceptedAt : x.acceptedAt = now
  data : rdU m 0x10 1 = 1 → x.permit = rdU m 0x18 1 % 4 ∧ x.set = rdU m 0x19 1

theorem Accepted.setRise {m : Bytes} {now : Nat} (h : Accepted m now x) (rise : List (Option Nat)) :
    Accepted m now { x with rise := rise } := ⟨h.state, h.rxSeq, h.echo, h.acceptedAt, h.data⟩

/-- An acceptance with no message lost. -/
theorem ConnBecomes.connAccept (h : ConnBecomes c x a d) (m : Bytes) :
    ∃ y, ConnBecomes c y a (connAccept c m 0 d) ∧ Accepted m (tussNow d) y := by
  unfold Machine.connAccept
  extract_lets first data d1 d2 d3 d4
  obtain ⟨y, h1, hy⟩ : ∃ y, ConnBecomes c y a d1 ∧ Accepted m (tussNow d) y :=
    ⟨_, (h.modConn _).connCount 1 1, rfl, rfl, rfl, rfl, fun hm => by simp [counted, data, hm]⟩
  have h2 : ConnBecomes c y a d2 := by
    by_cases hf : first = true
    · simpa only [d2, if_pos hf] using h1.raise _ _ _
    · simpa only [d2, if_neg hf] using h1
  have h4 : ConnBecomes c y a d4 := h2.followOuts
  split
  · obtain ⟨rise, h5⟩ := h4.connRestart 0 (bit (rdU m 0x1A 1) 0)
    obtain ⟨rise', h6⟩ := h5.connRestart 1 (bit (rdU m 0x1A 1) 1)
    exact ⟨_, h6, (hy.setRise rise).setRise rise'⟩
  · exact ⟨y, h4, hy⟩

end Sys2Proof.Laws
end

section
/-!
Hahild Safe Transport: the arrival of datagrams, the receive tests, cyclic messages and changes, the watchdog and automatic restart
(R289 to R292).
-/
namespace Sys2Proof.Laws

open Sys2Proof.Machine

variable {s : State} {d e : Dev} {c k : Nat} {m : Bytes} {x : Conn}

/-! ### Datagrams -/

theorem hstDatagram_of_service (data : Bytes) (hr : d.sys.inReset = false) (hl : d.net.linkUp.any id = true) (hk : 8 ≤ k) :
    hstDatagram k data false d = modNet (fun n => { n with udpDiscarded := min (2 ^ 32 - 1) (n.udpDiscarded + 1) }) d := by
  simp [hstDatagram, hr, hl, hk, incSat, satU, Nat.min_comm]

theorem hstDatagram_of_connection (data : Bytes) (hr : d.sys.inReset = false) (hl : d.net.linkUp.any id = true) (hk : k < 8)
    (hs : hstServes d = true) : hstDatagram k data false d = modHst (fun h => { h with jobs := h.jobs ++ [(k, data)] }) d := by
  simp [hstDatagram, hr, hl, hstArrival, hs, Nat.not_le.2 hk]

/-! ### Sequence numbers -/

/-- The number after the last one is later (R13). -/
theorem laterThan_next {last : Nat} (h : last < 2 ^ 32) : laterThan 32 (wrapU 32 (last + 1)) last = true := by
  simp only [laterThan, wrapU, Nat.mod_eq_of_lt h, decide_eq_true_eq]
  omega

/-- No number lies between them. -/
theorem gap_next (last : Nat) : wrapU 32 (wrapU 32 (last + 1) + 2 ^ 33 - last - 1) = 0 := by
  simp only [wrapU]
  omega

/-! ### The receive tests -/

/-- Tests 1 and 2: the form, the check and the identity. -/
abbrev WellMade (ident : Nat) (m : Bytes) : Prop :=
  hstForm m = true ∧ rdU m 0 4 = ident ∧ hookCheck ident (rdU m 4 4) (m.take 88) = rdU m 0x58 4

/-- Test 6, of time: the echoed stamp is no older than the watchdog's interval. -/
abbrev Timely (c : Nat) (m : Bytes) (d : Dev) : Prop := wrapU 32 (stampNow d + 2 ^ 32 - rdU m 0x0C 4) ≤ connWd d c / 1000

theorem connReceive_of_idle (h : (connGet d c).state = .closed ∨ (connGet d c).state = .fault) : connReceive c m d = d := by
  rcases h with h | h <;> simp [connReceive, h]

/-- In START a message of this connection that echoes a SYNC is accepted, and any other counts as a check failure. -/
theorem connReceive_of_start (h : (connGet d c).state = .start) : connReceive c m d =
    if WellMade (connCfg d c 0 4) m ∧ Timely c m d ∧ (rdU m 0x0C 4, 2) ∈ (connGet d c).stamps then connAccept c m 0 d
    else connCheckFail c d := by
  unfold connReceive
  extract_lets x run ident seq echo age gap fresh
  have hrun : run = false := by simp [run, x, h]
  have hfresh : fresh = true ↔ Timely c m d ∧ (echo, 2) ∈ x.stamps := by
    simp [fresh, hrun, Timely, age, echo]
  rw [if_neg (by simp [x, h]), if_neg (by simp [hrun])]
  by_cases hform : hstForm m = true
  · rw [if_neg (by simp [hform])]
    by_cases hcheck : rdU m 0 4 = ident ∧ hookCheck ident seq (m.take 88) = rdU m 0x58 4
    · have hmade : WellMade ident m := ⟨hform, hcheck⟩
      rw [if_neg (by simp [hcheck])]
      by_cases hecho : fresh = true
      · refine Eq.trans ?_ (if_pos ⟨hmade, hfresh.1 hecho⟩).symm
        simp [hrun, hecho]
      · refine Eq.trans ?_ (if_neg fun hall => hecho (hfresh.2 hall.2)).symm
        simp [hrun, hecho]
    · rw [if_pos (by tauto)]
      exact (if_neg fun hall => hcheck hall.1.2).symm
  · rw [if_pos (by simp [hform])]
    exact (if_neg fun hall => hform hall.1.1).symm

section Run

variable (h : (connGet d c).state = .run)
include h

theorem connReceive_of_late (hlate : ¬ tussNow d < (connGet d c).acceptedAt + connWd d c) : connReceive c m d = connFault c 1 d := by
  simp [connReceive, h, Nat.not_lt.1 hlate]

variable (hlive : tussNow d < (connGet d c).acceptedAt + connWd d c) (hmade : WellMade (connCfg d c 0 4) m)
include hlive hmade

theorem connReceive_of_repeated (hseq : laterThan 32 (rdU m 4 4) ((connGet d c).rxSeq.getD 0) = false) :
    connReceive c m d = raise (579 + 4 * c) 0 [] (connCount c 3 1 d) := by
  obtain ⟨hform, hident, hcheck⟩ := hmade
  simp [connReceive, h, Nat.not_le.2 hlive, hform, hident, hcheck, hseq]

/-- In RUN the next message in sequence passes all tests up to the fifth. -/
theorem connReceive_of_next {last : Nat} (hlast : (connGet d c).rxSeq = some last) (hlt : last < 2 ^ 32)
    (hseq : rdU m 4 4 = wrapU 32 (last + 1)) : connReceive c m d =
      if rdU m 0x10 1 = 2 then connFault c 5 d
      else if Timely c m d ∧ rdU m 0x0C 4 ∈ (connGet d c).stamps.map (·.1) then connAccept c m 0 d else connFault c 2 d := by
  obtain ⟨hform, hident, hcheck⟩ := hmade
  unfold connReceive
  extract_lets x run ident seq echo age gap fresh
  have hrun : run = true := by simp [run, x, h]
  have hlater : laterThan 32 seq (x.rxSeq.getD 0) = true := by
    simpa only [seq, hseq, x, hlast, Option.getD_some] using laterThan_next hlt
  have hgap : gap = 0 := by simpa only [gap, seq, hseq, x, hlast, Option.getD_some] using gap_next last
  have hfresh : fresh = true ↔ Timely c m d ∧ echo ∈ x.stamps.map (·.1) := by
    simp [fresh, hrun, Timely, age, echo]
  rw [if_neg (by simp [x, h]), if_neg (by simp [x, Nat.not_le.2 hlive]), if_neg (by simp [hform]),
    if_neg (by simp [ident, seq, hident, hcheck]), if_neg (by simp [hlater]), if_neg (by simp [hgap])]
  by_cases hsync : rdU m 0x10 1 = 2
  · rw [if_pos (by simp [hrun, hsync]), if_pos hsync]
  · rw [if_neg (by simp [hsync]), if_neg hsync]
    by_cases hecho : fresh = true
    · refine Eq.trans ?_ (if_pos (hfresh.1 hecho)).symm
      simp [hrun, hgap, hecho]
    · refine Eq.trans ?_ (if_neg fun hall => hecho (hfresh.2 hall)).symm
      simp [hrun, hecho]

end Run

/-! ### The check of the oldest datagram -/

theorem hstReceive_of_waiting (h : d.hst.jobs = [] ∨ tagsWait d = true) : hstReceive d = d := by
  unfold hstReceive
  rcases h with h | h
  · rw [h]
  · split
    · rfl
    · rw [if_pos h]

/-- The device with the oldest datagram taken. -/
def jobTaken (js : List (Nat × Bytes)) (d : Dev) : Dev := modHst (fun h => { h with jobs := js }) d

theorem hstReceive_of_job {j : Nat × Bytes} {js : List (Nat × Bytes)} (hj : d.hst.jobs = j :: js) (ht : tagsWait d = false)
    (hs : hstServes d = true) : hstReceive d = connReceive j.1 j.2 (jobTaken js d) := by
  rw [hstReceive, hj]
  simp only [ht, hs, Bool.not_true, Bool.false_eq_true, if_false]
  rfl

theorem hstReceive_completes (hc : Calm s.dev) (h : hstReceive s.fresh = d) : Completes .hstReceiveCheck s d :=
  completes_of_views rfl h hc (by simp [← h]) (by simp [← h]) (by simp [← h])

/-- A check that leaves its connection as `x`. -/
theorem hstReceive_ends {js : List (Nat × Bytes)} (hc : Calm s.dev) (heq : hstReceive s.fresh = e)
    (h : ConnBecomes c x (jobTaken js s.fresh) e) {P : Conn → Prop} (hx : P x) :
    ∃ d, Completes .hstReceiveCheck s d ∧ d.hst.jobs = js ∧ P (connGet d c) ∧ (∀ k, k ≠ c → connGet d k = connGet s.dev k) ∧
      Only [.saf, .hst, .ev] s.fresh d := by
  refine ⟨e, hstReceive_completes hc heq, h.jobs, h.conn ▸ hx, h.others, ?_⟩
  rw [← heq]
  exact only_of_views fun p hp => by cases p <;> simp at hp ⊢

/-! ### Cyclic messages and changes -/

/-- What a message of a connection leaves, whose timing `f` notes at instant `t`. -/
structure MessageSent (c t : Nat) (f : Conn → Conn) (d e : Dev) : Prop where
  sent : Sent (f (connGet d c)) (connGet e c)
  others : ∀ k, k ≠ c → connGet e k = connGet d k
  now : e.sys.now = max d.sys.now ((t : Int) + d.sys.stepSum).toNat
  queued : (d.net.peers.getD c Dest.unset).family ≠ 0 → 0 < d.slu.ports.length →
    ∃ msg, msg.requester = 1 ∧ (portGet e.slu 0).msgs = (portGet d.slu 0).msgs ++ [msg] ∧ msg.srcPort = 51200 + c ∧
      msg.bytes.length = 92

theorem connSend_messageSent (t : Nat) (f : Conn → Conn) (hk : c < d.hst.conns.length) :
    MessageSent c t f d (connSend c (modConn c f (advanceTuss t d))) := by
  have h0 : ConnBecomes c (connGet d c) d (advanceTuss t d) := (ConnBecomes.refl hk).of_hst rfl
  obtain ⟨y, h, hy⟩ := (h0.modConn f).connSend
  refine ⟨h.conn ▸ hy, h.others, ?_, fun hpeer hport => connSend_queues (d := modConn c f (advanceTuss t d)) hpeer hport⟩
  exact congrArg Sys.now (sys_of_view (d := advanceTuss t d) (by simp))

theorem hstCycle_of_due (hs : hstServes d = true) (hx : (connGet d c).state = .start ∨ (connGet d c).state = .run)
    (hb : hookBWaits d = false) : hstCycle c d = connSend c
      (modConn c (fun x => { x with cycleAt := x.cycleAt + connCfg d c 6 2 * 1000000 }) (advanceTuss (connGet d c).cycleAt d)) := by
  rcases hx with hx | hx <;> simp [hstCycle, hs, hx, hb]

theorem hstCycle_of_not (h : (connGet d c).state = .closed ∨ (connGet d c).state = .fault ∨ hookBWaits d = true) :
    hstCycle c d = d := by
  rcases h with h | h | h <;> simp [hstCycle, h]

theorem hstChange_of_due (hs : hstServes d = true) (hx : (connGet d c).state = .run)
    (hchanged : (hstData d).take 4 ≠ (connGet d c).sent) (hb : hookBWaits d = false) : hstChange c d = connSend c
      (modConn c (fun x => { x with extraAt := tussNow (advanceTuss ((connGet d c).extraAt + 1000000) d) })
        (advanceTuss ((connGet d c).extraAt + 1000000) d)) := by
  simp [hstChange, hs, hx, hb, hchanged]

theorem hstChange_of_not (h : (connGet d c).state ≠ .run ∨ (hstData d).take 4 = (connGet d c).sent ∨ hookBWaits d = true) :
    hstChange c d = d := by
  rcases h with h | h | h <;> simp [hstChange, h]

theorem hstCycle_completes (hc : Calm s.dev) (h : hstCycle k s.fresh = d) :
    Completes (.hstCycleSend k) s d ∧ Only [.sys, .hst, .slu, .ev] s.fresh d := by
  subst h
  exact ⟨completes_of_views rfl rfl hc (by simp) (by simp) (by simp), only_of_views fun p hp => by cases p <;> simp at hp ⊢⟩

theorem hstChange_completes (hc : Calm s.dev) (h : hstChange k s.fresh = d) :
    Completes (.hstChangeSend k) s d ∧ Only [.sys, .hst, .slu, .ev] s.fresh d := by
  subst h
  exact ⟨completes_of_views rfl rfl hc (by simp) (by simp) (by simp), only_of_views fun p hp => by cases p <;> simp at hp ⊢⟩

/-! ### The watchdog and automatic restart -/

theorem hstWatchdog_of_run (hs : hstServes d = true) (hx : (connGet d c).state = .run) :
    hstWatchdog c d = connFault c 1 (advanceTuss ((connGet d c).acceptedAt + connWd d c) d) := by
  simp [hstWatchdog, hs, hx]

theorem hstAuto_of_fault (hs : hstServes d = true) (hx : (connGet d c).state = .fault) (hauto : connCfg d c 0x0A 1 = 1) :
    hstAuto c d = connStart c (advanceTuss ((connGet d c).faultAt + connWd d c) d) := by
  simp [hstAuto, hs, hx, hauto]

theorem connFault_now (c cause : Nat) (d : Dev) : (connFault c cause d).sys.now = d.sys.now :=
  congrArg Sys.now (sys_of_view (by simp))

theorem connStart_now (c : Nat) (d : Dev) : (connStart c d).sys.now = d.sys.now := congrArg Sys.now (sys_of_view (by simp))

theorem hstWatchdog_completes (hc : Calm s.dev) (h : hstWatchdog k s.fresh = d) :
    Completes (.hstWatchdogExpiry k) s d ∧ Only [.sys, .saf, .hst, .ev] s.fresh d := by
  subst h
  exact ⟨completes_of_views rfl rfl hc (by simp) (by simp) (by simp), only_of_views fun p hp => by cases p <;> simp at hp ⊢⟩

theorem hstAuto_completes (hc : Calm s.dev) (h : hstAuto k s.fresh = d) :
    Completes (.hstAutoRestart k) s d ∧ Only [.sys, .saf, .hst, .ev, .drawn] s.fresh d := by
  subst h
  exact ⟨completes_of_views rfl rfl hc (by simp) (by simp) (by simp), only_of_views fun p hp => by cases p <;> simp at hp ⊢⟩

/-! ### The statement -/

/-- Settles O54: the receive tests, the messages, the watchdog and the restart, each by what it makes of its connection. That a failed
check in START is counted alone is DEDUCED (assumption log, entry 50). -/
theorem safeTransportConnectionsStep : Obligations.SafeTransportConnectionsStep := by
  intro s hc others clock bumped
  refine ⟨fun k addr port data hr hl => ⟨fun hk => ?_, fun hk hs => ?_⟩, fun h => ?_, fun j js hj ht hs hk => ?_, fun k hs hk => ?_⟩
  · exact completes_of_views rfl (hstDatagram_of_service (d := s.fresh) data hr hl hk) hc (by simp) (by simp) (by simp)
  · exact completes_of_views rfl (hstDatagram_of_connection (d := s.fresh) data hr hl hk hs) hc (by simp) (by simp) (by simp)
  · exact hstReceive_completes hc (hstReceive_of_waiting (d := s.fresh) h)
  · intro x m ident seq stamp timely good live ends accepted faulty
    let d1 := jobTaken js s.fresh
    have hjob : hstReceive s.fresh = connReceive j.1 m d1 := hstReceive_of_job (d := s.fresh) hj ht hs
    have h1 : ConnBecomes j.1 x d1 d1 := .refl (d := d1) hk
    have hends {P : Conn → Prop} {y : Conn} {e : Dev} (heq : connReceive j.1 m d1 = e) (h : ConnBecomes j.1 y d1 e) (hy : P y) :
        ends P := hstReceive_ends hc (hjob.trans heq) h hy
    have hfaults {cause : Nat} (heq : connReceive j.1 m d1 = connFault j.1 cause d1) : ends (faulty cause) :=
      hends heq (h1.connFault cause) ⟨rfl, rfl, rfl⟩
    clear_value ends
    refine ⟨fun hx => ?_, fun hx hbad => ?_, fun hx hgood htimely hstamp => ?_, fun hx hlate => ?_, fun hx hlive hgood hseq => ?_,
      fun last hx hlive hgood hlast hlt hseq => ?_⟩
    · exact hstReceive_completes hc (hjob.trans (connReceive_of_idle (d := d1) hx))
    · have heq := connReceive_of_start (d := d1) (m := m) hx
      rw [if_neg (fun hall => ?_)] at heq
      · exact hends heq (h1.connCheckFail hx) ⟨hx, rfl, rfl⟩
      · exact hbad.elim (· hall.1) (fun h => h.elim (· hall.2.1) (· hall.2.2))
    · have heq := connReceive_of_start (d := d1) (m := m) hx
      rw [if_pos ⟨hgood, htimely, hstamp⟩] at heq
      obtain ⟨y, h, hy⟩ := h1.connAccept m
      exact hends heq h ⟨hy.state, hy.rxSeq, hy.echo, hy.acceptedAt⟩
    · exact hfaults (connReceive_of_late (d := d1) hx hlate)
    · have heq := connReceive_of_repeated (d := d1) hx hlive hgood hseq
      exact hends heq ((h1.connCount 3 1).raise _ _ _) ⟨hx, rfl, rfl, rfl⟩
    · have heq := connReceive_of_next (d := d1) hx hlive hgood hlast hlt hseq
      refine ⟨fun hsync => ?_, fun hdata hstale => ?_, fun hdata htimely hstamp => ?_⟩
      · exact hfaults (heq.trans (if_pos hsync))
      · rw [if_neg (by omega), if_neg (fun hall => hstale.elim (· hall.1) (· hall.2))] at heq
        exact hfaults heq
      · rw [if_neg (by omega), if_pos ⟨htimely, hstamp⟩] at heq
        obtain ⟨y, h, hy⟩ := h1.connAccept m
        exact hends heq h ⟨⟨hy.state, hy.rxSeq, hy.echo, hy.acceptedAt⟩, hy.data hdata⟩
  · intro x sent
    have hsent {t : Nat} {f : Conn → Conn} {d : Dev} (htx : (f x).txSeq = x.txSeq) (hstate : (f x).state = x.state)
        (h : MessageSent k t f s.fresh d) (honly : Only [.sys, .hst, .slu, .ev] s.fresh d) : sent d :=
      ⟨h.sent.txSeq.trans (by rw [← htx]; rfl), h.sent.state.trans hstate, h.others, honly, h.queued⟩
    have hmoved (t : Nat) : ConnBecomes k x s.fresh (advanceTuss t s.fresh) := (ConnBecomes.refl (d := s.fresh) hk).of_hst rfl
    refine ⟨fun hx hb => ?_, fun hx hchanged hb => ?_, fun h => ?_, fun h => ?_, fun hx => ?_, fun hx hauto => ?_⟩
    · have h := connSend_messageSent (d := s.fresh) (connGet s.fresh k).cycleAt
        (fun x => { x with cycleAt := x.cycleAt + connCfg s.fresh k 6 2 * 1000000 }) hk
      obtain ⟨hcompletes, honly⟩ := hstCycle_completes hc (hstCycle_of_due (d := s.fresh) hs hx hb)
      exact ⟨_, hcompletes, hsent rfl rfl h honly, h.now, h.sent.cycleAt⟩
    · have h := connSend_messageSent (d := s.fresh) ((connGet s.fresh k).extraAt + 1000000)
        (fun x => { x with extraAt := tussNow (advanceTuss ((connGet s.fresh k).extraAt + 1000000) s.fresh) }) hk
      obtain ⟨hcompletes, honly⟩ := hstChange_completes hc (hstChange_of_due (d := s.fresh) hs hx hchanged hb)
      exact ⟨_, hcompletes, hsent rfl rfl h honly, h.now, h.sent.cycleAt⟩
    · exact (hstChange_completes hc (hstChange_of_not (d := s.fresh) h)).1
    · exact (hstCycle_completes hc (hstCycle_of_not (d := s.fresh) h)).1
    · obtain ⟨hcompletes, honly⟩ := hstWatchdog_completes hc (hstWatchdog_of_run (d := s.fresh) hs hx)
      have h := (hmoved (x.acceptedAt + connWd s.dev k)).connFault 1
      exact ⟨_, hcompletes, congrArg Conn.state h.conn, congrArg Conn.cause h.conn, congrArg Conn.seen h.conn, connFault_now _ _ _,
        h.others, honly⟩
    · obtain ⟨hcompletes, honly⟩ := hstAuto_completes hc (hstAuto_of_fault (d := s.fresh) hs hx hauto)
      have h := (hmoved (x.faultAt + connWd s.dev k)).connStart
      exact ⟨_, hcompletes, congrArg Conn.state h.conn, congrArg Conn.rxSeq h.conn, congrArg Conn.stamps h.conn,
        congrArg Conn.txSeq h.conn, (congrArg Conn.counters h.conn :), connStart_now _ _, h.others, honly⟩

end Sys2Proof.Laws
end

section
/-!
SUBSCRIBE and POOL_SET: what each stages while no commit runs, and what it refuses (R302, R303, R442, R443).
-/
namespace Sys2Proof.Laws

open Sys2Proof.Machine

variable {s : State} {mb : Nat} {c : Cmd} {d : Dev}

section Stager

variable {i : Instr} {op : Nat} {f : Cmd → Dev → Nat × Bytes × ConfigSet} {st : Nat} {p : Bytes} {set : ConfigSet}
  (hs : Starts s op mb c) (hk : s.dev.kmp.commit = none) (he : exec i s = runDev (stager op mb f) s)
include hs hk he

/-- While no commit runs, a staging command answers with its response and puts its set in place of the staged one. -/
theorem answers_staged (hf : f c (s.taken c mb) = (st, p, set)) :
    Answers i s c st p (modKmp (fun k => { k with staged := set }) (s.taken c mb)) :=
  stager_completes i op mb f s c st p set he hs.2 hs.1 hk hf

/-- One that hands the staged set back changes nothing but by its answer. -/
theorem answers_unstaged (hf : f c (s.taken c mb) = (st, p, s.dev.kmp.staged)) : Answers i s c st p (s.taken c mb) :=
  answers_staged hs hk he hf

end Stager

/-! ### SUBSCRIBE -/

section FirstBad

variable {α : Type} {n : Nat} {g : Nat → α} {ok : α → Bool}

theorem firstBad_range_of_all (h : ∀ i, i < n → ok (g i) = true) : firstBad ((List.range n).map g) ok = none := by
  rw [firstBad, List.findIdx?_eq_none_iff]
  simpa using h

theorem firstBad_range_of_first {i : Nat} (hi : i < n) (hbefore : ∀ j, j < i → ok (g j) = true) (hbad : ok (g i) = false) :
    firstBad ((List.range n).map g) ok = some i := by
  rw [firstBad, List.findIdx?_eq_some_iff_getElem]
  exact ⟨by simpa using hi, by simpa using hbad, fun j hj => by simpa using hbefore j hj⟩

end FirstBad

/-- A port that does not exist, or a number of entries that is not admitted. -/
theorem doSubscribe_of_badForm (h : 2 < rdU c.payload 0 1 ∨ rdU c.payload 2 2 = 0 ∨ 8192 < rdU c.payload 2 2) :
    doSubscribe c d = (stBadParam, noIndex, d.kmp.staged) :=
  if_pos h

section Entries

variable (hport : rdU c.payload 0 1 ≤ 2) (hmax : rdU c.payload 2 2 ≤ 8192)
include hport hmax

/-- With every entry admitted, the last entry of a queue wins (R442). -/
theorem doSubscribe_of_admitted (hmin : 1 ≤ rdU c.payload 2 2)
    (h : ∀ i, i < rdU c.payload 2 2 → subStatus d (rdU c.payload 0 1) (subEntry c.payload i) = stOk) :
    doSubscribe c d = (stOk, noIndex, { d.kmp.staged with
      subs := ((List.range (rdU c.payload 2 2)).map (subEntry c.payload)).foldl
        (fun t e => tabPut (subKey (rdU c.payload 0 1) e.1) e.2 t) d.kmp.staged.subs }) := by
  simp only [doSubscribe]
  rw [if_neg (by omega), firstBad_range_of_all fun i hi => by simp [h i hi]]

/-- The first entry not admitted gives the status and its place (R442: the set applies whole or not at all). -/
theorem doSubscribe_of_firstBad {i : Nat} (hi : i < rdU c.payload 2 2)
    (hbefore : ∀ j, j < i → subStatus d (rdU c.payload 0 1) (subEntry c.payload j) = stOk)
    (hbad : subStatus d (rdU c.payload 0 1) (subEntry c.payload i) ≠ stOk) :
    doSubscribe c d = (subStatus d (rdU c.payload 0 1) (subEntry c.payload i), indexRsp i, d.kmp.staged) := by
  simp only [doSubscribe]
  rw [if_neg (by omega), firstBad_range_of_first hi (fun j hj => by simp [hbefore j hj]) (by simpa using hbad)]
  simp [hi]

end Entries

/-! ### POOL_SET -/

/-- The four sizes that POOL_SET asks for, in cells. -/
def poolSizes (p : Bytes) : List Nat := (List.range 4).map (fun i => rdU p (4 * i) 4)

/-- The pools share all cells, and each of the first three has its floor (R303). -/
def PoolsFit (z : List Nat) : Prop := z.sum = 65536 ∧ 8192 ≤ z.getD 0 0 ∧ 1024 ≤ z.getD 1 0 ∧ 512 ≤ z.getD 2 0

theorem not_poolsFit_iff {z : List Nat} :
    ¬ PoolsFit z ↔ z.sum ≠ 65536 ∨ z.getD 0 0 < 8192 ∨ z.getD 1 0 < 1024 ∨ z.getD 2 0 < 512 := by
  unfold PoolsFit
  omega

/-- The sizes are judged before the state. -/
theorem doPoolSet_of_not_fit (h : ¬ PoolsFit (poolSizes c.payload)) : doPoolSet c d = (stBadParam, [], d.kmp.staged) :=
  if_pos (not_poolsFit_iff.1 h)

section Fitting

variable (h : PoolsFit (poolSizes c.payload))
include h

theorem doPoolSet_of_ready (hop : d.sys.op = .ready) :
    doPoolSet c d = (stOk, [], { d.kmp.staged with pools := some (poolSizes c.payload) }) :=
  (if_neg fun hbad => not_poolsFit_iff.2 hbad h).trans (if_neg (by simp [hop]))

theorem doPoolSet_of_not_ready (hop : d.sys.op ≠ .ready) : doPoolSet c d = (stNotPermitted, [], d.kmp.staged) :=
  (if_neg fun hbad => not_poolsFit_iff.2 hbad h).trans (if_pos (by simpa using hop))

end Fitting

/-- Settles O29: each branch of the two commands, told above, hands the stager the set it stages, or the staged set as it was. -/
theorem subscriptionsAndPoolsStage : Obligations.SubscriptionsAndPoolsStage := by
  intro s mb c hk
  refine ⟨fun hs hport hmin hmax hall => ?_, fun i hs hport hmax hi hbefore hbad => ?_, fun hs hform => ?_,
    fun hs => ⟨fun hunfit => ?_, fun hfit hop => ?_, fun hfit hop => ?_⟩⟩
  · exact answers_staged hs hk rfl (doSubscribe_of_admitted hport hmax hmin hall)
  · exact answers_unstaged hs hk rfl (doSubscribe_of_firstBad hport hmax hi hbefore hbad)
  · exact answers_unstaged hs hk rfl (doSubscribe_of_badForm hform)
  · exact answers_unstaged hs hk rfl (doPoolSet_of_not_fit hunfit)
  · exact answers_staged hs hk rfl (doPoolSet_of_ready hfit hop)
  · exact answers_unstaged hs hk rfl (doPoolSet_of_not_ready hfit hop)

end Sys2Proof.Laws
end

section
/-!
SUPPORT. Peat's group (R317 to R327): what the recorder's operations leave of it. The configuration, the triggers that wait, the readout
and the number of the capture change only where an operation names them.
-/
namespace Sys2Proof.Laws

open Sys2Proof.Machine

variable {d e x : Dev}

@[simp] theorem raise_peat (src cond : Nat) (detail : Bytes) (d : Dev) : (raise src cond detail d).peat = d.peat :=
  peat_of_view (by simp)

/-! ### The store -/

/-- Of Peat's group only the segments changed: their entries and descriptors. -/
def StoreOnly (d e : Dev) : Prop := e.peat = { d.peat with segs := e.peat.segs }

theorem StoreOnly.refl (d : Dev) : StoreOnly d d := rfl

theorem StoreOnly.trans (h : StoreOnly d e) (k : StoreOnly e x) : StoreOnly d x := by
  rw [StoreOnly, k, h]

theorem foldl_storeOnly {α : Type} (f : Dev → α → Dev) (h : ∀ d a, StoreOnly d (f d a)) (l : List α) :
    ∀ d, StoreOnly d (l.foldl f d) := by
  induction l with
  | nil => exact .refl
  | cons a l ih => exact fun d => (h d a).trans (ih _)

theorem peatLost_storeOnly (d : Dev) : StoreOnly d (peatLost d) := by
  rw [StoreOnly, peatLost, raise_peat]
  rfl

theorem peatStore_storeOnly {entry : Bytes} (h : peatStore entry d = some x) : StoreOnly d x := by
  unfold peatStore at h
  extract_lets i r at h
  split at h
  · cases h
  · cases h
    rfl

/-- An entry is stored or lost. -/
theorem storeOrLose_storeOnly (entry : Bytes) (d : Dev) : StoreOnly d ((peatStore entry d).getD (peatLost d)) := by
  cases h : peatStore entry d with
  | none => exact peatLost_storeOnly d
  | some x => exact peatStore_storeOnly h

/-! ### Captures -/

/-- A PEAT_ARM that runs has ended. -/
theorem endPeatArm_peat (status : Nat) (payload : Bytes) (d : Dev) :
    (endPeatArm status payload d).peat = { d.peat with arm := none } := by
  unfold endPeatArm
  split
  · next h => rw [← h]
  · dsimp only
    split
    · exact peat_of_view (d := modPeat (fun p => { p with arm := none }) d) (by simp)
    · rfl

/-- Where Peat goes from a closed capture (R320). -/
def closedState (d : Dev) : PeatState := if peatRepeat d = true then .dead else .idle

/-- A close empties the blocks into the store and ends PEAT_ARM. -/
theorem peatClose_peat (flags : Nat) (d : Dev) : ∃ segs, (peatClose flags d).peat =
    { d.peat with state := closedState d, segs := segs, arm := none, sedge := [], traces := [] } := by
  unfold peatClose
  extract_lets i d0 d1 s c d2
  have h0 : StoreOnly (modPeat (fun p => { p with sedge := [], traces := [] }) d) d0 :=
    foldl_storeOnly _ (fun d entry => storeOrLose_storeOnly entry d) _ _
  have h1 : StoreOnly (modPeat (fun p => { p with sedge := [], traces := [] }) d) d1 := h0.trans rfl
  have h2 : d2.peat = d1.peat := raise_peat _ _ _ _
  refine ⟨d1.peat.segs, ?_⟩
  rw [endPeatArm_peat, modPeat_peat, h2, h1]
  rfl

/-- An entry is stored, or lost with the capture closed before it, or ignored (R320, R323). -/
theorem peatWrite_peat (entry : Bytes) (d : Dev) : ∃ state segs arm sedge traces, (peatWrite entry d).peat =
    { d.peat with state := state, segs := segs, arm := arm, sedge := sedge, traces := traces } := by
  unfold peatWrite
  split
  · exact ⟨_, _, _, _, _, peatLost_storeOnly d⟩
  · split
    · exact ⟨_, _, _, _, _, rfl⟩
    · cases h : peatStore entry d with
      | some x => exact ⟨_, _, _, _, _, peatStore_storeOnly h⟩
      | none =>
        obtain ⟨segs, hclose⟩ := peatClose_peat 2 d
        have hlost : (peatLost (peatClose 2 d)).peat = _ := peatLost_storeOnly (peatClose 2 d)
        rw [hclose] at hlost
        exact ⟨_, _, _, _, _, hlost⟩

/-- Peat's state after it accepted a trigger: it fills, or has closed where no frame is to follow (R323). -/
def acceptedState (d : Dev) : PeatState := if peatPost d = 0 then closedState d else .filling

/-- An accepted trigger takes all that wait with it and sets the last frame of the capture. -/
theorem peatAccept_peat (t : Nat × Nat × Nat) (d : Dev) : ∃ segs arm sedge traces, (peatAccept t d).peat =
    { d.peat with state := acceptedState d, trigs := [], closeFrame := wrapU 32 (d.seq.frame + peatPost d - 1), segs := segs,
                  arm := arm, sedge := sedge, traces := traces } := by
  unfold peatAccept
  extract_lets i n extra marker d1 d2 d3
  obtain ⟨state, segs, arm, sedge, traces, h1⟩ : ∃ state segs arm sedge traces, d1.peat = _ := peatWrite_peat marker d
  have h2 : d2.peat = { d1.peat with
      state := .filling, trigs := [], closeFrame := wrapU 32 (d.seq.frame + peatPost d - 1), segs := d2.peat.segs } := rfl
  have h3 : d3.peat = d2.peat := by
    unfold d3
    split
    · exact raise_peat _ _ _ _
    · rfl
  have hfills : d3.peat = { d.peat with
      state := .filling, trigs := [], closeFrame := wrapU 32 (d.seq.frame + peatPost d - 1), segs := d3.peat.segs,
      arm := arm, sedge := sedge, traces := traces } := by
    rw [h3, h2, h1]
  by_cases hpost : peatPost d = 0
  · obtain ⟨segs', hclose⟩ := peatClose_peat 0 d3
    have hstate : closedState d3 = closedState d := by rw [closedState, peatRepeat, peatField, hfills]; rfl
    rw [if_pos hpost, acceptedState, if_pos hpost, hclose, hstate, hfills]
    exact ⟨_, _, _, _, rfl⟩
  · rw [if_neg hpost, acceptedState, if_neg hpost]
    exact ⟨_, _, _, _, hfills⟩

/-- An abort leaves Peat IDLE, with nothing open and nothing that waits (R326). -/
theorem peatAbort_peat (d : Dev) : ∃ segs, (peatAbort d).peat =
    { d.peat with state := .idle, segs := segs, arm := none, trigs := [], sedge := [], traces := [] } := by
  unfold peatAbort
  extract_lets d1
  have h1 : StoreOnly d d1 := by
    unfold d1
    split
    · rfl
    · exact .refl d
  refine ⟨d1.peat.segs, ?_⟩
  rw [endPeatArm_peat, modPeat_peat, h1]

theorem peatAbort_calm (h : Calm d) : Calm (peatAbort d) := calm_of_views h (by simp) (by simp) (by simp)

end Sys2Proof.Laws
end

section
/-!
PEAT_CONFIG, PEAT_TRIGGER, PEAT_RELEASE and PEAT_DISARM (R316, R321, R325, R326, R444, R445).
-/
namespace Sys2Proof.Laws

open Sys2Proof.Machine

variable {c : Cmd} {d : Dev}

/-! ### PEAT_CONFIG -/

theorem doPeatConfig_of_invalid (h : peatConfigOk c.payload = false) : doPeatConfig c d = (stBadParam, [], d) := by
  simp [doPeatConfig, h]

section Valid

variable (h : peatConfigOk c.payload = true)
include h

theorem doPeatConfig_of_busy (hstate : d.peat.state ≠ .idle) : doPeatConfig c d = (stNotPermitted, [], d) := by
  simp [doPeatConfig, h, hstate]

/-- The store divided as before keeps its captures. -/
theorem doPeatConfig_of_sameDivision (hstate : d.peat.state = .idle) (hsegs : rdU c.payload 0x0C 1 = peatSegs d) :
    doPeatConfig c d = (stOk, [], modPeat (fun x => { x with config := peatConfigKept c.payload }) d) := by
  simp [doPeatConfig, h, hstate, hsegs]

/-- The store divided anew holds no capture. -/
theorem doPeatConfig_of_newDivision (hstate : d.peat.state = .idle) (hsegs : rdU c.payload 0x0C 1 ≠ peatSegs d)
    (hread : d.peat.readout = none) : doPeatConfig c d = (stOk, [],
      modPeat (fun x => { x with config := peatConfigKept c.payload, segs := List.replicate 8 PeatSeg.free }) d) := by
  simp [doPeatConfig, h, hstate, hsegs, endReadout, hread]

end Valid

/-! ### PEAT_TRIGGER -/

theorem doPeatTrigger_of_off (h : peatTrigOn d 3 = false) : doPeatTrigger c d = (stNotPermitted, [], d) := by
  simp [doPeatTrigger, h]

/-- In ARMED a trigger joins those that wait. -/
theorem peatTriggerAt_of_armed (h : d.peat.state = .armed) (source detail t : Nat) :
    peatTriggerAt source detail t d = modPeat (fun x => { x with trigs := x.trigs ++ [(source, detail, t)] }) d := by
  simp only [peatTriggerAt, h]

theorem doPeatTrigger_of_armed (h : peatTrigOn d 3 = true) (hstate : d.peat.state = .armed) :
    doPeatTrigger c d = (stOk, le 1 2 ++ le 1 (flag d.peat.trigs.isEmpty 0) ++ zeros 2,
      modPeat (fun x => { x with trigs := x.trigs ++ [(4, 0, d.sys.now)] }) d) := by
  simp [doPeatTrigger, h, hstate, peatStateCode, peatTrigger, peatTriggerAt_of_armed hstate]

/-! ### PEAT_RELEASE -/

/-- Segment `i` exists and holds a capture closed with OK. -/
def HoldsClosed (d : Dev) (i : Nat) : Prop := i < 8 ∧ ∃ x, (peatSegGet d i).desc = some x ∧ x.status = stOk

theorem holdsClosed_iff (d : Dev) (i : Nat) :
    HoldsClosed d i ↔ (decide (i < 8) && (peatSegGet d i).desc.any (fun x => x.status == stOk)) = true := by
  simp [HoldsClosed, Option.any_eq_true]

theorem doPeatRelease_of_not_closed (h : ¬ HoldsClosed d (rdU c.payload 0 1)) : doPeatRelease c d = (stBadParam, [], d) := by
  rw [holdsClosed_iff, Bool.not_eq_true] at h
  simp only [doPeatRelease, h]
  rfl

section Closed

variable (h : HoldsClosed d (rdU c.payload 0 1))
include h

theorem doPeatRelease_of_read (hread : d.peat.readout.any (fun r => r.seg == rdU c.payload 0 1) = true) :
    doPeatRelease c d = (stBusy, [], d) := by
  simp only [doPeatRelease, (holdsClosed_iff _ _).1 h, hread]
  rfl

/-- Outside FULL a released segment is free at once. -/
theorem doPeatRelease_of_unread (hread : d.peat.readout.any (fun r => r.seg == rdU c.payload 0 1) = false)
    (hstate : d.peat.state ≠ .full) :
    doPeatRelease c d = (stOk, [], modPeatSeg (rdU c.payload 0 1) (fun _ => PeatSeg.free) d) := by
  simp [doPeatRelease, (holdsClosed_iff _ _).1 h, hread, modPeatSeg, hstate]

end Closed

/-! ### PEAT_DISARM -/

theorem doPeatDisarm_of_idle (h : d.peat.state = .idle) : doPeatDisarm c d = (stOk, le 1 0 ++ zeros 3, d) := by
  simp [doPeatDisarm, h, peatStateCode]

theorem doPeatDisarm_of_active (h : d.peat.state ≠ .idle) : doPeatDisarm c d = (stOk, le 1 0 ++ zeros 3, peatAbort d) := by
  obtain ⟨segs, habort⟩ := peatAbort_peat d
  simp [doPeatDisarm, h, habort, peatStateCode]

/-- Settles O32: each branch of the four commands, told one by one above. -/
theorem peatCommandsApply : Obligations.PeatCommandsApply := by
  intro s mb c d p i
  have hcalm {op : Nat} (hs : Starts s op mb c) : Calm d := calm_taken c mb hs.1
  refine ⟨fun hs => ⟨fun hok hidle hsegs => ?_, fun hok hidle hsegs hread => ?_, fun hbad => ?_, fun hok hstate => ?_⟩,
    fun hs => ⟨fun hoff => ?_, fun hon harmed => ?_⟩,
    fun hs => ⟨fun hopen => ?_, fun hclosed hread => ?_, fun hclosed hread hstate => ?_⟩,
    fun hs => ⟨fun hidle => ?_, fun hstate => ?_⟩⟩
  · exact answers_calm hs rfl (doPeatConfig_of_sameDivision (d := d) hok hidle hsegs) (hcalm hs)
  · exact answers_calm hs rfl (doPeatConfig_of_newDivision (d := d) hok hidle hsegs hread) (hcalm hs)
  · exact answers_unchanged hs rfl (doPeatConfig_of_invalid hbad)
  · exact answers_unchanged hs rfl (doPeatConfig_of_busy (d := d) hok hstate)
  · exact answers_unchanged hs rfl (doPeatTrigger_of_off hoff)
  · exact answers_calm hs rfl (doPeatTrigger_of_armed (d := d) hon harmed) (hcalm hs)
  · exact answers_unchanged hs rfl (doPeatRelease_of_not_closed hopen)
  · exact answers_unchanged hs rfl (doPeatRelease_of_read (d := d) hclosed hread)
  · exact answers_calm hs rfl (doPeatRelease_of_unread (d := d) hclosed hread hstate) (hcalm hs)
  · exact answers_unchanged hs rfl (doPeatDisarm_of_idle (d := d) hidle)
  · obtain ⟨segs, habort⟩ := peatAbort_peat d
    refine ⟨_, answers_calm hs rfl (doPeatDisarm_of_active (d := d) hstate) (peatAbort_calm (hcalm hs)), ?_, ?_, ?_, ?_, ?_,
      only_of_views fun p hp => by cases p <;> simp at hp ⊢⟩
    all_goals rw [habort]
    all_goals rfl

end Sys2Proof.Laws
end

section
/-!
Triggers: Peat accepts and forwards them and arms again (R320 to R323), and the trigger pins (R354, R355).
-/
namespace Sys2Proof.Laws

open Sys2Proof.Machine

variable {d : Dev}

/-! ### Accepting and forwarding -/

theorem triggerAccept_of_none (h : d.peat.state ≠ .armed ∨ d.peat.trigs = []) : triggerAccept d = d := by
  unfold triggerAccept
  split
  · rfl
  · next harmed =>
    have htrigs : d.peat.trigs = [] := h.resolve_left fun hne => harmed (by simpa using hne)
    rw [htrigs]
    rfl

theorem triggerAccept_of_first {t : Nat × Nat × Nat} (h : d.peat.state = .armed) (hfirst : firstTrig d.peat.trigs = some t) :
    triggerAccept d = forwardTrigger t.1 t.2.2 (peatAccept t d) := by
  simp [triggerAccept, h, hfirst]

/-- A trigger of the SYNC bus goes no further. -/
theorem forwardTrigger_of_peer (t : Nat) (d : Dev) : forwardTrigger 2 t d = d := rfl

@[simp] theorem trigOut_outActive (d : Dev) : (trigOut d).trig.outActive = true := rfl

section Forwarded

variable {origin : Nat} (h : origin ≠ 2) (t : Nat) (d : Dev)
include h

theorem forwardTrigger_sync : (forwardTrigger origin t d).sync =
    if bit (peatField d 0x10 1) 0 = true then { d.sync with xtrig := some (le 1 origin ++ zeros 3 ++ le 8 t) } else d.sync := by
  unfold forwardTrigger
  rw [if_neg h]
  extract_lets en d1
  have hsent : (if bit en 1 = true then trigOut d1 else d1).sync = d1.sync := by split <;> rfl
  exact hsent.trans (apply_ite Dev.sync _ _ _)

theorem forwardTrigger_outActive : (forwardTrigger origin t d).trig.outActive =
    (d.trig.outActive || bit (peatField d 0x10 1) 1) := by
  unfold forwardTrigger
  rw [if_neg h]
  extract_lets en d1
  have h1 : d1.trig = d.trig := same_of_view (p := .trig) (by simp [d1])
  cases hpin : bit en 1 with
  | true => simp [en, ← hpin]
  | false => simp [h1]

end Forwarded

/-- An accepted trigger leaves the configuration, and with it what is forwarded (R322). -/
theorem peatField_peatAccept (t : Nat × Nat × Nat) (d : Dev) (off k : Nat) : peatField (peatAccept t d) off k = peatField d off k := by
  obtain ⟨segs, arm, sedge, traces, h⟩ := peatAccept_peat t d
  rw [peatField, h, peatField]

theorem peatAccept_sync (t : Nat × Nat × Nat) (d : Dev) : (peatAccept t d).sync = d.sync := same_of_view (p := .sync) (by simp)

theorem peatAccept_trig (t : Nat × Nat × Nat) (d : Dev) : (peatAccept t d).trig = d.trig := same_of_view (p := .trig) (by simp)

/-! ### Arming again -/

/-- The next capture is in the lowest free segment. -/
theorem peatRearm_of_free {k : Nat} {ks : List Nat} (h : d.peat.state = .dead) (hfree : peatFree d = k :: ks) :
    (peatRearm d).peat.state = .armed ∧ (peatRearm d).peat.seg = k ∧
      (peatRearm d).peat.number = wrapU 32 (d.peat.number + 1) := by
  have heq : peatRearm d = peatNext d := by simp [peatRearm, h]
  rw [heq, peatNext, hfree]
  exact ⟨rfl, rfl, rfl⟩

theorem peatRearm_of_full (h : d.peat.state = .dead) (hfree : peatFree d = []) :
    peatRearm d = raise 466 0 [] (modPeat (fun p => { p with state := .full }) d) := by
  simp [peatRearm, peatNext, h, hfree]

theorem peatRearm_of_not_dead (h : d.peat.state ≠ .dead) : peatRearm d = d := by simp [peatRearm, h]

/-! ### TRIG_IN and TRIG_OUT -/

theorem raise_trig (src cond : Nat) (detail : Bytes) (d : Dev) : (raise src cond detail d).trig = d.trig :=
  same_of_view (p := .trig) (by simp)

theorem trigInEdge_of_otherEdge {rising : Bool} (t : Nat) (h : rising ≠ decide (prmGet d 0x0F10 = 0)) : trigInEdge rising t d = d :=
  if_pos (by simpa [beq_eq_decide] using .inr h)

/-- An accepted edge is remembered, at its own time (R354). -/
def edgeTaken (t : Nat) (d : Dev) : Dev :=
  raise 114 0 [] (modTrig (fun x => { x with lastIn := some ((t : Int) - d.sys.stepSum).toNat }) (advanceTo t d))

@[simp] theorem edgeTaken_peat (t : Nat) (d : Dev) : (edgeTaken t d).peat = d.peat := raise_peat _ _ _ _

theorem edgeTaken_sys (t : Nat) (d : Dev) : (edgeTaken t d).sys = { d.sys with now := max d.sys.now t } := raise_sys _ _ _ _

theorem edgeTaken_trig (t : Nat) (d : Dev) :
    (edgeTaken t d).trig = { d.trig with lastIn := some ((t : Int) - d.sys.stepSum).toNat } :=
  raise_trig _ _ _ _

/-- An edge as a trigger for Peat, where TRIG_IN is enabled (R321). -/
def edgeTrigger (rising : Bool) (t : Nat) (d : Dev) : Dev :=
  if peatTrigOn d 0 = true then peatTriggerAt 1 (if rising then 0 else 1) t (edgeTaken t d) else edgeTaken t d

theorem edgeTrigger_sys (rising : Bool) (t : Nat) (d : Dev) : (edgeTrigger rising t d).sys = { d.sys with now := max d.sys.now t } :=
  (sys_of_view (by simp [edgeTrigger])).trans (edgeTaken_sys t d)

theorem edgeTrigger_trig (rising : Bool) (t : Nat) (d : Dev) :
    (edgeTrigger rising t d).trig = { d.trig with lastIn := some ((t : Int) - d.sys.stepSum).toNat } :=
  (same_of_view (p := .trig) (by simp [edgeTrigger]) : _ = (edgeTaken t d).trig).trans (edgeTaken_trig t d)

theorem edgeTrigger_peat_of_armed (rising : Bool) (t : Nat) (hon : peatTrigOn d 0 = true) (h : d.peat.state = .armed) :
    (edgeTrigger rising t d).peat = { d.peat with trigs := d.peat.trigs ++ [(1, if rising = true then 0 else 1, t)] } := by
  have harmed : (edgeTaken t d).peat.state = .armed := by rw [edgeTaken_peat, h]
  rw [edgeTrigger, if_pos hon, peatTriggerAt_of_armed harmed, modPeat_peat, edgeTaken_peat]

theorem edgeTrigger_peat_of_off (rising : Bool) (t : Nat) (hoff : peatTrigOn d 0 = false) : (edgeTrigger rising t d).peat = d.peat := by
  rw [edgeTrigger, if_neg (by simp [hoff]), edgeTaken_peat]

section Edge

variable {rising : Bool} {t : Nat} (hr : d.sys.inReset = false) (h : rising = decide (prmGet d 0x0F10 = 0))
include hr h

/-- Less than 2 µs after an accepted edge. -/
theorem trigInEdge_of_overrun {u : Nat} (hlast : d.trig.lastIn = some u) (hsoon : (t : Int) - d.sys.stepSum < u + 2000) :
    trigInEdge rising t d =
      raise 115 0 [] (modTrig (fun x => { x with overruns := min (2 ^ 32 - 1) (x.overruns + 1) }) (advanceTo t d)) := by
  simp [trigInEdge, hr, h, beq_eq_decide, hlast, hsoon, incSat, satU, Nat.min_comm]

/-- The trace units watch TRIG_IN as well (R237). -/
theorem trigInEdge_of_accepted (hlast : ∀ u, d.trig.lastIn = some u → (u : Int) + 2000 ≤ (t : Int) - d.sys.stepSum) :
    trigInEdge rising t d = traceTriggers 1 t (edgeTrigger rising t d) := by
  have hlate : ¬ d.trig.lastIn.any (fun u => decide ((t : Int) - d.sys.stepSum < u + 2000)) = true := by
    cases hu : d.trig.lastIn with
    | none => simp
    | some u => simpa using hlast u hu
  have hon : peatTrigOn (edgeTaken t d) 0 = peatTrigOn d 0 := by rw [peatTrigOn, peatField, edgeTaken_peat, ← peatField, ← peatTrigOn]
  rw [edgeTrigger, ← hon, trigInEdge, if_neg (by simp [hr, h, beq_eq_decide]), if_neg hlate]
  rfl

end Edge

theorem trigOutEnd_of_active (h : d.trig.outActive = true) :
    trigOutEnd d = modTrig (fun x => { x with outActive := false }) (advanceTuss d.trig.outEnd d) :=
  if_pos h

theorem trigOutEnd_of_not (h : d.trig.outActive = false) : trigOutEnd d = d := if_neg (ne_true_of_eq_false h)

/-- Settles O56: the commands of the triggers and the pins, told one by one above. That a command with nothing to do changes nothing is
DESIGN CHOICE, and that the next free segment in order is armed is DEDUCED (assumption log, entries 1 and 47). -/
theorem triggersAreAcceptedAndForwarded : Obligations.TriggersAreAcceptedAndForwarded := by
  intro s hc touched
  refine ⟨fun h => ?_, fun t harmed hfirst => ?_, fun k ks hdead hfree => ?_, fun hdead hfree => ?_, fun h => ?_,
    fun rising t hr => ⟨fun h => ?_, fun h => ⟨fun u hlast hsoon => ?_, fun hlast => ?_⟩⟩, fun h => ?_, fun h => ?_⟩
  · exact completes_of_views rfl (triggerAccept_of_none (d := s.fresh) h) hc rfl rfl rfl
  · have heq := triggerAccept_of_first (d := s.fresh) harmed hfirst
    obtain ⟨segs, arm, sedge, traces, haccept⟩ := peatAccept_peat t s.fresh
    have hpeat : (forwardTrigger t.1 t.2.2 (peatAccept t s.fresh)).peat = _ := (peat_of_view (by simp)).trans haccept
    refine ⟨_, completes_of_views rfl heq hc (by simp) (by simp) (by simp), by rw [hpeat], by rw [hpeat]; rfl, fun hpost => ?_,
      fun hpost => ?_, fun hpeer => ?_, fun hown hbus => ?_, fun hown hbus => ?_, fun hown => ?_,
      only_of_views fun p hp => by cases p <;> simp [touched] at hp ⊢⟩
    · rw [hpeat]
      exact if_neg hpost
    · rw [hpeat]
      exact if_pos hpost
    · rw [hpeer, forwardTrigger_of_peer]
      exact ⟨peatAccept_sync t _, peatAccept_trig t _⟩
    · rw [forwardTrigger_sync hown, peatField_peatAccept, peatAccept_sync]
      exact if_pos hbus
    · rw [forwardTrigger_sync hown, peatField_peatAccept, peatAccept_sync]
      exact if_neg (ne_true_of_eq_false hbus)
    · rw [forwardTrigger_outActive hown, peatField_peatAccept, peatAccept_trig]
      rfl
  · obtain ⟨hstate, hseg, hnumber⟩ := peatRearm_of_free (d := s.fresh) hdead hfree
    exact ⟨_, completes_of_views (f := peatRearm) rfl rfl hc (by simp) (by simp) (by simp), hstate, hseg, hnumber,
      only_of_views fun p hp => by cases p <;> simp at hp ⊢⟩
  · exact completes_of_views rfl (peatRearm_of_full (d := s.fresh) hdead hfree) hc (by simp) (by simp) (by simp)
  · exact completes_of_views rfl (peatRearm_of_not_dead (d := s.fresh) h) hc rfl rfl rfl
  · exact completes_of_views rfl (trigInEdge_of_otherEdge (d := s.fresh) t h) hc rfl rfl rfl
  · exact completes_of_views rfl (trigInEdge_of_overrun (d := s.fresh) hr h hlast hsoon) hc (by simp) (by simp) (by simp)
  · have heq := trigInEdge_of_accepted (d := s.fresh) hr h hlast
    have hpeat : (traceTriggers 1 t (edgeTrigger rising t s.fresh)).peat = (edgeTrigger rising t s.fresh).peat :=
      peat_of_view (by simp)
    refine ⟨_, completes_of_views (f := trigInEdge rising t) rfl rfl hc (by simp) (by simp) (by simp), ?_, ?_, fun hon harmed => ?_,
      fun hoff => ?_, only_of_views fun p hp => by cases p <;> simp at hp ⊢⟩
    all_goals rw [heq]
    · exact (sys_of_view (by simp)).trans (edgeTrigger_sys rising t s.fresh)
    · exact (same_of_view (p := .trig) (by simp) : _ = (edgeTrigger rising t s.fresh).trig).trans (edgeTrigger_trig rising t s.fresh)
    · exact hpeat.trans (edgeTrigger_peat_of_armed (d := s.fresh) rising t hon harmed)
    · exact hpeat.trans (edgeTrigger_peat_of_off (d := s.fresh) rising t hoff)
  · exact completes_of_views rfl (trigOutEnd_of_active (d := s.fresh) h) hc (by simp) (by simp) (by simp)
  · exact completes_of_views rfl (trigOutEnd_of_not (d := s.fresh) h) hc rfl rfl rfl

end Sys2Proof.Laws
end

section
/-!
What ending a grant, a session or a command leaves on the ports and the endpoint (R308, R356, R393).
-/
namespace Sys2Proof.Laws

open Sys2Proof.Machine

variable {a b c d e : Dev}

theorem net_of_view (h : Facet.net.view e = Facet.net.view d) : e.net = d.net := same_of_view (p := .net) h

theorem pcie_of_view (h : Facet.pcie.view e = Facet.pcie.view d) : e.pcie = d.pcie := same_of_view (p := .pcie) h

theorem spi_of_view (h : Facet.spi.view e = Facet.spi.view d) : e.spi = d.spi := same_of_view (p := .spi) h

theorem sync_of_view (h : Facet.sync.view e = Facet.sync.view d) : e.sync = d.sync := same_of_view (p := .sync) h

theorem tim_of_view (h : Facet.tim.view e = Facet.tim.view d) : e.tim = d.tim := same_of_view (p := .tim) h

theorem kmp_of_view (h : Facet.kmp.view e = Facet.kmp.view d) : e.kmp = d.kmp := same_of_view (p := .kmp) h

/-! ### What answering leaves -/

/-- What an answer to a command leaves: every port's grant, the endpoint but for its vectors, and what has left the device. -/
structure Undisturbed (d e : Dev) : Prop where
  grant : ∀ p, (portGet e.slu p).grant = (portGet d.slu p).grant
  pcie : e.pcie = { d.pcie with vecs := e.pcie.vecs }
  out : d.out ⊆ e.out

namespace Undisturbed

theorem refl (d : Dev) : Undisturbed d d := ⟨fun _ => rfl, rfl, List.Subset.refl _⟩

theorem trans (h : Undisturbed a b) (k : Undisturbed b c) : Undisturbed a c where
  grant p := (k.grant p).trans (h.grant p)
  pcie := by rw [k.pcie, h.pcie]
  out := List.Subset.trans h.out k.out

theorem of_frame (h : ∀ v ∈ [Facet.slu, .pcie, .out], v.view e = v.view d) : Undisturbed d e := by
  simp only [List.forall_mem_cons] at h
  obtain ⟨hslu, hpcie, hout, -⟩ := h
  exact ⟨fun p => by rw [slu_of_view hslu], by rw [pcie_of_view hpcie], by rw [out_of_view hout]; exact List.Subset.refl _⟩

theorem ite {p : Prop} [Decidable p] (h : Undisturbed d a) (k : Undisturbed d b) : Undisturbed d (if p then a else b) := by
  split
  · exact h
  · exact k

theorem foldl {α : Type} {f : Dev → α → Dev} (h : ∀ d x, Undisturbed d (f d x)) (l : List α) : ∀ d, Undisturbed d (l.foldl f d) := by
  induction l with
  | nil => exact refl
  | cons x l ih => exact fun d => (h d x).trans (ih _)

theorem of_port {f : Port → Port} (hf : ∀ x, (f x).grant = x.grant) (p : Nat) (d : Dev) : Undisturbed d (modSlu (modPort p f) d) where
  grant q := by
    rw [portGet, modSlu_slu, modPort, listMod_getD]
    split
    · exact hf _
    · rfl
  pcie := rfl
  out := List.Subset.refl _

end Undisturbed

theorem fireVector_undisturbed (v : Nat) (d : Dev) : Undisturbed d (fireVector v d) := by
  unfold fireVector
  exact .ite ⟨fun _ => rfl, rfl, List.Subset.refl _⟩ ⟨fun _ => rfl, rfl, fun _ h => .tail _ (.tail _ h)⟩

theorem irqSet_undisturbed (mb cause : Nat) (d : Dev) : Undisturbed d (irqSet mb cause d) :=
  have h : Undisturbed d (modMb mb (fun m => { m with irqStatus := putBit m.irqStatus cause true }) d) := .of_frame (by simp)
  .ite (h.trans (fireVector_undisturbed 0 _)) h

theorem queueMsg_undisturbed (p : Nat) (m : Msg) (d : Dev) : Undisturbed d (queueMsg p m d) :=
  .of_port (f := fun x => { x with msgs := x.msgs ++ [m] }) (fun _ => rfl) p d

theorem postOne_undisturbed (mb : Nat) (r : Rsp) (d : Dev) : Undisturbed d (postOne mb r d) := by
  unfold postOne
  extract_lets m d1 d2 d3 msg
  have h : Undisturbed d d3 := .of_frame (by simp [d3, d2, d1])
  exact (Undisturbed.ite h (h.trans (queueMsg_undisturbed _ _ _))).trans (irqSet_undisturbed _ _ _)

theorem postLoop_undisturbed (mb n : Nat) : ∀ d, Undisturbed d (postLoop mb n d) := by
  induction n with
  | zero => exact .refl
  | succ n ih =>
    intro d
    unfold postLoop
    extract_lets m
    split
    · exact .refl d
    · exact .ite ((postOne_undisturbed _ _ _).trans (ih _)) (.refl d)

theorem postResponses_undisturbed (mb : Nat) (d : Dev) : Undisturbed d (postResponses mb d) :=
  have h := postLoop_undisturbed mb (mbGet d mb).rspQueue.length d
  .ite (h.trans (.of_frame (by simp))) h

theorem respond_undisturbed (c : Cmd) (status : Nat) (payload : Bytes) (final : Bool) (d : Dev) :
    Undisturbed d (respond c status payload final d) :=
  .ite (.trans (.of_frame (by simp)) (queueMsg_undisturbed 0 _ _)) (.trans (.of_frame (by simp)) (postResponses_undisturbed _ _))

theorem finish_undisturbed (c : Cmd) (status : Nat) (payload : Bytes) (d : Dev) : Undisturbed d (finish c status payload d) :=
  .trans (.of_frame (by simp)) (respond_undisturbed _ _ _ _ _)

theorem finishRunning_undisturbed (c : Cmd) (status : Nat) (payload : Bytes) (d : Dev) : Undisturbed d (finishRunning c status payload d) :=
  .trans (.trans (.of_frame (by simp)) (finish_undisturbed _ _ _ _))
    (.foldl (fun d a => (.of_frame (by simp) : Undisturbed d (dropRunning a d)).trans (finish_undisturbed _ _ _ _)) _ _)

/-! ### What the end of a session leaves -/

theorem endCommit_undisturbed (v : Verdict) (d : Dev) : Undisturbed d (endCommit v d) := by
  unfold endCommit
  split
  · exact .refl d
  · extract_lets rsp d1
    have h : Undisturbed d d1 := .of_frame (by simp [d1])
    split
    · exact h.trans (finishRunning_undisturbed _ _ _ _)
    · exact h

theorem expireWaiting_undisturbed (s : Session) (d : Dev) : Undisturbed d (expireWaiting s d) :=
  .trans (.of_frame (by simp)) (.foldl (fun _ _ => finish_undisturbed _ _ _ _) _ _)

theorem clearFreezes_undisturbed (sess : Nat) (d : Dev) : Undisturbed d (clearFreezes sess d) :=
  .foldl (fun d p => .ite ((Undisturbed.of_port (f := fun x => { x with freezeBy := none, drained := false }) (fun _ => rfl) p d).trans
    (.of_frame (by simp))) (.refl d)) _ _

theorem endReadout_undisturbed (status : Nat) (d : Dev) : Undisturbed d (endReadout status d) := by
  unfold endReadout
  split
  · exact .refl d
  · extract_lets d1
    have h : Undisturbed d d1 := .of_frame (by simp [d1])
    split
    · exact h.trans (finishRunning_undisturbed _ _ _ _)
    · exact h

theorem releaseSession_undisturbed (ident : Nat) (d : Dev) : Undisturbed d (releaseSession ident d) := by
  unfold releaseSession
  extract_lets d1 d2
  have h : Undisturbed d1 d2 := by
    unfold d2
    split
    · exact .ite (endReadout_undisturbed _ _) (.refl _)
    · exact .refl _
  exact ((clearFreezes_undisturbed ident d).trans h).trans (.of_frame (by simp))

theorem endSession_undisturbed (cause : Nat) (d : Dev) : Undisturbed d (endSession cause d) := by
  unfold endSession
  split
  · exact .refl d
  · next x _ =>
    extract_lets d1 d2
    have h : Undisturbed d (releaseSession x.ident (expireWaiting x d1)) :=
      ((endCommit_undisturbed _ d).trans (expireWaiting_undisturbed _ _)).trans (releaseSession_undisturbed _ _)
    exact (h.trans (.of_frame (by simp [d2]))).trans (irqSet_undisturbed _ _ _)

theorem portCause_undisturbed (p : Nat) (d : Dev) : Undisturbed d (portCause p d) := by
  unfold portCause
  split
  · exact .ite (endSession_undisturbed 1 d) (.refl d)
  · exact .refl d

/-! ### A cause of a port -/

/-- The port owns the session. -/
def OwnsSession (p : Nat) (d : Dev) : Prop := ∃ x, d.kmp.session = some x ∧ portOfMb x.mb = p

theorem not_ownsSession_iff {p : Nat} : ¬ OwnsSession p d ↔ ∀ x, d.kmp.session = some x → portOfMb x.mb ≠ p := by
  simp [OwnsSession]

theorem portCause_of_owner {p : Nat} (h : OwnsSession p d) : portCause p d = endSession 1 d := by
  obtain ⟨x, hx, hp⟩ := h
  simp [portCause, hx, hp]

theorem portCause_of_not_owner {p : Nat} (h : ¬ OwnsSession p d) : portCause p d = d := by
  rw [not_ownsSession_iff] at h
  unfold portCause
  split
  · next x hx => exact if_neg (h x hx)
  · rfl

theorem portCause_not_owner (p : Nat) (d : Dev) : ¬ OwnsSession p (portCause p d) := by
  by_cases h : OwnsSession p d
  · rw [portCause_of_owner h, OwnsSession, endSession_session]
    simp
  · rwa [portCause_of_not_owner h]

/-- A device that halted has no session to end. -/
theorem portCause_calm {p : Nat} (h : Calm d) : Calm (portCause p d) := by
  by_cases ho : OwnsSession p d
  · have hsys : (portCause p d).sys = d.sys := sys_of_view (by simp)
    exact ⟨by rw [hsys]; exact h.1, fun _ => by rw [portCause_of_owner ho]; exact endSession_session 1 d⟩
  · rwa [portCause_of_not_owner ho]

/-! ### The end of a grant -/

theorem storeWaiting_ports (d : Dev) : (storeWaiting d).slu.ports = d.slu.ports := by
  unfold storeWaiting
  generalize d.slu.queues.filter _ = l
  induction l generalizing d with
  | nil => rfl
  | cons x l ih =>
    rw [List.foldl_cons, ih]
    split <;> rfl

theorem updateDrained_undisturbed (p : Nat) (d : Dev) : Undisturbed d (updateDrained p d) :=
  have h := Undisturbed.of_port (f := fun x => { x with drained := drainedNow (portGet d.slu p) }) (fun _ => rfl) p d
  .ite (h.trans (.of_frame (by simp))) h

/-- A grant that is lost is no longer in flight. -/
theorem loseGrant_grant (p : Nat) (d : Dev) : (portGet (loseGrant p d).slu p).grant = none := by
  unfold loseGrant
  split
  · assumption
  · next g _ =>
    unfold endGrant
    extract_lets d1
    rw [(updateDrained_undisturbed _ _).grant, portGet, storeWaiting_ports, modSlu_slu, modPort, listMod_getD]
    split
    · rfl
    · next h => rw [List.getD_eq_default _ _ (by simpa using h)]; rfl

end Sys2Proof.Laws
end

section
/-!
The backbone's links, redundancy and MACsec reception (R329, R331, R357).
-/
namespace Sys2Proof.Laws

open Sys2Proof.Machine

variable {s : State} {d : Dev}

@[simp] theorem raise_net (src cond : Nat) (detail : Bytes) (d : Dev) : (raise src cond detail d).net = d.net :=
  net_of_view (by simp)

@[simp] theorem raise_tim (src cond : Nat) (detail : Bytes) (d : Dev) : (raise src cond detail d).tim = d.tim :=
  tim_of_view (by simp)

/-! ### The gPTP ports -/

/-- Two changes of an element that agree there. -/
theorem listMod_congr {α : Type} {l : List α} {i : Nat} {f g : α → α} (x : α) (h : i < l.length → f (l.getD i x) = g (l.getD i x)) :
    listMod l i f = listMod l i g := by
  refine List.ext_getElem? fun k => ?_
  rw [listMod, listMod, List.getElem?_modify, List.getElem?_modify]
  by_cases hi : i < l.length
  · have hf := h hi
    rw [List.getD_eq_getElem _ _ hi] at hf
    by_cases hik : i = k
    · subst hik
      simp [hi, hf]
    · simp [hik]
  · have hk : i = k → l[k]? = none := fun hik => by simpa [← hik] using hi
    by_cases hik : i = k <;> simp [hik, hk]

theorem listMod_eq_self {α : Type} {l : List α} {i : Nat} {f : α → α} (x : α) (h : i < l.length → f (l.getD i x) = l.getD i x) :
    listMod l i f = l :=
  (listMod_congr (g := id) x h).trans (List.modify_id i l)

theorem listMod_listMod {α : Type} (l : List α) (i : Nat) (f g : α → α) : listMod (listMod l i f) i g = listMod l i (g ∘ f) := by
  rw [listMod, listMod, listMod, List.modify_modify_eq]

theorem setCapable_net (l : Nat) (b : Bool) (d : Dev) :
    (setCapable l b d).net = { d.net with gptp := listMod d.net.gptp l (fun g => { g with asCapable := b }) } := by
  unfold setCapable
  split
  · next h =>
    have hkept : listMod d.net.gptp l (fun g => { g with asCapable := b }) = d.net.gptp :=
      listMod_eq_self ⟨false, 0, 0⟩ fun _ => by
        rw [← beq_iff_eq.1 h]
        rfl
    rw [hkept]
  · exact raise_net _ _ _ _

theorem gptpGet_of_listMod {e : Dev} {l : Nat} {f : Gptp → Gptp} (h : e.net.gptp = listMod d.net.gptp l f) (k : Nat) :
    gptpGet e k = if l = k ∧ k < d.net.gptp.length then f (gptpGet d k) else gptpGet d k := by
  rw [gptpGet, h, listMod_getD, gptpGet]

theorem setCapable_asCapable (l : Nat) (d : Dev) : (gptpGet (setCapable l false d) l).asCapable = false := by
  rw [gptpGet_of_listMod (d := d) (congrArg Net.gptp (setCapable_net l false d))]
  split
  · rfl
  · next h => rw [gptpGet, List.getD_eq_default _ _ (not_lt.1 fun hlt => h ⟨rfl, hlt⟩)]

/-! ### A link's change -/

/-- A change of a link's state is noted and told; a link that goes down is not asCapable. -/
def linkNoted (l : Nat) (up : Bool) (d : Dev) : Dev :=
  let d1 := raise (96 + l) (if up then 0 else 1) [] (modNet (fun n => { n with linkUp := listMod n.linkUp l (fun _ => up) }) d)
  if up then d1 else setCapable l false d1

theorem linkNoted_net (l : Nat) (up : Bool) (d : Dev) : (linkNoted l up d).net =
    { d.net with linkUp := listMod d.net.linkUp l (fun _ => up), gptp := (linkNoted l up d).net.gptp } := by
  unfold linkNoted
  cases up with
  | true => simp
  | false => simp [setCapable_net]

theorem linkNoted_up_gptp (l : Nat) (d : Dev) : (linkNoted l true d).net.gptp = d.net.gptp := by
  simp [linkNoted]

theorem linkNoted_only (l : Nat) (up : Bool) (d : Dev) : Only [.net, .ev] d (linkNoted l up d) :=
  only_of_views fun p hp => by cases p <;> simp [linkNoted] at hp ⊢

/-- With both links down what port 0 was sending is lost, and the session it owns ends (R356). -/
def backboneLost (d : Dev) : Dev := portCause 0 (loseGrant 0 d)

theorem backboneLost_net (d : Dev) : (backboneLost d).net = d.net := net_of_view (by simp [backboneLost])

theorem backboneLost_calm (h : Calm d) : Calm (backboneLost d) :=
  portCause_calm (calm_of_views h (by simp) (by simp) (by simp))

theorem backboneLost_grant (d : Dev) : (portGet (backboneLost d).slu 0).grant = none :=
  ((portCause_undisturbed 0 _).grant 0).trans (loseGrant_grant 0 d)

theorem linkChange_of_idle {l : Nat} {up : Bool} (h : 1 < l ∨ physOff d = true ∨ d.net.linkUp.getD l false = up) : linkChange l up d = d :=
  if_pos h

theorem linkChange_of_change {l : Nat} {up : Bool} (hl : l ≤ 1) (hp : physOff d = false) (h : d.net.linkUp.getD l false ≠ up) :
    linkChange l up d =
      if (linkNoted l up d).net.linkUp.any id = true then linkNoted l up d else backboneLost (linkNoted l up d) :=
  if_neg (by simp [-List.getD_eq_getElem?_getD, hl, hp, h])

theorem linkChange_net {l : Nat} {up : Bool} (hl : l ≤ 1) (hp : physOff d = false) (h : d.net.linkUp.getD l false ≠ up) :
    (linkChange l up d).net = (linkNoted l up d).net := by
  rw [linkChange_of_change hl hp h]
  split
  · rfl
  · exact backboneLost_net _

theorem linkChange_calm (l : Nat) (up : Bool) (h : Calm d) : Calm (linkChange l up d) := by
  by_cases hi : 1 < l ∨ physOff d = true ∨ d.net.linkUp.getD l false = up
  · rwa [linkChange_of_idle hi]
  · simp only [not_or, not_lt, Bool.not_eq_true] at hi
    obtain ⟨hl, hp, hne⟩ := hi
    have hnoted : Calm (linkNoted l up d) := calm_of_views h (by simp [linkNoted]) (by simp [linkNoted]) (by simp [linkNoted])
    rw [linkChange_of_change hl hp hne]
    split
    · exact hnoted
    · exact backboneLost_calm hnoted

/-- The clause of a link that changes. -/
theorem linkChange_spec {l : Nat} {up : Bool} (hl : l ≤ 1) (hp : physOff d = false) (h : d.net.linkUp.getD l false ≠ up) :
    (linkChange l up d).net =
      { d.net with linkUp := listMod d.net.linkUp l (fun _ => up), gptp := (linkChange l up d).net.gptp } ∧
    (up = true → (linkChange l up d).net.gptp = d.net.gptp) ∧
    (up = false → (gptpGet (linkChange l up d) l).asCapable = false) ∧
    ((linkChange l up d).net.linkUp.any id = true → Only [.net, .ev] d (linkChange l up d)) ∧
    ((linkChange l up d).net.linkUp.any id = false →
      (portGet (linkChange l up d).slu 0).grant = none ∧ ¬ OwnsSession 0 (linkChange l up d)) := by
  have hnet := linkChange_net hl hp h
  refine ⟨?_, ?_, ?_, fun hup => ?_, fun hdown => ?_⟩
  · rw [hnet]
    exact linkNoted_net l up d
  · rintro rfl
    rw [hnet, linkNoted_up_gptp]
  · rintro rfl
    rw [gptpGet, hnet]
    exact setCapable_asCapable l _
  · rw [hnet] at hup
    rw [linkChange_of_change hl hp h, if_pos hup]
    exact linkNoted_only l up d
  · rw [hnet] at hdown
    rw [linkChange_of_change hl hp h, if_neg (by simp [hdown])]
    exact ⟨backboneLost_grant _, portCause_not_owner 0 _⟩

/-! ### Duplicate discard -/

/-- A frame that names the other LAN is counted. -/
def lanNoted (l lan : Nat) (d : Dev) : Dev :=
  if lan = l then d else raise 98 0 [] (modNet (fun n => { n with wrongLan := incSat 32 n.wrongLan }) d)

theorem lanNoted_net (l lan : Nat) (d : Dev) : (lanNoted l lan d).net =
    { d.net with wrongLan := if lan = l then d.net.wrongLan else min (2 ^ 32 - 1) (d.net.wrongLan + 1) } := by
  unfold lanNoted
  split
  · rfl
  · rw [raise_net, modNet_net, incSat_eq]

theorem lanNoted_sys (l lan : Nat) (d : Dev) : (lanNoted l lan d).sys = d.sys := sys_of_view (by simp [lanNoted])

/-- The nodes of the duplicate discard that are still remembered. -/
def knownNodes (d : Dev) : List PrpNode := freshNodes (tussNow d) d.net.prp

/-- The node a frame comes from, where it is known. -/
def knownNode (src : Nat) (d : Dev) : Option PrpNode := (knownNodes d).find? (fun n => n.mac == src)

/-- The frame's sequence was seen from its node. -/
def seenBefore (src seq : Nat) (d : Dev) : Bool := (knownNode src d).any (fun n => n.seqs.any (fun e => e.1 == seq))

theorem knownNodes_lanNoted (l lan : Nat) (d : Dev) : knownNodes (lanNoted l lan d) = knownNodes d := by
  rw [knownNodes, tussNow, lanNoted_sys, lanNoted_net, knownNodes, tussNow]

theorem knownNode_lanNoted (l lan src : Nat) (d : Dev) : knownNode src (lanNoted l lan d) = knownNode src d := by
  rw [knownNode, knownNodes_lanNoted, knownNode]

theorem seenBefore_lanNoted (l lan src seq : Nat) (d : Dev) : seenBefore src seq (lanNoted l lan d) = seenBefore src seq d := by
  rw [seenBefore, knownNode_lanNoted, seenBefore]

/-- A repeated sequence is discarded. -/
theorem prpPass_of_seen {src seq : Nat} (h : seenBefore src seq d = true) :
    prpPass src seq d = (modNet (fun n => { n with prp := knownNodes d, dupDiscarded := incSat 32 n.dupDiscarded }) d, false) := by
  obtain ⟨n, hn, hseq⟩ := (Option.any_eq_true ..).1 h
  rw [knownNode, knownNodes] at hn
  simp only [prpPass, hn, hseq]
  rfl

/-- A new sequence of a known node is remembered there. -/
theorem prpPass_of_known {src seq : Nat} {n : PrpNode} (hn : knownNode src d = some n) (h : seenBefore src seq d = false) :
    prpPass src seq d = (modNet (fun y => { y with
      prp := (knownNodes d).map (fun x => if x.mac = src then { x with seqs := (seq, tussNow d) :: x.seqs } else x) }) d, true) := by
  rw [seenBefore, hn, Option.any_some] at h
  rw [knownNode, knownNodes] at hn
  simp only [prpPass, hn, h]
  rfl

/-- A node not known is remembered where there is room. -/
theorem prpPass_of_unknown {src : Nat} (seq : Nat) (hn : knownNode src d = none) (h : (knownNodes d).length < 256) :
    prpPass src seq d = (modNet (fun y => { y with prp := ⟨src, [(seq, tussNow d)]⟩ :: knownNodes d }) d, true) := by
  rw [knownNode, knownNodes] at hn
  simp only [prpPass, hn]
  exact if_pos h

/-- Without room its frame is passed on and counted. -/
theorem prpPass_of_full {src : Nat} (seq : Nat) (hn : knownNode src d = none) (h : 256 ≤ (knownNodes d).length) :
    prpPass src seq d =
      (raise 99 0 [] (modNet (fun n => { n with prp := knownNodes d, dupPassed := incSat 32 n.dupPassed }) d), true) := by
  rw [knownNode, knownNodes] at hn
  simp only [prpPass, hn]
  exact if_neg (not_lt.2 h)

/-- A frame whose sequence was not seen is passed on; it touches the nodes and the count of frames passed alone. -/
theorem prpPass_net {src seq : Nat} (h : seenBefore src seq d = false) : (prpPass src seq d).2 = true ∧
    (prpPass src seq d).1.net =
      { d.net with prp := (prpPass src seq d).1.net.prp, dupPassed := (prpPass src seq d).1.net.dupPassed } := by
  cases hn : knownNode src d with
  | some n =>
    rw [prpPass_of_known hn h]
    exact ⟨rfl, rfl⟩
  | none =>
    by_cases hlen : (knownNodes d).length < 256
    · rw [prpPass_of_unknown seq hn hlen]
      exact ⟨rfl, rfl⟩
    · rw [prpPass_of_full seq hn (not_lt.1 hlen)]
      simp

/-- A frame of a known node, or of any node while there is room, is remembered. -/
theorem prpPass_remembers {src seq : Nat} (h : seenBefore src seq d = false)
    (hroom : (knownNode src d).isSome = true ∨ (knownNodes d).length < 256) :
    (∃ x ∈ (prpPass src seq d).1.net.prp, x.mac = src ∧ (seq, tussNow d) ∈ x.seqs) ∧
      (prpPass src seq d).1.net.dupPassed = d.net.dupPassed := by
  cases hn : knownNode src d with
  | some n =>
    rw [prpPass_of_known hn h]
    have hmac : n.mac = src := by simpa using List.find?_some hn
    refine ⟨⟨_, List.mem_map.2 ⟨n, List.mem_of_find?_eq_some hn, rfl⟩, ?_, ?_⟩, rfl⟩
    all_goals simp [hmac]
  | none =>
    rw [prpPass_of_unknown seq hn (hroom.resolve_left (by simp [hn]))]
    exact ⟨⟨_, List.mem_cons_self, rfl, List.mem_singleton.2 rfl⟩, rfl⟩

/-! ### MACsec reception -/

theorem prmGet_of_prm {e : Dev} (h : e.prm = d.prm) (id : Nat) : prmGet e id = prmGet d id := by rw [prmGet, h, prmGet]

theorem rxSc_of_listMod {e : Dev} {sc : Nat} {f : RxSc → RxSc} (h : e.net.rxScs = listMod d.net.rxScs sc f)
    (hsc : sc < d.net.rxScs.length) : rxSc e sc = f (rxSc d sc) := by
  rw [rxSc, h, listMod_getD, if_pos ⟨rfl, hsc⟩, rxSc]

/-- Reception touches the receive channels alone. -/
theorem macsecReceive_net (sc an pn : Nat) (secured valid : Bool) (d : Dev) :
    (macsecReceive sc an pn secured valid d).net = { d.net with rxScs := (macsecReceive sc an pn secured valid d).net.rxScs } := by
  unfold macsecReceive macsecFail
  split_ifs
  · rfl
  · simp
  · split
    · simp [modRxSc]
    · split <;> simp [modRxSc]

theorem macsecReceive_of_plain {sc an pn : Nat} {secured valid : Bool} (h : prmGet d 0x0F08 = 0 ∨ secured = false) :
    (macsecReceive sc an pn secured valid d).net.rxScs = d.net.rxScs := by
  unfold macsecReceive
  split
  · rfl
  · next hon => simp [h.resolve_left hon]

/-- What a frame's protection needs: it verifies, and its packet number is not 0 and not behind the replay window. -/
def SaTakes (d : Dev) (pn : Nat) (valid : Bool) (sa : Sa) : Prop := valid = true ∧ pn ≠ 0 ∧ sa.pn ≤ pn + prmGet d 0x0F09

section Secured

variable {sc an pn : Nat} {valid : Bool} (hon : prmGet d 0x0F08 ≠ 0) (hsc : sc < d.net.rxScs.length)
include hon hsc

/-- A frame that is taken moves the association's next packet number. -/
theorem macsecReceive_of_good {sa : Sa} (hsa : (rxSc d sc).sas.getD an none = some sa) (h : SaTakes d pn valid sa) :
    rxSc (macsecReceive sc an pn true valid d) sc =
      { rxSc d sc with sas := setSa an (some { sa with pn := max sa.pn (pn + 1) }) (rxSc d sc).sas } := by
  obtain ⟨hv, hpn, hwin⟩ := h
  have heq : macsecReceive sc an pn true valid d =
      modRxSc sc (fun x => { x with sas := setSa an (some { sa with pn := max sa.pn (pn + 1) }) x.sas }) d := by
    simp [-List.getD_eq_getElem?_getD, macsecReceive, hon, hsa, hv, hpn, hwin]
  rw [heq]
  exact rxSc_of_listMod (f := fun x => { x with sas := setSa an _ x.sas }) rfl hsc

/-- Another one fails. -/
theorem macsecReceive_of_bad (h : ∀ sa, (rxSc d sc).sas.getD an none = some sa → ¬ SaTakes d pn valid sa) :
    rxSc (macsecReceive sc an pn true valid d) sc =
      { rxSc d sc with failures := min (2 ^ 32 - 1) ((rxSc d sc).failures + 1) } := by
  have heq : macsecReceive sc an pn true valid d = macsecFail sc d := by
    unfold macsecReceive
    rw [if_neg hon, if_neg (by decide)]
    split
    · rfl
    · next sa hsa =>
      refine if_pos ?_
      have hbad := h sa hsa
      simp only [SaTakes, not_and, not_le] at hbad
      cases valid with
      | false => rfl
      | true =>
        by_cases hpn : pn = 0
        · simp [hpn]
        · simpa [hpn] using hbad rfl hpn
  rw [heq, rxSc_of_listMod (f := fun x => { x with failures := incSat 32 x.failures }) (congrArg Net.rxScs (raise_net ..)) hsc, incSat_eq]

end Secured

/-! ### A received frame -/

theorem prpReceive_of_not_taken {l src seq lan sc an pn len : Nat} {secured valid : Bool}
    (h : ¬ d.net.linkUp.getD l false = true ∨ 2100 < len) : prpReceive l src seq lan sc an pn len secured valid d = d :=
  if_pos (by simpa using h)

section Received

variable {l src seq lan sc an pn len : Nat} {secured valid : Bool} (hup : d.net.linkUp.getD l false = true) (hlen : len ≤ 2100)
include hup hlen

theorem prpReceive_of_taken : prpReceive l src seq lan sc an pn len secured valid d =
    if (prpPass src seq (lanNoted l lan d)).2 = true then macsecReceive sc an pn secured valid (prpPass src seq (lanNoted l lan d)).1
    else (prpPass src seq (lanNoted l lan d)).1 :=
  if_neg (by simp [-List.getD_eq_getElem?_getD, hup, hlen])

theorem prpReceive_of_repeated (h : seenBefore src seq d = true) : prpReceive l src seq lan sc an pn len secured valid d =
    modNet (fun n => { n with prp := knownNodes d, dupDiscarded := incSat 32 n.dupDiscarded }) (lanNoted l lan d) := by
  have hpass := prpPass_of_seen (d := lanNoted l lan d) (by rwa [seenBefore_lanNoted])
  rw [prpReceive_of_taken hup hlen, hpass, knownNodes_lanNoted]
  rfl

theorem prpReceive_of_new (h : seenBefore src seq d = false) : prpReceive l src seq lan sc an pn len secured valid d =
    macsecReceive sc an pn secured valid (prpPass src seq (lanNoted l lan d)).1 := by
  have hpass := (prpPass_net (d := lanNoted l lan d) (by rwa [seenBefore_lanNoted])).1
  rw [prpReceive_of_taken hup hlen, if_pos hpass]

end Received

end Sys2Proof.Laws
end

section
/-!
The backbone's supervision frames, time synchronisation and addresses (R106, R329, R330, R334).
-/
namespace Sys2Proof.Laws

open Sys2Proof.Machine

variable {s : State} {d : Dev}

/-! ### A received frame as a whole -/

/-- A received frame at its LAN and the duplicate discard. -/
def frameNoted (l src seq lan : Nat) (d : Dev) : Dev := (prpPass src seq (lanNoted l lan d)).1

theorem frameNoted_prm (l src seq lan : Nat) (d : Dev) : (frameNoted l src seq lan d).prm = d.prm :=
  prm_of_view (by simp [frameNoted, lanNoted])

theorem frameNoted_net {src seq : Nat} (h : seenBefore src seq d = false) (l lan : Nat) : (frameNoted l src seq lan d).net =
    { d.net with prp := (frameNoted l src seq lan d).net.prp, dupPassed := (frameNoted l src seq lan d).net.dupPassed
                 wrongLan := if lan = l then d.net.wrongLan else min (2 ^ 32 - 1) (d.net.wrongLan + 1) } := by
  have hpass := (prpPass_net (d := lanNoted l lan d) (by rwa [seenBefore_lanNoted])).2
  rw [lanNoted_net] at hpass
  exact hpass

theorem frameNoted_remembers {src seq : Nat} (h : seenBefore src seq d = false) (l lan : Nat)
    (hroom : (knownNode src d).isSome = true ∨ (knownNodes d).length < 256) :
    (∃ x ∈ (frameNoted l src seq lan d).net.prp, x.mac = src ∧ (seq, tussNow d) ∈ x.seqs) ∧
      (frameNoted l src seq lan d).net.dupPassed = d.net.dupPassed := by
  have hpass := prpPass_remembers (d := lanNoted l lan d) (src := src) (seq := seq) (by rwa [seenBefore_lanNoted])
    (by rwa [knownNode_lanNoted, knownNodes_lanNoted])
  rw [tussNow, lanNoted_sys, lanNoted_net] at hpass
  exact hpass

theorem frameNoted_of_full {src : Nat} (seq l lan : Nat) (hn : knownNode src d = none) (h : 256 ≤ (knownNodes d).length) :
    (frameNoted l src seq lan d).net.prp = knownNodes d ∧
      (frameNoted l src seq lan d).net.dupPassed = min (2 ^ 32 - 1) (d.net.dupPassed + 1) := by
  have hpass := prpPass_of_full (d := lanNoted l lan d) seq (by rwa [knownNode_lanNoted]) (by rwa [knownNodes_lanNoted])
  rw [frameNoted, hpass, raise_net, modNet_net, knownNodes_lanNoted, lanNoted_net, incSat_eq]
  exact ⟨rfl, rfl⟩

/-- What a frame that is passed on makes of the backbone's group. -/
theorem prpReceive_net_of_new {l src seq lan sc an pn len : Nat} {secured valid : Bool} (hup : d.net.linkUp.getD l false = true)
    (hlen : len ≤ 2100) (h : seenBefore src seq d = false) : (prpReceive l src seq lan sc an pn len secured valid d).net =
      { (frameNoted l src seq lan d).net with rxScs := (macsecReceive sc an pn secured valid (frameNoted l src seq lan d)).net.rxScs } := by
  rw [prpReceive_of_new hup hlen h, macsecReceive_net]
  rfl

/-! ### Frames of no requester -/

theorem onLinks_net (controlled : Bool) (data : Bytes) (d : Dev) :
    (onLinks controlled data d).net = { d.net with rctSeq := wrapU 16 (d.net.rctSeq + 1) } := by
  unfold onLinks
  extract_lets f
  rw [countRct, modNet_net, net_of_view (view_foldl d _ [0, 1] (by simp))]

theorem onLinks_mem {l : Nat} (controlled : Bool) (data : Bytes) (hl : l ≤ 1) (hup : d.net.linkUp.getD l false = true) :
    ∃ f, Out.link l data f ∈ (onLinks controlled data d).out := by
  refine ⟨nextFraming (Config.otherPcp % 8) controlled d, ?_⟩
  unfold onLinks
  extract_lets f
  rw [countRct, modNet_out, List.foldl_cons, List.foldl_cons, List.foldl_nil]
  obtain rfl | rfl : l = 0 ∨ l = 1 := by omega
  · rw [if_pos hup]
    split
    · exact .tail _ (.head _)
    · exact .head _
  · rw [if_pos]
    · exact .head _
    · split <;> exact hup

theorem supervision_of_down (h : d.net.linkUp.any id = false) : supervision d = d := if_pos (by simp [h])

/-- The bytes of the supervision frame. PRESUMED (assumption log, entry 24). -/
def supervisionBytes (d : Dev) : Bytes := be 2 1 ++ be 2 d.net.prpSeq ++ le 1 20 ++ le 1 6 ++ macBytes d ++ zeros 2

theorem supervision_of_up (h : d.net.linkUp.any id = true) : supervision d =
    modNet (fun n => { n with prpSeq := wrapU 16 (n.prpSeq + 1),
                              supervisionAt := tussNow (advanceTuss d.net.supervisionAt d) + 2000000000 })
      (onLinks false (supervisionBytes d) (advanceTuss d.net.supervisionAt d)) :=
  if_neg (by simp [h])

theorem supervision_spec (h : d.net.linkUp.any id = true) :
    (supervision d).sys = (advanceTuss d.net.supervisionAt d).sys ∧
    (supervision d).net = { d.net with prpSeq := wrapU 16 (d.net.prpSeq + 1), rctSeq := wrapU 16 (d.net.rctSeq + 1),
                                       supervisionAt := tussNow (supervision d) + 2000000000 } ∧
    ∀ l, l ≤ 1 → d.net.linkUp.getD l false = true → ∃ f, Out.link l (supervisionBytes d) f ∈ (supervision d).out := by
  have hsys : (supervision d).sys = (advanceTuss d.net.supervisionAt d).sys := by
    rw [supervision_of_up h, modNet_sys]
    exact sys_of_view (by simp)
  refine ⟨hsys, ?_, fun l hl hup => ?_⟩
  · rw [tussNow, hsys, supervision_of_up h, modNet_net, onLinks_net]
    rfl
  · rw [supervision_of_up h, modNet_out]
    exact onLinks_mem (d := advanceTuss d.net.supervisionAt d) _ _ hl hup

/-! ### The slave port -/

theorem gptpGet_of_gptp {e : Dev} (h : e.net.gptp = d.net.gptp) : gptpGet e = gptpGet d :=
  funext fun k => by rw [gptpGet, h, gptpGet]

theorem bestPort_of_gptp {e : Dev} (h : e.net.gptp = d.net.gptp) : bestPort e = bestPort d := by
  rw [bestPort, gptpGet_of_gptp h, bestPort]

theorem asCapable_of_bestPort {b : Nat} (h : bestPort d = some b) : (gptpGet d b).asCapable = true := by
  unfold bestPort at h
  extract_lets x y okX okY at h
  split_ifs at h with hx hy
  · simp only [okX, Bool.and_eq_true] at hx
    obtain rfl : 0 = b := by simpa using h
    exact hx.1.1
  · simp only [okY, Bool.and_eq_true] at hy
    obtain rfl : 1 = b := by simpa using h
    exact hy.1

/-- The slave port is `l`, and its grandmaster the device's. -/
def slaveMoved (l : Nat) (d : Dev) : Dev :=
  modTim (fun t => { t with grandmaster := (gptpGet d l).gm }) (modNet (fun n => { n with slave := some l }) d)

/-- The slave port stays where it is under the best grandmaster, and moves to the best port else. -/
theorem selectSlave_cases {b : Nat} (h : bestPort d = some b) :
    (selectSlave d = d ∧ ∃ k, d.net.slave = some k ∧ (gptpGet d k).asCapable = true ∧ (gptpGet d k).gm = (gptpGet d b).gm) ∨
      selectSlave d = slaveMoved b d ∨ selectSlave d = raise 104 0 [] (slaveMoved b d) := by
  simp only [selectSlave, h]
  cases hs : d.net.slave with
  | none => exact .inr (.inl rfl)
  | some k =>
    simp only [Bool.and_eq_true, beq_iff_eq]
    split
    · next hkept => exact .inl ⟨rfl, k, rfl, hkept⟩
    · refine .inr ?_
      split
      · exact .inr rfl
      · exact .inl rfl

theorem selectSlave_of_none (h : bestPort d = none) : selectSlave d = d := by
  simp only [selectSlave, h]

/-- Choosing the slave port sets it and the grandmaster it follows. -/
theorem selectSlave_sets (d : Dev) :
    (selectSlave d).net = { d.net with slave := (selectSlave d).net.slave } ∧
    (selectSlave d).tim = { d.tim with grandmaster := (selectSlave d).tim.grandmaster } := by
  cases hb : bestPort d with
  | none =>
    rw [selectSlave_of_none hb]
    exact ⟨rfl, rfl⟩
  | some b =>
    obtain ⟨h, -⟩ | h | h := selectSlave_cases hb
    · rw [h]
      exact ⟨rfl, rfl⟩
    · rw [h]
      exact ⟨rfl, rfl⟩
    · rw [h, raise_net, raise_tim]
      exact ⟨rfl, rfl⟩

theorem selectSlave_gptp (d : Dev) : (selectSlave d).net.gptp = d.net.gptp := by rw [(selectSlave_sets d).1]

/-- The slave port is one under the best grandmaster; without such a port it stays. -/
def SlaveSelected (d e : Dev) : Prop :=
  (bestPort e = none → e.net.slave = d.net.slave) ∧
  ∀ b, bestPort e = some b →
    ∃ k, e.net.slave = some k ∧ (gptpGet e k).asCapable = true ∧ (gptpGet e k).gm = (gptpGet e b).gm

theorem slaveSelected_selectSlave (d : Dev) : SlaveSelected d (selectSlave d) := by
  rw [SlaveSelected, bestPort_of_gptp (selectSlave_gptp d), gptpGet_of_gptp (selectSlave_gptp d)]
  refine ⟨fun hb => by rw [selectSlave_of_none hb], fun b hb => ?_⟩
  obtain ⟨h, k, hk⟩ | h | h := selectSlave_cases hb
  · rw [h]
    exact ⟨k, hk⟩
  · rw [h]
    exact ⟨b, rfl, asCapable_of_bestPort hb, rfl⟩
  · rw [h, raise_net]
    exact ⟨b, rfl, asCapable_of_bestPort hb, rfl⟩

/-! ### 802.1AS messages -/

theorem gptpReceive_of_ignored {l domain kind gm : Nat} {interval value rate : Int}
    (h : ¬ d.net.linkUp.getD l false = true ∨ domain ≠ 0 ∨ 2 < kind ∨ (kind = 0 ∧ (interval < -5 ∨ 0 < interval)) ∨
      (kind = 0 ∧ (d.net.slave ≠ some l ∨ (gptpGet d l).asCapable = false))) :
    gptpReceive l domain kind gm interval value rate d = d := by
  unfold gptpReceive
  rcases h with h | h | h | ⟨rfl, h⟩ | ⟨rfl, h⟩
  · exact if_pos (by simp [-List.getD_eq_getElem?_getD, h])
  · exact if_pos (by simp [h])
  · split
    · rfl
    · rw [if_neg (by omega : ¬ kind = 1), if_neg (by omega : ¬ kind = 2), if_neg fun hk => absurd hk.1 (by omega)]
  · exact if_pos (by simp [h])
  · have hslave : ¬ (d.net.slave = some l ∧ (gptpGet d l).asCapable = true) :=
      fun hk => h.elim (fun hs => hs hk.1) fun hs => by simp [hs] at hk
    split
    · rfl
    · rw [if_neg Nat.zero_ne_one, if_neg (by decide : ¬ 0 = 2), if_neg fun hk => hslave hk.2]

section Received

variable {l : Nat} (hup : d.net.linkUp.getD l false = true)
include hup

theorem gptpReceive_of_delay (gm : Nat) (interval value rate : Int) : gptpReceive l 0 1 gm interval value rate d =
    selectSlave (setCapable l (decide (value < 800)) (modGptp l (fun g => { g with delay := value.toNat }) d)) := by
  simp [-List.getD_eq_getElem?_getD, gptpReceive, hup]

theorem gptpReceive_of_announce (gm : Nat) (interval value rate : Int) : gptpReceive l 0 2 gm interval value rate d =
    selectSlave (modGptp l (fun g => { g with gm := gm }) d) := by
  simp [-List.getD_eq_getElem?_getD, gptpReceive, hup]

theorem gptpReceive_of_sync {interval : Int} (gm : Nat) (value rate : Int) (hlow : -5 ≤ interval) (hhigh : interval ≤ 0)
    (hslave : d.net.slave = some l) (hcap : (gptpGet d l).asCapable = true) :
    gptpReceive l 0 0 gm interval value rate d = noteRecommended (servoSync value rate d) := by
  simp [-List.getD_eq_getElem?_getD, gptpReceive, hup, hslave, hcap, hlow, hhigh]

end Received

/-! ### The servo -/

theorem servoTo_tim (x : Servo) (d : Dev) : (servoTo x d).tim = { d.tim with servo := x } := by
  unfold servoTo
  split
  · next h => rw [← beq_iff_eq.1 h]
  · exact raise_tim _ _ _ _

/-- The rate the servo takes of a Sync. -/
theorem clampI_eq_max_min (x : Int) : clampI (-200000) 200000 x = max (-200000) (min 200000 x) := by
  unfold clampI
  split_ifs <;> omega

/-- A Sync within 1 µs leaves a locked servo locked, with its offset, its rate and a sample of the rate. -/
theorem servoSync_of_locked {off : Int} (rate : Int) (hs : d.tim.servo = .locked) (hlow : -1000 ≤ off) (hhigh : off ≤ 1000) :
    servoSync off rate d = modTim (fun t => { t with
      lastSync := tussNow d, offset := off, rate := clampI (-200000) 200000 rate, bigOffsets := 0
      inBandSince := some (t.inBandSince.getD (tussNow d))
      rateSamples := ((tussNow d, clampI (-200000) 200000 rate, rxTemp d) :: t.rateSamples).filter
        (fun x => decide (tussNow d ≤ x.1 + 600000000000)) }) d := by
  have hsmall : ¬ (off < -1000000 ∨ 1000000 < off) := by omega
  simp only [servoSync, modTim_tim, hs, if_neg hsmall]
  simp [hlow, hhigh, modTim, tussNow, rxTemp, hs]

/-- The servo begins to lock at a Sync. -/
def lockingBegun (off rate : Int) (d : Dev) : Dev :=
  modTim (fun t => { t with stepUsed := false, inBandSince := none, bigOffsets := 0, rateSamples := [] })
    (servoTo .locking (modTim (fun t => { t with
      lastSync := tussNow d, offset := off, rate := clampI (-200000) 200000 rate,
      bigOffsets := if off < -1000000 ∨ 1000000 < off then t.bigOffsets + 1 else 0 }) d))

/-- Whether a Sync lies within 1 µs, and since when. -/
def bandNoted (off : Int) (d : Dev) : Dev :=
  modTim (fun t => { t with
    inBandSince := if decide (-1000 ≤ off ∧ off ≤ 1000) = true then some (t.inBandSince.getD (tussNow d)) else none }) d

theorem lockingBegun_tim (off rate : Int) (d : Dev) : (lockingBegun off rate d).tim = { d.tim with
    servo := .locking, lastSync := tussNow d, offset := off, rate := clampI (-200000) 200000 rate, stepUsed := false,
    inBandSince := none, bigOffsets := 0, rateSamples := [] } := by
  rw [lockingBegun, modTim_tim, servoTo_tim, modTim_tim]

theorem stepTime_tim (k : Int) (d : Dev) :
    (stepTime k d).tim = { d.tim with stepFlag := true, stepUsed := true, inBandSince := none } := by
  simp [stepTime, shiftInstants]

theorem stepTime_now (k : Int) (d : Dev) : (stepTime k d).sys.now = ((d.sys.now : Int) + k).toNat := by
  simp [stepTime, shiftInstants, shiftTime]

/-- From free-running or holdover a Sync begins the locking; beyond 100 µs it steps the time. -/
theorem servoSync_of_unlocked (off rate : Int) (hs : d.tim.servo = .free ∨ d.tim.servo = .holdover) : servoSync off rate d =
    bandNoted off (if off < -100000 ∨ 100000 < off then stepTime (-off) (lockingBegun off rate d) else lockingBegun off rate d) := by
  have henter : (d.tim.servo == .free || d.tim.servo == .holdover) = true := by simpa using hs
  have htim := lockingBegun_tim off rate d
  unfold servoSync
  extract_lets r d0 back enter d1 d2 inBand d3
  have h1 : d1 = lockingBegun off rate d := if_pos (by simp only [enter, d0, modTim_tim, henter, Bool.true_or])
  have h2 : d2 = if off < -100000 ∨ 100000 < off then stepTime (-off) (lockingBegun off rate d) else lockingBegun off rate d := by
    simp [d2, h1, htim]
  have h3 : d3.tim.servo = .locking := by
    simp only [d3, h2, modTim_tim]
    split
    · rw [stepTime_tim, htim]
    · rw [htim]
  rw [if_neg (by simp [h3]), ← h2]
  rfl

theorem servoLock_of_band {since : Nat} (hs : d.tim.servo = .locking) (hb : d.tim.inBandSince = some since) : servoLock d =
    modTim (fun x => { x with lockSince := tussNow (advanceTuss (since + 10000000000) d), rateSamples := [], bigOffsets := 0 })
      (servoTo .locked (advanceTuss (since + 10000000000) d)) := by
  simp only [servoLock, hs, hb]

theorem servoLock_of_not (h : d.tim.servo ≠ .locking ∨ d.tim.inBandSince = none) : servoLock d = d := by
  unfold servoLock
  split
  · next hs hb => simp [hs, hb] at h
  · rfl

theorem servoHoldover_of_synced (h : d.tim.servo = .locked ∨ d.tim.servo = .locking) :
    servoHoldover d = servoTo .holdover (advanceTuss (d.tim.lastSync + 3000000000) d) :=
  if_pos (by simpa using h)

theorem servoHoldover_of_not (h : d.tim.servo = .free ∨ d.tim.servo = .holdover) : servoHoldover d = d :=
  if_neg (by rcases h with h | h <;> simp [h])

/-! ### The slave port's change, and addresses -/

theorem slaveReselect_of_none (h : d.net.slave = none) : slaveReselect d = d := by
  simp only [slaveReselect, h]

theorem slaveReselect_of_some {l : Nat} (h : d.net.slave = some l) : slaveReselect d =
    if (gptpGet d (1 - l)).asCapable = true ∧ (gptpGet d (1 - l)).gm = (gptpGet d l).gm then
      raise 104 0 [] (modNet (fun n => { n with slave := some (1 - l) }) d)
    else d := by
  simp only [slaveReselect, h, Bool.and_eq_true, beq_iff_eq]

/-- The address of the protocol a message is of. -/
def ownAddress (kind : Nat) (d : Dev) : Bytes := if kind = 0 ∨ kind = 2 then d.net.ip4.addr.take 4 else d.net.ip6.addr

section Address

variable {l kind mac : Nat} {target sender : Bytes}

theorem arpNd_of_ignored (h : ¬ d.net.linkUp.getD l false = true ∨ (ownAddress kind d).all (· == 0#8) = true ∨ 3 < kind) :
    arpNd l kind target sender mac d = d :=
  if_pos (by simpa [-List.getD_eq_getElem?_getD, -List.all_eq_true, or_assoc, ownAddress] using h)

variable (hup : d.net.linkUp.getD l false = true) (hown : (ownAddress kind d).all (· == 0#8) = false) (hkind : kind ≤ 3)
include hup hown hkind

/-- A message that is heard is a conflict, a request that is answered, or nothing. -/
theorem arpNd_of_heard : arpNd l kind target sender mac d =
    if sender = ownAddress kind d ∧ be 6 mac ≠ macBytes d then raise 105 0 [] d
    else if target = ownAddress kind d ∧ txReady d 0 = true then
      txFrame (onLinks true (le 1 kind ++ ownAddress kind d ++ macBytes d ++ sender ++ be 6 mac) d)
    else d := by
  have hheard : ¬ (!d.net.linkUp.getD l false || (ownAddress kind d).all (· == 0#8) || decide (3 < kind)) = true := by
    rw [hup, hown]
    simpa using hkind
  refine (if_neg hheard).trans ?_
  simp only [Bool.and_eq_true, beq_iff_eq, bne_iff_ne]
  rfl

end Address

theorem txFrame_out (d : Dev) : (txFrame d).out = d.out := out_of_view (by simp)

end Sys2Proof.Laws
end

section
/-!
The backbone port's events against the obligation: links, redundancy, MACsec, time and addresses.
-/
namespace Sys2Proof.Laws

open Sys2Proof.Machine

variable {s : State} {d : Dev}

theorem linkChange_completes (hc : Calm s.dev) (l : Nat) (up : Bool) :
    Completes (.linkStateChange l up) s (linkChange l up s.fresh) :=
  completes_of _ _ s rfl (linkChange_calm l up (calm_fresh hc))

theorem linkChange_only (l : Nat) (up : Bool) (d : Dev) :
    Only [.saf, .slu, .peat, .net, .pcie, .kmp, .ev, .writes, .out] d (linkChange l up d) :=
  only_of_views fun p hp => by cases p <;> simp at hp ⊢

/-- A frame that is passed on: what the redundancy and MACsec make of the backbone's group. -/
theorem prpReceive_spec {l src seq lan sc an pn len : Nat} {sec valid : Bool} (hup : d.net.linkUp.getD l false = true)
    (hlen : len ≤ 2100) (h : seenBefore src seq d = false) (e : Dev) (he : prpReceive l src seq lan sc an pn len sec valid d = e) :
    e.net.dupDiscarded = d.net.dupDiscarded ∧
    ((knownNode src d).isSome = true ∨ (knownNodes d).length < 256 →
      (∃ x ∈ e.net.prp, x.mac = src ∧ (seq, tussNow d) ∈ x.seqs) ∧ e.net.dupPassed = d.net.dupPassed) ∧
    (knownNode src d = none → 256 ≤ (knownNodes d).length →
      e.net.prp = knownNodes d ∧ e.net.dupPassed = min (2 ^ 32 - 1) (d.net.dupPassed + 1)) ∧
    (prmGet d 0x0F08 = 0 ∨ sec = false → e.net.rxScs = d.net.rxScs) ∧
    (prmGet d 0x0F08 ≠ 0 → sec = true → sc < d.net.rxScs.length →
      (∀ sa, (rxSc d sc).sas.getD an none = some sa → SaTakes d pn valid sa → rxSc e sc =
        { rxSc d sc with sas := setSa an (some { sa with pn := max sa.pn (pn + 1) }) (rxSc d sc).sas }) ∧
      ((∀ sa, (rxSc d sc).sas.getD an none = some sa → ¬ SaTakes d pn valid sa) → rxSc e sc =
        { rxSc d sc with failures := min (2 ^ 32 - 1) ((rxSc d sc).failures + 1) })) := by
  have hnet := prpReceive_net_of_new (lan := lan) (sc := sc) (an := an) (pn := pn) (secured := sec) (valid := valid) hup hlen h
  have hnoted := frameNoted_net h l lan
  have hprm := prmGet_of_prm (frameNoted_prm l src seq lan d)
  have hrx : (frameNoted l src seq lan d).net.rxScs = d.net.rxScs := by rw [hnoted]
  have hsc : rxSc (frameNoted l src seq lan d) sc = rxSc d sc := by rw [rxSc, hrx, rxSc]
  have hrx' : rxSc e sc = rxSc (macsecReceive sc an pn sec valid (frameNoted l src seq lan d)) sc := by
    rw [rxSc, ← he, hnet, rxSc]
  subst he
  refine ⟨by rw [hnet, hnoted], fun hroom => ?_, fun hn hfull => ?_, fun hplain => ?_, fun hon hsec hlt => ⟨fun sa hsa hgood => ?_,
    fun hbad => ?_⟩⟩
  · rw [hnet]
    exact frameNoted_remembers h l lan hroom
  · rw [hnet]
    exact frameNoted_of_full seq l lan hn hfull
  · rw [hnet, ← hrx]
    exact macsecReceive_of_plain (by rwa [hprm])
  · subst hsec
    rw [hrx', ← hsc]
    refine macsecReceive_of_good (by rwa [hprm]) (by rwa [hrx]) (by rwa [hsc]) ?_
    rwa [SaTakes, hprm]
  · subst hsec
    rw [hrx', ← hsc]
    refine macsecReceive_of_bad (by rwa [hprm]) (by rwa [hrx]) ?_
    simpa only [SaTakes, hprm, hsc] using hbad

theorem prpReceive_wrongLan {l src seq lan sc an pn len : Nat} {sec valid : Bool} (hup : d.net.linkUp.getD l false = true)
    (hlen : len ≤ 2100) : (prpReceive l src seq lan sc an pn len sec valid d).net.wrongLan =
      if lan = l then d.net.wrongLan else min (2 ^ 32 - 1) (d.net.wrongLan + 1) := by
  cases h : seenBefore src seq d with
  | true => rw [prpReceive_of_repeated hup hlen h, modNet_net, lanNoted_net]
  | false => rw [prpReceive_net_of_new hup hlen h, frameNoted_net h]

theorem prpReceive_net_of_repeated {l src seq lan sc an pn len : Nat} {sec valid : Bool} (hup : d.net.linkUp.getD l false = true)
    (hlen : len ≤ 2100) (h : seenBefore src seq d = true) : (prpReceive l src seq lan sc an pn len sec valid d).net =
      { d.net with prp := knownNodes d, wrongLan := (prpReceive l src seq lan sc an pn len sec valid d).net.wrongLan
                   dupDiscarded := min (2 ^ 32 - 1) (d.net.dupDiscarded + 1) } := by
  rw [prpReceive_of_repeated hup hlen h, modNet_net, lanNoted_net, incSat_eq]

/-! ### Time messages -/

theorem gptpReceive_completes (hc : Calm s.dev) (l domain kind gm : Nat) (interval value rate : Int) :
    Completes (.gptpMessageReceive l domain kind gm interval value rate) s
      (gptpReceive l domain kind gm interval value rate s.fresh) :=
  completes_of_views rfl rfl hc (by simp) (by simp) (by simp)

/-- A neighbour delay is noted, and its port is asCapable below 800 ns. -/
theorem setCapable_modGptp_net (l : Nat) (b : Bool) (t : Nat) (d : Dev) :
    (setCapable l b (modGptp l (fun g => { g with delay := t }) d)).net =
      { d.net with gptp := listMod d.net.gptp l (fun g => { g with delay := t, asCapable := b }) } := by
  rw [setCapable_net, modGptp, modNet_net, listMod_listMod]
  rfl

theorem noteRecommended_sys (d : Dev) : (noteRecommended d).sys = d.sys := sys_of_view (by simp)

theorem noteRecommended_tim (d : Dev) : (noteRecommended d).tim = d.tim := tim_of_view (by simp)

/-- A message that leaves the slave port, and what is chosen after it. -/
theorem slaveSelected_of_slave {e f : Dev} (h : e.net.slave = d.net.slave) (hf : selectSlave e = f) : SlaveSelected d f := by
  have hs := slaveSelected_selectSlave e
  rwa [SlaveSelected, h, hf] at hs

/-- A Sync in band on a locked servo. -/
theorem sync_of_locked {off : Int} (rate : Int) (hs : d.tim.servo = .locked) (hlow : -1000 ≤ off) (hhigh : off ≤ 1000) (e : Dev)
    (he : noteRecommended (servoSync off rate d) = e) :
    e.tim = { d.tim with
      lastSync := tussNow d, offset := off, rate := max (-200000) (min 200000 rate), bigOffsets := 0
      inBandSince := some (d.tim.inBandSince.getD (tussNow d)), rateSamples := e.tim.rateSamples } ∧
    e.tim.rateSamples.head? = some (tussNow d, max (-200000) (min 200000 rate), rxTemp d) ∧ Only [.tim, .ev] d e := by
  subst he
  rw [noteRecommended_tim, servoSync_of_locked rate hs hlow hhigh, modTim_tim, clampI_eq_max_min]
  exact ⟨rfl, by simp, only_of_views fun p hp => by cases p <;> simp at hp ⊢⟩

/-- A Sync from free-running or holdover. -/
theorem sync_of_unlocked (off rate : Int) (hs : d.tim.servo = .free ∨ d.tim.servo = .holdover) (e : Dev)
    (he : noteRecommended (servoSync off rate d) = e) :
    e.tim.servo = .locking ∧ e.tim.offset = off ∧ e.tim.rate = max (-200000) (min 200000 rate) ∧
    (-100000 ≤ off → off ≤ 100000 → e.tim.stepUsed = false ∧ Only [.tim, .ev] d e) ∧
    (off < -100000 ∨ 100000 < off → e.tim.stepUsed = true ∧ e.sys.now = ((d.sys.now : Int) - off).toNat) := by
  have hbegun := lockingBegun_tim off rate d
  have hsys : (lockingBegun off rate d).sys = d.sys := sys_of_view (by simp [lockingBegun])
  have heq := servoSync_of_unlocked off rate hs
  subst he
  rw [noteRecommended_tim, noteRecommended_sys, heq, bandNoted, modTim_tim, modTim_sys, ← clampI_eq_max_min]
  by_cases hstep : off < -100000 ∨ 100000 < off
  · rw [if_pos hstep, stepTime_tim, stepTime_now, hbegun, hsys]
    exact ⟨rfl, rfl, rfl, fun _ _ => by omega, fun _ => ⟨rfl, rfl⟩⟩
  · rw [if_neg hstep, hbegun]
    refine ⟨rfl, rfl, rfl, fun _ _ => ⟨rfl, only_of_views fun p hp => ?_⟩, fun h => absurd h hstep⟩
    cases p <;> simp [lockingBegun] at hp ⊢

/-! ### The statement -/

/-- Settles O57: the events of the backbone port, told one by one above. The bytes of the supervision frame and the choice of
grandmaster and slave port are PRESUMED, that packet number 0 is invalid and the condition numbers are DEDUCED (assumption log, entries 24,
26, 25 and 27). -/
theorem backboneEventsAct : Obligations.BackboneEventsAct := by
  intro s hc net up clock
  refine ⟨fun l v h => ?_, fun l v hl hp _ hne => ?_, fun l src seq lan sc an pn len sec valid h => ?_,
    fun l src seq lan sc an pn len sec valid hup hlen => ?_, fun h => ?_, fun h => ?_, ?_, fun l domain kind gm interval value rate h => ?_,
    fun l gm interval value rate hup hl => ⟨?_, ?_, fun hlow hhigh hslave hcap => ⟨fun hs hlo hhi => ?_, fun hs => ?_⟩⟩,
    fun since hs hb => ?_, fun h => ?_, fun h => ?_, fun h => ?_, fun h => ?_, fun l h => ?_, fun l kind target sender mac => ?_⟩
  · exact completes_of_views rfl (linkChange_of_idle (d := s.fresh) h) hc rfl rfl rfl
  · obtain ⟨hnet, hgptp, hcap, hone, hnone⟩ := linkChange_spec (d := s.fresh) hl hp hne
    exact ⟨_, linkChange_completes hc l v, hnet, hgptp, hcap, hone, fun hdown =>
      ⟨(hnone hdown).1, not_ownsSession_iff.1 (hnone hdown).2, linkChange_only l v _⟩⟩
  · exact completes_of_views rfl (prpReceive_of_not_taken (d := s.fresh) h) hc rfl rfl rfl
  · intro nodes seen repeated good
    exact ⟨_, completes_of_views (f := prpReceive l src seq lan sc an pn len sec valid) rfl rfl hc (by simp) (by simp) (by simp),
      only_of_views fun p hp => by cases p <;> simp at hp ⊢, prpReceive_wrongLan (d := s.fresh) hup hlen,
      prpReceive_net_of_repeated (d := s.fresh) hup hlen, fun h => prpReceive_spec (d := s.fresh) hup hlen h _ rfl⟩
  · exact completes_of_views rfl (supervision_of_down (d := s.fresh) h) hc rfl rfl rfl
  · obtain ⟨hsys, hnet, hout⟩ := supervision_spec (d := s.fresh) h
    exact ⟨_, completes_of_views (f := supervision) rfl rfl hc (by simp) (by simp) (by simp), hsys, hnet, hout,
      only_of_views fun p hp => by cases p <;> simp at hp ⊢⟩
  · exact completes_of_views (f := supervisionLoss) rfl rfl hc (by simp) (by simp) (by simp)
  · exact completes_of_views rfl (gptpReceive_of_ignored (d := s.fresh) h) hc rfl rfl rfl
  · have heq := gptpReceive_of_delay (d := s.fresh) hup gm interval value rate
    have hnet := setCapable_modGptp_net l (decide (value < 800)) value.toNat s.fresh
    refine ⟨_, completes_of_views rfl heq hc (by simp) (by simp) (by simp),
      slaveSelected_of_slave (d := s.fresh) (by rw [hnet]) rfl, ?_, ?_, only_of_views fun p hp => by cases p <;> simp at hp ⊢⟩
    · rw [(selectSlave_sets _).1, hnet]
      rfl
    · rw [(selectSlave_sets _).2, tim_of_view (d := s.fresh) (by simp)]
      rfl
  · have heq := gptpReceive_of_announce (d := s.fresh) hup gm interval value rate
    refine ⟨_, completes_of_views rfl heq hc (by simp) (by simp) (by simp), slaveSelected_of_slave (d := s.fresh)
      (e := modGptp l _ s.fresh) rfl rfl,
      (selectSlave_sets _).1, (selectSlave_sets _).2, only_of_views fun p hp => by cases p <;> simp at hp ⊢⟩
  · have heq := gptpReceive_of_sync (d := s.fresh) hup gm value rate hlow hhigh hslave hcap
    exact ⟨_, gptpReceive_completes hc l 0 0 gm interval value rate, sync_of_locked (d := s.fresh) rate hs hlo hhi _ heq.symm⟩
  · have heq := gptpReceive_of_sync (d := s.fresh) hup gm value rate hlow hhigh hslave hcap
    obtain ⟨hservo, hoff, hrate, hstay, hstep⟩ := sync_of_unlocked (d := s.fresh) value rate hs _ heq.symm
    exact ⟨_, gptpReceive_completes hc l 0 0 gm interval value rate, hservo, hoff, hrate,
      heq ▸ only_of_views fun p hp => by cases p <;> simp at hp ⊢, hstay, hstep⟩
  · have heq := servoLock_of_band (d := s.fresh) hs hb
    have hsys : (servoLock s.fresh).sys = (advanceTuss (since + 10000000000) s.fresh).sys := by
      rw [heq, modTim_sys]
      exact sys_of_view (by simp)
    refine ⟨_, completes_of_views (f := servoLock) rfl rfl hc (by simp) (by simp) (by simp), hsys, ?_,
      only_of_views fun p hp => by cases p <;> simp at hp ⊢⟩
    rw [tussNow, hsys, heq, modTim_tim, servoTo_tim]
    rfl
  · exact completes_of_views rfl (servoLock_of_not (d := s.fresh) h) hc rfl rfl rfl
  · have heq := servoHoldover_of_synced (d := s.fresh) h
    refine ⟨_, completes_of_views rfl heq hc (by simp) (by simp) (by simp), ?_, servoTo_tim _ _,
      only_of_views fun p hp => by cases p <;> simp at hp ⊢⟩
    exact sys_of_view (d := advanceTuss (s.fresh.tim.lastSync + 3000000000) s.fresh) (by simp)
  · exact completes_of_views rfl (servoHoldover_of_not (d := s.fresh) h) hc rfl rfl rfl
  · exact completes_of_views rfl (slaveReselect_of_none (d := s.fresh) h) hc rfl rfl rfl
  · have heq := slaveReselect_of_some (d := s.fresh) h
    split
    · next hbest => exact completes_of_views rfl (heq.trans (if_pos hbest)) hc (by simp) (by simp) (by simp)
    · next hbest => exact completes_of_views rfl (heq.trans (if_neg hbest)) hc rfl rfl rfl
  · intro own conflict
    refine ⟨fun h => ?_, fun hup hown hkind => ?_⟩
    · exact completes_of_views rfl (arpNd_of_ignored (d := s.fresh) h) hc rfl rfl rfl
    have heq := arpNd_of_heard (d := s.fresh) (mac := mac) (target := target) (sender := sender) hup hown hkind
    refine ⟨fun h => ?_, fun h hno => ?_, fun h htarget hready => ?_⟩
    · exact completes_of_views rfl (heq.trans (if_pos h)) hc (by simp) (by simp) (by simp)
    · refine completes_of_views rfl (heq.trans ((if_neg h).trans (if_neg fun hk => ?_))) hc rfl rfl rfl
      exact hno.elim (fun hne => hne hk.1) fun hoff => Bool.false_ne_true (hoff.symm.trans hk.2)
    · refine ⟨_, completes_of_views rfl (heq.trans ((if_neg h).trans (if_pos ⟨htarget, hready⟩))) hc (by simp) (by simp) (by simp),
        only_of_views fun p hp => by cases p <;> simp at hp ⊢, fun k hk hup' => ?_⟩
      rw [txFrame_out]
      exact onLinks_mem (d := s.fresh) true _ hk hup'

end Sys2Proof.Laws
end

section
/-!
The register space behind the ports (R10, R340, R346, R389): a write of one word, a write of mailbox memory, and a read of it.
-/
namespace Sys2Proof.Laws

open Sys2Proof.Machine

variable {s : State} {d : Dev} {ram : List Host.Cell}

/-! ### Bus mastering -/

theorem enableMaster_of_master (h : d.pcie.busMaster = true) : enableMaster d = d := if_pos h

/-- Mastering the bus again touches the vectors that were pending, and nothing else of the endpoint. PRESUMED (assumption log,
entry 23). -/
theorem enableMaster_pcie (d : Dev) :
    (enableMaster d).pcie = { d.pcie with busMaster := true, vecs := (enableMaster d).pcie.vecs } := by
  by_cases h : d.pcie.busMaster = true
  · rw [enableMaster_of_master h, ← h]
  · have hfired : Undisturbed (modPcie (fun p => { p with busMaster := true }) d) (enableMaster d) := by
      rw [enableMaster, if_neg h]
      refine .foldl (fun d v => .ite (.trans ?_ (fireVector_undisturbed v _)) (.refl d)) _ _
      exact ⟨fun _ => rfl, rfl, List.Subset.refl _⟩
    exact hfired.pcie

theorem hostWrites_of_up (h : d.pcie.linkUp = true) : hostWrites 0 d = enableMaster d := if_pos ⟨rfl, h⟩

theorem hostWrites_of_down (h : d.pcie.linkUp = false) (mb : Nat) : hostWrites mb d = d := if_neg (by simp [h])

theorem hostWrites_linkUp (mb : Nat) (d : Dev) : (hostWrites mb d).pcie.linkUp = d.pcie.linkUp := by
  unfold hostWrites
  split
  · rw [enableMaster_pcie]
  · rfl

theorem hostWrites_sys (mb : Nat) (d : Dev) : (hostWrites mb d).sys = d.sys := sys_of_view (by simp)

theorem pageLive_hostWrites (mb k : Nat) (d : Dev) : pageLive mb (hostWrites k d) = pageLive mb d := by
  simp only [pageLive, hostWrites_sys, hostWrites_linkUp]

/-- A page that answers is PCIe's with its link up, or SPI's. -/
theorem port_of_pageLive {mb : Nat} (h : pageLive mb d = true) :
    d.sys.inReset = false ∧ ((mb = 0 ∧ d.pcie.linkUp = true) ∨ mb = 1) := by
  simp only [pageLive, Bool.and_eq_true, decide_eq_true_eq, Bool.not_eq_true', Bool.or_eq_true, beq_iff_eq] at h
  obtain ⟨⟨⟨hmb, -⟩, hr⟩, hport⟩ := h
  refine ⟨hr, ?_⟩
  obtain rfl | rfl : mb = 0 ∨ mb = 1 := by omega
  · exact .inl ⟨rfl, hport.resolve_left nofun⟩
  · exact .inr rfl

/-! ### Words and runs of bytes -/

theorem ofLe_lt (bs : Bytes) : ofLe bs < 256 ^ bs.length := by
  induction bs with
  | nil => simp [ofLe]
  | cons b bs ih =>
    have hb := b.isLt
    rw [ofLe, List.length_cons, pow_succ]
    omega

/-- Four bytes written over a word are the word. -/
theorem overlay_whole {bs : Bytes} (h : bs.length = 4) (old : Nat) : overlay old 0 bs = ofLe bs := by
  have hrest : (le 4 old).drop (0 + bs.length) = [] := List.drop_of_length_le (by simp [h])
  rw [overlay, hrest, List.take_zero, List.nil_append, List.append_nil]

theorem writeSpace_nil (mb n off : Nat) (d : Dev) : writeSpace ram mb n off [] d = d := by cases n <;> rfl

/-- A whole register word. -/
theorem writeSpace_word {data : Bytes} {off : Nat} (mb n : Nat) (hoff : isRamOffset off = false) (h4 : off % 4 = 0)
    (hlen : data.length = 4) (d : Dev) : writeSpace ram mb (n + 1) off data d = writeWord ram mb off 0 data d := by
  cases data with
  | nil => simp at hlen
  | cons b bs =>
    rw [writeSpace, if_neg (by simp [hoff]), h4]
    extract_lets k
    rw [List.drop_of_length_le (by omega), List.take_of_length_le (by omega), writeSpace_nil]
    rfl

/-- A run of bytes in the slots. -/
theorem writeSpace_slots {data : Bytes} {mb off : Nat} (n : Nat) (hne : data ≠ []) (hlow : 0x1000 ≤ off)
    (hhigh : off + data.length ≤ 0x9000) (hlive : pageLive mb d = true) :
    writeSpace ram mb (n + 1) off data d = ramPut (ramBase mb + off) data d := by
  cases data with
  | nil => exact absurd rfl hne
  | cons b bs =>
    have hlen : 0 < (b :: bs).length := Nat.succ_pos _
    have hoff : off < 0x9000 := by omega
    rw [writeSpace, if_pos (by simp [isRamOffset, hlow, hoff]), ramEnd, if_pos hoff]
    extract_lets k
    rw [List.drop_of_length_le (by omega), List.take_of_length_le (by omega), writeSpace_nil, if_pos hlive]

/-! ### Writes through a port -/

/-- PCIe reaches the whole space. -/
theorem registerWrite_pcie {data : Bytes} {addr : Nat} (hr : d.sys.inReset = false) (hl : d.pcie.linkUp = true)
    (h : addr + data.length ≤ 0x40000) :
    registerWrite ram 1 addr data d = writeSpace ram 0 (data.length + 1) addr data (hostWrites 0 d) := by
  rw [registerWrite, if_neg (by simp [hr]), if_pos rfl, if_pos hl, List.take_of_length_le (by omega), hostWrites_of_up hl]

/-- SPI reaches its lower half. -/
theorem registerWrite_spi {data : Bytes} {addr : Nat} (hr : d.sys.inReset = false) (h : addr + data.length ≤ 0x20000) :
    registerWrite ram 2 addr data d = writeSpace ram 1 (data.length + 1) addr data d := by
  rw [registerWrite, if_neg (by simp [hr]), if_neg (by decide), if_pos rfl, List.take_of_length_le (by omega)]

/-- A write that nothing takes. -/
theorem registerWrite_of_nothing {port : Nat} (addr : Nat) (data : Bytes)
    (h : port = 0 ∨ 2 < port ∨ (port = 1 ∧ d.pcie.linkUp = false)) : registerWrite ram port addr data d = d := by
  unfold registerWrite
  split
  · rfl
  · rcases h with rfl | h | ⟨rfl, h⟩
    · rfl
    · rw [if_neg (by omega), if_neg (by omega)]
    · rw [if_pos rfl, if_neg (by simp [h])]

section Page

variable {mb : Nat} {data : Bytes} (hlive : pageLive mb d = true)
include hlive

theorem registerWrite_page {addr : Nat} (h : addr + data.length ≤ 0x20000) :
    registerWrite ram (mb + 1) addr data d = writeSpace ram mb (data.length + 1) addr data (hostWrites mb d) := by
  obtain ⟨hr, ⟨rfl, hl⟩ | rfl⟩ := port_of_pageLive hlive
  · exact registerWrite_pcie hr hl (by omega)
  · exact registerWrite_spi hr h

/-- A word of the page. -/
theorem registerWrite_word {off : Nat} (hoff : off < 0x1000) (h4 : off % 4 = 0) (hlen : data.length = 4) :
    registerWrite ram (mb + 1) off data d = writePage ram mb off (ofLe data) (ofLe data) (hostWrites mb d) := by
  have hreg : isRamOffset off = false := by
    simp only [isRamOffset, Bool.or_eq_false_iff, decide_eq_false_iff_not]
    omega
  rw [registerWrite_page hlive (by omega), writeSpace_word _ _ hreg h4 hlen, writeWord, if_pos hoff,
    if_pos (by rwa [pageLive_hostWrites]), overlay_whole hlen, overlay_whole hlen]

/-- A run of bytes in the slots, of a host that masters the bus. -/
theorem registerWrite_slots {addr : Nat} (hm : mb = 0 → d.pcie.busMaster = true) (hne : data ≠ []) (hlow : 0x1000 ≤ addr)
    (hhigh : addr + data.length ≤ 0x9000) : registerWrite ram (mb + 1) addr data d = ramPut (ramBase mb + addr) data d := by
  have hkept : hostWrites mb d = d := by
    unfold hostWrites
    split
    · next h => exact enableMaster_of_master (hm h.1)
    · rfl
  rw [registerWrite_page hlive (by omega), hkept, writeSpace_slots _ hne hlow hhigh hlive]

end Page

theorem rptrWrite_of_up {r v : Nat} (hr : d.sys.inReset = false) (hl : d.pcie.linkUp = true) :
    rptrWrite r v (hostWrites 0 d) = writeRptr r (wrapU 32 v) (enableMaster d) := by
  rw [rptrWrite, hostWrites_sys, hostWrites_linkUp, hr, hl, hostWrites_of_up hl]
  rfl

/-- RPTR of a ring lies in the ring's block. -/
theorem registerWrite_rptr {r : Nat} {data : Bytes} (hr : d.sys.inReset = false) (hl : d.pcie.linkUp = true) (hring : r < 8)
    (hlen : data.length = 4) : registerWrite ram 1 (0x22018 + 64 * r) data d = rptrWrite r (ofLe data) (hostWrites 0 d) := by
  have hreg : isRamOffset (0x22018 + 64 * r) = false := by
    simp only [isRamOffset, Bool.or_eq_false_iff, decide_eq_false_iff_not]
    omega
  have hv : wrapU 32 (ofLe data) = ofLe data := Nat.mod_eq_of_lt (by simpa [hlen] using ofLe_lt data)
  have hblock : (0x22018 + 64 * r - 0x22000) / 64 = r := by omega
  have hword : (0x22018 + 64 * r) % 64 / 4 = 6 := by omega
  rw [registerWrite_pcie hr hl (by omega), writeSpace_word _ _ hreg (by omega) hlen, writeWord, if_neg (by omega), if_pos (by omega),
    writeBar, if_neg (by omega), if_pos (by omega), hblock, hword, overlay_whole hlen, rptrWrite_of_up hr hl, hv, hostWrites_of_up hl]
  rfl

/-! ### SPI transactions on the space -/

theorem spiWrite_of_framing {addr : Nat} (data : Bytes) (cut : Bool) (hr : d.sys.inReset = false) (h : addr % 4 ≠ 0 ∨ 0x20000 ≤ addr) :
    spiWrite ram addr data cut d = framing d := by
  rw [spiWrite, if_neg (by simp [hr])]
  exact if_pos h

/-- Whole words inside the space are written as registers are. -/
theorem spiWrite_of_words {addr : Nat} {data : Bytes} (hr : d.sys.inReset = false) (h4 : addr % 4 = 0) (hlen : data.length % 4 = 0)
    (hne : data ≠ []) (hmax : data.length ≤ 4096) (hin : addr + data.length ≤ 0x20000) :
    spiWrite ram addr data false d = registerWrite ram 2 addr data d := by
  have hpos := List.length_pos_of_ne_nil hne
  have hwhole : (data.take 4096).take (data.length / 4 * 4) = data := by
    rw [List.take_of_length_le hmax, List.take_of_length_le (by omega)]
  rw [registerWrite_spi hr hin, spiWrite, if_neg (by simp [hr])]
  extract_lets whole d1
  have hw : whole = data := hwhole
  rw [if_neg (by omega), hw, if_neg (by omega)]
  simp only [d1, hw, List.take_of_length_le (show data.length ≤ 0x20000 - addr by omega)]
  rfl

/-- A read past the registers has no effect on them. -/
theorem pageEffects_of_slots {first : Nat} (mb len : Nat) (h : 0x1000 ≤ first) (d : Dev) : pageEffects mb first len d = d := by
  unfold pageEffects
  extract_lets touches
  have hno (off : Nat) (hoff : off < 0x100) : touches off = false := by
    simp only [touches, decide_eq_false_iff_not]
    omega
  simp only [hno 0x30 (by decide), hno 0x34 (by decide), hno 0x38 (by decide), Bool.false_eq_true, if_false]
  rw [modMb, modKmp, listMod_eq_self Mailbox.reset fun _ => rfl]

theorem spiRead_of_slots {addr len : Nat} (hlow : 0x1000 ≤ addr) (hhigh : addr + len ≤ 0x9000) (hlive : pageLive 1 d = true) :
    spiRead ram addr len false d =
      emit (.read 2 ((List.range len).map (fun i => memGet ram (ramBase 1 + (addr + i))))) d := by
  have hr := (port_of_pageLive hlive).1
  have hbyte (latch : Bool) : (List.range len).map (fun i => spaceByte ram d latch (addr + i)) =
      (List.range len).map (fun i => memGet ram (ramBase 1 + (addr + i))) := by
    refine List.map_congr_left fun i hi => ?_
    have hi := List.mem_range.1 hi
    have hram : isRamOffset (addr + i) = true := by
      simp only [isRamOffset, Bool.or_eq_true, decide_eq_true_eq]
      omega
    rw [spaceByte, hlive, if_neg (by decide), if_neg (by omega), if_pos hram]
  rw [spiRead, if_neg (by simp [hr])]
  extract_lets latch data d1 d2
  have h2 : d2 = emit (.read 2 ((List.range len).map (fun i => memGet ram (ramBase 1 + (addr + i))))) d := by
    simp only [d2, d1, data, hlive, if_true, hbyte, pageEffects_of_slots 1 len hlow]
  rw [if_neg (by omega), h2]
  rfl

end Sys2Proof.Laws
end

section
/-!
The PCIe endpoint and the SPI target (R341, R344 to R348, R357, R361).
-/
namespace Sys2Proof.Laws

open Sys2Proof.Machine

variable {s : State} {d : Dev}

@[simp] theorem raise_pcie (src cond : Nat) (detail : Bytes) (d : Dev) : (raise src cond detail d).pcie = d.pcie :=
  pcie_of_view (by simp)

@[simp] theorem raise_spi (src cond : Nat) (detail : Bytes) (d : Dev) : (raise src cond detail d).spi = d.spi :=
  spi_of_view (by simp)

theorem calm_of_raise (src cond : Nat) (detail : Bytes) (h : Calm d) : Calm (raise src cond detail d) :=
  calm_of_views h (by simp) (by simp) (by simp)

/-! ### The link and function resets -/

theorem pcieTrained_of_down (hr : d.sys.inReset = false) (h : d.pcie.linkUp = false) :
    pcieTrained d = raise 106 0 [] (modPcie (fun p => { p with linkUp := true, busMaster := true }) d) :=
  if_neg (by simp [hr, h])

theorem pcieTrained_of_up (h : d.pcie.linkUp = true) : pcieTrained d = d := if_pos (.inr h)

/-- A reset of this cause takes the link down. -/
def dropsLink (cause : Nat) : Bool := cause == 1 || cause == 2 || cause == 4

/-- The endpoint's registers return to their reset values; the rings' sequences run on (R337). -/
def endpointReset (cause : Nat) (d : Dev) : Dev :=
  modPcie (fun p => { Pcie.reset with linkUp := !dropsLink cause, rings := p.rings.map (fun x => { Ring.reset with seq := x.seq }) }) d

/-- A function reset before its events: port 1's grant is lost and its session ends. -/
def functionCleared (cause : Nat) (d : Dev) : Dev := portCause 1 (endpointReset cause (loseGrant 1 d))

theorem functionReset_of_down (h : d.pcie.linkUp = false) (cause : Nat) : functionReset cause d = d := if_pos (by simp [h])

theorem functionReset_of_up (h : d.pcie.linkUp = true) (cause : Nat) : functionReset cause d =
    raise 107 0 [] (if dropsLink cause = true then raise 106 0 [] (functionCleared cause d) else functionCleared cause d) :=
  if_neg (by simp [h])

theorem functionReset_told (h : d.pcie.linkUp = true) (cause : Nat) : Only [.ev] (functionCleared cause d) (functionReset cause d) := by
  rw [functionReset_of_up h]
  exact only_of_views fun p hp => by cases p <;> simp at hp ⊢

theorem endpointReset_kmp (cause : Nat) (d : Dev) : (endpointReset cause (loseGrant 1 d)).kmp = d.kmp :=
  kmp_of_view (by simp [endpointReset])

theorem endpointReset_pcie (cause : Nat) (d : Dev) : (endpointReset cause (loseGrant 1 d)).pcie = { Pcie.reset with
    linkUp := !dropsLink cause, rings := d.pcie.rings.map (fun x => { Ring.reset with seq := x.seq }) } := by
  rw [endpointReset, modPcie_pcie, pcie_of_view (d := d) (by simp)]

theorem functionReset_calm (cause : Nat) (hc : Calm d) : Calm (functionReset cause d) := by
  cases h : d.pcie.linkUp with
  | false => rwa [functionReset_of_down h]
  | true =>
    have hcleared : Calm (functionCleared cause d) :=
      portCause_calm (calm_of_views hc (by simp [endpointReset]) (by simp [endpointReset]) (by simp [endpointReset]))
    rw [functionReset_of_up h]
    refine calm_of_raise _ _ _ ?_
    split
    · exact calm_of_raise _ _ _ hcleared
    · exact hcleared

theorem functionReset_spec (h : d.pcie.linkUp = true) (cause : Nat) (e : Dev) (he : functionReset cause d = e) :
    (portGet e.slu 1).grant = none ∧ ¬ OwnsSession 1 e ∧
    e.pcie = { Pcie.reset with
      linkUp := !dropsLink cause, vecs := e.pcie.vecs, rings := d.pcie.rings.map (fun x => { Ring.reset with seq := x.seq }) } ∧
    (¬ OwnsSession 1 d → e.kmp = d.kmp ∧ e.pcie.vecs = Pcie.reset.vecs) := by
  have htold := he ▸ functionReset_told h cause
  have hslu : e.slu = (functionCleared cause d).slu := htold .slu (by simp)
  have hkmp : e.kmp = (functionCleared cause d).kmp := htold .kmp (by simp)
  have hpcie : e.pcie = (functionCleared cause d).pcie := htold .pcie (by simp)
  have hcleared := portCause_undisturbed 1 (endpointReset cause (loseGrant 1 d))
  refine ⟨?_, ?_, ?_, fun hno => ?_⟩
  · rw [hslu]
    exact (hcleared.grant 1).trans (loseGrant_grant 1 d)
  · rw [OwnsSession, hkmp]
    exact portCause_not_owner 1 _
  · rw [hpcie]
    exact hcleared.pcie.trans (by rw [endpointReset_pcie]; rfl)
  · have hsame : functionCleared cause d = endpointReset cause (loseGrant 1 d) :=
      portCause_of_not_owner (by rwa [OwnsSession, endpointReset_kmp])
    rw [hkmp, hpcie, hsame, endpointReset_kmp, endpointReset_pcie]
    exact ⟨rfl, rfl⟩

/-! ### RPTR -/

/-- RPTR takes a multiple of 16 inside its ring; another value stops the ring with ERR. -/
def rptrTaken (v : Nat) (x : Machine.Ring) : Machine.Ring :=
  if v % 16 = 0 ∧ v < 2 ^ x.size then { x with rptr := v } else { x with err := true, en := false }

theorem modRing_pcie {f g : Machine.Ring → Machine.Ring} {r : Nat} (h : f (ringGet d r) = g (ringGet d r)) :
    (modRing r f d).pcie = { d.pcie with rings := listMod d.pcie.rings r g } := by
  rw [modRing, modPcie_pcie, listMod_congr Ring.reset fun _ => h]

/-- A write for a ring that is not there. -/
theorem writeRptr_of_none {r : Nat} (h : 7 < r) (v : Nat) (d : Dev) : writeRptr r v d = d := if_pos h

theorem writeRptr_pcie {r : Nat} (v : Nat) (hr : r < 8) (d : Dev) :
    (writeRptr r v d).pcie = { d.pcie with rings := listMod d.pcie.rings r (rptrTaken v) } := by
  rw [writeRptr, if_neg (not_lt.2 (Nat.le_of_lt_succ hr))]
  split
  · rw [raise_pcie]
    exact modRing_pcie (if_neg (by omega)).symm
  · exact modRing_pcie (if_pos (by omega)).symm

theorem rptrWrite_of_down (h : d.pcie.linkUp = false) (r v : Nat) : rptrWrite r v (hostWrites 0 d) = d := by
  rw [hostWrites_of_down h, rptrWrite, if_pos (by simp [h])]

/-! ### The SPI target -/

theorem cutOff_spi (cut : Bool) (d : Dev) : (cutOff cut d).spi = { d.spi with framingErr := d.spi.framingErr || cut } := by
  cases cut with
  | false => simp [cutOff]
  | true => simp [cutOff, framing]

theorem cutOff_out (cut : Bool) (d : Dev) : (cutOff cut d).out = d.out := out_of_view (by simp)

theorem spiStatus_of_running (hr : d.sys.inReset = false) (cut : Bool) : spiStatus cut d =
    cutOff cut (modSpi (fun x => { x with framingErr := false }) (emit (.read 2 (le 4 (spiWord d))) d)) :=
  if_neg (by simp [hr])

theorem spiStream_of_running (hr : d.sys.inReset = false) (len : Nat) (cut : Bool) : spiStream len cut d =
    cutOff cut (modSpi (fun x => { x with fifo := x.fifo.drop len, entries := leftEntries len x.entries })
      (emit (.read 2 (fitTo len d.spi.fifo)) d)) :=
  if_neg (by simp [hr])

/-- The strap reset empties the FIFO and counts the entries lost. -/
def spiEmptied (d : Dev) : Dev := modSpi (fun x => { x with
  fifo := [], entries := [], threshold := 64, framingErr := false, lostEntries := satU 32 (x.lostEntries + x.entries.length) }) d

theorem spiStrapReset_of_running (hr : d.sys.inReset = false) : spiStrapReset d = raise 110 0 [] (portCause 2 (spiEmptied d)) :=
  if_neg (by simp [hr])

theorem spiStrapReset_calm (hr : d.sys.inReset = false) (hc : Calm d) : Calm (spiStrapReset d) := by
  rw [spiStrapReset_of_running hr]
  exact calm_of_raise _ _ _ (portCause_calm hc)

theorem spiStrapReset_spec (hr : d.sys.inReset = false) :
    (spiStrapReset d).spi = { d.spi with
      fifo := [], entries := [], threshold := 64, framingErr := false
      lostEntries := min (2 ^ 32 - 1) (d.spi.lostEntries + d.spi.entries.length) } ∧
    ¬ OwnsSession 2 (spiStrapReset d) ∧ (¬ OwnsSession 2 d → Only [.spi, .ev] d (spiStrapReset d)) := by
  rw [spiStrapReset_of_running hr]
  refine ⟨?_, ?_, fun hno => ?_⟩
  · rw [raise_spi, spi_of_view (d := spiEmptied d) (by simp), spiEmptied, modSpi_spi, satU, Nat.min_comm]
  · rw [OwnsSession, kmp_of_view (d := portCause 2 (spiEmptied d)) (by simp)]
    exact portCause_not_owner 2 _
  · rw [portCause_of_not_owner (d := spiEmptied d) hno]
    exact only_of_views fun p hp => by cases p <;> simp [spiEmptied] at hp ⊢

/-! ### The statement -/

/-- Settles O58: the transactions of both ports, told one by one above. That the host masters the bus at training and at a write is
PRESUMED, the threshold of 64 units and a write off the word grid as a framing error are DEDUCED (assumption log, entries 23, 29 and 35). -/
theorem pcieAndSpiTransactionsAct : Obligations.PcieAndSpiTransactionsAct := by
  intro s hc hr mastered
  refine ⟨fun h => ?_, fun h => ?_, fun cause h => ?_, fun cause h => ?_, fun r v h hring _ => ?_, fun r v h hring => ?_, fun r v h => ?_,
    fun r data h hring hlen => ?_, fun mb data hlive hlen => ⟨?_, ?_, ?_, fun hbit => ?_, fun hmb => ?_⟩,
    fun mb addr data hlive hm hne hlow hhigh => ?_, fun port addr data h => ?_, fun cut => ?_, fun len cut => ?_, ?_,
    fun addr data cut h => ?_, fun addr data h4 hlen hne hmax hin => ?_, fun addr data h4 hlen hne hmax hlow hhigh hlive => ?_,
    fun addr len hlow hhigh hlive => ?_⟩
  · exact completes_of_views rfl (pcieTrained_of_down (d := s.fresh) hr h) hc (by simp) (by simp) (by simp)
  · exact completes_of_views rfl (pcieTrained_of_up (d := s.fresh) h) hc rfl rfl rfl
  · obtain ⟨hgrant, hsession, hpcie, hno⟩ := functionReset_spec (d := s.fresh) h cause _ rfl
    exact ⟨_, completes_of _ _ s rfl (functionReset_calm cause (calm_fresh hc)), hgrant, not_ownsSession_iff.1 hsession, hpcie,
      fun hx => hno (not_ownsSession_iff.2 hx), only_of_views fun p hp => by cases p <;> simp at hp ⊢⟩
  · exact completes_of_views rfl (functionReset_of_down (d := s.fresh) h cause) hc rfl rfl rfl
  · have hpcie := writeRptr_pcie (wrapU 32 v) hring (enableMaster s.fresh)
    rw [enableMaster_pcie] at hpcie
    exact ⟨_, completes_of_views (f := fun d => rptrWrite r v (hostWrites 0 d)) rfl (rptrWrite_of_up (d := s.fresh) hr h) hc
      (by simp) (by simp) (by simp), congrArg Pcie.busMaster hpcie, congrArg Pcie.rings hpcie,
      only_of_views fun p hp => by cases p <;> simp at hp ⊢⟩
  · have heq : rptrWrite r v (hostWrites 0 s.fresh) = enableMaster s.fresh :=
      (rptrWrite_of_up (d := s.fresh) hr h).trans (writeRptr_of_none hring _ _)
    have hpcie := enableMaster_pcie s.fresh
    exact ⟨_, completes_of_views (f := fun d => rptrWrite r v (hostWrites 0 d)) rfl heq hc (by simp) (by simp) (by simp),
      congrArg Pcie.busMaster hpcie, (congrArg Pcie.rings hpcie :), only_of_views fun p hp => by cases p <;> simp at hp ⊢⟩
  · exact completes_of_views (f := fun d => rptrWrite r v (hostWrites 0 d)) rfl (rptrWrite_of_down (d := s.fresh) h r v) hc rfl rfl rfl
  · exact runDev_congr (f := registerWrite s.ram 1 _ data) (g := fun d => rptrWrite r _ (hostWrites 0 d))
      (registerWrite_rptr (d := s.fresh) hr h hring hlen)
  · refine runDev_congr (f := registerWrite s.ram _ _ data) (g := doorbell s.ram mb _) ?_
    exact (registerWrite_word (d := s.fresh) hlive (by decide) (by decide) hlen).trans (if_pos hlive).symm
  · refine runDev_congr (f := registerWrite s.ram _ _ data) (g := rspCiWrite s.ram mb _) ?_
    exact (registerWrite_word (d := s.fresh) hlive (by decide) (by decide) hlen).trans (if_pos hlive).symm
  · refine runDev_congr (f := registerWrite s.ram _ _ data) (g := irqClear mb _) ?_
    exact (registerWrite_word (d := s.fresh) hlive (by decide) (by decide) hlen).trans (if_pos hlive).symm
  · refine runDev_congr (f := registerWrite s.ram _ _ data) (g := bulkRelease s.ram mb) ?_
    exact (registerWrite_word (d := s.fresh) hlive (by decide) (by decide) hlen).trans ((if_pos hbit).trans (if_pos hlive).symm)
  · subst hmb
    exact completes_of_views rfl (registerWrite_word (d := s.fresh) hlive (by decide) (by decide) hlen) hc (by simp) (by simp) (by simp)
  · exact completes_of_views rfl (registerWrite_slots (d := s.fresh) hlive hm hne hlow hhigh) hc (by simp) (by simp) (by simp)
  · exact completes_of_views rfl (registerWrite_of_nothing (d := s.fresh) addr data h) hc rfl rfl rfl
  · refine ⟨_, completes_of_views rfl (spiStatus_of_running (d := s.fresh) hr cut) hc (by simp) (by simp) (by simp), cutOff_spi cut _, ?_,
      only_of_views fun p hp => by cases p <;> simp at hp ⊢⟩
    rw [cutOff_out]
    exact .head _
  · refine ⟨_, completes_of_views rfl (spiStream_of_running (d := s.fresh) hr len cut) hc (by simp) (by simp) (by simp), ?_,
      cutOff_spi cut _, only_of_views fun p hp => by cases p <;> simp at hp ⊢⟩
    rw [cutOff_out]
    exact .head _
  · obtain ⟨hspi, hsession, hno⟩ := spiStrapReset_spec (d := s.fresh) hr
    exact ⟨_, completes_of _ _ s rfl (spiStrapReset_calm (d := s.fresh) hr (calm_fresh hc)), hspi, not_ownsSession_iff.1 hsession,
      fun hx => hno (not_ownsSession_iff.2 hx), only_of_views fun p hp => by cases p <;> simp at hp ⊢⟩
  · exact completes_of_views rfl (spiWrite_of_framing (d := s.fresh) data cut hr h) hc (by simp) (by simp) (by simp)
  · exact runDev_congr (f := spiWrite s.ram addr data false) (g := registerWrite s.ram 2 addr data)
      (spiWrite_of_words (d := s.fresh) hr h4 hlen hne hmax hin)
  · have heq := spiWrite_of_words (d := s.fresh) (ram := s.ram) hr h4 hlen hne hmax (by omega)
    exact completes_of_views rfl (heq.trans (registerWrite_slots (d := s.fresh) hlive nofun hne hlow hhigh)) hc
      (by simp) (by simp) (by simp)
  · exact completes_of_views rfl (spiRead_of_slots (d := s.fresh) hlow hhigh hlive) hc (by simp) (by simp) (by simp)

end Sys2Proof.Laws
end

section
/-!
Messages on the SYNC bus (R55, R56, R126, R350, R352): what each does at the head that hears it.
-/
namespace Sys2Proof.Laws

open Sys2Proof.Machine

variable {s : State} {d : Dev} {m p : Bytes} {type : Nat}

@[simp] theorem raise_sync (src cond : Nat) (detail : Bytes) (d : Dev) : (raise src cond detail d).sync = d.sync :=
  sync_of_view (by simp)

theorem modSync_congr {f g : Sync → Sync} (h : f d.sync = g d.sync) : modSync f d = modSync g d := by rw [modSync, h, modSync]

/-! ### Hearing a message -/

/-- The port is on and ticks run. -/
def SyncOn (d : Dev) : Prop := prmGet d 0x0F0A ≠ 0 ∧ ticking d = true

/-- A message of a type from a head, whole, on a port that is on. -/
def Heard (type : Nat) (m : Bytes) (d : Dev) : Prop :=
  SyncOn d ∧ syncGood m = true ∧ rdU m 1 1 = type ∧ syncLen type = some (rdU m 2 1) ∧ rdU m 0 1 < 8

/-- The sender is noted among the heads heard. -/
def senderNoted (m : Bytes) (y : Sync) : Sync := { y with heardNow := putBit y.heardNow (rdU m 0 1) true }

section Receive

variable {f : Nat → Bytes → Dev → Dev}

theorem syncReceive_of_off (h : ¬ SyncOn d) : syncReceive type m f d = d :=
  if_pos (by
    rw [SyncOn, not_and_or] at h
    simpa using h)

variable (hon : SyncOn d)
include hon

theorem not_off_of_syncOn : ¬ (prmGet d 0x0F0A = 0 ∨ (!ticking d) = true) := by
  obtain ⟨hport, hticks⟩ := hon
  simp [hport, hticks]

theorem syncReceive_of_failed (h : syncGood m = false) : syncReceive type m f d =
    raise 113 0 [] (modSync (fun y => { y with checkFails := min (2 ^ 32 - 1) (y.checkFails + 1) }) d) := by
  rw [syncReceive, if_neg (not_off_of_syncOn hon), if_pos (by simp [h])]
  simp only [incSat_eq]

variable (hgood : syncGood m = true)
include hgood

theorem syncReceive_of_unknown (h : syncLen (rdU m 1 1) ≠ some (rdU m 2 1)) : syncReceive type m f d =
    modSync (fun y => { y with unknown := min (2 ^ 32 - 1) (y.unknown + 1) }) d := by
  rw [syncReceive, if_neg (not_off_of_syncOn hon), if_neg (by simp [hgood])]
  simp only [incSat_eq]
  exact if_pos (by simpa using h)

theorem syncReceive_of_known (h : syncLen (rdU m 1 1) = some (rdU m 2 1)) : syncReceive type m f d =
    if rdU m 1 1 ≠ type ∨ 8 ≤ rdU m 0 1 then d
    else f (rdU m 0 1) (slice m 4 (rdU m 2 1)) (modSync (senderNoted m) d) := by
  rw [syncReceive, if_neg (not_off_of_syncOn hon), if_neg (by simp [hgood])]
  simp only [h, bne_self_eq_false, Bool.false_eq_true, if_false, bne_iff_ne]
  rfl

end Receive

/-- The message that each command hears, by its type. -/
def syncKinds (m : Bytes) : List (Nat × Instr) :=
  [(1, .syncBeaconMsg m), (2, .syncPrepareMsg m), (3, .syncReadyMsg m), (4, .syncRefuseMsg m), (5, .syncGoMsg m), (6, .syncCancelMsg m),
    (7, .syncCodeMsg m), (8, .syncXtrigMsg m)]

theorem exec_of_syncKinds {i : Nat × Instr} (hi : i ∈ syncKinds m) (s : State) :
    ∃ f, exec i.2 s = runDev (syncReceive i.1 m f) s := by
  simp only [syncKinds, List.mem_cons, List.not_mem_nil, or_false] at hi
  rcases hi with rfl | rfl | rfl | rfl | rfl | rfl | rfl | rfl
  all_goals exact ⟨_, rfl⟩

/-- The device once the sender of a message is noted. -/
abbrev notedAt (m : Bytes) (s : State) : Dev := modSync (senderNoted m) s.fresh

/-- A message that is heard does what its command's handler makes of it. -/
theorem heard_completes {i : Instr} {f : Nat → Bytes → Dev → Dev} {e : Dev} (he : exec i s = runDev (syncReceive type m f) s)
    (h : Heard type m s.dev) (hf : f (rdU m 0 1) (slice m 4 (rdU m 2 1)) (notedAt m s) = e) (hc : Calm s.dev)
    (ha : Facet.awaited.view e = Facet.awaited.view s.fresh) (ho : Facet.rail.view e = Facet.rail.view s.fresh)
    (hk : Facet.session.view e = Facet.session.view s.fresh) : Completes i s e := by
  obtain ⟨hon, hgood, htype, hlen, hhead⟩ := h
  refine completes_of_views he ((syncReceive_of_known (d := s.fresh) hon hgood (htype ▸ hlen)).trans ((if_neg ?_).trans hf)) hc ha ho hk
  rw [not_or, not_le]
  exact ⟨fun hne => hne htype, hhead⟩

/-! ### Beacons -/

/-- A beacon brings the follower's cycle, and at cycle 0 the frame offset. -/
def beaconTaken (p : Bytes) (now frame : Nat) (y : Sync) : Sync :=
  let z := { y with beaconHeard := true, beaconLost := false, cycleAt := now - 1000 }
  if rdU p 4 2 = 0 then { z with markerFrame := some (rdU p 0 4), markerLocal := frame, markerAt := now } else z

theorem onBeacon_of_follower (h : prmGet d 0x0F0A ≠ 2) (head : Nat) (p : Bytes) : onBeacon head p d =
    modSync (beaconTaken p d.sys.now d.seq.frame) (if d.sync.beaconLost = true then raise 111 1 [] d else d) :=
  if_neg h

theorem onBeacon_follower_sync (h : prmGet d 0x0F0A ≠ 2) (head : Nat) (p : Bytes) :
    (onBeacon head p d).sync = beaconTaken p d.sys.now d.seq.frame d.sync := by
  rw [onBeacon_of_follower h, modSync_sync]
  congr 1
  split
  · exact raise_sync _ _ _ _
  · rfl

theorem onBeacon_follower_only (h : prmGet d 0x0F0A ≠ 2) (head : Nat) (p : Bytes) : Only [.sync, .ev] d (onBeacon head p d) := by
  rw [onBeacon_of_follower h]
  exact only_of_views fun p hp => by cases p <;> simp at hp ⊢

/-- A master keeps its role below the sender's number, or where it had yielded. -/
theorem onBeacon_of_kept {head : Nat} (h : prmGet d 0x0F0A = 2) (hkeep : headNo d < head ∨ d.sync.yielded = true) (p : Bytes) :
    onBeacon head p d = raise 112 0 [] d := by
  rw [onBeacon, if_pos h]
  exact if_pos (by simpa using hkeep)

/-- Else it yields, and what it had begun ends. -/
theorem onBeacon_of_yield {head : Nat} (h : prmGet d 0x0F0A = 2) (hhead : head ≤ headNo d) (hy : d.sync.yielded = false) (p : Bytes) :
    onBeacon head p d = endSyncCode stNotPermitted [] (endSyncStart stNotPermitted []
      (modSync (fun y => { y with yielded := true, xtrig := none }) (raise 112 0 [] d))) := by
  rw [onBeacon, if_pos h]
  exact if_neg (by simp [hy, hhead])

theorem endSyncStart_sync (st : Nat) (b : Bytes) (d : Dev) : (endSyncStart st b d).sync = { d.sync with run := none } := by
  unfold endSyncStart
  split
  · next h => rw [← h]
  · extract_lets d1
    split
    · exact sync_of_view (d := d1) (by simp)
    · rfl

theorem endSyncCode_sync (st : Nat) (b : Bytes) (d : Dev) :
    (endSyncCode st b d).sync = { d.sync with codeLeft := 0, codeCmd := none } := by
  unfold endSyncCode
  split
  · next h => rw [← h]; rfl
  · extract_lets d1
    split
    · exact sync_of_view (d := d1) (by simp)
    · rfl

theorem onBeacon_yield_sync {head : Nat} (h : prmGet d 0x0F0A = 2) (hhead : head ≤ headNo d) (hy : d.sync.yielded = false) (p : Bytes) :
    (onBeacon head p d).sync = { d.sync with yielded := true, xtrig := none, run := none, codeLeft := 0, codeCmd := none } := by
  rw [onBeacon_of_yield h hhead hy, endSyncCode_sync, endSyncStart_sync, modSync_sync, raise_sync]

/-- Time, where a lost beacon is said: 3.01 cycles after the last one that was heard. -/
def lossNoted (d : Dev) : Dev := if d.sync.beaconHeard = true then advanceTo (d.sync.cycleAt + 301000) d else d

theorem lossNoted_sync (d : Dev) : (lossNoted d).sync = d.sync := sync_of_view (by simp [lossNoted])

theorem lossNoted_sys (d : Dev) : (lossNoted d).sys =
    { d.sys with now := if d.sync.beaconHeard = true then max d.sys.now (d.sync.cycleAt + 301000) else d.sys.now } := by
  unfold lossNoted
  split <;> rfl

theorem beaconLoss_of_due (hf : syncFollower d = true) (ht : ticking d = true) (hl : d.sync.beaconLost = false) : beaconLoss d =
    raise 111 0 [] (modSync (fun y => { y with beaconLost := true, beaconHeard := false, markerFrame := none }) (lossNoted d)) :=
  if_neg (by simp [hf, ht, hl])

theorem beaconLoss_of_not (h : ¬ (syncFollower d = true ∧ ticking d = true ∧ d.sync.beaconLost = false)) : beaconLoss d = d :=
  if_pos (by
    rw [not_and_or, not_and_or] at h
    simpa [or_assoc] using h)

/-! ### A follower's part in a synchronised change -/

/-- The held set answers READY: the marker is fresh, and the set is the one PREPARE names. -/
def ReadyFor (p : Bytes) (d : Dev) (h : Held) : Prop :=
  markerFresh d = true ∧ (h.state = 1 ∨ h.state = 2) ∧ h.kind = rdU p 0 1 ∧ heldIdent h = rdU p 4 4

theorem onPrepare_of_other (h : syncFollower d = false) (x : Nat) (p : Bytes) : onPrepare x p d = d := if_pos (by simp [h])

section Prepare

variable (hf : syncFollower d = true) (x : Nat)
include hf

theorem onPrepare_of_ready {h : Held} (hh : d.sync.held = some h) (hr : ReadyFor p d h) : onPrepare x p d = modSync (fun y => { y with
    answer := some (le 1 3 ++ le 4 (rdU p 4 4) ++ le 4 (rdU p 8 4)), answerAt := y.cycleAt,
    held := some { h with state := 2, frame := rdU p 8 4, bound := (localFrame d (rdU p 8 4)).getD 0 } }) d := by
  obtain ⟨hm, hs, hkind, hident⟩ := hr
  rw [onPrepare, if_neg (by simp [hf])]
  extract_lets ident n ready answer
  have hready : ready = true := by simp [ready, hh, hm, hs, hkind, hident, ident]
  refine modSync_congr ?_
  simp only [answer, hready, if_true, hh, Option.map_some]
  rfl

theorem onPrepare_of_refused (h : ∀ h, d.sync.held = some h → ¬ ReadyFor p d h) : onPrepare x p d = modSync (fun y => { y with
    answer := some (le 1 4 ++ le 4 (rdU p 4 4) ++ le 4 (rdU p 8 4)), answerAt := y.cycleAt, lastOutcome := 5 }) d := by
  rw [onPrepare, if_neg (by simp [hf])]
  extract_lets ident n ready answer
  have hready : ready = false := by
    rw [Bool.eq_false_iff]
    intro hr
    cases hh : d.sync.held with
    | none => simp [ready, hh] at hr
    | some k => exact h k hh (by simpa [ready, hh, ReadyFor, and_assoc] using hr)
  refine modSync_congr ?_
  simp only [answer, hready, Bool.false_eq_true, if_false]
  rfl

end Prepare

/-- GO in time names the set that answered READY, for frame `f` of this head. -/
def GoTaken (p : Bytes) (d : Dev) (h : Held) (f : Nat) : Prop :=
  d.sync.held = some h ∧ syncFollower d = true ∧ h.state = 2 ∧ heldIdent h = rdU p 0 4 ∧ h.frame = rdU p 4 4 ∧
    localFrame d (rdU p 4 4) = some f ∧ goInTime d f = true

theorem bindHeld_of_some {h : Held} (hh : d.sync.held = some h) (f : Nat) : bindHeld f d =
    modPrm (fun q => { q with pending := q.pending ++ [⟨h.set, f⟩] })
      (modSync (fun y => { y with held := some { h with state := 3, bound := f } }) d) := by
  simp only [bindHeld, hh]

theorem onGo_of_taken {h : Held} {f : Nat} (ht : GoTaken p d h f) (x : Nat) : onGo x p d =
    modPrm (fun q => { q with pending := q.pending ++ [⟨h.set, f⟩] })
      (modSync (fun y => { y with held := some { h with state := 3, bound := f } }) d) := by
  obtain ⟨hh, hf, hs, hident, hframe, hlocal, htime⟩ := ht
  simp only [onGo, hlocal]
  rw [if_pos (by simp [hf, prepared, hh, hs, hident, hframe, htime]), bindHeld_of_some hh]

theorem onGo_of_not (h : ∀ k f, ¬ GoTaken p d k f) (x : Nat) : onGo x p d = d := by
  unfold onGo
  split
  · rfl
  · next f hlocal =>
    refine if_neg fun hc => ?_
    simp only [Bool.and_eq_true] at hc
    obtain ⟨⟨hf, hp⟩, htime⟩ := hc
    cases hh : d.sync.held with
    | none => simp [prepared, hh] at hp
    | some k =>
      simp only [prepared, hh, Option.elim_some, Bool.and_eq_true, beq_iff_eq] at hp
      exact h k f ⟨hh, hf, hp.1.1, hp.1.2, hp.2, hlocal, htime⟩

/-- CANCEL names the held set, not yet bound. -/
def CancelNames (p : Bytes) (d : Dev) : Prop :=
  syncFollower d = true ∧ ∃ h, d.sync.held = some h ∧ h.state ≠ 3 ∧ heldIdent h = rdU p 0 4

theorem cancelNames_iff :
    (syncFollower d && d.sync.held.elim false (fun h => h.state != 3 && heldIdent h == rdU p 0 4)) = true ↔ CancelNames p d := by
  cases hh : d.sync.held <;> simp [CancelNames, hh]

theorem onCancel_of_named (h : CancelNames p d) (x : Nat) : onCancel x p d = dropHeld 2 d := if_pos (cancelNames_iff.2 h)

theorem onCancel_of_not (h : ¬ CancelNames p d) (x : Nat) : onCancel x p d = d := if_neg fun hc => h (cancelNames_iff.1 hc)

/-- A prepared set waits for GO or CANCEL. -/
def DeadlineDue (d : Dev) (h : Held) : Prop := d.sync.held = some h ∧ h.state = 2 ∧ syncFollower d = true ∧ ticking d = true

theorem syncDeadline_of_due {h : Held} (hd : DeadlineDue d h) : syncDeadline d = raise 7 0 (le 4 h.planId ++ le 4 h.frame)
    (modSync (fun y => { y with held := none, lastOutcome := 3 }) (advanceTo (goDeadline d h.bound) d)) := by
  obtain ⟨hh, hs, hf, ht⟩ := hd
  simp only [syncDeadline, hh]
  exact if_neg (by simp [hs, hf, ht])

theorem syncDeadline_of_not (h : ∀ k, ¬ DeadlineDue d k) : syncDeadline d = d := by
  unfold syncDeadline
  split
  · rfl
  · next k hh =>
    refine if_pos ?_
    have hk := h k
    simp only [DeadlineDue, hh, true_and, not_and_or] at hk
    simpa [or_assoc] using hk

/-! ### Answers at the master -/

/-- The answer is to the change that runs. -/
def AnswerCounts (p : Bytes) (d : Dev) (r : SyncRun) : Prop :=
  syncMaster d = true ∧ d.sync.run = some r ∧ r.prepareAt ≠ none ∧ rdU p 0 4 = r.ident ∧ rdU p 4 4 = r.frame

/-- The run with a head's answer. -/
def answered (ready : Bool) (head : Nat) (r : SyncRun) : SyncRun :=
  if ready then { r with ready := putBit r.ready head true } else { r with refused := putBit r.refused head true }

/-- A head's answer, at the master. -/
def answerHeard (ready : Bool) (head : Nat) (p : Bytes) (d : Dev) : Dev := if syncMaster d then onAnswer ready head p d else d

theorem answerHeard_of_counted {r : SyncRun} (h : AnswerCounts p d r) (ready : Bool) (head : Nat) :
    answerHeard ready head p d = modSync (fun y => { y with run := some (answered ready head r) }) d := by
  obtain ⟨hm, hrun, hprep, hident, hframe⟩ := h
  rw [answerHeard, if_pos hm]
  refine modSync_congr ?_
  rw [hrun, Option.map_some, if_pos ⟨Option.isSome_iff_ne_none.2 hprep, hident, hframe⟩]
  rfl

theorem answerHeard_of_not (h : ∀ r, ¬ AnswerCounts p d r) (ready : Bool) (head : Nat) : answerHeard ready head p d = d := by
  unfold answerHeard
  split
  · next hm =>
    have hrun : d.sync.run.map (fun r =>
        if r.prepareAt.isSome ∧ rdU p 0 4 = r.ident ∧ rdU p 4 4 = r.frame then answered ready head r else r) = d.sync.run := by
      cases hr : d.sync.run with
      | none => rfl
      | some r =>
        rw [Option.map_some, if_neg]
        exact fun hc => h r ⟨hm, hr, Option.isSome_iff_ne_none.1 hc.1, hc.2⟩
    refine (modSync_congr (g := id) ?_).trans rfl
    exact congrArg (fun q => { d.sync with run := q }) hrun
  · rfl

/-! ### Codes and cross-triggers -/

/-- CODE names a frame ahead, and this head takes codes from the bus. -/
def CodeAhead (p : Bytes) (d : Dev) (f : Nat) : Prop :=
  syncFollower d = true ∧ prmGet d 0x0423 = 1 ∧ localFrame d (rdU p 0 4) = some f ∧ laterThan 32 f d.seq.frame = true

theorem onCode_of_ahead {f : Nat} (h : CodeAhead p d f) (x : Nat) : onCode x p d = modHisto (fun y => { y with
    assign := some ⟨rdU p (8 + 8 * headNo d) 1, rdU p (8 + 8 * headNo d + 1) 1, rdU p (8 + 8 * headNo d + 4) 4, f⟩ }) d := by
  obtain ⟨hf, hen, hlocal, hlater⟩ := h
  simp only [onCode, hlocal]
  rw [if_pos (by simp [hf, hlater]), takeCode, if_pos hen]

theorem onCode_of_not (h : ∀ f, ¬ CodeAhead p d f) (x : Nat) : onCode x p d = d := by
  unfold onCode
  split
  · rfl
  · next f hlocal =>
    extract_lets e
    split
    · next hc =>
      simp only [Bool.and_eq_true] at hc
      exact if_neg fun hen => h f ⟨hc.1, hen, hlocal, hc.2⟩
    · rfl

theorem onXtrig_peat_of_off (h : peatTrigOn d 1 = false) (head : Nat) (p : Bytes) : (onXtrig head p d).peat = d.peat := by
  rw [onXtrig, peat_of_view (traceTriggers_frame _ _ _ (by simp)), if_neg (by simp [h])]

theorem onXtrig_peat_of_armed (h : peatTrigOn d 1 = true) (ha : d.peat.state = .armed) (head : Nat) (p : Bytes) :
    (onXtrig head p d).peat = { d.peat with trigs := d.peat.trigs ++ [(2, head, d.sys.now)] } := by
  rw [onXtrig, peat_of_view (traceTriggers_frame _ _ _ (by simp)), if_pos h, peatTrigger, peatTriggerAt_of_armed ha, modPeat_peat]

theorem onXtrig_sync (head : Nat) (p : Bytes) (d : Dev) : (onXtrig head p d).sync = d.sync := sync_of_view (by simp)

end Sys2Proof.Laws
end

section
/-!
The master's windows and a follower's slots on the SYNC bus (R55, R351, R353), and the bus as a whole.
-/
namespace Sys2Proof.Laws

open Sys2Proof.Machine

variable {s : State} {d e : Dev} {p : Bytes}

/-- A message as a head sends it. -/
def sent (d : Dev) (type : Nat) (p : Bytes) : Out := .sync (syncMessage (headNo d) type p)

theorem sent_of_vals (h : e.prm.vals = d.prm.vals) (type : Nat) (p : Bytes) : sent e type p = sent d type p := by
  rw [sent, headNo, prmGet, h, ← prmGet, ← headNo, sent]

theorem sent_mem_threeTimes (type : Nat) (p : Bytes) (d : Dev) : sent d type p ∈ (threeTimes type p d).out := .head _

theorem threeTimes_out (type : Nat) (p : Bytes) (d : Dev) : d.out ⊆ (threeTimes type p d).out :=
  fun _ h => .tail _ (.tail _ (.tail _ h))

theorem endSyncStart_undisturbed (st : Nat) (b : Bytes) (d : Dev) : Undisturbed d (endSyncStart st b d) := by
  unfold endSyncStart
  split
  · exact .refl d
  · extract_lets d1
    have h : Undisturbed d d1 := .of_frame (by simp [d1])
    split
    · exact h.trans (finishRunning_undisturbed _ _ _ _)
    · exact h

theorem endSyncCode_undisturbed (st : Nat) (b : Bytes) (d : Dev) : Undisturbed d (endSyncCode st b d) := by
  unfold endSyncCode
  split
  · exact .of_frame (by simp)
  · extract_lets d1
    have h : Undisturbed d d1 := .of_frame (by simp [d1])
    split
    · exact h.trans (finishRunning_undisturbed _ _ _ _)
    · exact h

/-! ### The outcome of a change -/

/-- GO is decided: not cancelled, every expected head ready and none refusing, and the set still held. -/
def RunGoes (r : SyncRun) (d : Dev) : Prop :=
  r.cancel = false ∧ andBits 8 r.expect r.ready = r.expect ∧ andBits 8 r.expect r.refused = 0 ∧
    ∃ h, d.sync.held = some h ∧ h.state = 1 ∧ heldIdent h = r.ident

/-- What GO and CANCEL carry. -/
def runBody (r : SyncRun) : Bytes := le 4 r.ident ++ le 4 r.frame

/-- The heads that neither answered READY nor REFUSE are told. -/
def silenceTold (r : SyncRun) (d : Dev) : Dev :=
  if clrBits 8 r.expect (orBits 8 r.ready r.refused) = 0 then d
  else raise 7 0 (le 4 (d.sync.held.elim (if bit r.kind 0 then r.ident else 0) (·.planId)) ++ le 4 r.frame ++
    le 1 (clrBits 8 r.expect (orBits 8 r.ready r.refused))) d

theorem silenceTold_only (r : SyncRun) (d : Dev) : Only [.ev] d (silenceTold r d) :=
  only_of_views fun p hp => by cases p <;> simp [silenceTold] at hp ⊢

/-- The response of SYNC_START. -/
def runReport (r : SyncRun) : Bytes :=
  le 1 r.ready ++ le 1 r.refused ++ le 1 (clrBits 8 r.expect (orBits 8 r.ready r.refused)) ++ zeros 1 ++ le 4 r.frame

/-- GO three times, and the held set is bound. -/
def goSent (r : SyncRun) (d : Dev) : Dev := bindHeld r.frame (threeTimes 5 (runBody r) (silenceTold r d))

/-- CANCEL three times, and the held set is dropped. -/
def cancelSent (r : SyncRun) (d : Dev) : Dev :=
  if (threeTimes 6 (runBody r) (silenceTold r d)).sync.held.isSome then dropHeld 2 (threeTimes 6 (runBody r) (silenceTold r d))
  else threeTimes 6 (runBody r) (silenceTold r d)

theorem runGoes_iff (r : SyncRun) (d : Dev) : (!r.cancel && andBits 8 r.expect r.ready == r.expect &&
    andBits 8 r.expect r.refused == 0 && d.sync.held.elim false (fun h => h.state == 1 && heldIdent h == r.ident)) = true ↔
      RunGoes r d := by
  cases hh : d.sync.held <;> simp [RunGoes, hh, and_assoc]

theorem decideRun_of_go {r : SyncRun} (h : RunGoes r d) : decideRun r d = endSyncStart stOk (runReport r) (goSent r d) :=
  if_pos ((runGoes_iff r d).2 h)

theorem decideRun_of_cancel {r : SyncRun} (h : ¬ RunGoes r d) :
    decideRun r d = endSyncStart stSyncRefused (runReport r) (cancelSent r d) :=
  if_neg fun hg => h ((runGoes_iff r d).1 hg)

theorem silenceTold_out (r : SyncRun) (d : Dev) : (silenceTold r d).out = d.out := silenceTold_only r d .out (by simp)

theorem silenceTold_sync (r : SyncRun) (d : Dev) : (silenceTold r d).sync = d.sync := silenceTold_only r d .sync (by simp)

theorem silenceTold_prm (r : SyncRun) (d : Dev) : (silenceTold r d).prm = d.prm := silenceTold_only r d .prm (by simp)

theorem cancelSent_out (r : SyncRun) (d : Dev) : (cancelSent r d).out = (threeTimes 6 (runBody r) (silenceTold r d)).out :=
  out_of_view (by simp [cancelSent])

theorem cancelSent_prm (r : SyncRun) (d : Dev) : (cancelSent r d).prm = d.prm :=
  prm_of_view (by simp [cancelSent, silenceTold])

theorem cancelSent_sync (r : SyncRun) (d : Dev) :
    (cancelSent r d).sync = { d.sync with held := none, lastOutcome := (cancelSent r d).sync.lastOutcome } := by
  have hsync : (threeTimes 6 (runBody r) (silenceTold r d)).sync = d.sync :=
    (sync_of_view (by simp)).trans (silenceTold_sync r d)
  unfold cancelSent
  split
  · rw [dropHeld, modSync_sync, hsync]
  · next h =>
    have hnone : d.sync.held = none := by simpa [hsync] using h
    rw [hsync, ← hnone]

theorem decideRun_run (r : SyncRun) (d : Dev) : (decideRun r d).sync.run = none := by
  by_cases h : RunGoes r d
  · rw [decideRun_of_go h, endSyncStart_sync]
  · rw [decideRun_of_cancel h, endSyncStart_sync]

/-- Nothing sent before is taken back. -/
theorem decideRun_out (r : SyncRun) (d : Dev) : d.out ⊆ (decideRun r d).out := by
  have hthree (type : Nat) : d.out ⊆ (threeTimes type (runBody r) (silenceTold r d)).out := by
    have h := threeTimes_out type (runBody r) (silenceTold r d)
    rwa [silenceTold_out] at h
  by_cases h : RunGoes r d
  · rw [decideRun_of_go h]
    refine List.Subset.trans ?_ (endSyncStart_undisturbed _ _ _).out
    rw [goSent, out_of_view (bindHeld_frame _ _ (by simp))]
    exact hthree 5
  · rw [decideRun_of_cancel h]
    refine List.Subset.trans ?_ (endSyncStart_undisturbed _ _ _).out
    rw [cancelSent_out]
    exact hthree 6

/-- GO goes out, and the held set is bound to its frame. -/
theorem decideRun_go {r : SyncRun} (hg : RunGoes r d) : sent d 5 (runBody r) ∈ (decideRun r d).out ∧
    ∀ h, d.sync.held = some h →
      (decideRun r d).sync = { d.sync with run := none, held := some { h with state := 3, bound := r.frame } } ∧
      (decideRun r d).prm = { d.prm with pending := d.prm.pending ++ [⟨h.set, r.frame⟩] } := by
  rw [decideRun_of_go hg]
  refine ⟨(endSyncStart_undisturbed _ _ _).out ?_, fun h hh => ?_⟩
  · rw [goSent, out_of_view (bindHeld_frame _ _ (by simp)), ← sent_of_vals (congrArg Prm.vals (silenceTold_prm r d))]
    exact sent_mem_threeTimes _ _ _
  · have hsync : (threeTimes 5 (runBody r) (silenceTold r d)).sync = d.sync :=
      (sync_of_view (by simp)).trans (silenceTold_sync r d)
    have hprm : (threeTimes 5 (runBody r) (silenceTold r d)).prm = d.prm :=
      (prm_of_view (by simp)).trans (silenceTold_prm r d)
    rw [endSyncStart_sync, prm_of_view (endSyncStart_frame _ _ _ (by simp)), goSent, bindHeld_of_some (hsync ▸ hh), modPrm_sync,
      modSync_sync, modPrm_prm, modSync_prm, hsync, hprm]
    exact ⟨rfl, rfl⟩

/-- CANCEL goes out, and no set is held. -/
theorem decideRun_cancel {r : SyncRun} (hg : ¬ RunGoes r d) : sent d 6 (runBody r) ∈ (decideRun r d).out ∧
    (decideRun r d).sync = { d.sync with run := none, held := none, lastOutcome := (decideRun r d).sync.lastOutcome } ∧
    (decideRun r d).prm = d.prm := by
  rw [decideRun_of_cancel hg]
  refine ⟨(endSyncStart_undisturbed _ _ _).out ?_, ?_, (prm_of_view (by simp)).trans (cancelSent_prm r d)⟩
  · rw [cancelSent_out, ← sent_of_vals (congrArg Prm.vals (silenceTold_prm r d))]
    exact sent_mem_threeTimes _ _ _
  · rw [endSyncStart_sync, cancelSent_sync]

/-! ### The change that runs, in a window -/

theorem serveRun_of_none (h : d.sync.run = none) (t : Nat) : serveRun t d = d := by
  simp only [serveRun, h]

theorem serveRun_of_begun {r : SyncRun} (h : d.sync.run = some r) (hp : r.prepareAt = none) (t : Nat) :
    serveRun t d = sendPrepare t r d := by
  simp only [serveRun, h, hp]

theorem serveRun_of_asked {r : SyncRun} {u : Nat} (h : d.sync.run = some r) (hp : r.prepareAt = some u) (t : Nat) :
    serveRun t d = if u + 300000 ≤ t then decideRun r d else d := by
  simp only [serveRun, h, hp]

/-- What serving a change leaves: the parameters' values, the bus but for the change and the held set, and what was sent. -/
structure RunServed (d e : Dev) : Prop where
  vals : e.prm.vals = d.prm.vals
  sync : e.sync = { d.sync with run := e.sync.run, held := e.sync.held, lastOutcome := e.sync.lastOutcome }
  out : d.out ⊆ e.out

theorem runServed_refl (d : Dev) : RunServed d d := ⟨rfl, rfl, List.Subset.refl _⟩

theorem runServed_decideRun (r : SyncRun) (d : Dev) : RunServed d (decideRun r d) := by
  have hout := decideRun_out r d
  by_cases h : RunGoes r d
  · obtain ⟨k, hk, -⟩ := h.2.2.2
    obtain ⟨hsync, hprm⟩ := (decideRun_go h).2 k hk
    exact ⟨by rw [hprm], by rw [hsync], hout⟩
  · obtain ⟨-, hsync, hprm⟩ := decideRun_cancel h
    exact ⟨by rw [hprm], by rw [hsync], hout⟩

theorem runServed_serveRun (t : Nat) (d : Dev) : RunServed d (serveRun t d) := by
  cases hr : d.sync.run with
  | none =>
    rw [serveRun_of_none hr]
    exact runServed_refl d
  | some r =>
    cases hp : r.prepareAt with
    | none =>
      rw [serveRun_of_begun hr hp]
      exact ⟨rfl, rfl, fun _ h => .tail _ h⟩
    | some u =>
      rw [serveRun_of_asked hr hp]
      split
      · exact runServed_decideRun r d
      · exact runServed_refl d

/-! ### Codes and cross-triggers, in a window -/

theorem serveCode_of_none (h : d.sync.codeLeft = 0) : serveCode d = d := if_pos h

/-- A copy of CODE goes out, and this head takes its own entry. -/
def codeSent (d : Dev) : Dev :=
  takeCode d.sync.codeFrame (codeSpacing (headNo d)) (codeSpan (headNo d)) (codeSeed (prmGet d 0x0422) (headNo d))
    (syncSend 7 (codePayload d) d)

theorem serveCode_of_some (h : d.sync.codeLeft ≠ 0) : serveCode d =
    if d.sync.codeLeft = 1 then endSyncCode stOk (le 4 d.sync.codeFrame) (codeSent d)
    else modSync (fun y => { y with codeLeft := y.codeLeft - 1 }) (codeSent d) :=
  if_neg h

theorem codeSent_sync (d : Dev) : (codeSent d).sync = d.sync := sync_of_view (by simp [codeSent])

theorem codeSent_out (d : Dev) : (codeSent d).out = sent d 7 (codePayload d) :: d.out :=
  out_of_view (takeCode_frame _ _ _ _ _ (by simp))

/-- One copy less waits; nothing sent before is taken back. -/
theorem serveCode_spec (d : Dev) :
    (serveCode d).sync = { d.sync with codeLeft := d.sync.codeLeft - 1, codeCmd := (serveCode d).sync.codeCmd } ∧
    d.out ⊆ (serveCode d).out ∧ (d.sync.codeLeft ≠ 0 → sent d 7 (codePayload d) ∈ (serveCode d).out) := by
  by_cases h : d.sync.codeLeft = 0
  · rw [serveCode_of_none h]
    exact ⟨by rw [h]; exact congrArg (fun n => { d.sync with codeLeft := n }) h, List.Subset.refl _, fun hn => absurd h hn⟩
  · have hsent : sent d 7 (codePayload d) ∈ (codeSent d).out ∧ d.out ⊆ (codeSent d).out := by
      rw [codeSent_out]
      exact ⟨.head _, fun _ => .tail _⟩
    rw [serveCode_of_some h]
    split
    · next hone =>
      have hout := (endSyncCode_undisturbed stOk (le 4 d.sync.codeFrame) (codeSent d)).out
      rw [endSyncCode_sync, codeSent_sync, hone]
      exact ⟨rfl, List.Subset.trans hsent.2 hout, fun _ => hout hsent.1⟩
    · rw [modSync_sync, codeSent_sync]
      exact ⟨rfl, hsent.2, fun _ => hsent.1⟩

theorem sendXtrig_of_none (h : d.sync.xtrig = none) : sendXtrig d = d := by
  simp only [sendXtrig, h]

theorem sendXtrig_of_some (h : d.sync.xtrig = some p) :
    sendXtrig d = emit (sent d 8 p) (modSync (fun y => { y with xtrig := none }) d) := by
  simp only [sendXtrig, h]
  rfl

theorem sendXtrig_sync (d : Dev) : (sendXtrig d).sync = { d.sync with xtrig := none } := by
  cases h : d.sync.xtrig with
  | none => rw [sendXtrig_of_none h, ← h]
  | some p => rw [sendXtrig_of_some h]; rfl

theorem sendXtrig_out (d : Dev) : d.out ⊆ (sendXtrig d).out := by
  cases h : d.sync.xtrig with
  | none => rw [sendXtrig_of_none h]; exact List.Subset.refl _
  | some p => rw [sendXtrig_of_some h]; exact fun _ => .tail _

/-! ### The master's window -/

/-- The start of the master's next window of the frame. -/
def windowAt (d : Dev) : Nat := d.seq.frameTime + 100000 * d.sync.cycle

/-- A master's window is due. -/
def WindowDue (d : Dev) : Prop :=
  syncMaster d = true ∧ ticking d = true ∧ d.seq.started = true ∧ windowAt d + 40000 < d.seq.nextFrame

/-- The window begins with its beacon. -/
def windowBegun (d : Dev) : Dev :=
  syncSend 1 (le 4 d.seq.frame ++ le 2 d.sync.cycle ++ zeros 2)
    (modSync (fun y => { y with cycleAt := windowAt d, cycle := y.cycle + 1 }) (advanceTo (windowAt d + 1000) d))

theorem cycleStart_of_due (h : WindowDue d) : cycleStart d = sendXtrig (serveCode (serveRun (windowAt d) (windowBegun d))) := by
  obtain ⟨hm, ht, hs, hw⟩ := h
  rw [cycleStart, if_neg (by simp [hm, ht, hs])]
  exact if_neg (not_le.2 hw)

theorem cycleStart_of_not (h : ¬ WindowDue d) : cycleStart d = d := by
  unfold cycleStart
  split
  · rfl
  · next hc =>
    simp only [Bool.or_eq_true, Bool.not_eq_true', not_or, Bool.not_eq_false] at hc
    obtain ⟨⟨hm, ht⟩, hs⟩ := hc
    exact if_pos (not_lt.1 fun hw => h ⟨hm, ht, hs, hw⟩)

/-- The window with the change that runs served. -/
def windowServed (d : Dev) : Dev := serveRun (windowAt d) (windowBegun d)

theorem windowServed_served (d : Dev) : RunServed (windowBegun d) (windowServed d) := runServed_serveRun _ _

theorem windowServed_of_none (h : d.sync.run = none) : windowServed d = windowBegun d := serveRun_of_none (d := windowBegun d) h _

theorem windowServed_of_begun {r : SyncRun} (h : d.sync.run = some r) (hp : r.prepareAt = none) :
    windowServed d = sendPrepare (windowAt d) r (windowBegun d) := serveRun_of_begun (d := windowBegun d) h hp _

theorem windowServed_of_asked {r : SyncRun} {u : Nat} (h : d.sync.run = some r) (hp : r.prepareAt = some u)
    (ht : windowAt d < u + 300000) : windowServed d = windowBegun d :=
  (serveRun_of_asked (d := windowBegun d) h hp _).trans (if_neg (not_le.2 ht))

theorem windowServed_of_decided {r : SyncRun} {u : Nat} (h : d.sync.run = some r) (hp : r.prepareAt = some u)
    (ht : u + 300000 ≤ windowAt d) : windowServed d = decideRun r (windowBegun d) :=
  (serveRun_of_asked (d := windowBegun d) h hp _).trans (if_pos ht)

section Window

variable (h : WindowDue d)
include h

theorem cycleStart_sync : (cycleStart d).sync = { d.sync with
    cycleAt := windowAt d, cycle := d.sync.cycle + 1, xtrig := none
    run := (windowServed d).sync.run, held := (windowServed d).sync.held, lastOutcome := (windowServed d).sync.lastOutcome
    codeLeft := d.sync.codeLeft - 1, codeCmd := (serveCode (windowServed d)).sync.codeCmd } := by
  rw [cycleStart_of_due h, sendXtrig_sync, ← windowServed, (serveCode_spec _).1, (windowServed_served d).sync]
  rfl

theorem cycleStart_sys : (cycleStart d).sys = (advanceTo (windowAt d + 1000) d).sys := by
  rw [cycleStart_of_due h]
  exact sys_of_view (d := windowBegun d) (by simp)

theorem cycleStart_prm : (cycleStart d).prm = (windowServed d).prm := by
  rw [cycleStart_of_due h]
  exact prm_of_view (by simp [windowServed])

theorem cycleStart_histo (hcode : d.sync.codeLeft = 0) : (cycleStart d).histo = d.histo := by
  have hnone : (windowServed d).sync.codeLeft = 0 := by
    rw [(windowServed_served d).sync]
    exact hcode
  rw [cycleStart_of_due h, ← windowServed, serveCode_of_none hnone]
  exact histo_of_view (by simp [windowServed, windowBegun])

/-- What left when the change was served is not taken back. -/
theorem cycleStart_out : (windowServed d).out ⊆ (cycleStart d).out := by
  rw [cycleStart_of_due h]
  exact List.Subset.trans (serveCode_spec _).2.1 (sendXtrig_out _)

theorem cycleStart_beacon : sent d 1 (le 4 d.seq.frame ++ le 2 d.sync.cycle ++ zeros 2) ∈ (cycleStart d).out :=
  cycleStart_out h ((windowServed_served d).out (.head _))

theorem cycleStart_xtrig (hx : d.sync.xtrig = some p) : sent d 8 p ∈ (cycleStart d).out := by
  have hwait : (serveCode (windowServed d)).sync.xtrig = some p := by
    rw [(serveCode_spec _).1, (windowServed_served d).sync]
    exact hx
  have hvals : (serveCode (windowServed d)).prm.vals = d.prm.vals :=
    (congrArg Prm.vals (prm_of_view (by simp))).trans (windowServed_served d).vals
  rw [cycleStart_of_due h, ← windowServed, sendXtrig_of_some hwait, sent_of_vals hvals]
  exact .head _

theorem cycleStart_code (hcode : d.sync.codeLeft ≠ 0) : sent d 7 (codePayload d) ∈ (cycleStart d).out := by
  have hserved := windowServed_served d
  have hcopy : (windowServed d).sync.codeLeft ≠ 0 := by
    rw [hserved.sync]
    exact hcode
  have hpayload : codePayload (windowServed d) = codePayload d := by
    have hvals : (windowServed d).prm.vals = d.prm.vals := hserved.vals
    rw [codePayload, hserved.sync, prmGet, hvals]
    rfl
  have hmem := (serveCode_spec (windowServed d)).2.2 hcopy
  rw [sent_of_vals hserved.vals, hpayload] at hmem
  rw [cycleStart_of_due h]
  exact sendXtrig_out _ hmem

end Window

/-! ### A follower's slot -/

/-- The follower's slot of the cycle. -/
def slotAt (d : Dev) : Nat := d.sync.cycleAt + 40000 + 7500 * headNo d

/-- A follower's slot is due. -/
def FollowerSlotDue (d : Dev) : Prop :=
  syncFollower d = true ∧ ticking d = true ∧ d.sync.beaconHeard = true ∧ slotAt d + 7500 < d.seq.nextFrame

theorem followerSlot_of_not (h : ¬ FollowerSlotDue d) : followerSlot d = d := by
  refine if_pos ?_
  rw [FollowerSlotDue, not_and_or, not_and_or, not_and_or, not_lt] at h
  simpa [or_assoc, slotAt] using h

section Slot

variable (h : FollowerSlotDue d)
include h

theorem followerSlot_of_due : followerSlot d = match d.sync.answer with
    | some a =>
      if d.sync.answerAt = d.sync.cycleAt then sendXtrig (advanceTo (slotAt d) d)
      else emit (sent d (rdU a 0 1) (a.drop 1)) (modSync (fun y => { y with answer := none }) (advanceTo (slotAt d) d))
    | none => sendXtrig (advanceTo (slotAt d) d) := by
  obtain ⟨hf, ht, hb, hw⟩ := h
  unfold slotAt at hw
  refine (if_neg (by simp [hf, ht, hb, hw])).trans ?_
  rfl

theorem followerSlot_of_answer {a : Bytes} (ha : d.sync.answer = some a) (hlater : d.sync.answerAt ≠ d.sync.cycleAt) :
    followerSlot d =
      emit (sent d (rdU a 0 1) (a.drop 1)) (modSync (fun y => { y with answer := none }) (advanceTo (slotAt d) d)) := by
  rw [followerSlot_of_due h, ha]
  exact if_neg hlater

theorem followerSlot_of_xtrig (hno : d.sync.answer = none ∨ ¬ d.sync.answerAt ≠ d.sync.cycleAt) :
    followerSlot d = sendXtrig (advanceTo (slotAt d) d) := by
  rw [followerSlot_of_due h]
  cases ha : d.sync.answer with
  | none => rfl
  | some a => exact if_pos (not_not.1 (hno.resolve_left (by simp [ha])))

end Slot

end Sys2Proof.Laws
end

section
/-!
The SYNC bus as a whole (R349 to R353).
-/
namespace Sys2Proof.Laws

open Sys2Proof.Machine

variable {s : State}

/-- Settles O60: the messages, windows and slots of the SYNC bus, told one by one above. That CANCEL keeps a bound set, that a master
yields and that an answer waits for the next slot are DEDUCED, and windows and slots that do nothing are a DESIGN CHOICE (assumption log,
entries 34 and 1). -/
theorem syncMessagesAct : Obligations.SyncMessagesAct := by
  intro s hc sync kinds on_ good body heardBy onlyHeard sent clock
  refine ⟨fun m h i hi => ?_, fun m hon hbad i hi => ?_, fun m hon hgood hlen i hi => ?_, fun m hon hgood hlen i hi hother => ?_,
    fun m h hrole => ?_, fun m h hrole => ⟨fun hkeep => ?_, fun hhead hy => ?_⟩,
    fun m h => ⟨fun hf => ?_, fun hf => ⟨fun k hk hr => ?_, fun hr => ?_⟩⟩, fun m h => ⟨fun k f ht => ?_, fun hno => ?_⟩,
    fun m h => ⟨fun hn => ?_, fun hn => ?_⟩, ⟨fun k hd => ?_, fun hd => ?_⟩, fun m type htype h => ?_,
    fun m h => ⟨fun f ha => ?_, fun hno => ?_⟩, fun m h => ?_, ⟨fun hd => ?_, fun hd => ?_⟩, ⟨fun hd => ?_, fun hd => ?_⟩,
    ⟨fun hd => ?_, fun a hd ha hlater => ?_, fun hd hno => ⟨fun hx => ?_, fun p hx => ?_⟩⟩⟩
  · obtain ⟨f, he⟩ := exec_of_syncKinds hi s
    exact completes_of_views he (syncReceive_of_off (d := s.fresh) h) hc rfl rfl rfl
  · obtain ⟨f, he⟩ := exec_of_syncKinds hi s
    exact completes_of_views he (syncReceive_of_failed (d := s.fresh) hon hbad) hc (by simp) (by simp) (by simp)
  · obtain ⟨f, he⟩ := exec_of_syncKinds hi s
    exact completes_of_views he (syncReceive_of_unknown (d := s.fresh) hon hgood hlen) hc rfl rfl rfl
  · obtain ⟨f, he⟩ := exec_of_syncKinds hi s
    exact completes_of_views he ((syncReceive_of_known (d := s.fresh) hon hgood hlen).trans (if_pos hother)) hc rfl rfl rfl
  · have hsync := onBeacon_follower_sync (d := notedAt m s) hrole (rdU m 0 1) (slice m 4 (rdU m 2 1))
    have honly := onBeacon_follower_only (d := notedAt m s) hrole (rdU m 0 1) (slice m 4 (rdU m 2 1))
    refine ⟨_, heard_completes rfl h rfl hc (by simp) (by simp) (by simp),
      only_trans (only_of_views fun p hp => by cases p <;> simp at hp ⊢) honly,
      fun hne => hsync.trans (if_neg hne), fun heq => hsync.trans (if_pos heq)⟩
  · exact heard_completes rfl h (onBeacon_of_kept (d := notedAt m s) hrole hkeep _) hc (by simp) (by simp) (by simp)
  · have hsync := onBeacon_yield_sync (d := notedAt m s) hrole hhead hy (slice m 4 (rdU m 2 1))
    exact ⟨_, heard_completes rfl h rfl hc (by simp) (by simp) (by simp), hsync,
      only_of_views fun p hp => by cases p <;> simp at hp ⊢⟩
  · exact heard_completes rfl h (onPrepare_of_other (d := notedAt m s) hf _ _) hc rfl rfl rfl
  · exact heard_completes rfl h (onPrepare_of_ready (d := notedAt m s) hf _ hk hr) hc rfl rfl rfl
  · exact heard_completes rfl h (onPrepare_of_refused (d := notedAt m s) hf _ hr) hc rfl rfl rfl
  · exact heard_completes rfl h (onGo_of_taken (d := notedAt m s) ht _) hc rfl rfl rfl
  · exact heard_completes rfl h (onGo_of_not (d := notedAt m s) hno _) hc rfl rfl rfl
  · exact heard_completes rfl h (onCancel_of_named (d := notedAt m s) hn _) hc rfl rfl rfl
  · exact heard_completes rfl h (onCancel_of_not (d := notedAt m s) hn _) hc rfl rfl rfl
  · exact completes_of_views rfl (syncDeadline_of_due (d := s.fresh) hd) hc (by simp) (by simp) (by simp)
  · exact completes_of_views rfl (syncDeadline_of_not (d := s.fresh) hd) hc rfl rfl rfl
  · rcases htype with rfl | rfl
    · exact ⟨fun r hr => heard_completes rfl h (answerHeard_of_counted (d := notedAt m s) hr true _) hc rfl rfl rfl,
        fun hno => heard_completes rfl h (answerHeard_of_not (d := notedAt m s) hno true _) hc rfl rfl rfl⟩
    · exact ⟨fun r hr => heard_completes rfl h (answerHeard_of_counted (d := notedAt m s) hr false _) hc rfl rfl rfl,
        fun hno => heard_completes rfl h (answerHeard_of_not (d := notedAt m s) hno false _) hc rfl rfl rfl⟩
  · exact heard_completes rfl h (onCode_of_ahead (d := notedAt m s) ha _) hc rfl rfl rfl
  · exact heard_completes rfl h (onCode_of_not (d := notedAt m s) hno _) hc rfl rfl rfl
  · exact ⟨_, heard_completes rfl h rfl hc (by simp) (by simp) (by simp),
      onXtrig_sync _ _ _, only_of_views fun p hp => by cases p <;> simp at hp ⊢,
      fun hoff => onXtrig_peat_of_off (d := notedAt m s) hoff _ _,
      fun htrig harmed => onXtrig_peat_of_armed (d := notedAt m s) htrig harmed _ _⟩
  · obtain ⟨hf, ht, hl⟩ := hd
    refine ⟨_, completes_of_views rfl (beaconLoss_of_due (d := s.fresh) hf ht hl) hc (by simp [lossNoted]) (by simp [lossNoted])
      (by simp [lossNoted]), ?_, ?_, only_of_views fun p hp => by cases p <;> simp [lossNoted] at hp ⊢⟩
    · rw [raise_sync, modSync_sync, lossNoted_sync]
      rfl
    · exact (sys_of_view (by simp)).trans (lossNoted_sys s.fresh)
  · exact completes_of_views rfl (beaconLoss_of_not (d := s.fresh) hd) hc rfl rfl rfl
  · exact completes_of_views rfl (cycleStart_of_not (d := s.fresh) hd) hc rfl rfl rfl
  · have hdue : WindowDue s.fresh := hd
    have hsync := cycleStart_sync hdue
    refine ⟨_, completes_of_views (f := cycleStart) rfl rfl hc (by simp) (by simp) (by simp),
      only_of_views fun p hp => by cases p <;> simp at hp ⊢, congrArg Sync.cycle hsync, congrArg Sync.cycleAt hsync,
      congrArg Sync.xtrig hsync, cycleStart_sys hdue, cycleStart_beacon hdue, fun p => cycleStart_xtrig hdue,
      fun hr => ?_, fun r hr hp => ?_, fun r u hr hp => ?_, fun h => ⟨?_, cycleStart_histo hdue h⟩, fun h => ⟨?_, cycleStart_code hdue h⟩⟩
    · rw [hsync, cycleStart_prm hdue, windowServed_of_none (d := s.fresh) hr]
      exact ⟨hr, rfl, rfl⟩
    · have hserved := windowServed_of_begun (d := s.fresh) hr hp
      rw [hsync]
      refine ⟨?_, cycleStart_out hdue ?_⟩
      · rw [hserved]
        rfl
      · rw [hserved]
        exact .head _
    · refine ⟨fun hlt => ?_, fun hle => ?_⟩
      · rw [hsync, cycleStart_prm hdue, windowServed_of_asked (d := s.fresh) hr hp hlt]
        exact ⟨hr, rfl, rfl⟩
      · have hout := cycleStart_out hdue
        rw [hsync, cycleStart_prm hdue]
        rw [windowServed_of_decided (d := s.fresh) hr hp hle] at hout ⊢
        refine ⟨decideRun_run _ _, fun hgo => ?_, fun hno => ?_⟩
        · obtain ⟨hsent, hbound⟩ := decideRun_go (r := r) (d := windowBegun s.fresh) hgo
          refine ⟨hout hsent, fun k hk => ?_⟩
          obtain ⟨hheld, hprm⟩ := hbound k hk
          exact ⟨congrArg Sync.held hheld, hprm⟩
        · obtain ⟨hsent, hheld, hprm⟩ := decideRun_cancel (r := r) (d := windowBegun s.fresh) hno
          exact ⟨hout hsent, congrArg Sync.held hheld, hprm⟩
    · rw [hsync]
      exact Nat.sub_eq_zero_of_le (h ▸ Nat.zero_le 1)
    · rw [hsync]
      rfl
  · exact completes_of_views rfl (followerSlot_of_not (d := s.fresh) hd) hc rfl rfl rfl
  · exact completes_of_views rfl (followerSlot_of_answer (d := s.fresh) hd ha hlater) hc rfl rfl rfl
  · exact completes_of_views rfl ((followerSlot_of_xtrig (d := s.fresh) hd hno).trans (sendXtrig_of_none hx)) hc rfl rfl rfl
  · exact completes_of_views rfl ((followerSlot_of_xtrig (d := s.fresh) hd hno).trans (sendXtrig_of_some hx)) hc rfl rfl rfl

end Sys2Proof.Laws
end

section
/-!
Single steps: the command that a step takes, and the form of the state after reset and after every step (R360, R365, R403).
-/
namespace Sys2Proof.Laws

open Sys2Proof.Machine

variable {d : Dev} {s t : State}

/-- Settles O1: a step runs the front command with the rest of the queue, and idles on an empty queue. -/
theorem stepTakesTheFrontCommand : Obligations.StepTakesTheFrontCommand :=
  ⟨fun _ _ _ => rfl, fun s h => by simp [step, h]⟩

/-- Settles O2: the reset state is concrete, each of its fields is read off. -/
theorem resetHasTheForm : Obligations.ResetHasTheForm := by
  refine ⟨⟨rfl, rfl⟩, rfl, fun h => ?_, ?_, fun _ => rfl⟩
  · exact absurd h (by decide)
  · show ∀ o ∈ [SafeOut.reset, SafeOut.reset], o.energised = false
    decide

/-- A device in HALTED has no session (R403). -/
def NoSessionHalted (d : Dev) : Prop := d.sys.op = .halted → d.kmp.session = none

theorem devReset_noSessionHalted (por : Bool) (d : Dev) : NoSessionHalted (devReset por d) := fun _ => rfl

theorem resetDue_noSessionHalted (h : NoSessionHalted d) : NoSessionHalted (resetDue d) := by
  unfold resetDue
  split
  · split
    · exact h
    · exact devReset_noSessionHalted false d
  · exact h

theorem NoSessionHalted.of_views {e : Dev} (h : NoSessionHalted d) (ho : Facet.rail.view e = Facet.rail.view d)
    (hk : Facet.session.view e = Facet.session.view d) : NoSessionHalted e := by
  rwa [NoSessionHalted, op_of_view ho, session_of_view hk]

theorem NoSessionHalted.setWrites (h : NoSessionHalted d) (w : List (Nat × Bytes)) : NoSessionHalted { d with writes := w } := h

/-- Whatever a command did, what follows it ends the session of a device that halted. -/
theorem settle_noSessionHalted (before : Bool) (d : Dev) : NoSessionHalted (settle before d) := by
  have h : NoSessionHalted (resetDue (haltSession (followOuts (eventTriggers 16 d)))) :=
    resetDue_noSessionHalted (haltSession_session _)
  exact h.of_views (by simp [settle]) (by simp [settle])

/-- Every command carries out its writes, and leaves memories in canonical form. -/
theorem exec_form {i : Instr} (hram : Memory.wf s.ram = true) (h : exec i s = .next t) : t.Inv ∧ NoSessionHalted t.dev := by
  obtain ⟨f, hf⟩ := exec_eq_runDev i s
  rw [hf] at h
  obtain rfl := Host.Outcome.next.inj h
  exact ⟨⟨memWrites_wf _ _ hram, rfl⟩, (settle_noSessionHalted (irqLow s.dev) (f s.fresh)).setWrites []⟩

/-- Settles O3: a step is a command with what follows it, or on an empty queue nothing. -/
theorem everyStepKeepsTheForm : Obligations.EveryStepKeepsTheForm := by
  intro s t hinv hsession h
  unfold step at h
  split at h
  · exact Host.Outcome.next.inj h ▸ ⟨hinv, hsession⟩
  · next i rest _ => exact exec_form (s := { s with pending := rest }) hinv.1 h

end Sys2Proof.Laws
end

section
/-!
The reads of the system, session, attestation and ROM groups (R371, R376, R401, R405, R413), the get commands (R423) and the reads of the
plan, receive, time, point and repair groups (R419 to R428).
-/
namespace Sys2Proof.Laws

open Sys2Proof.Machine

variable {s : State} {mb : Nat} {c : Cmd} {d : Dev}

/-- A reader answers with what it reads off the device, and changes nothing else. -/
theorem answers_read {i : Instr} {op : Nat} {f : Cmd → Dev → Nat × Bytes} {st : Nat} {p : Bytes} (hs : Starts s op mb c)
    (he : exec i s = runDev (reader op mb f) s) (hf : f c (s.taken c mb) = (st, p)) : Answers i s c st p (s.taken c mb) :=
  reader_completes i op mb f s c st p he hs.2 hs.1 hf

/-- A reader whose card admits some arguments and answers others with BAD_PARAM. -/
theorem answers_read_when {i : Instr} {op : Nat} {f : Cmd → Dev → Nat × Bytes} {st : Nat} {p : Bytes} {good ok : Prop}
    [Decidable good] [Decidable ok] (hs : Starts s op mb c) (he : exec i s = runDev (reader op mb f) s)
    (hf : f c (s.taken c mb) = if good then (st, p) else (stBadParam, [])) (hok : ok ↔ good) :
    if ok then Answers i s c st p (s.taken c mb) else Answers i s c stBadParam [] (s.taken c mb) := by
  by_cases h : good
  · rw [if_pos (hok.2 h)]
    exact answers_read hs he (hf.trans (if_pos h))
  · rw [if_neg (fun k => h (hok.1 k))]
    exact answers_read hs he (hf.trans (if_neg h))

theorem answers_read_unless {i : Instr} {op : Nat} {f : Cmd → Dev → Nat × Bytes} {st : Nat} {p : Bytes} {bad ok : Prop}
    [Decidable bad] [Decidable ok] (hs : Starts s op mb c) (he : exec i s = runDev (reader op mb f) s)
    (hf : f c (s.taken c mb) = if bad then (stBadParam, []) else (st, p)) (hok : ok ↔ ¬ bad) :
    if ok then Answers i s c st p (s.taken c mb) else Answers i s c stBadParam [] (s.taken c mb) :=
  answers_read_when hs he (hf.trans (ite_not ..).symm) hok

/-! ### System, session, attestation and ROM groups -/

/-- Ten runs of bytes behind a head are one run behind it. -/
theorem append_runs (head a b c e f g h i j k : Bytes) :
    head ++ a ++ b ++ c ++ e ++ f ++ g ++ h ++ i ++ j ++ k = head ++ (a ++ b ++ c ++ e ++ f ++ g ++ h ++ i ++ j ++ k) := by
  simp only [List.append_assoc]

/-- The report of health begins with its first thirteen fields. -/
theorem doSysHealth_begins (c : Cmd) (d : Dev) : ∃ rest : Bytes, doSysHealth c d = (stOk,
    le 4 0x4852E1A5 ++ le 2 1 ++ le 2 1344 ++ le 8 d.sys.now ++ le 4 d.seq.frame ++ le 1 d.sys.boot ++
      le 1 (opCode d.sys.op) ++ le 1 d.sys.haltCause ++ le 1 (servoCode d.tim.servo) ++ le 4 d.seq.plan.planId ++
      le 4 d.rep.number ++ leS 2 (hottest d 0x1A 4) ++ leS 2 (hottest d 0x1E 4) ++ rest) :=
  ⟨_, congrArg (Prod.mk stOk) (append_runs ..)⟩

/-- The response of GET_STATUS: a state, a final status and an opcode. -/
def statusRsp (state status op : Nat) : Bytes := le 1 state ++ zeros 1 ++ le 2 status ++ le 2 op ++ zeros 2

section Status

variable {waits runs : Option Cmd} {ended : Option FinalCmd}
  (hwaits : (mbGet d c.mb).waiting.find? (fun x => x.tag == rdU c.payload 0 2) = waits)
  (hruns : (mbGet d c.mb).running.find? (fun x => x.tag == rdU c.payload 0 2) = runs)
  (hended : (mbGet d c.mb).finals.find? (fun x => x.tag == rdU c.payload 0 2) = ended)
include hwaits hruns hended

/-- GET_STATUS by the place where its target is found. -/
theorem doGetStatus_eq : doGetStatus c d = (stOk, match waits, runs, ended with
    | some x, _, _ => statusRsp 0 0 x.op
    | none, some x, _ => statusRsp (if overtakes x.op then 1 else 2) 0 x.op
    | none, none, some x => statusRsp 3 x.status x.op
    | none, none, none => if c.tag = rdU c.payload 0 2 then statusRsp 1 0 c.op else statusRsp 0xFF 0 0) := by
  subst hwaits hruns hended
  rfl

end Status

/-- Settles O8: each read is its own response, and ROM_INFO keeps the claim besides. -/
theorem systemReadsAnswer : Obligations.SystemReadsAnswer := by
  intro s mb c
  refine ⟨fun hs => answers_read hs rfl rfl, fun hs => ?_, fun hs => ?_, fun hs => answers_read hs rfl rfl,
    fun hs => ⟨_, answers_read hs rfl rfl⟩, fun hs => ?_⟩
  · obtain ⟨rest, h⟩ := doSysHealth_begins c (s.taken c mb)
    exact ⟨rest, answers_read hs rfl h⟩
  · refine ⟨(doGetStatus c (s.taken c mb)).2, answers_read hs rfl rfl, fun x hw => ?_, fun x hw hr => ?_, fun x hw hr hf => ?_,
      fun hw hr hf => ?_⟩
    · rw [doGetStatus_eq hw rfl rfl]
      rfl
    · rw [doGetStatus_eq hw hr rfl]
      rfl
    · rw [doGetStatus_eq hw hr hf]
      rfl
    · rw [doGetStatus_eq hw hr hf]
      rfl
  · exact answers_with hs rfl (f := doRomInfo) rfl (by simp) (by simp) (by simp)

/-! ### Get commands -/

section Get

variable {group : Nat}

/-- The identifiers that a get command asks for. -/
def getIds (p : Bytes) : List Nat := (List.range (rdU p 2 2)).map (fun i => rdU p (4 + 2 * i) 2)

/-- What a get command's card admits. -/
def GetOk (group : Nat) (p : Bytes) : Prop :=
  rdU p 0 1 ≤ 1 ∧ 1 ≤ (getIds p).length ∧ (getIds p).length ≤ 125 ∧ ∀ i ∈ getIds p, i / 256 = group ∧ paramKnown i = true

/-- A parameter's value, in force or as staged. -/
def getValue (d : Dev) (which i : Nat) : Nat :=
  if which = 1 then (tabFind d.kmp.staged.params i).getD (prmGet d i) else prmGet d i

theorem doPrmGet_of_ok (h : GetOk group c.payload) : doPrmGet group c d =
    (stOk, (getIds c.payload).flatMap (fun i => le 2 i ++ zeros 2 ++ le 4 (getValue d (rdU c.payload 0 1) i))) := by
  obtain ⟨hwhich, hmin, hmax, hall⟩ := h
  have hids : (getIds c.payload).all (fun i => i / 256 == group && paramKnown i) = true := by
    simpa [List.all_eq_true] using hall
  refine if_neg ?_
  rintro (h | h | h | h)
  · omega
  · exact absurd hmin (by rw [show (getIds c.payload).length = 0 from h]; decide)
  · exact absurd hmax (Nat.not_le.2 h)
  · exact absurd hids (by simpa [getIds] using h)

theorem doPrmGet_of_not (h : ¬ GetOk group c.payload) : doPrmGet group c d = (stBadParam, []) := by
  refine if_pos (Classical.not_not.1 fun hn => h ?_)
  simp only [not_or] at hn
  obtain ⟨hwhich, hmin, hmax, hall⟩ := hn
  refine ⟨by omega, Nat.one_le_iff_ne_zero.2 hmin, Nat.not_lt.1 hmax, ?_⟩
  simpa [List.all_eq_true, getIds] using hall

/-- A get command of a group answers with the values, or is refused by its card. -/
theorem prmGet_answers {i : Nat → Instr} {op : Nat} (hs : Starts s op mb c)
    (he : ∀ mb s, exec (i mb) s = runDev (reader op mb (doPrmGet group)) s) :
    let which := rdU c.payload 0 1
    let ids := (List.range (rdU c.payload 2 2)).map (fun i => rdU c.payload (4 + 2 * i) 2)
    if which ≤ 1 ∧ 1 ≤ ids.length ∧ ids.length ≤ 125 ∧ ∀ i ∈ ids, i / 256 = group ∧ paramKnown i = true then
      Answers (i mb) s c stOk (ids.flatMap (fun i => le 2 i ++ zeros 2 ++
        le 4 (if which = 1 then (tabFind s.dev.kmp.staged.params i).getD (prmGet s.dev i) else prmGet s.dev i))) (s.taken c mb)
    else Answers (i mb) s c stBadParam [] (s.taken c mb) := by
  intro which ids
  split
  · next h => exact answers_read hs (he mb s) (doPrmGet_of_ok h)
  · next h => exact answers_read hs (he mb s) (doPrmGet_of_not h)

end Get

/-- Settles O24: the nine commands are one reader with nine groups. -/
theorem parameterGetsAnswer : Obligations.ParameterGetsAnswer := by
  intro r hr s mb c hs
  fin_cases hr
  all_goals exact prmGet_answers hs fun _ _ => rfl

/-! ### Plans -/

theorem doPlanRead_of_other (h : 4 ≤ rdU c.payload 0 1) : doPlanRead c d = (stBadParam, []) := by
  obtain ⟨k, hk⟩ := Nat.exists_eq_add_of_le' h
  simp only [doPlanRead, hk]

section Check

variable (hform : planFormOk c.payload = true)
include hform

/-- A plan without a failure of checks 1 to 9 is judged by the rail's budget. -/
theorem doPlanCheck_of_feasible (h : planChecks19 (planEnv d.prm.vals) (courseComing d) (parsePlan c.payload) = none) :
    let share := predictPlan (aMaxOf d.prm.vals) (planEnv d.prm.vals).tick d.saf.committed (driveWord d) (segOfRow d) (parsePlan c.payload)
    let zone := predictZone (aMaxOf d.prm.vals) (planEnv d.prm.vals).tick d.saf.committed (driveWord d) (segOfRow d) (parsePlan c.payload)
    ∃ rest : Bytes, doPlanCheck c d = (if share.2 then stOk else stBudget,
      (if share.2 then le 1 0 ++ le 1 0xFF else le 1 10 ++ le 1 zone) ++ zeros 2 ++ le 4 (activeNs (parsePlan c.payload)) ++ rest) := by
  intro share zone
  have hshare : predictPlan (aMaxOf d.prm.vals) (planEnv d.prm.vals).tick d.saf.committed (driveWord d) (segOfRow d)
      (parsePlan c.payload) = share := rfl
  simp only [doPlanCheck, hform, h, checkReport, hshare, Bool.not_true, Bool.false_eq_true, if_false, Option.isSome_none]
  cases share.2
  all_goals
    simp only [Bool.false_eq_true, if_false, if_true, List.append_assoc]
    exact ⟨_, rfl⟩

theorem doPlanCheck_of_infeasible {r : Nat × Nat}
    (h : planChecks19 (planEnv d.prm.vals) (courseComing d) (parsePlan c.payload) = some r) :
    ∃ rest : Bytes, doPlanCheck c d = (stInfeasible, le 1 r.1 ++ le 1 r.2 ++ zeros 2 ++ rest) := by
  apply Exists.intro
  simp only [doPlanCheck, hform, h, checkReport, Bool.not_true, Bool.false_eq_true, if_false, List.append_assoc]
  rfl

end Check

theorem doPlanCheck_of_badForm (h : planFormOk c.payload = false) : doPlanCheck c d = (stBadParam, zeros 36) := by
  simp [doPlanCheck, h]

theorem doPlanColumns_of_some {k : Course} (hk : columnsOf d (rdU c.payload 0 1) = some k) : doPlanColumns c d =
    if rdU c.payload 4 2 = 0 ∨ 4096 < rdU c.payload 4 2 ∨ planColumns k.plan < rdU c.payload 2 2 + rdU c.payload 4 2 then (stBadParam, [])
    else (stOk, le 2 (planColumns k.plan) ++ zeros 2 ++ le 4 k.plan.planId ++
      (List.range (rdU c.payload 4 2)).flatMap (fun i => columnEntry k.aMax k.plan (rdU c.payload 2 2 + i))) := by
  simp only [doPlanColumns, hk]

theorem doPlanColumns_of_none (h : columnsOf d (rdU c.payload 0 1) = none) : doPlanColumns c d = (stBadParam, []) := by
  simp only [doPlanColumns, h]

/-! ### Synchronised changes, receive and repair groups -/

theorem doSyncStatus_of_none (h : d.sync.held = none) :
    doSyncStatus c d = (stOk, zeros 1 ++ le 1 d.sync.lastOutcome ++ zeros 14) := by
  simp only [doSyncStatus, h]

theorem doSyncStatus_of_held {x : Held} (h : d.sync.held = some x) : doSyncStatus c d =
    (stOk, le 1 x.state ++ le 1 d.sync.lastOutcome ++ le 1 x.kind ++ zeros 1 ++ le 4 x.planId ++ le 4 x.setId ++ le 4 x.frame) := by
  simp only [doSyncStatus, h]

theorem doAlignRead_of_other (h : 2 ≤ rdU c.payload 0 1) : doAlignRead c d = (stBadParam, []) := by
  obtain ⟨k, hk⟩ := Nat.exists_eq_add_of_le' h
  simp only [doAlignRead, hk]

theorem laneRunOk_iff (p : Bytes) : laneRunOk p = true ↔ 1 ≤ rdU p 2 2 ∧ rdU p 0 2 + rdU p 2 2 ≤ 1088 := by
  simp [laneRunOk, Nat.one_le_iff_ne_zero]

/-- Settles O27: each read is told by its own card; what a card refuses is the complement of what it admits. -/
theorem planAndReceiveReadsAnswer : Obligations.PlanAndReceiveReadsAnswer := by
  intro s mb c
  dsimp only
  refine ⟨fun hs => ⟨fun h => ?_, fun h => ?_, fun h => ?_, fun h => ?_, fun h => ?_⟩, fun hs hform h => ?_, fun r hs hform h => ?_,
    fun hs hform => ?_, fun k hs hk => ?_, fun hs hk => ?_, fun hs => ⟨fun h => ?_, fun x h => ?_⟩,
    fun hs => ⟨fun h => ?_, fun h => ?_, fun h => ?_⟩, fun hs => ?_, fun hs => ?_, fun hs => ?_, fun hs => ?_, fun hs => ?_,
    fun hs => ?_⟩
  · exact answers_read hs rfl (by rw [doPlanRead, h]; rfl)
  · exact answers_read hs rfl (by rw [doPlanRead, h]; rfl)
  · exact answers_read hs rfl (by rw [doPlanRead, h]; rfl)
  · exact answers_read hs rfl (by rw [doPlanRead, h]; rfl)
  · exact answers_read hs rfl (doPlanRead_of_other h)
  · obtain ⟨rest, hcheck⟩ := doPlanCheck_of_feasible (d := s.taken c mb) hform h
    exact ⟨rest, answers_read hs rfl hcheck⟩
  · obtain ⟨rest, hcheck⟩ := doPlanCheck_of_infeasible (d := s.taken c mb) hform h
    exact ⟨rest, answers_read hs rfl hcheck⟩
  · exact answers_read hs rfl (doPlanCheck_of_badForm hform)
  · exact answers_read_unless hs rfl (doPlanColumns_of_some (d := s.taken c mb) hk) (by omega)
  · exact answers_read hs rfl (doPlanColumns_of_none hk)
  · exact answers_read hs rfl (doSyncStatus_of_none h)
  · exact answers_read hs rfl (doSyncStatus_of_held h)
  · exact answers_read hs rfl (by rw [doAlignRead, h]; rfl)
  · exact answers_read hs rfl (by rw [doAlignRead, h]; rfl)
  · exact answers_read hs rfl (doAlignRead_of_other h)
  · exact answers_read_unless hs (f := doGaugeRead) rfl rfl (by omega)
  · exact answers_read_unless hs (f := doLaneStats) rfl rfl (by simp only [ne_eq, Nat.one_le_iff_ne_zero]; grind)
  · exact answers_read_when hs (f := doLaneStatus) rfl rfl (laneRunOk_iff _).symm
  · exact ⟨_, _, answers_read hs rfl rfl⟩
  · exact answers_read hs rfl rfl
  · exact answers_read_unless hs (f := doMapRead) rfl rfl (by omega)

end Sys2Proof.Laws
end

section
/-!
The reads of the emitter, scanner, sense and loop groups (R432 to R439) and of the stream, Peat, Hook, safety and network groups
(R432, R442 to R452).
-/
namespace Sys2Proof.Laws

open Sys2Proof.Machine

variable {s : State} {mb : Nat} {c : Cmd} {d : Dev}

/-! ### Emitter, sense and loop groups -/

theorem doDriveRead_of_other (h : 2 ≤ rdU c.payload 0 1) : doDriveRead c d = (stBadParam, []) := by
  obtain ⟨k, hk⟩ := Nat.exists_eq_add_of_le' h
  simp only [doDriveRead, hk]

theorem doEntryRead_of_other (h : 2 ≤ rdU c.payload 0 1) : doEntryRead c d = (stBadParam, []) := by
  obtain ⟨k, hk⟩ := Nat.exists_eq_add_of_le' h
  simp only [doEntryRead, hk]

theorem doLoopRead_of_inForce (hn : rdU c.payload 0 1 ≤ 15) (h : rdU c.payload 1 1 = 0) :
    doLoopRead c d = (stOk, loopRec d (rdU c.payload 0 1)) := by
  rw [doLoopRead, h]
  exact if_neg (Nat.not_lt.2 hn)

theorem doLoopRead_of_staged (hn : rdU c.payload 0 1 ≤ 15) (h : rdU c.payload 1 1 = 1) :
    doLoopRead c d = (stOk, recWith d d.kmp.staged (rdU c.payload 0 1)) := by
  rw [doLoopRead, h]
  exact if_neg (Nat.not_lt.2 hn)

theorem doLoopRead_of_bad (h : 15 < rdU c.payload 0 1 ∨ 1 < rdU c.payload 1 1) : doLoopRead c d = (stBadParam, []) := by
  unfold doLoopRead
  dsimp only
  split
  · next hk => exact if_pos (h.resolve_right (by omega))
  · next hk => exact if_pos (h.resolve_right (by omega))
  · rfl

/-- Settles O28: each read is told by its own card. RING_READ at exactly 2³¹ from the next number is served, which is the model's choice
(DESIGN CHOICE, assumption log, entry 77). -/
theorem driveReadsAnswer : Obligations.DriveReadsAnswer := by
  intro s mb c
  dsimp only
  refine ⟨fun hs => ⟨fun h => ?_, fun h => ?_, fun h => ?_⟩, fun hs => ?_, fun hs => ?_, fun hs => ?_,
    fun hs => ⟨fun h => ?_, fun h => ?_, fun h => ?_⟩, fun hs => ⟨fun h => ?_, fun h => ?_⟩, fun hs => ?_,
    fun hs => ⟨fun hn h => ?_, fun hn h => ?_, fun h => ?_⟩, fun hs => ?_⟩
  · exact answers_read hs rfl (by rw [doDriveRead, h]; rfl)
  · exact answers_read hs rfl (by rw [doDriveRead, h]; rfl)
  · exact answers_read hs rfl (doDriveRead_of_other h)
  · exact answers_read hs rfl rfl
  · exact answers_read hs rfl rfl
  · exact answers_read hs rfl rfl
  · exact answers_read hs rfl (by rw [doEntryRead, h]; rfl)
  · exact answers_read hs rfl (by rw [doEntryRead, h]; rfl)
  · exact answers_read hs rfl (doEntryRead_of_other h)
  · exact answers_read hs rfl (if_neg (Nat.not_lt.2 h))
  · exact answers_read hs rfl (if_pos h)
  · exact answers_read_unless hs (f := doRingRead) rfl rfl (by rw [show (s.taken c mb).sense = s.dev.sense from rfl]; grind)
  · exact answers_read hs rfl (doLoopRead_of_inForce hn h)
  · exact answers_read hs rfl (doLoopRead_of_staged hn h)
  · exact answers_read hs rfl (doLoopRead_of_bad h)
  · exact answers_read hs rfl rfl

/-! ### Stream, safety and network groups -/

theorem doSafeRead_of_other (h : 2 ≤ rdU c.payload 0 1) : doSafeRead c d = (stBadParam, []) := by
  obtain ⟨k, hk⟩ := Nat.exists_eq_add_of_le' h
  simp only [doSafeRead, hk]

/-- The report of the ports ends with the use of the pools. -/
theorem doPortStatus_ends (c : Cmd) (d : Dev) : ∃ rest : Bytes, doPortStatus c d = (stOk, (List.range 3).flatMap (fun k =>
    le 4 (portWord d k) ++ le 4 (portGet d.slu k).lifeDrops ++
      le 4 ((List.range 7).foldl (fun w r => w + (portGet d.slu k).classes.getD r 0 * 16 ^ r) 0) ++
      le 1 (portGet d.slu k).watchdog ++ zeros 3) ++ rest) ∧ rest.length = 16 := by
  refine ⟨_, congrArg (Prod.mk stOk) (List.append_assoc ..), ?_⟩
  simp [List.range_succ]

theorem doSafeStatus_begins (c : Cmd) (d : Dev) : ∃ rest : Bytes, doSafeStatus c d = (stOk,
    le 4 d.saf.latched ++ le 4 (presentWord d) ++ le 1 (opCode d.sys.op) ++
      le 1 (maskOf ((List.range 2).filter (fun n => (safeOut d n).energised)) + 4 * lockedBits d) ++
      le 1 (d.saf.set.getD 0xFF) ++ le 1 (violatedBits d) ++ rest) ∧ rest.length = 20 := by
  simp only [doSafeStatus, List.append_assoc]
  exact ⟨_, rfl, by simp⟩

theorem doMacsecStatus_begins (c : Cmd) (d : Dev) : ∃ rest : Bytes, doMacsecStatus c d = (stOk,
    le 1 (prmGet d 0x0F08) ++ le 1 d.net.txAn ++ rest) := by
  simp only [doMacsecStatus, List.append_assoc]
  exact ⟨_, rfl⟩

theorem doNetStatus_ends (c : Cmd) (d : Dev) : ∃ rest : Bytes, rest.length = 4 ∧ doNetStatus c d = (stOk,
    rest ++ le 4 d.net.dupDiscarded ++ le 4 d.net.dupPassed ++ le 4 d.net.wrongLan ++ le 4 d.net.unprotected ++
      le 4 d.net.udpDiscarded ++ le 4 d.sync.checkFails ++ le 4 d.trig.overruns) :=
  ⟨_, by simp, rfl⟩

/-- Settles O31: each read is told by its own card. -/
theorem streamSafetyAndNetworkReadsAnswer : Obligations.StreamSafetyAndNetworkReadsAnswer := by
  intro s mb c
  dsimp only
  refine ⟨fun hs => ?_, fun hs => ?_, fun hs => ?_, fun hs => ?_, fun hs => ?_, fun hs => ?_,
    fun hs => ⟨fun hw h => ?_, fun b hw h => ?_, fun hw h => ?_, fun b hw h => ?_, fun hw => ?_⟩, fun hs => ?_, fun hs => ?_,
    fun hs => ?_, fun hs => ?_, fun hs => ?_⟩
  · exact answers_read_unless hs (f := doSubsRead) rfl rfl (by omega)
  · obtain ⟨rest, hread, hlength⟩ := doPortStatus_ends c (s.taken c mb)
    exact ⟨rest, answers_read hs rfl hread, hlength⟩
  · exact answers_read hs rfl rfl
  · exact answers_read hs rfl rfl
  · exact answers_read hs rfl rfl
  · exact answers_read hs rfl rfl
  · exact answers_read hs rfl (by rw [doSafeRead, hw, show (s.taken c mb).saf.committed = none from h]; rfl)
  · exact answers_read hs rfl (by rw [doSafeRead, hw, show (s.taken c mb).saf.committed = some b from h]; rfl)
  · exact answers_read hs rfl (by rw [doSafeRead, hw, show (s.taken c mb).saf.pending = none from h]; rfl)
  · exact answers_read hs rfl (by rw [doSafeRead, hw, show (s.taken c mb).saf.pending = some b from h]; rfl)
  · exact answers_read hs rfl (doSafeRead_of_other hw)
  · obtain ⟨rest, hread, hlength⟩ := doSafeStatus_begins c (s.taken c mb)
    exact ⟨rest, answers_read hs rfl hread, hlength⟩
  · exact answers_read hs rfl rfl
  · exact answers_read hs rfl rfl
  · obtain ⟨rest, hread⟩ := doMacsecStatus_begins c (s.taken c mb)
    exact ⟨rest, answers_read hs rfl hread⟩
  · obtain ⟨rest, hlength, hread⟩ := doNetStatus_ends c (s.taken c mb)
    exact ⟨rest, hlength, answers_read hs rfl hread⟩

end Sys2Proof.Laws
end

section
/-!
The staging commands: parameters (R423, R430, R431), the writes of the plan, receive, point and repair groups (R419, R424, R426 to R428)
and those of the emitter, sense and loop groups (R433, R437, R438).
-/
namespace Sys2Proof.Laws

open Sys2Proof.Machine

variable {s : State} {mb : Nat} {c : Cmd} {d : Dev}

/-- A staging command is BUSY while a commit runs (R402). -/
theorem answers_busy {i : Instr} {op : Nat} {f : Cmd → Dev → Nat × Bytes × ConfigSet} (hs : Starts s op mb c)
    (hk : s.dev.kmp.commit ≠ none) (he : exec i s = runDev (stager op mb f) s) : Answers i s c stBusy [] (s.taken c mb) := by
  refine answers_unchanged hs he (if_pos ?_)
  exact Option.isSome_iff_ne_none.2 hk

/-! ### Parameters -/

section FirstBad

variable {α : Type} {l : List α} {ok : α → Bool}

theorem firstBad_of_all (h : ∀ x ∈ l, ok x = true) : firstBad l ok = none := by
  rw [firstBad, List.findIdx?_eq_none_iff]
  simpa using h

theorem firstBad_of_first {i : Nat} {e : α} (he : l[i]? = some e) (hbad : ok e = false) (hbefore : ∀ x ∈ l.take i, ok x = true) :
    firstBad l ok = some i := by
  obtain ⟨hi, rfl⟩ := List.getElem?_eq_some_iff.1 he
  rw [firstBad, List.findIdx?_eq_some_iff_getElem]
  refine ⟨hi, by simpa using hbad, fun j hj => ?_⟩
  have hmem : l[j] ∈ l.take i := by
    rw [List.mem_take_iff_getElem]
    exact ⟨j, by omega, rfl⟩
  simpa using hbefore _ hmem

end FirstBad

section Judge

variable {group : Nat} {base : Tab Nat} {p : Bytes}

/-- An entry is of the group and in its range. -/
def EntryFits (group : Nat) (e : Nat × Nat) : Prop := e.1 / 256 = group ∧ paramKnown e.1 = true ∧ paramOk e.1 e.2 = true

theorem entryFits_iff (e : Nat × Nat) : (e.1 / 256 == group && paramKnown e.1 && paramOk e.1 e.2) = true ↔ EntryFits group e := by
  simp [EntryFits, and_assoc]

theorem judgeSet_of_badCount (h : (prmEntries p).length = 0 ∨ 125 < (prmEntries p).length) :
    judgeSet group base d p = (stBadParam, noIndex, []) :=
  if_pos h

theorem judgeSet_of_firstUnfit {i : Nat} {e : Nat × Nat} (hmax : (prmEntries p).length ≤ 125) (he : (prmEntries p)[i]? = some e)
    (hbad : ¬ EntryFits group e) (hbefore : ∀ x ∈ (prmEntries p).take i, EntryFits group x) :
    judgeSet group base d p = (stBadParam, indexRsp i, []) := by
  have hi : i < (prmEntries p).length := (List.getElem?_eq_some_iff.1 he).1
  have hfirst := firstBad_of_first (ok := fun e => e.1 / 256 == group && paramKnown e.1 && paramOk e.1 e.2) he
    (Bool.eq_false_iff.2 (mt (entryFits_iff e).1 hbad)) fun x hx => (entryFits_iff x).2 (hbefore x hx)
  rw [judgeSet, if_neg (by omega), hfirst]

theorem judgeSet_of_admitted (hmin : 1 ≤ (prmEntries p).length) (hmax : (prmEntries p).length ≤ 125)
    (hfits : ∀ e ∈ prmEntries p, EntryFits group e) (hrelation : relationHit (paramsWith base (prmEntries p)) (prmEntries p) = none)
    (hfree : ∀ e ∈ prmEntries p, prmBarred d e.1 = false) : judgeSet group base d p = (stOk, noIndex, prmEntries p) := by
  have hall := firstBad_of_all (ok := fun e => e.1 / 256 == group && paramKnown e.1 && paramOk e.1 e.2)
    fun x hx => (entryFits_iff x).2 (hfits x hx)
  have hnow := firstBad_of_all (l := prmEntries p) (ok := fun e : Nat × Nat => !prmBarred d e.1) fun x hx => by simp [hfree x hx]
  rw [judgeSet, if_neg (by omega), hall]
  dsimp only
  rw [hrelation]
  dsimp only
  rw [hnow]

/-- A refused set command hands the staged set back. -/
theorem doPrmSet_of_refused {st : Nat} {rsp : Bytes}
    (h : judgeSet group (paramsAfter d d.kmp.staged) d c.payload = (st, rsp, [])) : doPrmSet group c d = (st, rsp, d.kmp.staged) := by
  rw [doPrmSet, h]
  rfl

theorem doPrmSet_of_admitted
    (h : judgeSet group (paramsAfter d d.kmp.staged) d c.payload = (stOk, noIndex, prmEntries c.payload)) :
    doPrmSet group c d = (stOk, noIndex, { d.kmp.staged with
      params := (prmEntries c.payload).foldl (fun t e => tabPut e.1 e.2 t) d.kmp.staged.params }) := by
  rw [doPrmSet, h]

/-- A set command of a group, by its judgement. -/
theorem prmSet_answers {i : Nat → Instr} {op : Nat} (hs : Starts s op mb c)
    (he : ∀ mb s, exec (i mb) s = runDev (stager op mb (doPrmSet group)) s) :
    let es := prmEntries c.payload
    let fits (e : Nat × Nat) : Prop := e.1 / 256 = group ∧ paramKnown e.1 = true ∧ paramOk e.1 e.2 = true
    (s.dev.kmp.commit ≠ none → Answers (i mb) s c stBusy [] (s.taken c mb)) ∧
    (s.dev.kmp.commit = none → es.length = 0 ∨ 125 < es.length →
      Answers (i mb) s c stBadParam (le 2 0xFFFF ++ zeros 2) (s.taken c mb)) ∧
    (∀ k e, s.dev.kmp.commit = none → es.length ≤ 125 → es[k]? = some e → ¬ fits e → (∀ x ∈ es.take k, fits x) →
      Answers (i mb) s c stBadParam (le 2 k ++ zeros 2) (s.taken c mb)) ∧
    (s.dev.kmp.commit = none → 1 ≤ es.length → es.length ≤ 125 → (∀ e ∈ es, fits e) →
      relationHit (paramsWith (paramsAfter (s.taken c mb) s.dev.kmp.staged) es) es = none →
      (∀ e ∈ es, prmBarred (s.taken c mb) e.1 = false) →
      Answers (i mb) s c stOk (le 2 0xFFFF ++ zeros 2) (modKmp (fun k => { k with
        staged := { k.staged with params := es.foldl (fun t e => tabPut e.1 e.2 t) k.staged.params } }) (s.taken c mb))) := by
  intro es fits
  refine ⟨fun hk => ?_, fun hk hcount => ?_, fun k e hk hmax hentry hbad hbefore => ?_,
    fun hk hmin hmax hfits hrelation hfree => ?_⟩
  · exact answers_busy hs hk (he mb s)
  · exact answers_unstaged hs hk (he mb s) (doPrmSet_of_refused (judgeSet_of_badCount hcount))
  · exact answers_unstaged hs hk (he mb s) (doPrmSet_of_refused (judgeSet_of_firstUnfit hmax hentry hbad hbefore))
  · exact answers_staged hs hk (he mb s) (doPrmSet_of_admitted (judgeSet_of_admitted hmin hmax hfits hrelation hfree))

end Judge

/-- Settles O23: the eight commands are one staging command with eight groups. -/
theorem parameterSetsStage : Obligations.ParameterSetsStage := by
  intro r hr s mb c hs
  fin_cases hr
  all_goals exact prmSet_answers hs fun _ _ => rfl

/-! ### Plan, receive, point and repair groups -/

/-- An entry of the alignment table is in its ranges, its reserved field zero. -/
def alignAdmitted (p : Bytes) (i : Nat) : Bool := alignEntryOk ((parseAlign p).getD i ⟨0, 0, 0⟩) && rdU p (8 * i + 6) 2 == 0

/-- The table's entries with their places, each judged alone. -/
theorem alignEntries_eq (p : Bytes) :
    (List.range 136).zip (parseAlign p) = (List.range 136).map (fun i => (i, (parseAlign p).getD i ⟨0, 0, 0⟩)) := by
  rw [show (List.range 136).zip (parseAlign p) = _ from List.map_prod_left_eq_zip.symm]
  refine List.map_congr_left fun i hi => ?_
  have hlt : i < 136 := by simpa using hi
  simp [parseAlign, hlt]

theorem doAlignWrite_of_admitted (h : ∀ i, i < 136 → alignAdmitted c.payload i = true) :
    doAlignWrite c d = (stOk, noIndex, { d.kmp.staged with align := some (parseAlign c.payload) }) := by
  have hall := firstBad_range_of_all (g := fun i => (i, (parseAlign c.payload).getD i ⟨0, 0, 0⟩))
    (ok := fun e => alignEntryOk e.2 && rdU c.payload (8 * e.1 + 6) 2 == 0) h
  rw [doAlignWrite, alignEntries_eq, hall]

theorem doAlignWrite_of_firstBad {i : Nat} (hi : i < 136) (hbefore : ∀ j, j < i → alignAdmitted c.payload j = true)
    (hbad : alignAdmitted c.payload i = false) : doAlignWrite c d = (stBadParam, indexRsp i, d.kmp.staged) := by
  have hfirst := firstBad_range_of_first (g := fun i => (i, (parseAlign c.payload).getD i ⟨0, 0, 0⟩))
    (ok := fun e => alignEntryOk e.2 && rdU c.payload (8 * e.1 + 6) 2 == 0) hi hbefore hbad
  rw [doAlignWrite, alignEntries_eq, hfirst]

theorem doMaskForce_of_badCount (h : rdU c.payload 0 2 = 0 ∨ 125 < rdU c.payload 0 2) :
    doMaskForce c d = (stBadParam, noIndex, d.kmp.staged) :=
  if_pos h

section Masks

variable (hmax : rdU c.payload 0 2 ≤ 125)
include hmax

theorem doMaskForce_of_admitted (hmin : 1 ≤ rdU c.payload 0 2) (h : ∀ i, i < rdU c.payload 0 2 → maskEntryOk c.payload i = true) :
    doMaskForce c d = (stOk, noIndex, { d.kmp.staged with
      masks := d.kmp.staged.masks ++ (List.range (rdU c.payload 0 2)).flatMap (maskOps c.payload) }) := by
  have hall := firstBad_of_all (l := List.range (rdU c.payload 0 2)) (ok := maskEntryOk c.payload) (by simpa using h)
  simp only [doMaskForce]
  rw [if_neg (by omega), hall]

theorem doMaskForce_of_firstBad {i : Nat} (hi : i < rdU c.payload 0 2) (hbefore : ∀ j, j < i → maskEntryOk c.payload j = true)
    (hbad : maskEntryOk c.payload i = false) : doMaskForce c d = (stBadParam, indexRsp i, d.kmp.staged) := by
  have hfirst := firstBad_range_of_first (g := id) (ok := maskEntryOk c.payload) hi hbefore hbad
  simp only [doMaskForce]
  rw [if_neg (by omega), ← List.map_id (List.range (rdU c.payload 0 2)), hfirst]

end Masks

theorem doRetire_of_segment (h : rdU c.payload 0 1 ≤ 135) : doRetire c d = (stOk, [], { d.kmp.staged with
    retire := if d.kmp.staged.retire.contains (rdU c.payload 0 1) then d.kmp.staged.retire
      else d.kmp.staged.retire ++ [rdU c.payload 0 1] }) :=
  if_neg (Nat.not_lt.2 h)

theorem doRetire_of_none (h : 135 < rdU c.payload 0 1) : doRetire c d = (stBadParam, [], d.kmp.staged) := if_pos h

/-- Settles O25: each branch of the five commands, told above, hands over the set it stages, or the staged set as it was. -/
theorem planAndReceiveWritesStage : Obligations.PlanAndReceiveWritesStage := by
  intro s mb c hk
  dsimp only
  refine ⟨fun hs => ?_, fun hs h => ?_, fun i hs hi hbefore hbad => ?_, fun hs => ?_, fun hs hmin hmax h => ?_,
    fun i hs hmax hi hbefore hbad => ?_, fun hs h => ?_, fun hs h => ?_, fun hs h => ?_⟩
  · by_cases h : planFormOk c.payload = true
    · rw [if_pos h]
      exact answers_staged hs hk rfl (if_pos h)
    · rw [if_neg h]
      exact answers_unstaged hs hk rfl (if_neg h)
  · exact answers_staged hs hk rfl (doAlignWrite_of_admitted h)
  · exact answers_unstaged hs hk rfl (doAlignWrite_of_firstBad hi hbefore hbad)
  · exact answers_staged hs hk rfl (f := doIntensityWrite) rfl
  · exact answers_staged hs hk rfl (doMaskForce_of_admitted hmax hmin h)
  · exact answers_unstaged hs hk rfl (doMaskForce_of_firstBad hmax hi hbefore hbad)
  · exact answers_unstaged hs hk rfl (doMaskForce_of_badCount h)
  · exact answers_staged hs hk rfl (doRetire_of_segment h)
  · exact answers_unstaged hs hk rfl (doRetire_of_none h)

/-! ### Emitter, sense and loop groups -/

theorem not_runOk_iff {n : Nat} {p : Bytes} : (!runOk n p) = true ↔ rdU p 1 1 = 0 ∨ n < rdU p 0 1 + rdU p 1 1 := by
  simp only [runOk, Bool.not_eq_true', Bool.and_eq_false_iff, bne_eq_false_iff_eq, decide_eq_false_iff_not, not_le]

/-- A drive word of DRIVE_WRITE, without its reserved bits. -/
def newDrive (p : Bytes) (i : Nat) : Nat := rdU p (4 + 2 * i) 2 % 4096

/-- An entry word of ENTRY_WRITE, its reserved bits zero. -/
def newEntry (p : Bytes) (i : Nat) : Nat := clrBits 32 (rdU p (4 + 4 * i) 4) 0x1800

theorem doDriveWrite_of_badRun (h : rdU c.payload 1 1 = 0 ∨ 136 < rdU c.payload 0 1 + rdU c.payload 1 1) :
    doDriveWrite c d = (stBadParam, noIndex, d.kmp.staged) :=
  if_pos (not_runOk_iff.2 h)

theorem doEntryWrite_of_badRun (h : rdU c.payload 1 1 = 0 ∨ 16 < rdU c.payload 0 1 + rdU c.payload 1 1) :
    doEntryWrite c d = (stBadParam, noIndex, d.kmp.staged) :=
  if_pos (not_runOk_iff.2 h)

section Drive

variable (hrun : rdU c.payload 0 1 + rdU c.payload 1 1 ≤ 136)
include hrun

theorem doDriveWrite_of_admitted (hmin : 1 ≤ rdU c.payload 1 1)
    (h : ∀ i, i < rdU c.payload 1 1 → driveWordOk (newDrive c.payload i) = true) :
    doDriveWrite c d = (stOk, noIndex, { d.kmp.staged with
      drive := (List.range (rdU c.payload 1 1)).foldl (fun t i => tabPut (rdU c.payload 0 1 + i) (newDrive c.payload i) t)
        d.kmp.staged.drive }) := by
  have hall := firstBad_range_of_all (g := fun i => (rdU c.payload 0 1 + i, newDrive c.payload i)) (ok := fun w => driveWordOk w.2) h
  simp only [newDrive] at hall
  simp only [doDriveWrite, newDrive]
  rw [if_neg (by rw [not_runOk_iff]; omega), hall]
  simp only [List.foldl_map]

theorem doDriveWrite_of_firstBad {i : Nat} (hi : i < rdU c.payload 1 1)
    (hbefore : ∀ j, j < i → driveWordOk (newDrive c.payload j) = true) (hbad : driveWordOk (newDrive c.payload i) = false) :
    doDriveWrite c d = (stBadParam, indexRsp i, d.kmp.staged) := by
  have hfirst := firstBad_range_of_first (g := fun i => (rdU c.payload 0 1 + i, newDrive c.payload i))
    (ok := fun w => driveWordOk w.2) hi hbefore hbad
  simp only [newDrive] at hfirst
  simp only [doDriveWrite]
  rw [if_neg (by rw [not_runOk_iff]; omega), hfirst]

end Drive

section Entries

variable (hrun : rdU c.payload 0 1 + rdU c.payload 1 1 ≤ 16)
include hrun

theorem doEntryWrite_of_admitted (hmin : 1 ≤ rdU c.payload 1 1)
    (h : ∀ i, i < rdU c.payload 1 1 → entryWordOk (newEntry c.payload i) = true) :
    doEntryWrite c d = (stOk, noIndex, { d.kmp.staged with
      entries := (List.range (rdU c.payload 1 1)).foldl (fun t i => tabPut (rdU c.payload 0 1 + i) (newEntry c.payload i) t)
        d.kmp.staged.entries }) := by
  have hall := firstBad_range_of_all (g := fun i => (rdU c.payload 0 1 + i, newEntry c.payload i)) (ok := fun w => entryWordOk w.2) h
  simp only [newEntry] at hall
  simp only [doEntryWrite, newEntry]
  rw [if_neg (by rw [not_runOk_iff]; omega), hall]
  simp only [List.foldl_map]

theorem doEntryWrite_of_firstBad {i : Nat} (hi : i < rdU c.payload 1 1)
    (hbefore : ∀ j, j < i → entryWordOk (newEntry c.payload j) = true) (hbad : entryWordOk (newEntry c.payload i) = false) :
    doEntryWrite c d = (stBadParam, indexRsp i, d.kmp.staged) := by
  have hfirst := firstBad_range_of_first (g := fun i => (rdU c.payload 0 1 + i, newEntry c.payload i))
    (ok := fun w => entryWordOk w.2) hi hbefore hbad
  simp only [newEntry] at hfirst
  simp only [doEntryWrite]
  rw [if_neg (by rw [not_runOk_iff]; omega), hfirst]

end Entries

/-- The record that LOOP_WRITE keeps. -/
def newLoop (p : Bytes) : Bytes := loopKept (slice p 4 128)

theorem doLoopWrite_of_bad (h : 15 < rdU c.payload 0 1 ∨ loopRecOk (rdU c.payload 0 1) (newLoop c.payload) = false) :
    doLoopWrite c d = (stBadParam, [], d.kmp.staged) :=
  if_pos (h.imp_right fun hbad => by simpa [newLoop] using hbad)

section Slot

variable (hn : rdU c.payload 0 1 ≤ 15) (hok : loopRecOk (rdU c.payload 0 1) (newLoop c.payload) = true)
include hn hok

theorem doLoopWrite_of_right (hfixed : loopRecFixed (rdU c.payload 0 1) (newLoop c.payload) = true) : doLoopWrite c d =
    (stOk, [], { d.kmp.staged with loops := tabPut (rdU c.payload 0 1) (newLoop c.payload) d.kmp.staged.loops }) := by
  unfold newLoop at hok hfixed
  simp [doLoopWrite, newLoop, hok, hfixed, Nat.not_lt.2 hn]

theorem doLoopWrite_of_fixed (hfixed : loopRecFixed (rdU c.payload 0 1) (newLoop c.payload) = false) :
    doLoopWrite c d = (stNotPermitted, [], d.kmp.staged) := by
  unfold newLoop at hok hfixed
  simp [doLoopWrite, hok, hfixed, Nat.not_lt.2 hn]

end Slot

/-- Settles O26: each branch of the three commands, told above, hands over the set it stages, or the staged set as it was. -/
theorem driveWritesStage : Obligations.DriveWritesStage := by
  intro s mb c hk
  dsimp only
  refine ⟨fun hs hmin hrun h => ?_, fun i hs hrun hi hbefore hbad => ?_, fun hs h => ?_, fun hs hmin hrun h => ?_,
    fun i hs hrun hi hbefore hbad => ?_, fun hs h => ?_, fun hs hn hok hfixed => ?_, fun hs hn hok hfixed => ?_, fun hs h => ?_⟩
  · exact answers_staged hs hk rfl (doDriveWrite_of_admitted hrun hmin h)
  · exact answers_unstaged hs hk rfl (doDriveWrite_of_firstBad hrun hi hbefore hbad)
  · exact answers_unstaged hs hk rfl (doDriveWrite_of_badRun h)
  · exact answers_staged hs hk rfl (doEntryWrite_of_admitted hrun hmin h)
  · exact answers_unstaged hs hk rfl (doEntryWrite_of_firstBad hrun hi hbefore hbad)
  · exact answers_unstaged hs hk rfl (doEntryWrite_of_badRun h)
  · exact answers_staged hs hk rfl (doLoopWrite_of_right hn hok hfixed)
  · exact answers_unstaged hs hk rfl (doLoopWrite_of_fixed hn hok hfixed)
  · exact answers_unstaged hs hk rfl (doLoopWrite_of_bad h)

end Sys2Proof.Laws
end

section
/-!
Clearing commands and port settings: what each makes of the objects that it names (R308, R310, R426, R433, R442, R450).
-/
namespace Sys2Proof.Laws

open Sys2Proof.Machine

variable {s : State} {mb : Nat} {c : Cmd} {d : Dev}

/-! ### A change of the objects that a mask names -/

theorem mem_bitList {w m n : Nat} : n ∈ bitList w m ↔ n < w ∧ bit m n = true := by
  simp [bitList]

theorem bitList_nodup (w m : Nat) : (bitList w m).Nodup := List.nodup_range.filter _

/-- Each element that is named is changed once, every other stays. -/
theorem foldl_listMod_getD {α : Type} (f : α → α) (x : α) (n : Nat) (ks : List Nat) : ∀ l : List α, ks.Nodup → n < l.length →
    (ks.foldl (fun l k => listMod l k f) l).getD n x = if n ∈ ks then f (l.getD n x) else l.getD n x := by
  induction ks with
  | nil => exact fun l _ _ => by simp
  | cons k ks ih =>
    intro l hnodup hn
    obtain ⟨hk, hrest⟩ := List.nodup_cons.1 hnodup
    rw [List.foldl_cons, ih _ hrest (by simpa [listMod] using hn), listMod_getD]
    by_cases hkn : k = n
    · subst hkn
      simp [hk, hn]
    · simp [hkn, Ne.symm hkn]

/-- The elements that a mask names. -/
theorem foldl_bitList_getD {α : Type} (f : α → α) (x : α) {l : List α} {w m n : Nat} (hw : n < w) (hn : n < l.length) :
    ((bitList w m).foldl (fun l k => listMod l k f) l).getD n x = if bit m n = true then f (l.getD n x) else l.getD n x := by
  rw [foldl_listMod_getD f x n _ l (bitList_nodup w m) hn]
  simp [mem_bitList, hw]

theorem foldl_modSlot (f : Slot9 → Slot9) (ks : List Nat) : ∀ d, ks.foldl (fun d n => modSlot n f d) d =
    modLoops (fun l => { l with slots := ks.foldl (fun l n => listMod l n f) l.slots }) d := by
  induction ks with
  | nil => exact fun _ => rfl
  | cons k ks ih => exact fun d => ih _

theorem foldl_modPort (f : Port → Port) (ks : List Nat) : ∀ d, ks.foldl (fun d p => modSlu (modPort p f) d) d =
    modSlu (fun s => { s with ports := ks.foldl (fun l p => listMod l p f) s.ports }) d := by
  induction ks with
  | nil => exact fun _ => rfl
  | cons k ks ih => exact fun d => ih _

theorem foldl_modConn (f : Conn → Conn) (ks : List Nat) : ∀ d, ks.foldl (fun d k => modConn k f d) d =
    modHst (fun h => { h with conns := ks.foldl (fun l k => listMod l k f) h.conns }) d := by
  induction ks with
  | nil => exact fun _ => rfl
  | cons k ks ih => exact fun d => ih _

/-! ### Commands with a guard -/

/-- A command whose card admits some arguments and answers others with BAD_PARAM, without effect. -/
theorem answers_when {i : Instr} {op : Nat} {f : Cmd → Dev → Nat × Bytes × Dev} {st : Nat} {p : Bytes} {good ok : Prop}
    [Decidable good] [Decidable ok] (hs : Starts s op mb c) (he : exec i s = runDev (answer op mb f) s)
    (hf : f c (s.taken c mb) = if good then (st, p, d) else (stBadParam, [], s.taken c mb)) (hok : ok ↔ good)
    (ha : Facet.awaited.view d = Facet.awaited.view (s.taken c mb)) (ho : Facet.rail.view d = Facet.rail.view (s.taken c mb))
    (hk : Facet.session.view d = Facet.session.view (s.taken c mb)) :
    if ok then Answers i s c st p d else Answers i s c stBadParam [] (s.taken c mb) := by
  by_cases h : good
  · rw [if_pos (hok.2 h)]
    exact answers_with hs he (hf.trans (if_pos h)) ha ho hk
  · rw [if_neg (fun k => h (hok.1 k))]
    exact answers_unchanged hs he (hf.trans (if_neg h))

theorem answers_unless {i : Instr} {op : Nat} {f : Cmd → Dev → Nat × Bytes × Dev} {st : Nat} {p : Bytes} {bad ok : Prop}
    [Decidable bad] [Decidable ok] (hs : Starts s op mb c) (he : exec i s = runDev (answer op mb f) s)
    (hf : f c (s.taken c mb) = if bad then (stBadParam, [], s.taken c mb) else (st, p, d)) (hok : ok ↔ ¬ bad)
    (ha : Facet.awaited.view d = Facet.awaited.view (s.taken c mb)) (ho : Facet.rail.view d = Facet.rail.view (s.taken c mb))
    (hk : Facet.session.view d = Facet.session.view (s.taken c mb)) :
    if ok then Answers i s c st p d else Answers i s c stBadParam [] (s.taken c mb) :=
  answers_when hs he (hf.trans (ite_not ..).symm) hok ha ho hk

/-! ### LOOP_CLEAR, PORT_CLEAR and FREEZE -/

/-- A slot with the sticky bits of a mask cleared. -/
def slotCleared (bits : Nat) (x : Slot9) : Slot9 :=
  { x with ovrSeen := x.ovrSeen && !bit bits 0, sat := x.sat && !bit bits 1, bump := x.bump && !bit bits 2 }

theorem doLoopClear_of_bits (h : rdU c.payload 2 1 ≤ 7) : doLoopClear c d = (stOk, [], modLoops (fun l => { l with
    slots := (bitList 16 (rdU c.payload 0 2)).foldl (fun l n => listMod l n (slotCleared (rdU c.payload 2 1))) l.slots }) d) := by
  rw [← foldl_modSlot]
  exact if_neg (Nat.not_lt.2 h)

/-- A port with the sticky bits of a mask cleared. -/
def portCleared (bits : Nat) (x : Port) : Port := { x with wdBite := x.wdBite && !bit bits 0, dropSeen := x.dropSeen && !bit bits 1 }

theorem doPortClear_of_ok (hport : rdU c.payload 0 1 ≤ 7) (hbits : rdU c.payload 1 1 ≤ 3) :
    doPortClear c d = (stOk, [], modSlu (fun s => { s with
      ports := (bitList 3 (rdU c.payload 0 1)).foldl (fun l p => listMod l p (portCleared (rdU c.payload 1 1))) s.ports }) d) := by
  rw [← foldl_modPort]
  exact if_neg (by omega)

theorem doSafeClear_eq (c : Cmd) (d : Dev) : doSafeClear c d = (stOk, [], modHst (fun h => { h with
    conns := (bitList 8 (rdU c.payload 0 1)).foldl (fun l k => listMod l k (fun x => { x with seen := false })) h.conns }) d) := by
  rw [← foldl_modConn]
  rfl

theorem portGet_modPort (p n : Nat) (f : Port → Port) (x : Slu) :
    portGet (modPort p f x) n = if p = n ∧ n < x.ports.length then f (portGet x n) else portGet x n :=
  listMod_getD x.ports p n f Port.reset

@[simp] theorem raise_slu (src cond : Nat) (detail : Bytes) (d : Dev) : (raise src cond detail d).slu = d.slu :=
  same_of_view (p := .slu) (by simp)

/-- DRAINED follows the port, and nothing else of the Sluice. -/
theorem updateDrained_slu (p : Nat) (d : Dev) :
    (updateDrained p d).slu = modPort p (fun x => { x with drained := drainedNow (portGet d.slu p) }) d.slu := by
  unfold updateDrained
  extract_lets x now d1
  split
  · exact raise_slu _ _ _ _
  · rfl

/-- FREEZE of a port: who holds it frozen, and whether it is drained. -/
theorem freeze_ports (p : Nat) (by' : Option Nat) (d : Dev) :
    let e := updateDrained p (modSlu (modPort p (fun x => { x with freezeBy := by' })) d)
    (∀ n, n ≠ p → portGet e.slu n = portGet d.slu n) ∧
      (p < d.slu.ports.length → ∃ b, portGet e.slu p = { portGet d.slu p with freezeBy := by', drained := b }) := by
  intro e
  have he : e.slu = _ := updateDrained_slu p _
  refine ⟨fun n hn => ?_, fun hp => ⟨drainedNow (portGet (modPort p (fun x => { x with freezeBy := by' }) d.slu) p), ?_⟩⟩
  · rw [he, portGet_modPort, if_neg (fun h => hn h.1.symm), modSlu_slu, portGet_modPort, if_neg (fun h => hn h.1.symm)]
  · rw [he, portGet_modPort, if_pos ⟨rfl, by simpa [modPort, listMod] using hp⟩, modSlu_slu, portGet_modPort, if_pos ⟨rfl, hp⟩]

/-- Settles O30: each command is told by its own card; the objects that a mask names are changed one by one. -/
theorem clearsAndPortSettingsApply : Obligations.ClearsAndPortSettingsApply := by
  intro s mb c
  dsimp only
  refine ⟨fun hs => ?_, fun hs => ?_, fun hs => ?_, fun hs => ⟨fun h => ?_, fun h => ?_⟩, fun hs => ⟨fun h => ?_, fun hport hbits => ?_⟩,
    fun hs => ?_, fun hs => ?_, fun hs => ⟨fun hport hfreeze => ?_, fun h => ?_⟩, fun hs => ?_⟩
  · exact answers_when hs (f := doLaneClear) rfl rfl (laneRunOk_iff _).symm (by simp) (by simp) (by simp)
  · exact answers_unless hs (f := doEmitClear) rfl rfl (by omega) (by simp) (by simp) (by simp)
  · exact answers_with hs rfl (f := doScanClear) rfl (by simp) (by simp) (by simp)
  · exact answers_unchanged hs rfl (if_pos h)
  · exact ⟨_, answers_with hs rfl (doLoopClear_of_bits h) (by simp) (by simp) (by simp), rfl,
      fun n hn hlen => foldl_bitList_getD (slotCleared _) _ hn hlen⟩
  · exact answers_unchanged hs rfl (if_pos h)
  · exact ⟨_, answers_with hs rfl (doPortClear_of_ok hport hbits) (by simp) (by simp) (by simp), rfl,
      fun n hn hlen => foldl_bitList_getD (portCleared _) _ hn hlen⟩
  · exact ⟨_, answers_with hs rfl (doSafeClear_eq c _) (by simp) (by simp) (by simp), rfl,
      fun k hk hlen => foldl_bitList_getD _ _ hk hlen⟩
  · exact answers_unless hs (f := doClassSet) rfl rfl (by grind) (by simp) (by simp) (by simp)
  · obtain ⟨hothers, hport'⟩ := freeze_ports (rdU c.payload 0 1) (if rdU c.payload 1 1 = 1 then some c.session else none) (s.taken c mb)
    exact ⟨_, answers_with hs rfl (f := doFreeze) (if_neg (by omega)) (by simp) (by simp) (by simp),
      only_of_views fun p hp => by cases p <;> simp at hp ⊢, hothers, hport'⟩
  · exact answers_unchanged hs rfl (if_pos h)
  · exact answers_unless hs (f := doWatchdogSet) rfl rfl (by omega) (by simp) (by simp) (by simp)

end Sys2Proof.Laws
end

section
/-!
Commands that answer ACCEPTED and begin (R394), and those of the SYNC bus and TRIG_OUT (R355, R421, R422, R425, R435, R436, R439 to R441,
R445, R446, R454 to R456).
-/
namespace Sys2Proof.Laws

open Sys2Proof.Machine

variable {s : State} {mb : Nat} {c : Cmd} {d e : Dev}

section Launch

variable {i : Instr} {op : Nat} {check : Cmd → Dev → Option (Nat × Bytes)} {go : Cmd → Dev → Dev} (hs : Starts s op mb c)
  (he : exec i s = runDev (launch op mb check go) s)
include hs he

/-- A command that is accepted and begins, leaving the state, the session and a reset that waits. -/
theorem begins_with (hcheck : check c (s.taken c mb) = none) (hgo : go c (accept c (s.taken c mb)) = d)
    (ha : Facet.awaited.view d = Facet.awaited.view (s.taken c mb)) (ho : Facet.rail.view d = Facet.rail.view (s.taken c mb))
    (hk : Facet.session.view d = Facet.session.view (s.taken c mb)) : Completes i s d := by
  subst hgo
  exact launch_completes i op mb check go s c he hs.2 hcheck (calm_of_views (calm_taken c mb hs.1) ha ho hk)

theorem refused_with {st : Nat} {p : Bytes} (hcheck : check c (s.taken c mb) = some (st, p)) : Answers i s c st p (s.taken c mb) :=
  launch_refused i op mb check go s c st p he hs.2 hs.1 hcheck

end Launch

/-! ### What ACCEPTED leaves -/

section Accept

variable (c : Cmd) (d : Dev)

@[simp] theorem accept_sys : (accept c d).sys = d.sys := sys_of_view (by simp)
@[simp] theorem accept_sync : (accept c d).sync = d.sync := sync_of_view (by simp)
@[simp] theorem accept_tim : (accept c d).tim = d.tim := tim_of_view (by simp)
@[simp] theorem accept_loops : (accept c d).loops = d.loops := same_of_view (p := .loops) (by simp)
@[simp] theorem accept_peat : (accept c d).peat = d.peat := peat_of_view (by simp)

end Accept

/-! ### SYNC_START, SYNC_CANCEL, SYNC_CODE and TRIG_PULSE -/

section SyncStart

variable (hmaster : syncMaster d = true)
include hmaster

theorem checkSyncStart_of_free {h : Held} (hrun : d.sync.run = none) (hheld : d.sync.held = some h) (hname : namesHeld c.payload h = true)
    (htime : twoFramesTo d (nextWindow d) (rdU c.payload 12 4) = true) : checkSyncStart c d = none := by
  simp [checkSyncStart, hmaster, hrun, hheld, hname, htime]

theorem checkSyncStart_of_busy (hrun : d.sync.run ≠ none) : checkSyncStart c d = some (stBusy, []) := by
  simp [checkSyncStart, hmaster, Option.isSome_iff_ne_none.2 hrun]

theorem checkSyncCode_of_free (htime : twoFramesTo d d.sys.now (rdU c.payload 0 4) = true) (hleft : d.sync.codeLeft = 0) :
    checkSyncCode c d = none := by
  simp [checkSyncCode, hmaster, htime, hleft]

end SyncStart

theorem beginSyncStart_of_held {h : Held} (hheld : d.sync.held = some h) : beginSyncStart c d = modSync (fun y => { y with
    held := some { h with frame := rdU c.payload 12 4 },
    run := some ⟨c.mb, c.tag, h.kind, heldIdent h, rdU c.payload 12 4, none, 0, 0, 0, false⟩ }) d := by
  simp only [beginSyncStart, modSync, hheld, Option.map_some]

theorem doSyncCancel_of_none (h : d.sync.held = none) : doSyncCancel c d = (stNotPermitted, [], d) := by
  simp only [doSyncCancel, h]

section Held

variable {h : Held} (hheld : d.sync.held = some h)
include hheld

theorem doSyncCancel_of_bound (hbound : h.state = 3) : doSyncCancel c d = (stNotPermitted, [], d) := by
  simp only [doSyncCancel, hheld, if_pos hbound]

theorem doSyncCancel_of_free (hfree : h.state ≠ 3) : doSyncCancel c d = (stOk, [], modSync (fun y => { y with
    held := none, lastOutcome := 4, run := y.run.map (fun r => { r with cancel := true }) }) d) := by
  simp only [doSyncCancel, hheld, if_neg hfree]

end Held

/-- Settles O38: the checks of the four commands, and what each begins. -/
theorem syncCommandsBegin : Obligations.SyncCommandsBegin := by
  intro s mb c
  dsimp only
  refine ⟨fun hs => ⟨fun h hmaster hrun hheld hname htime => ?_, fun hslave => ?_, fun hmaster hrun => ?_⟩,
    fun hs => ⟨fun hheld => ?_, fun h hheld hbound => ?_, fun h hheld hfree => ?_⟩,
    fun hs => ⟨fun hmaster htime hleft => ?_, fun hslave => ?_⟩, fun hs => ?_⟩
  · exact begins_with hs rfl (checkSyncStart_of_free hmaster hrun hheld hname htime)
      (beginSyncStart_of_held (by rw [accept_sync]; exact hheld)) (by simp) (by simp) (by simp)
  · exact refused_with hs rfl (if_pos (by simp [hslave]))
  · exact refused_with hs rfl (checkSyncStart_of_busy hmaster hrun)
  · exact answers_unchanged hs rfl (doSyncCancel_of_none hheld)
  · exact answers_unchanged hs rfl (doSyncCancel_of_bound hheld hbound)
  · exact answers_with hs rfl (doSyncCancel_of_free hheld hfree) (by simp) (by simp) (by simp)
  · exact begins_with hs rfl (checkSyncCode_of_free hmaster htime hleft) rfl (by simp) (by simp) (by simp)
  · exact refused_with hs rfl (if_pos (by simp [hslave]))
  · exact answers_with hs rfl (f := doTrigPulse) rfl (by simp) (by simp) (by simp)

/-! ### Checks of asynchronous commands -/

theorem checkAgeing_of_range (hmin : -200000 ≤ rdS c.payload 0 4) (hmax : rdS c.payload 0 4 ≤ 200000) : checkAgeing c d = none :=
  if_pos ⟨hmin, hmax⟩

theorem checkSelfTest_of_free (hbulk : 2 ≤ c.mb ∨ bit c.flags 1 = true) (hfree : d.emi.selfTest = none)
    (hidle : 200000 ≤ idleTime d.seq.plan) : checkSelfTest c d = none := by
  have hroom : ¬ (c.mb < 2 ∧ (!bit c.flags 1) = true) := fun ⟨hpage, hno⟩ => hbulk.elim (by omega) (fun h => by simp [h] at hno)
  rw [checkSelfTest, if_neg hroom, hfree, if_neg (by decide), if_neg (not_lt.2 hidle)]

section Scan

variable (hop : d.sys.op = .ready)
include hop

theorem checkScanStart_of_ready (hmode : driveMode d ≠ 0) (htrip : d.scan.tripped = false) (hheld : d.scan.held = false) :
    checkScanStart c d = if d.scan.started then some (stOk, le 4 d.scan.startFrame) else none := by
  simp [checkScanStart, hop, hmode, htrip, hheld]

theorem checkScanStop_of_ready : checkScanStop c d = none := by
  simp [checkScanStop, hop]

end Scan

theorem checkLoopMode_of_free (hslot : rdU c.payload 0 1 ≤ 15) (hmode : rdU c.payload 1 1 ≤ 2)
    (hnew : ∀ q ∈ d.loops.requests, q.slot ≠ rdU c.payload 0 1) (hheld : (slotGet d (rdU c.payload 0 1)).mode ≠ .held)
    (hfallback : (slotGet d (rdU c.payload 0 1)).mode ≠ .fallback) : checkLoopMode c d = none := by
  have hany : d.loops.requests.any (fun q => q.slot == rdU c.payload 0 1) = false := by simpa [List.any_eq_false] using hnew
  simp [checkLoopMode, Nat.not_lt.2 hslot, Nat.not_lt.2 hmode, hany, hheld, hfallback]

theorem checkTraceArm_of_free (hunit : rdU c.payload 0 1 ≤ 3) (htap : tapOk (rdU c.payload 1 1) (rdU c.payload 2 1) = true)
    (hsource : 1 ≤ rdU c.payload 3 1 ∧ rdU c.payload 3 1 ≤ 5) (hdiv : 1 ≤ rdU c.payload 4 2 ∧ rdU c.payload 4 2 ≤ 256)
    (hpost : rdU c.payload 6 2 ≤ 4095) (hdetail : rdU c.payload 3 1 = 3 → rdU c.payload 8 2 ≤ 1023)
    (hstate : (traceGet d (rdU c.payload 0 1)).state = 0 ∨ 4 ≤ (traceGet d (rdU c.payload 0 1)).state) : checkTraceArm c d = none := by
  have hcard : ¬ (3 < rdU c.payload 0 1 ∨ (!tapOk (rdU c.payload 1 1) (rdU c.payload 2 1)) = true ∨
      (!decide (1 ≤ rdU c.payload 3 1 ∧ rdU c.payload 3 1 ≤ 5)) = true ∨ rdU c.payload 4 2 = 0 ∨ 256 < rdU c.payload 4 2 ∨
      4095 < rdU c.payload 6 2 ∨ (rdU c.payload 3 1 = 3 ∧ 1023 < rdU c.payload 8 2)) := by
    simp only [htap, hsource, Bool.not_true, and_self, decide_true, Bool.false_eq_true, false_or]
    omega
  exact (if_neg hcard).trans (if_neg (by omega))

/-! ### Bulk results -/

/-- No bulk result is under way, and a UDP mailbox has a destination. -/
def BulkRoom (c : Cmd) (d : Dev) : Prop := d.diag.bulk = none ∧ d.diag.hist = none ∧ (2 ≤ c.mb → prmGet d 0x0B23 ≠ 0xFF)

section Bulk

variable (hroom : BulkRoom c d)
include hroom

theorem bulkBusy_of_room : bulkBusy d = false := by
  obtain ⟨hbulk, hhist, -⟩ := hroom
  simp [bulkBusy, hbulk, hhist]

theorem bulkUnset_of_room : bulkUnset c d = false := by
  obtain ⟨-, -, hdest⟩ := hroom
  by_cases h : 2 ≤ c.mb
  · simp [bulkUnset, hdest h]
  · simp [bulkUnset, h]

theorem checkTraceRead_of_room (hunit : rdU c.payload 0 1 ≤ 3) (hmin : 1 ≤ rdU c.payload 4 2) (hmax : rdU c.payload 4 2 ≤ 4096)
    (hstate : (traceGet d (rdU c.payload 0 1)).state = 0 ∨ 4 ≤ (traceGet d (rdU c.payload 0 1)).state)
    (hheld : rdU c.payload 2 2 + rdU c.payload 4 2 ≤ (traceGet d (rdU c.payload 0 1)).samples.length) : checkTraceRead c d = none := by
  simp only [checkTraceRead, bulkBusy_of_room hroom, bulkUnset_of_room hroom]
  exact (if_neg (by omega)).trans rfl

theorem checkDiagHist_of_room (hlane : rdU c.payload 0 2 ≤ 1087) : checkDiagHist c d = none := by
  simp [checkDiagHist, bulkBusy_of_room hroom, bulkUnset_of_room hroom, Nat.not_lt.2 hlane]

end Bulk

theorem checkDiagStamp_of_free (hlane : rdU c.payload 0 2 ≤ 1087) (hmin : 1 ≤ rdU c.payload 2 1) (hmax : rdU c.payload 2 1 ≤ 64)
    (hwindow : rdU c.payload 4 4 + rdU c.payload 8 4 ≤ 614400) (hfree : d.diag.stamp = none) : checkDiagStamp c d = none := by
  simp only [checkDiagStamp, hfree]
  exact (if_neg (by omega)).trans rfl

theorem checkPeatArm_of_idle (hempty : peatEmpty d = false) (hidle : d.peat.state = .idle) : checkPeatArm c d = none := by
  simp [checkPeatArm, hempty, hidle]

theorem checkPeatRead_of_closed {i : Nat} (hmb : c.mb ≠ 1) (hread : d.peat.readout = none)
    (hclosed : closedSegment d (rdU c.payload 0 4) = some i) (hoff : rdU c.payload 4 4 % 16 = 0) (hlen : rdU c.payload 8 4 % 16 = 0)
    (hmin : 16 ≤ rdU c.payload 8 4) (hheld : rdU c.payload 4 4 + rdU c.payload 8 4 ≤ bytesHeld (peatSegGet d i).entries) :
    checkPeatRead c d = none := by
  simp only [checkPeatRead, hclosed, hread, hmb]
  exact (if_neg (by omega)).trans rfl

theorem checkHookStart_of_free (hjob : hookJobOk (rdU c.payload 0 4) (rdU c.payload 4 4) = true) (hfree : d.hst.hook.run = none) :
    checkHookStart c d = none := by
  simp [checkHookStart, hjob, hfree]

/-! ### What they begin -/

theorem finishWhere_of_none {p : Cmd → Bool} (status : Nat) (payload : Bytes) (h : ∀ x ∈ allRunning d, p x = false) :
    finishWhere p status payload d = d := by
  rw [finishWhere, List.filter_eq_nil_iff.2 fun x hx => by simp [h x hx]]
  rfl

theorem ageingNow_congr (htim : e.tim = d.tim) (hsys : e.sys = d.sys) : ageingNow e = ageingNow d := by
  simp only [ageingNow, tussNow, htim, hsys]

/-- With no earlier TIME_AGEING running, the slew sets out from where it stands. -/
theorem beginAgeing_of_alone (h : ∀ x ∈ allRunning d, x.op = 0x0502 → sameCmd x c = true) : beginAgeing c d = modTim (fun t => { t with
    ageing := ageingNow d, ageingFrom := ageingNow d, ageingTarget := rdS c.payload 0 4, ageingSince := tussNow d, slewing := true }) d := by
  have hnone : ∀ x ∈ allRunning d, (x.op == 0x0502 && !sameCmd x c) = false := fun x hx => by
    by_cases hop : x.op = 0x0502
    · simp [h x hx hop]
    · simp [hop]
  rw [beginAgeing, finishWhere_of_none _ _ hnone]

theorem traceTrigger_sys (u source t : Nat) (d : Dev) : (traceTrigger u source t d).sys = d.sys := sys_of_view (by simp)

/-- Triggers do not move time. -/
theorem foldl_traceTrigger (us : List Nat) (t : Nat) : ∀ d : Dev, d.sys.now = t →
    us.foldl (fun d u => traceTrigger u 4 d.sys.now d) d = us.foldl (fun d u => traceTrigger u 4 t d) d := by
  induction us with
  | nil => exact fun _ _ => rfl
  | cons u us ih =>
    intro d hd
    rw [List.foldl_cons, List.foldl_cons, hd]
    exact ih _ (by rw [traceTrigger_sys, hd])

theorem doTraceTrigger_of_units (h : rdU c.payload 0 1 ≤ 15) : ∃ q, doTraceTrigger c d =
    (stOk, q, (bitList 4 (rdU c.payload 0 1)).foldl (fun d' u => traceTrigger u 4 d.sys.now d') d) := by
  rw [← foldl_traceTrigger _ _ d rfl]
  exact ⟨_, if_neg (Nat.not_lt.2 h)⟩

theorem closedSegment_congr (h : e.peat = d.peat) (capture : Nat) : closedSegment e capture = closedSegment d capture := by
  simp only [closedSegment, peatSegGet, h]

theorem startReadout_of_closed {i : Nat} (h : closedSegment d (rdU c.payload 0 4) = some i) : startReadout c d =
    modPeat (fun x => { x with readout := some ⟨c.mb, c.tag, c.session, rdU c.payload 0 4, i, rdU c.payload 4 4,
      rdU c.payload 4 4 + rdU c.payload 8 4, 0, c.src, c.srcPort⟩ }) (modNet (fun n => { n with peatSeq := 0 }) d) := by
  simp only [startReadout, h]

/-- Settles O39: the checks of these commands admit what the premises say, and each begins on the device that ACCEPTED left. That reading
begins with TRACE_READ is the model's choice (DESIGN CHOICE, assumption log, entry 75). -/
theorem asynchronousCommandsBegin : Obligations.AsynchronousCommandsBegin := by
  intro s mb c
  dsimp only
  refine ⟨fun hs hmin hmax halone => ?_, fun hs hbulk hfree hidle => ?_, fun hs hop hmode htrip hheld => ⟨fun hstarted => ?_,
    fun hstopped => ?_⟩, fun hs hop => ?_, fun hs hslot hmode hnew hheld hfallback => ?_,
    fun hs hunit htap hsmin hsmax hdmin hdmax hpost hdetail hstate => ?_, fun hs hunits => ?_, fun hs hunits => ?_,
    fun hs hunit hmin hmax hstate hheld hroom => ?_, fun hs hlane hmin hmax hwindow hfree => ?_, fun hs hlane hroom => ?_,
    fun hs hempty hidle => ?_, fun i hs hmb hread hclosed hoff hlen hmin hheld => ?_, fun hs hjob hfree => ?_⟩
  · exact begins_with hs rfl (checkAgeing_of_range hmin hmax) ((beginAgeing_of_alone halone).trans
      (by rw [ageingNow_congr (accept_tim ..) (accept_sys ..), tussNow, accept_sys]; rfl)) (by simp) (by simp) (by simp)
  · exact begins_with hs rfl (checkSelfTest_of_free hbulk hfree hidle) rfl (by simp) (by simp) (by simp)
  · exact refused_with hs rfl ((checkScanStart_of_ready (d := s.taken c mb) hop hmode htrip hheld).trans (if_pos hstarted))
  · exact begins_with hs rfl ((checkScanStart_of_ready (d := s.taken c mb) hop hmode htrip hheld).trans (if_neg (by
      rw [show (s.taken c mb).scan.started = false from hstopped]; decide))) rfl (by simp) (by simp) (by simp)
  · exact begins_with hs rfl (checkScanStop_of_ready hop) rfl (by simp) (by simp) (by simp)
  · exact begins_with hs rfl (checkLoopMode_of_free hslot hmode hnew hheld hfallback) rfl (by simp) (by simp) (by simp)
  · exact begins_with hs rfl (checkTraceArm_of_free hunit htap ⟨hsmin, hsmax⟩ ⟨hdmin, hdmax⟩ hpost hdetail hstate) rfl (by simp) (by simp)
      (by simp)
  · obtain ⟨q, hq⟩ := doTraceTrigger_of_units (d := s.taken c mb) hunits
    exact ⟨q, answers_with hs rfl hq (by simp) (by simp) (by simp)⟩
  · exact answers_unchanged hs rfl (if_pos hunits)
  · exact begins_with hs rfl (checkTraceRead_of_room hroom hunit hmin hmax hstate hheld)
      (by simp only [startTraceRead, traceGet, accept_loops]; rfl) (by simp) (by simp) (by simp)
  · exact begins_with hs rfl (checkDiagStamp_of_free hlane hmin hmax hwindow hfree) rfl (by simp) (by simp) (by simp)
  · exact begins_with hs rfl (checkDiagHist_of_room hroom hlane) rfl (by simp) (by simp) (by simp)
  · exact begins_with hs rfl (checkPeatArm_of_idle hempty hidle) rfl (by simp) (by simp) (by simp)
  · exact begins_with hs rfl (checkPeatRead_of_closed hmb hread hclosed hoff hlen hmin hheld)
      (startReadout_of_closed ((closedSegment_congr (accept_peat ..) _).trans hclosed)) (by simp) (by simp) (by simp)
  · exact begins_with hs rfl (checkHookStart_of_free hjob hfree) rfl (by simp) (by simp) (by simp)

end Sys2Proof.Laws
end

section
/-!
The state commands (R415), the routes of events (R416), sessions and commits (R400, R402, R417), and ABORT (R405).
-/
namespace Sys2Proof.Laws

open Sys2Proof.Machine

variable {s : State} {mb : Nat} {c x : Cmd} {d e : Dev}

/-- A command with a body of its own completes with what the body makes of the device. -/
theorem started_completes {i : Instr} {op : Nat} {body : Cmd → Dev → Dev} (hs : Starts s op mb c)
    (he : exec i s = runDev (startCmd op mb body) s) (hd : body c (s.taken c mb) = d) (hc : Calm d) : Completes i s d := by
  have heq : startCmd op mb body s.fresh = d := by
    rw [startCmd_of_next op mb body s.fresh c ((nextCmd_fresh op mb s).trans hs.2), ← taken_eq, hd]
  subst heq
  exact completes_of i _ s he hc

/-! ### ARM, START, STOP and DISARM -/

@[simp] theorem accept_saf (c : Cmd) (d : Dev) : (accept c d).saf = d.saf := saf_of_view (by simp)
@[simp] theorem accept_scan (c : Cmd) (d : Dev) : (accept c d).scan = d.scan := scan_of_view (by simp)

theorem checkArm_of_ready (hw : stateCmdWaits d = false) (hop : d.sys.op = .ready) (hscope : bit d.sec.scopes 1 = false)
    (hhealthy : healthy d = true) (hmode : driveMode d ≠ 0) (htrip : d.scan.tripped = false) (habove : anyAbove d 90 = false)
    (hplan : planFitsNow d = true) : checkArm c d = none := by
  simp [checkArm, hw, hop, hscope, hhealthy, hmode, htrip, habove, hplan]

theorem checkArm_of_waiting (hw : stateCmdWaits d = true) : checkArm c d = some (stBusy, []) := if_pos hw

section State

variable {ok : OpState → Bool}

theorem checkState_of_waiting (hw : stateCmdWaits d = true) : checkState ok c d = some (stBusy, []) := if_pos hw

theorem checkState_of_free (hw : stateCmdWaits d = false) :
    checkState ok c d = if ok d.sys.op then none else some (stNotPermitted, []) :=
  if_neg (by simp [hw])

variable {i : Instr} {op : Nat} (hs : Starts s op mb c) (he : exec i s = runDev (launch op mb (checkState ok) waitTick) s)
include hs he

/-- START, STOP or DISARM in a state of its card is accepted, and waits for the frame tick. -/
theorem stateCmd_waits (hw : stateCmdWaits (s.taken c mb) = false) (hop : ok s.dev.sys.op = true) :
    Completes i s (accept c (s.taken c mb)) :=
  begins_with hs he ((checkState_of_free hw).trans (if_pos hop)) rfl (by simp) (by simp) (by simp)

theorem stateCmd_refused (hw : stateCmdWaits (s.taken c mb) = false) (hop : ok s.dev.sys.op = false) :
    Answers i s c stNotPermitted [] (s.taken c mb) :=
  refused_with hs he ((checkState_of_free hw).trans (if_neg (ne_true_of_eq_false hop)))

end State

theorem chargeReset_requests (k : Nat) (seed : Int) (t : Nat) (d : Dev) : (chargeReset k seed t d).scan.requests = d.scan.requests := by
  rw [chargeReset, modCharge, modScan_scan]
  split <;> rfl

theorem foldl_chargeReset_requests (seed : Dev → Int) (t : Dev → Nat) (ks : List Nat) : ∀ d : Dev,
    (ks.foldl (fun d k => chargeReset k (seed d) (t d) d) d).scan.requests = d.scan.requests := by
  induction ks with
  | nil => exact fun _ => rfl
  | cons k ks ih => exact fun d => (ih _).trans (chargeReset_requests k (seed d) (t d) d)

/-- ARM on a moving scanner clears the switch tests alone. -/
theorem beginArm_of_started (h : d.scan.started = true) : beginArm c d = modSaf (fun x => { x with armTests := 0 }) d := if_pos h

/-- ARM on a scanner at rest also asks for its start. -/
theorem beginArm_of_rest (h : d.scan.started = false) : (beginArm c d).saf = { d.saf with armTests := 0 } ∧
    (beginArm c d).scan.requests = d.scan.requests ++ [(99, 0, true)] ∧ Only [.saf, .scan] d (beginArm c d) := by
  have heq : beginArm c d = _ := if_neg (ne_true_of_eq_false h)
  refine ⟨?_, ?_, only_of_views fun p hp => ?_⟩
  · rw [heq]
    exact saf_of_view (d := modSaf (fun x => { x with armTests := 0 }) d) (by simp)
  · rw [heq]
    exact congrArg (· ++ [(99, 0, true)]) (foldl_chargeReset_requests (fun d => prmGetS d 0x080C) tussNow _ _)
  · cases p <;> simp at hp ⊢

/-- Settles O10: the checks of the four commands by state, and what ARM begins. That BUSY is judged first is DEDUCED (assumption log,
entry 16), and so are the cleared switch tests and the scanner's start (entry 52). -/
theorem stateCommandsAreJudged : Obligations.StateCommandsAreJudged := by
  intro s mb c
  refine ⟨fun hw => ⟨fun hs hop hscope hhealthy hmode htrip habove hplan => ⟨fun hstarted => ?_, fun hrest => ?_⟩, fun hs hop => ?_,
    fun hs hop => ?_, fun hs hop => ?_, fun hs hop => ?_, fun hs hop => ?_, fun hs harmed hrunning => ?_⟩,
    fun hw => ⟨fun hs => ?_, fun hs => ?_, fun hs => ?_, fun hs => ?_⟩⟩
  · exact begins_with hs rfl (checkArm_of_ready hw hop hscope hhealthy hmode htrip habove hplan)
      (beginArm_of_started (by rw [accept_scan]; exact hstarted)) (by simp) (by simp) (by simp)
  · obtain ⟨hsaf, hrequests, honly⟩ := beginArm_of_rest (c := c) (d := accept c (s.taken c mb)) (by rw [accept_scan]; exact hrest)
    rw [accept_saf] at hsaf
    rw [accept_scan] at hrequests
    exact ⟨_, begins_with hs rfl (checkArm_of_ready hw hop hscope hhealthy hmode htrip habove hplan) rfl (by simp) (by simp) (by simp),
      hsaf, hrequests, honly⟩
  · exact stateCmd_waits hs rfl hw (by simp [hop])
  · exact stateCmd_waits hs rfl hw (by simp [hop])
  · exact stateCmd_waits hs rfl hw (by simpa using hop)
  · exact stateCmd_refused hs rfl hw (by simpa using hop)
  · exact stateCmd_refused hs rfl hw (by simpa using hop)
  · exact stateCmd_refused hs rfl hw (by simp [harmed, hrunning])
  · exact refused_with hs rfl (checkArm_of_waiting hw)
  · exact refused_with hs rfl (checkState_of_waiting hw)
  · exact refused_with hs rfl (checkState_of_waiting hw)
  · exact refused_with hs rfl (checkState_of_waiting hw)

/-! ### EVENT_ROUTE -/

/-- The route that a table of routes gives a source. -/
def routeIn (t : Tab Nat) (src : Nat) : Nat := ((t.find? (fun e => e.1 == src)).map (·.2)).getD (evRouteDefault src)

theorem evRoute_eq (d : Dev) (src : Nat) : evRoute d src = routeIn d.ev.routes src := by
  unfold evRoute routeIn
  split
  · next h => simp [h]
  · next h => simp [h]

/-- An entry put into a table that has none of its key. -/
theorem find?_tabPut {α : Type} {k : Nat} {v : α} {t : Tab α} (h : ∀ e ∈ t, e.1 ≠ k) (i : Nat) :
    (tabPut k v t).find? (fun e => e.1 == i) = if i = k then some (k, v) else t.find? (fun e => e.1 == i) := by
  induction t with
  | nil =>
    by_cases hi : i = k
    · simp [tabPut, hi]
    · simp [tabPut, hi, Ne.symm hi]
  | cons a t ih =>
    obtain ⟨hne, hrest⟩ := List.forall_mem_cons.1 h
    unfold tabPut
    by_cases hlt : a.1 < k
    · by_cases hai : a.1 = i
      · subst hai
        simp [hlt, hne]
      · simp [hlt, hai, ih hrest]
    · by_cases hi : i = k
      · simp [hlt, hne, hi]
      · simp [hlt, hne, hi, Ne.symm hi]

theorem setRoute_routeIn (route src i : Nat) (t : Tab Nat) :
    routeIn (setRoute route t src) i = if i = src then route else routeIn t i := by
  have hothers : (t.filter (fun e => e.1 != src)).find? (fun e => e.1 == i) = if i = src then none else t.find? (fun e => e.1 == i) := by
    rw [List.find?_filter]
    by_cases hi : i = src
    · simp [hi]
    · rw [if_neg hi]
      congr 1
      funext e
      by_cases he : e.1 = i
      · simp [he, hi]
      · simp [he]
  unfold setRoute
  dsimp only
  split
  · next hdefault =>
    rw [routeIn, hothers]
    by_cases hi : i = src
    · simp [hi, hdefault]
    · simp [hi, routeIn]
  · rw [routeIn, find?_tabPut (by simp)]
    by_cases hi : i = src
    · simp [hi]
    · simp [hi, hothers, routeIn]

/-- A run of sources written one by one. -/
theorem foldl_setRoute_routeIn (route first i : Nat) (t : Tab Nat) (count : Nat) :
    routeIn ((List.range count).foldl (fun t k => setRoute route t (first + k)) t) i =
      if first ≤ i ∧ i < first + count then route else routeIn t i := by
  induction count with
  | zero => simp
  | succ n ih =>
    rw [List.range_succ, List.foldl_append, List.foldl_cons, List.foldl_nil, setRoute_routeIn, ih]
    by_cases hi : i = first + n
    · simp [hi]
    · rw [if_neg hi]
      by_cases hrun : first ≤ i ∧ i < first + n
      · rw [if_pos hrun, if_pos (by omega)]
      · rw [if_neg hrun, if_neg (by omega)]

/-- Settles O11: the command refuses what its card does not admit, and else writes its run's routes one by one. -/
theorem eventRouteWritesItsRun : Obligations.EventRouteWritesItsRun := by
  intro s mb c hs
  dsimp only
  split
  · next h =>
    refine ⟨_, answers_with hs rfl (f := doEventRoute) (if_neg ?_) (by simp) (by simp) (by simp), fun src => ?_⟩
    · simp only [Bool.and_eq_true, Bool.not_eq_true', decide_eq_false_iff_not]
      grind
    · rw [evRoute_eq, evRoute_eq]
      exact foldl_setRoute_routeIn _ _ _ _ _
  · next h =>
    refine answers_unchanged hs rfl (f := doEventRoute) (if_pos ?_)
    simp only [Bool.and_eq_true, Bool.not_eq_true', decide_eq_false_iff_not]
    grind

/-! ### SESSION_OPEN -/

/-- The identifier tried after one that is taken. -/
def nextIdent (x : Nat) : Nat := x % (2 ^ 32 - 1) + 1

theorem nextIdent_range (x : Nat) : 1 ≤ nextIdent x ∧ nextIdent x < 2 ^ 32 := by
  unfold nextIdent
  omega

theorem newIdent_range {old : List Nat} {n x : Nat} (h : 1 ≤ x ∧ x < 2 ^ 32) : 1 ≤ newIdent old n x ∧ newIdent old n x < 2 ^ 32 := by
  induction n generalizing x with
  | zero => exact h
  | succ n ih =>
    unfold newIdent
    split
    · exact ih (nextIdent_range x)
    · exact h

/-- Where the search ends on a taken identifier, every one on its way was taken. -/
theorem newIdent_taken {old : List Nat} {n x : Nat} (h : newIdent old n x ∈ old) : ∀ k ≤ n, nextIdent^[k] x ∈ old := by
  induction n generalizing x with
  | zero =>
    intro k hk
    obtain rfl : k = 0 := by omega
    exact h
  | succ n ih =>
    unfold newIdent at h
    by_cases hx : x ∈ old
    · rw [if_pos (by simpa using hx)] at h
      intro k hk
      cases k with
      | zero => exact hx
      | succ k => exact ih h k (by omega)
    · rw [if_neg (by simpa using hx)] at h
      exact absurd h hx

theorem nextIdent_iterate {x : Nat} (h : 1 ≤ x ∧ x < 2 ^ 32) (k : Nat) : nextIdent^[k] x = (x - 1 + k) % (2 ^ 32 - 1) + 1 := by
  induction k with
  | zero =>
    rw [Function.iterate_zero_apply]
    omega
  | succ k ih =>
    rw [Function.iterate_succ_apply', ih, nextIdent]
    omega

/-- Seventeen identifiers in a row are more than sixteen old ones. -/
theorem newIdent_fresh {old : List Nat} (hold : old.length ≤ 16) {x : Nat} (h : 1 ≤ x ∧ x < 2 ^ 32) : newIdent old 17 x ∉ old := by
  intro hmem
  have hsub : (List.range 17).map (fun k => nextIdent^[k] x) ⊆ old := by
    intro y hy
    obtain ⟨k, hk, rfl⟩ := List.mem_map.1 hy
    exact newIdent_taken hmem k (by simp at hk; omega)
  have hnodup : ((List.range 17).map (fun k => nextIdent^[k] x)).Nodup := by
    refine List.Nodup.map_on (fun a ha b hb hab => ?_) List.nodup_range
    rw [nextIdent_iterate h, nextIdent_iterate h] at hab
    simp only [List.mem_range] at ha hb
    omega
  have hlength := (hnodup.subperm hsub).length_le
  simp only [List.length_map, List.length_range] at hlength
  omega

theorem doOpen_of_held (h : d.kmp.session ≠ none) : doOpen c d = (stSessionHeld, [], d) :=
  if_pos (Option.isSome_iff_ne_none.2 h)

section Open

variable {lease : Nat} (hnone : d.kmp.session = none) (hlease : (if rdU c.payload 0 4 = 0 then 2000 else rdU c.payload 0 4) = lease)
include hnone hlease

theorem doOpen_of_badLease (h : ¬ (500 ≤ lease ∧ lease ≤ 60000)) : doOpen c d = (stBadParam, [], d) := by
  simp only [doOpen, hnone, hlease]
  exact (if_neg (by decide)).trans (if_pos (by omega))

/-- The session that is opened has a fresh identifier. -/
theorem doOpen_of_lease (h : 500 ≤ lease ∧ lease ≤ 60000) :
    ∃ ident, 1 ≤ ident ∧ ident < 2 ^ 32 ∧ ident ∉ d.kmp.lastIds.take 16 ∧ doOpen c d = (stOk, le 4 ident ++ le 4 lease,
      raise (640 + 8 * c.mb + 1) 0 [] (draw (modKmp (fun k => { k with
        session := some ⟨ident, c.mb, lease, tussNow d + lease * 1000000⟩, staged := ConfigSet.empty }) d))) := by
  have hfirst := nextIdent_range (Config.jitter d.drawn)
  obtain ⟨hmin, hmax⟩ := newIdent_range (old := d.kmp.lastIds.take 16) (n := 17) hfirst
  refine ⟨_, hmin, hmax, newIdent_fresh (by simp) hfirst, ?_⟩
  simp only [doOpen, hnone, hlease]
  exact (if_neg (by decide)).trans (if_neg (by omega))

end Open

/-- Settles O12: a session is held, or a lease of the card opens one with a fresh identifier. -/
theorem sessionOpens : Obligations.SessionOpens := by
  intro s mb c hs hop asked lease
  refine ⟨fun h => answers_unchanged hs rfl (doOpen_of_held h), fun hnone => ?_⟩
  by_cases h : 500 ≤ lease ∧ lease ≤ 60000
  · rw [if_pos h]
    obtain ⟨ident, hmin, hmax, hfresh, hopen⟩ := doOpen_of_lease (d := s.taken c mb) hnone rfl h
    refine ⟨ident, hmin, hmax, hfresh, answers_calm hs rfl hopen ⟨?_, fun hh => absurd ?_ hop⟩⟩
    · exact (awaited_of_view (d := s.taken c mb) (by simp)).trans hs.1.1
    · exact (op_of_view (d := s.taken c mb) (by simp)).symm.trans hh
  · rw [if_neg h]
    exact answers_unchanged hs rfl (doOpen_of_badLease hnone rfl h)

/-! ### SESSION_ROLLBACK, SESSION_CLOSE and SESSION_COMMIT -/

theorem doRollback_of_free (h : d.kmp.commit = none) :
    doRollback c d = (stOk, [], modKmp (fun k => { k with staged := ConfigSet.empty }) d) :=
  if_neg (by simp [h])

theorem doRollback_of_commit (h : d.kmp.commit ≠ none) : doRollback c d = (stBusy, [], d) :=
  if_pos (Option.isSome_iff_ne_none.2 h)

theorem doClose_of_busy (h : d.kmp.staged ≠ ConfigSet.empty ∨ d.kmp.commit ≠ none) : doClose c d = finish c stBusy [] d :=
  if_pos (h.imp_right Option.isSome_iff_ne_none.2)

/-- Settles O14: the branches of the two commands. -/
theorem stagedSetIsDiscardedOnlyByRollback : Obligations.StagedSetIsDiscardedOnlyByRollback := by
  intro s mb c
  refine ⟨fun hs h => ?_, fun hs h => ?_, fun hs h => ?_⟩
  · exact answers_with hs rfl (doRollback_of_free h) (by simp) (by simp) (by simp)
  · exact answers_unchanged hs rfl (doRollback_of_commit h)
  · exact started_completes hs rfl (doClose_of_busy h) (respOnly_calm (finish_respOnly _ _ _ _) (calm_taken c mb hs.1))

end Sys2Proof.Laws
end

section
/-!
SESSION_COMMIT and its end (R402, R409, R417), and ABORT (R405).
-/
namespace Sys2Proof.Laws

open Sys2Proof.Machine

variable {s : State} {mb : Nat} {c x : Cmd} {d e : Dev} {k : Commit}

/-! ### SESSION_COMMIT -/

/-- What the card of SESSION_COMMIT admits of its flags and set identifier. -/
def CommitFits (p : Bytes) (d : Dev) : Prop :=
  if bit (rdU p 0 2) 0 = true then
    prmGet d 0x0F0A ≠ 0 ∧ { d.kmp.staged with plan := none, drive := [] } = ConfigSet.empty ∧
      (d.kmp.staged.plan ≠ none ∨ d.kmp.staged.drive ≠ []) ∧ (rdU p 4 4 ≠ 0 ↔ d.kmp.staged.drive ≠ [])
  else rdU p 4 4 = 0

theorem checkCommit_of_fits (hcommit : d.kmp.commit = none) (hheld : d.sync.held = none) (h : CommitFits c.payload d) :
    checkCommit c d = none := by
  unfold CommitFits at h
  cases hsync : bit (rdU c.payload 0 2) 0 with
  | false =>
    rw [hsync, if_neg (by decide)] at h
    simp [checkCommit, hcommit, hheld, hsync, h]
  | true =>
    rw [hsync, if_pos rfl] at h
    obtain ⟨hrole, hothers, hsome, hset⟩ := h
    have hset' : ((rdU c.payload 4 4 != 0) == d.kmp.staged.drive.isEmpty) = false := by
      by_cases hdrive : d.kmp.staged.drive = []
      · simp [hdrive, Classical.not_not.1 fun hn => hset.1 hn hdrive]
      · have hset1 : (rdU c.payload 4 4 != 0) = true := by simpa using hset.2 hdrive
        have hdrive1 : d.kmp.staged.drive.isEmpty = false := by simpa using hdrive
        rw [hset1, hdrive1]
        rfl
    have hsome' : (d.kmp.staged.plan.isNone && d.kmp.staged.drive.isEmpty) = false := by
      rcases hsome with hplan | hdrive
      · cases hp : d.kmp.staged.plan with
        | none => exact absurd hp hplan
        | some _ => rfl
      · simp [hdrive]
    simp [checkCommit, hcommit, hheld, hsync, hrole, otherStaged, hothers, hsome', hset']

theorem respOnly_staged (h : RespOnly d e) : e.kmp.staged = d.kmp.staged := by rw [h]

/-- An accepted commit holds the outcome of its check pass. -/
theorem doCommit_of_fits (hcommit : d.kmp.commit = none) (hheld : d.sync.held = none) (h : CommitFits c.payload d) :
    ∃ v : Verdict, v = checkSet (accept c d) d.kmp.staged ∧ doCommit c d = modKmp (fun k => { k with
      commit := some ⟨c.mb, c.tag, bit (rdU c.payload 0 2) 0, rdU c.payload 4 4, v.status, v.failed, v.reason, v.zone⟩ })
      (accept c d) := by
  refine ⟨_, rfl, ?_⟩
  rw [doCommit, checkCommit_of_fits hcommit hheld h]
  dsimp only
  rw [beginCommit, respOnly_staged (accept_respOnly c d)]

/-! ### The commit point and a failed check -/

/-- The device once a commit without retirements is done, before its response. -/
def committed (k : Commit) (d : Dev) : Dev :=
  modKmp (fun x => { x with commit := none, staged := ConfigSet.empty }) (if k.sync then holdSet k d
    else modPrm (fun p => { p with pending := p.pending ++ [⟨d.kmp.staged, applyFrame d d.kmp.staged⟩] }) d)

theorem commitPoint_of_ok (hk : d.kmp.commit = some k) (hst : k.status = stOk) (hready : checkReady d d.kmp.staged = none)
    (hc : findTag d k.mb k.tag = some c) (hretire : d.kmp.staged.retire = []) :
    ∃ (frame : Nat) (rsp : Bytes), commitPoint d = finishRunning c stOk rsp
      (raise (640 + 8 * k.mb + 4) 0 (le 4 frame) (noteRail d.kmp.staged (committed k d))) := by
  refine ⟨if k.sync then 0xFFFFFFFF else applyFrame d d.kmp.staged,
    commitRsp d d.kmp.staged (if k.sync then 0xFFFFFFFF else applyFrame d d.kmp.staged) Verdict.ok, ?_⟩
  simp only [commitPoint, hk, hst, hready, hc, commitNow, hretire, List.foldl_nil]
  cases hsync : k.sync with
  | false =>
    simp only [committed, hsync, Bool.false_eq_true, if_false, ne_eq, not_true]
  | true =>
    simp only [committed, hsync, if_true, ne_eq, not_true, if_false]

theorem committed_kmp (k : Commit) (d : Dev) :
    (committed k d).kmp = { d.kmp with commit := none, staged := ConfigSet.empty } := by
  unfold committed
  split <;> rfl

/-- The device at the end of a commit: its groups are those of `committed`, but for the response and events. -/
theorem commitPoint_spec (hk : d.kmp.commit = some k) (hst : k.status = stOk) (hready : checkReady d d.kmp.staged = none)
    (hc : findTag d k.mb k.tag = some c) (hretire : d.kmp.staged.retire = []) :
    (commitPoint d).kmp.commit = none ∧ (commitPoint d).kmp.staged = ConfigSet.empty ∧
      (commitPoint d).kmp.session = d.kmp.session ∧ (commitPoint d).sync = (committed k d).sync ∧
      (commitPoint d).prm = (committed k d).prm ∧
      Only [.prm, .slu, .pcie, .sync, .kmp, .ev, .writes, .out] d (commitPoint d) := by
  obtain ⟨frame, rsp, heq⟩ := commitPoint_of_ok hk hst hready hc hretire
  let d1 := raise (640 + 8 * k.mb + 4) 0 (le 4 frame) (noteRail d.kmp.staged (committed k d))
  have hkmp : d1.kmp = { d.kmp with commit := none, staged := ConfigSet.empty } :=
    (same_of_view (p := .kmp) (by simp [d1])).trans (committed_kmp k d)
  have hend : RespOnly d1 (commitPoint d) := by
    rw [heq]
    exact finishRunning_respOnly _ _ _ _
  have hend' : (commitPoint d).kmp = { d1.kmp with mbs := (commitPoint d).kmp.mbs } := by rw [hend]
  refine ⟨?_, ?_, ?_, ?_, ?_, only_of_views fun p hp => ?_⟩
  · rw [hend', hkmp]
  · rw [hend', hkmp]
  · rw [hend', hkmp]
  · rw [heq]
    exact sync_of_view (by simp)
  · rw [heq]
    exact same_of_view (p := .prm) (by simp)
  · rw [heq]
    cases p <;> simp [committed] at hp ⊢

theorem findTag_congr (h : e.kmp = d.kmp) (mb tag : Nat) : findTag e mb tag = findTag d mb tag := by
  rw [findTag, mbGet, h, ← mbGet, ← findTag]

theorem commitFailure_of_failed (hk : d.kmp.commit = some k) (hst : k.status ≠ stOk) (hc : findTag d k.mb k.tag = some c) :
    commitFailure d = finishRunning c k.status (commitRsp d d.kmp.staged 0xFFFFFFFF ⟨k.status, k.failed, k.reason, k.zone⟩)
      (raise (640 + 8 * k.mb + 5) 0 [] (modKmp (fun x => { x with commit := none }) d)) := by
  have hkmp : (raise (640 + 8 * k.mb + 5) 0 [] (modKmp (fun x => { x with commit := none }) d)).kmp =
      (modKmp (fun x => { x with commit := none }) d).kmp := same_of_view (p := .kmp) (by simp)
  have hc' : findTag (raise (640 + 8 * k.mb + 5) 0 [] (modKmp (fun x => { x with commit := none }) d)) k.mb k.tag = some c :=
    (findTag_congr hkmp _ _).trans hc
  simp only [commitFailure, hk, if_neg hst, endCommit, hc']

/-- Settles O15: the acceptance, the commit point and the failed check. That the check pass runs at acceptance and its outcome is held is
DEDUCED (assumption log, entry 17). -/
theorem commitRuns : Obligations.CommitRuns := by
  intro s
  refine ⟨fun mb c hs hcommit hheld hfits => ?_, fun k c hcalm hk hst hready hc hretire => ?_,
    fun k c hcalm hk hst hc => ?_⟩
  · obtain ⟨v, hv, heq⟩ := doCommit_of_fits (c := c) (d := s.taken c mb) hcommit hheld hfits
    refine ⟨v, hv, started_completes hs rfl heq ?_⟩
    exact calm_of_views (calm_taken c mb hs.1) (by simp) (by simp) (by simp)
  · obtain ⟨hcommit, hstaged, hsession, hsync, hprm, honly⟩ := commitPoint_spec (d := s.fresh) hk hst hready hc hretire
    refine ⟨commitPoint s.fresh, completes_of_views rfl rfl hcalm (by simp) (by simp) ?_, hcommit, hstaged, hsession, fun hno => ?_,
      fun hyes => ?_, honly⟩
    · simp
    · rw [hsync, hprm]
      simp only [committed, hno]
      exact ⟨rfl, rfl⟩
    · rw [hsync, hprm]
      simp only [committed, hyes]
      exact ⟨rfl, _, rfl, rfl, rfl, rfl⟩
  · exact completes_of_views rfl (commitFailure_of_failed (d := s.fresh) hk hst hc) hcalm (by simp) (by simp) (by simp)

/-! ### ABORT -/

section Abort

variable {waits runs : Option Cmd} {ended : Option FinalCmd}
  (hwaits : (mbGet d c.mb).waiting.find? (fun x => x.tag == rdU c.payload 0 2) = waits)
  (hruns : (mbGet d c.mb).running.find? (fun x => x.tag == rdU c.payload 0 2) = runs)
  (hended : (mbGet d c.mb).finals.find? (fun x => x.tag == rdU c.payload 0 2) = ended)
include hwaits hruns hended

/-- ABORT by the place where its target is found. -/
theorem doAbort_eq : doAbort c d = match waits, runs, ended with
    | some x, _, _ => if overtakes x.op then finish c stBadParam [] d
      else finish c stOk abortedRsp (finish x stAborted [] (modMb c.mb (fun m => { m with
        waiting := m.waiting.filter (fun y => !sameCmd y x) }) d))
    | none, some x, _ => if overtakes x.op then finish c stBadParam [] d
      else (match abortRunning x d with
        | some d1 => finish c stOk abortedRsp d1
        | none => modMb c.mb (fun m => { m with running := m.running ++ [c] }) d)
    | none, none, some x =>
      if overtakes x.op then finish c stBadParam [] d else finish c stAbortTooLate (le 2 x.status ++ zeros 2) d
    | none, none, none => finish c stBadParam [] d := by
  subst hwaits hruns hended
  rfl

end Abort

section Target

variable {ended : FinalCmd}

theorem doAbort_of_waiting (hwaits : (mbGet d c.mb).waiting.find? (fun x => x.tag == rdU c.payload 0 2) = some x) :
    doAbort c d = if overtakes x.op then finish c stBadParam [] d
      else finish c stOk abortedRsp (finish x stAborted [] (modMb c.mb (fun m => { m with
        waiting := m.waiting.filter (fun y => !sameCmd y x) }) d)) :=
  doAbort_eq hwaits rfl rfl

variable (hwaits : (mbGet d c.mb).waiting.find? (fun x => x.tag == rdU c.payload 0 2) = none)
include hwaits

theorem doAbort_of_running (hruns : (mbGet d c.mb).running.find? (fun x => x.tag == rdU c.payload 0 2) = some x) :
    doAbort c d = if overtakes x.op then finish c stBadParam [] d
      else (match abortRunning x d with
        | some d1 => finish c stOk abortedRsp d1
        | none => modMb c.mb (fun m => { m with running := m.running ++ [c] }) d) :=
  doAbort_eq hwaits hruns rfl

variable (hruns : (mbGet d c.mb).running.find? (fun x => x.tag == rdU c.payload 0 2) = none)
include hruns

theorem doAbort_of_final (hended : (mbGet d c.mb).finals.find? (fun x => x.tag == rdU c.payload 0 2) = some ended) :
    doAbort c d = if overtakes ended.op then finish c stBadParam [] d
      else finish c stAbortTooLate (le 2 ended.status ++ zeros 2) d :=
  doAbort_eq hwaits hruns hended

theorem doAbort_of_unknown (hended : (mbGet d c.mb).finals.find? (fun x => x.tag == rdU c.payload 0 2) = none) :
    doAbort c d = finish c stBadParam [] d :=
  doAbort_eq hwaits hruns hended

end Target

theorem abortRunning_of_arm (h : x.op = 0x0103) : abortRunning x d = some (finishRunning x stAborted [] d) := if_pos h

/-- A card without an abort point. -/
theorem abortRunning_of_noPoint
    (h : x.op ∉ [0x0103, 0x0202, 0x0304, 0x0707, 0x0A07, 0x0A09, 0x0C02, 0x0C05, 0x0D00, 0x1001]) : abortRunning x d = none := by
  simp only [List.mem_cons, List.not_mem_nil, or_false, not_or] at h
  simp [abortRunning, h]

theorem finish_calm (c : Cmd) (status : Nat) (payload : Bytes) (h : Calm d) : Calm (finish c status payload d) :=
  respOnly_calm (finish_respOnly c status payload d) h

/-- Settles O16: the place where the target is found decides. Which cards have no abort point is DEDUCED (assumption log, entry 15). -/
theorem abortResolvesItsTarget : Obligations.AbortResolvesItsTarget := by
  intro s mb c hs
  dsimp only
  have hcalm : Calm (s.taken c mb) := calm_taken c mb hs.1
  have hrefused : doAbort c (s.taken c mb) = finish c stBadParam [] (s.taken c mb) →
      Answers (.abort mb) s c stBadParam [] (s.taken c mb) := fun h => started_completes hs rfl h (finish_calm _ _ _ hcalm)
  refine ⟨fun x hwaits hop => ?_, fun x hwaits hruns hop => ?_, fun x hwaits hruns hop hpoint => ?_,
    fun x hwaits hruns hended hop => ?_, fun op hop hfound => ?_, fun hwaits hruns hended => ?_⟩
  · have hcalm' : Calm (modMb c.mb (fun m => { m with waiting := m.waiting.filter (fun y => !sameCmd y x) }) (s.taken c mb)) := hcalm
    exact started_completes hs rfl ((doAbort_of_waiting hwaits).trans (if_neg (ne_true_of_eq_false hop)))
      (finish_calm _ _ _ (finish_calm _ _ _ hcalm'))
  · refine started_completes hs rfl ((doAbort_of_running hwaits hruns).trans ((if_neg (by rw [hop]; decide)).trans ?_))
      (finish_calm _ _ _ (respOnly_calm (finishRunning_respOnly _ _ _ _) hcalm))
    rw [abortRunning_of_arm hop]
    rfl
  · refine started_completes hs rfl ((doAbort_of_running hwaits hruns).trans ((if_neg (ne_true_of_eq_false hop)).trans ?_)) hcalm
    rw [abortRunning_of_noPoint hpoint]
  · exact started_completes hs rfl ((doAbort_of_final hwaits hruns hended).trans (if_neg (ne_true_of_eq_false hop)))
      (finish_calm _ _ _ hcalm)
  · rcases hfound with ⟨x, hwaits, rfl⟩ | ⟨hwaits, x, hruns, rfl⟩ | ⟨hwaits, hruns, x, hended, rfl⟩
    · exact hrefused ((doAbort_of_waiting hwaits).trans (if_pos hop))
    · exact hrefused ((doAbort_of_running hwaits hruns).trans (if_pos hop))
    · exact hrefused ((doAbort_of_final hwaits hruns hended).trans (if_pos hop))
  · exact hrefused (doAbort_of_unknown hwaits hruns hended)

end Sys2Proof.Laws
end

section
/-!
Measurements, attestation and the debug port (R376, R379, R382, R418), and the second component of the image (R362, R369, R376, R398).
-/
namespace Sys2Proof.Laws

open Sys2Proof.Machine

variable {s : State} {mb : Nat} {c : Cmd} {d e : Dev}

/-! ### ATTEST_EXTEND, ATTEST_PATH and ATTEST_REPORT -/

/-- ATTEST_PATH with a leaf and the LMS keys usable. -/
theorem doPath_of_leaf {q : Nat} (hq : d.sec.q = some q) (hoff : d.sec.lmsOff = false) : doPath c d =
    if rdU c.payload 0 2 ≠ q ∨ sha384 (topKey q (slice c.payload 4 480)) ≠ otpDigest 2 then (stBadParam, [], d)
    else (stOk, [], modSec (fun x => { x with path := some (slice c.payload 4 480) }) d) := by
  simp only [doPath, hq, hoff, Bool.false_eq_true, if_false]

theorem doPath_of_none (h : d.sec.q = none ∨ d.sec.lmsOff = true) : doPath c d = (stNotPermitted, [], d) := by
  unfold doPath
  dsimp only
  split
  · rfl
  · next q hq => exact if_pos (h.resolve_left (by simp [hq]))

theorem openBytes_length (d : Dev) (k : Nat) : (openBytes d k).length = k := by
  simp [openBytes]

/-- A report without an LMS signature. -/
theorem doReport_of_noLms (h : noLmsFlags d ≠ 0) :
    doReport c d = (stOk, reportBody d (slice c.payload 0 32) ++ openBytes d 96, draw d) :=
  if_pos (by simpa using h)

section Lms

variable (h : noLmsFlags d = 0)
include h

theorem doReport_of_noWindow (hmb : c.mb < 2) (hbulk : bit c.flags 1 = false) : doReport c d = (stBadLength, [], d) :=
  (if_neg (by simp [h])).trans (if_pos (by simp [hmb, hbulk]))

/-- A report with one spends a leaf. -/
theorem doReport_of_lms (hroom : ¬ (c.mb < 2 ∧ bit c.flags 1 = false)) :
    let spent := draw (modSec (fun x => { x with leaves := x.leaves + 1 }) d)
    doReport c d = (stOk, reportBody d (slice c.payload 0 32) ++ (openBytes d 96 ++ hssBytes d),
      if d.sec.leaves = 63 then raise 15 2 [] spent else spent) := by
  intro spent
  have hleaves : spent.sec.leaves = 64 ↔ d.sec.leaves = 63 := Nat.succ_inj (a := d.sec.leaves) (b := 63)
  rw [← List.append_assoc, ← if_congr hleaves rfl rfl]
  exact (if_neg (by simp [h])).trans (if_neg (by simpa using hroom))

end Lms

/-- Settles O19: the branches of the three commands. -/
theorem attestationCommands : Obligations.AttestationCommands := by
  intro s mb c
  refine ⟨fun hs => ?_, fun q hs hq hoff => ?_, fun hs h => ?_, fun hs h => ?_, fun hs h => ?_⟩
  · exact answers_unless hs (f := doExtend) rfl rfl (by omega) (by simp) (by simp) (by simp)
  · exact answers_unless hs rfl (doPath_of_leaf (d := s.taken c mb) hq hoff) (by grind) (by simp) (by simp) (by simp)
  · exact answers_unchanged hs rfl (doPath_of_none h)
  · exact ⟨_, openBytes_length (s.taken c mb) 96, answers_with hs rfl (doReport_of_noLms h) (by simp) (by simp) (by simp)⟩
  · intro spent
    split
    · next hroom => exact answers_unchanged hs rfl (doReport_of_noWindow h hroom.1 hroom.2)
    · next hroom =>
      refine ⟨_, answers_with hs rfl (doReport_of_lms (d := s.taken c mb) h hroom) (by simp [spent])
        (by simp [spent]) (by simp [spent])⟩

/-! ### The debug port -/

theorem doChallenge_of_state (h : d.sys.op ≠ .ready) : doChallenge c d = (stNotPermitted, [], d) := if_pos (by simpa using h)

theorem doChallenge_of_ready (h : d.sys.op = .ready) : doChallenge c d =
    if rdU c.payload 0 1 ≠ 1 ∧ rdU c.payload 0 1 ≠ 2 then (stBadParam, [], d)
    else (stOk, deviceId ++ openBytes d 32 ++ le 1 (rdU c.payload 0 1) ++ zeros 1 ++ le 2 (leafCode d) ++ zeros 4,
      draw (modSec (fun x => { x with challenge := some (rdU c.payload 0 1, openBytes d 32) }) d)) :=
  if_neg (by simp [h])

theorem doUnlock_of_none (h : d.sys.op ≠ .ready ∨ d.sec.challenge = none) : doUnlock c d = (stNotPermitted, [], d) := by
  unfold doUnlock
  split
  · rfl
  · next hop =>
    rw [h.resolve_left (by simpa using hop)]

/-- The challenge is used up whatever its token is worth. -/
def challengeUsed (d : Dev) : Dev := modSec (fun x => { x with challenge := none }) d

/-- The scope of a valid token, with the token measured. -/
def scopeUnlocked (scope : Nat) (token : Bytes) (d : Dev) : Dev :=
  extendM 4 (sha384 token) (modSec (fun x => { x with scopes := putBit x.scopes (scope - 1) true }) (challengeUsed d))

@[simp] theorem scopeUnlocked_frame {v : Facet} (scope : Nat) (token : Bytes) (h : v ∉ [.sec]) :
    v.view (scopeUnlocked scope token d) = v.view d := by
  simp at h
  simp [scopeUnlocked, challengeUsed, h]

section Token

variable {scope : Nat} {nonce : Bytes} (hop : d.sys.op = .ready) (hch : d.sec.challenge = some (scope, nonce))
include hop hch

theorem doUnlock_of_challenge {v : Nat} (hv : Config.tokenVerdict c.payload (challengeDigest d scope nonce) = v) : doUnlock c d =
    if v = 1 then (stBadParam, [], challengeUsed d)
    else if v = 2 then (stAuthFailed, [], challengeUsed d)
    else if v ≠ 0 then (stSigFailed, [], challengeUsed d)
    else (stOk, le 1 scope ++ zeros 3,
      raise 17 0 [] (if scope = 2 then debugSafety (scopeUnlocked scope c.payload d) else scopeUnlocked scope c.payload d)) := by
  subst hv
  unfold doUnlock
  rw [if_neg (by simp [hop]), hch]
  rfl

end Token

/-- Scope 0x02 de-energises both outputs and closes every connection, and touches no other group. -/
theorem debugSafety_spec (d : Dev) : (debugSafety d).sec = d.sec ∧ (∀ n, n < 2 → (safeOut (debugSafety d) n).energised = false) ∧
    ∀ x ∈ (debugSafety d).hst.conns, x.state = .closed := by
  refine ⟨same_of_view (p := .sec) (by simp), fun n hn => deEnergiseAll_energised _ hn, fun x hx => ?_⟩
  have hhst : (debugSafety d).hst = { d.hst with conns := d.hst.conns.map (fun x => { x with state := .closed }) } :=
    same_of_view (p := .hst) (d := modHst (fun h => { h with conns := h.conns.map (fun x => { x with state := .closed }) }) d)
      (by simp [debugSafety])
  rw [hhst] at hx
  obtain ⟨y, -, rfl⟩ := List.mem_map.1 hx
  rfl

/-- Settles O20: the branches of the two commands. What a token is worth is free (DESIGN CHOICE, assumption log, entries 5 and 57), and
that an attempt uses the challenge up is DEDUCED (entry 61). -/
theorem debugPortUnlocks : Obligations.DebugPortUnlocks := by
  intro s mb c
  refine ⟨fun hs h => ?_, fun hs hop => ?_, fun hs h => ?_, fun scope nonce hs hop hch => ?_⟩
  · exact answers_unchanged hs rfl (doChallenge_of_state h)
  · dsimp only
    have hready := doChallenge_of_ready (c := c) (d := s.taken c mb) hop
    split
    · next h =>
      exact ⟨_, openBytes_length (s.taken c mb) 32, answers_with hs rfl (hready.trans (if_neg (by omega))) (by simp) (by simp) (by simp)⟩
    · next h => exact answers_unchanged hs rfl (hready.trans (if_pos (by omega)))
  · exact answers_unchanged hs rfl (doUnlock_of_none h)
  · intro v used
    have hunlock := doUnlock_of_challenge (c := c) (d := s.taken c mb) (v := v) hop hch rfl
    have hused {st : Nat} {p : Bytes} (h : doUnlock c (s.taken c mb) = (st, p, used)) : Answers (.debugUnlock mb) s c st p used :=
      answers_with hs rfl h (by simp [used]) (by simp [used]) (by simp [used])
    clear_value v
    refine ⟨fun hv => ?_, fun hv => ?_, fun hv => ?_, fun hv hscope => ?_, fun hv hscope => ?_⟩
    · exact hused (hunlock.trans (if_pos hv))
    · exact hused (by rw [hunlock, hv]; rfl)
    · exact hused (by rw [hunlock, if_neg (by omega), if_neg (by omega), if_pos (by omega)]; rfl)
    · subst hv hscope
      exact answers_with hs rfl hunlock (by simp [used]) (by simp [used]) (by simp [used])
    · subst hv hscope
      obtain ⟨hsec, houts, hconns⟩ := debugSafety_spec (scopeUnlocked 2 c.payload (s.taken c mb))
      have hhst : (raise 17 0 [] (debugSafety (scopeUnlocked 2 c.payload (s.taken c mb)))).hst =
          (debugSafety (scopeUnlocked 2 c.payload (s.taken c mb))).hst := same_of_view (p := .hst) (by simp)
      refine ⟨_, answers_with hs rfl hunlock (by simp) (by simp) (by simp), ?_, fun n hn => ?_, fun x hx => ?_,
        only_of_views fun p hp => ?_⟩
      · exact (same_of_view (p := .sec) (by simp)).trans hsec
      · exact (congrArg SafeOut.energised (safeOut_of_outs (congrArg Saf.outs (raise_saf ..)) n)).trans (houts n hn)
      · exact hconns x (hhst ▸ hx)
      · cases p <;> simp at hp ⊢

/-! ### LOAD_END -/

theorem touchClaim_sec (port : Nat) (d : Dev) : ∃ t, (touchClaim port d).sec = { d.sec with claimAt := t } := by
  unfold touchClaim
  split
  · exact ⟨_, rfl⟩
  · exact ⟨d.sec.claimAt, rfl⟩

theorem verifyEnds_sys (h : loaderOpen d = true) : (verifyEnds d).sys = { d.sys with boot := 0x30 } := by
  unfold verifyEnds
  split
  · rfl
  · next hb =>
    have hboot : d.sys.boot = 0x30 := by simpa [loaderOpen, hb] using h
    rw [← hboot]

/-- A fuse burned, or none: of the security group only the leaf, the burned fuses and the LMS keys' state change. -/
theorem burnFuse_sec (k : Nat) : ∀ (start : Nat) (d : Dev), ∃ q burned off,
    (burnFuse k start d).sec = { d.sec with q := q, burned := burned, lmsOff := off } := by
  induction k with
  | zero => exact fun start d => ⟨_, _, _, rfl⟩
  | succ k ih =>
    intro start d
    unfold burnFuse
    dsimp only
    split
    · split
      · exact ⟨d.sec.q, d.sec.burned, d.sec.lmsOff, rfl⟩
      · exact ⟨_, _, _, rfl⟩
    · split
      · exact ⟨_, _, _, rfl⟩
      · exact ih _ _

/-- The firmware starts at stage 0x50 without a claim, and serves the pages itself. -/
theorem firmwareStart_spec (d : Dev) : (firmwareStart d).sys = { d.sys with boot := 0x50, firmware := true } ∧
    (∃ q burned off, (firmwareStart d).sec = { d.sec with owner := 0, q := q, burned := burned, lmsOff := off }) ∧
    ∀ i, i < 2 → i < d.kmp.mbs.length → (mbGet (firmwareStart d) i).rom = false := by
  let d1 := modMb 0 (fun m => { m with rom := false }) (modMb 1 (fun m => { m with rom := false })
    (modSys (fun y => { y with boot := 0x50, firmware := true }) (modSec (fun s => { s with owner := 0 }) d)))
  refine ⟨?_, burnFuse_sec 4 0 d1, fun i hi hlen => ?_⟩
  · exact sys_of_view (d := d1) (by simp [firmwareStart, d1])
  · have hkmp : (firmwareStart d).kmp = d1.kmp := same_of_view (p := .kmp) (by simp [firmwareStart, d1])
    rw [mbGet, hkmp, show d1.kmp.mbs = listMod (listMod d.kmp.mbs 1 (fun m => { m with rom := false })) 0 (fun m => { m with rom := false })
      from rfl, listMod_getD, listMod_getD]
    obtain rfl | rfl : i = 0 ∨ i = 1 := by omega
    · rw [if_pos ⟨rfl, by simpa [listMod] using hlen⟩]
    · rw [if_neg (by omega), if_pos ⟨rfl, hlen⟩]

/-- The second component passes: it is measured, and the firmware starts. -/
theorem acceptComp_of_fellow {k : Nat} (hk : k = 1 ∨ k = 2) (hfellow : (compOf d.sec (3 - k)).verified = true) :
    let e := acceptComp k d
    let whole := compBytes (compOf d.sec k) ((compOf d.sec k).total.getD 0)
    e.sys = { d.sys with boot := 0x50, firmware := true } ∧ e.sec.owner = 0 ∧ e.sec.app.verified = true ∧
      e.sec.safety.verified = true ∧ e.sec.measures = listMod d.sec.measures k (fun m => sha384 (m ++ signedPart whole)) ∧
      ∀ i, i < 2 → i < d.kmp.mbs.length → (mbGet e i).rom = false := by
  intro e whole
  let d1 := extendM k (signedPart whole)
    (modComp k (fun _ => { Comp.none with verified := true, version := rdU whole 8 4, pairId := rdU whole 0x0C 4 }) d)
  have hboth : d1.sec.app.verified = true ∧ d1.sec.safety.verified = true := by
    rcases hk with rfl | rfl
    · exact ⟨rfl, hfellow⟩
    · exact ⟨hfellow, rfl⟩
  have heq : e = firmwareStart d1 := if_pos (by simp only [Bool.and_eq_true]; exact hboth)
  obtain ⟨hsys, ⟨q, burned, off, hsec⟩, hrom⟩ := firmwareStart_spec d1
  rw [heq]
  refine ⟨hsys, ?_, ?_, ?_, ?_, hrom⟩
  · rw [hsec]
  · rw [hsec]
    exact hboth.1
  · rw [hsec]
    exact hboth.2
  · rw [hsec]
    rcases hk with rfl | rfl <;> rfl

section LoadEnd

variable {k r : Nat} {x y : Comp} (hk : k = 1 ∨ k = 2) (hkc : rdU c.payload 0 1 = k) (hopen : loaderOpen d = true)
  (hbusy : loaderBusy d (portOfMb c.mb) = false) (hr : loaderReason k (compOf d.sec k) (compOf d.sec (3 - k)) = r)
include hk hkc hopen hbusy hr

/-- A component that passes. -/
theorem doLoadEnd_of_pass (h : r = 0) : ∃ p, doLoadEnd c d =
    (reasonStatus r, p, acceptComp k (touchClaim (portOfMb c.mb) (verifyEnds d))) := by
  subst h hkc
  exact ⟨_, (if_neg (by simp [hopen])).trans ((if_neg (by simp [hbusy])).trans ((if_neg (by omega)).trans ((if_pos hr).trans rfl)))⟩

/-- A component that fails is discarded, and its reason remembered. -/
theorem doLoadEnd_of_fail (h : r ≠ 0) : ∃ p, doLoadEnd c d = (reasonStatus r, p, modSec (fun s => { s with lastReason := r })
    (modComp k (fun x => if x.total.isSome then Comp.none else x) (touchClaim (portOfMb c.mb) (verifyEnds d)))) := by
  subst hr hkc
  exact ⟨_, (if_neg (by simp [hopen])).trans ((if_neg (by simp [hbusy])).trans ((if_neg (by omega)).trans ((if_neg h).trans rfl)))⟩

end LoadEnd

/-- A component that fails leaves the claim's owner, the measurements and the other component. -/
theorem failed_sec {k : Nat} (hk : k = 1 ∨ k = 2) (r : Nat) (f : Comp → Comp) (d : Dev) :
    let e := modSec (fun s => { s with lastReason := r }) (modComp k f d)
    e.sec.owner = d.sec.owner ∧ e.sec.measures = d.sec.measures ∧ e.sec.lastReason = r ∧ compOf e.sec (3 - k) = compOf d.sec (3 - k) := by
  rcases hk with rfl | rfl
  · exact ⟨rfl, rfl, rfl, rfl⟩
  · exact ⟨rfl, rfl, rfl, rfl⟩

theorem taken_mbs_length (c : Cmd) (mb : Nat) (s : State) : (s.taken c mb).kmp.mbs.length = s.dev.kmp.mbs.length := by
  simp [taken_eq, takeOff, modMb, listMod, State.fresh]

/-- Settles O22: a component that passes starts the firmware, one that fails is discarded alone. -/
theorem secondComponentStartsFirmware : Obligations.SecondComponentStartsFirmware := by
  intro s mb c hs hopen k whole r hbusy hk hfellow
  let d0 := touchClaim (portOfMb c.mb) (verifyEnds (s.taken c mb))
  have hsys : d0.sys = { s.dev.sys with boot := 0x30 } :=
    (sys_of_view (d := verifyEnds (s.taken c mb)) (by simp [d0])).trans (verifyEnds_sys (d := s.taken c mb) hopen)
  obtain ⟨t, hclaim⟩ : ∃ t, d0.sec = { s.dev.sec with claimAt := t } := by
    obtain ⟨t, ht⟩ := touchClaim_sec (portOfMb c.mb) (verifyEnds (s.taken c mb))
    exact ⟨t, ht.trans (by rw [show (verifyEnds (s.taken c mb)).sec = s.dev.sec from same_of_view (p := .sec) (d := s.taken c mb) (by simp)])⟩
  have hcomp (j : Nat) : compOf d0.sec j = compOf s.dev.sec j := by
    rw [hclaim]
    rfl
  have hmbs : d0.kmp = (s.taken c mb).kmp := same_of_view (p := .kmp) (by simp [d0])
  have hanswers {d : Dev} {st : Nat} {p : Bytes} (h : doLoadEnd c (s.taken c mb) = (st, p, d)) :
      Answers (.loadEnd mb) s c st p d ∧ Only [.sys, .sec, .kmp, .drawn] (s.taken c mb) d := by
    obtain rfl : (doLoadEnd c (s.taken c mb)).2.2 = d := by rw [h]
    exact ⟨answers_with hs rfl (h.trans (by rw [h])) (by simp) (by simp) (by simp), only_of_views fun p hp => by cases p <;> simp at hp ⊢⟩
  by_cases h : r = 0
  · obtain ⟨p, hend⟩ := doLoadEnd_of_pass (d := s.taken c mb) hk rfl hopen hbusy rfl h
    obtain ⟨hanswer, honly⟩ := hanswers hend
    obtain ⟨hsys', howner, happ, hsafety, hmeasures, hrom⟩ := acceptComp_of_fellow (d := d0) hk (by rw [hcomp]; exact hfellow)
    refine ⟨_, p, hanswer, honly, fun _ => ⟨?_, howner, happ, hsafety, ?_, fun i hi hlen => hrom i hi ?_⟩, fun hne => absurd h hne⟩
    · rw [hsys', hsys]
    · rw [hmeasures, hcomp, hclaim]
    · rwa [hmbs, taken_mbs_length]
  · obtain ⟨p, hend⟩ := doLoadEnd_of_fail (d := s.taken c mb) hk rfl hopen hbusy rfl h
    obtain ⟨hanswer, honly⟩ := hanswers hend
    obtain ⟨howner, hmeasures, hreason, hother⟩ := failed_sec hk r (fun x => if x.total.isSome then Comp.none else x) d0
    refine ⟨_, p, hanswer, honly, fun he => absurd he h, fun _ => ⟨hsys, howner.trans ?_, hmeasures.trans ?_, hreason,
      hother.trans (hcomp _)⟩⟩
    · rw [hclaim]
    · rw [hclaim]

end Sys2Proof.Laws
end

section
/-!
The final response of a command, on its way to the mailbox (R393, R394, R405, R407).
-/
namespace Sys2Proof.Laws

open Sys2Proof.Machine

variable {d e : Dev} {mb k : Nat}

/-! ### A mailbox after a change of one -/

theorem mbGet_congr (h : e.kmp = d.kmp) (k : Nat) : mbGet e k = mbGet d k := by rw [mbGet, h, mbGet]

theorem mbGet_modMb_self (f : Mailbox → Mailbox) (h : mb < d.kmp.mbs.length) : mbGet (modMb mb f d) mb = f (mbGet d mb) := by
  rw [mbGet, modMb, modKmp_kmp, listMod_getD, if_pos ⟨rfl, h⟩, mbGet]

theorem mbGet_modMb_ne (f : Mailbox → Mailbox) (d : Dev) (h : k ≠ mb) : mbGet (modMb mb f d) k = mbGet d k := by
  rw [mbGet, modMb, modKmp_kmp, listMod_getD, if_neg fun hc => h hc.1.symm, mbGet]

theorem modMb_mbs_length (mb : Nat) (f : Mailbox → Mailbox) (d : Dev) : (modMb mb f d).kmp.mbs.length = d.kmp.mbs.length := by
  rw [modMb, modKmp_kmp, listMod, List.length_modify]

/-- A cause is set in its mailbox and in no other. -/
theorem irqSet_kmp (mb cause : Nat) (d : Dev) :
    (irqSet mb cause d).kmp = (modMb mb (fun m => { m with irqStatus := putBit m.irqStatus cause true }) d).kmp := by
  unfold irqSet
  extract_lets d1
  split
  · exact kmp_of_view (d := d1) (by simp)
  · rfl

/-- A mailbox whose oldest waiting response `r` is posted (R393, R395). -/
def postedMb (r : Rsp) (m : Mailbox) : Mailbox :=
  { m with
    rspPi := (m.rspPi + 1) % 65536, rspQueue := m.rspQueue.tail, bulkBusy := m.bulkBusy || r.bulk, bulkRsp := m.bulkRsp || r.bulk,
    bulkOwner := if r.bulk then r.tag else m.bulkOwner, irqStatus := putBit m.irqStatus 0 true }

theorem mbGet_postOne_self (r : Rsp) (h : mb < d.kmp.mbs.length) : mbGet (postOne mb r d) mb = postedMb r (mbGet d mb) := by
  unfold postOne
  extract_lets m d1 d2 d3 msg
  have h2 : d2.kmp = d.kmp := kmp_of_view (by simp [d2, d1])
  have hlen : mb < d2.kmp.mbs.length := h2 ▸ h
  have h4 (x : Dev) (hx : x.kmp = d3.kmp) : mbGet (irqSet mb 0 x) mb = postedMb r (mbGet d mb) := by
    rw [mbGet_congr (irqSet_kmp mb 0 x), mbGet_modMb_self _ (by rwa [hx, modMb_mbs_length]), mbGet_congr hx, mbGet_modMb_self _ hlen,
      mbGet_congr h2]
    rfl
  split
  · exact h4 _ rfl
  · exact h4 _ rfl

/-! ### What posting keeps -/

/-- A mailbox without what posting responses changes of it. -/
def unposted (m : Mailbox) : Mailbox :=
  { m with rspPi := 0, rspQueue := [], bulkBusy := false, bulkRsp := false, bulkOwner := 0, irqStatus := 0, recent := [] }

/-- No mailbox but `mb` changed, and of that one only what posting responses changes. -/
structure PostsOn (mb : Nat) (d e : Dev) : Prop where
  others : ∀ k, k ≠ mb → mbGet e k = mbGet d k
  kept : ∀ k, unposted (mbGet e k) = unposted (mbGet d k)

namespace PostsOn

theorem of_kmp (h : e.kmp = d.kmp) : PostsOn mb d e := ⟨fun k _ => mbGet_congr h k, fun k => by rw [mbGet_congr h]⟩

theorem refl (d : Dev) : PostsOn mb d d := .of_kmp rfl

theorem trans {a b c : Dev} (h : PostsOn mb a b) (k : PostsOn mb b c) : PostsOn mb a c :=
  ⟨fun i hi => (k.others i hi).trans (h.others i hi), fun i => (k.kept i).trans (h.kept i)⟩

theorem ite {a b : Dev} {p : Prop} [Decidable p] (h : PostsOn mb d a) (k : PostsOn mb d b) : PostsOn mb d (if p then a else b) := by
  split
  · exact h
  · exact k

theorem of_modMb {f : Mailbox → Mailbox} (hf : ∀ m, unposted (f m) = unposted m) (d : Dev) : PostsOn mb d (modMb mb f d) where
  others k hk := mbGet_modMb_ne f d hk
  kept k := by
    rw [mbGet, modMb, modKmp_kmp, listMod_getD]
    split
    · exact hf _
    · rfl

theorem finals (h : PostsOn mb d e) (k : Nat) : (mbGet e k).finals = (mbGet d k).finals :=
  (congrArg Mailbox.finals (h.kept k) :)

theorem waiting (h : PostsOn mb d e) (k : Nat) : (mbGet e k).waiting = (mbGet d k).waiting :=
  (congrArg Mailbox.waiting (h.kept k) :)

theorem cmdCi (h : PostsOn mb d e) (k : Nat) : (mbGet e k).cmdCi = (mbGet d k).cmdCi := (congrArg Mailbox.cmdCi (h.kept k) :)

end PostsOn

theorem postOne_postsOn (mb : Nat) (r : Rsp) (d : Dev) : PostsOn mb d (postOne mb r d) := by
  unfold postOne
  extract_lets m d1 d2 d3 msg
  have h2 : PostsOn mb d d2 := .of_kmp (kmp_of_view (by simp [d2, d1]))
  have h3 : PostsOn mb d d3 := h2.trans (.of_modMb (fun _ => by rfl) d2)
  have hirq (x : Dev) : PostsOn mb x (irqSet mb 0 x) :=
    .trans (.of_modMb (f := fun m => { m with irqStatus := putBit m.irqStatus 0 true }) (fun _ => rfl) x) (.of_kmp (irqSet_kmp mb 0 x))
  have hmsg : PostsOn mb d (queueMsg (mb + 1) msg d3) := h3.trans (.of_kmp rfl)
  exact (PostsOn.ite h3 hmsg).trans (hirq _)

theorem postLoop_postsOn (mb n : Nat) : ∀ d, PostsOn mb d (postLoop mb n d) := by
  induction n with
  | zero => exact .refl
  | succ n ih =>
    intro d
    unfold postLoop
    extract_lets m
    split
    · exact .refl d
    · exact .ite ((postOne_postsOn _ _ _).trans (ih _)) (.refl d)

theorem postResponses_postsOn (mb : Nat) (d : Dev) : PostsOn mb d (postResponses mb d) := by
  unfold postResponses
  extract_lets d1
  have h1 : PostsOn mb d d1 := postLoop_postsOn mb _ d
  exact .ite (h1.trans (.of_kmp (kmp_of_view (by simp)))) h1

/-! ### Posting where the slots are free, and where none is -/

/-- The only response that waits is posted into a free slot. -/
theorem postResponses_of_single {r : Rsp} (h : mb < d.kmp.mbs.length) (hq : (mbGet d mb).rspQueue = [r])
    (hroom : rspRoom (mbGet d mb) = true) (hb : r.bulk = false) : postResponses mb d = postOne mb r d := by
  have hloop : postLoop mb (mbGet d mb).rspQueue.length d = postOne mb r d := by
    rw [hq, List.length_singleton, postLoop]
    simp only [hq, hroom, hb, Bool.false_and, Bool.not_false, Bool.and_self, if_true]
    rfl
  have hnone : rspWaiting (mbGet (postOne mb r d) mb) = false := by
    simp [mbGet_postOne_self r h, rspWaiting, postedMb, hq]
  unfold postResponses
  rw [hloop]
  exact if_neg (by simp [hnone])

/-- Without a free slot nothing is posted; RSP_WAIT may be reported. -/
theorem postResponses_of_full (hroom : rspRoom (mbGet d mb) = false) : Only [.ev] d (postResponses mb d) := by
  have hloop (n : Nat) : postLoop mb n d = d := by
    cases n with
    | zero => rfl
    | succ n =>
      unfold postLoop
      extract_lets m
      split
      · rfl
      · exact if_neg (by simp [m, hroom])
  unfold postResponses
  rw [hloop]
  dsimp only
  split
  · exact only_of_views fun p hp => by cases p <;> simp at hp ⊢
  · exact only_refl _ d

/-- Where a response of at most 1 008 bytes is written. -/
theorem postOne_writes {r : Rsp} (hb : r.bulk = false) :
    (postOne mb r d).writes = d.writes ++ [(rspPlace mb (mbGet d mb), r.header ++ r.payload)] := by
  unfold postOne
  extract_lets m d1 d2 d3 msg
  have h3 : d3.writes = d.writes ++ [(rspPlace mb (mbGet d mb), r.header ++ r.payload)] := by
    show d2.writes = _
    simp [d2, d1, hb, m]
  rw [same_of_view (p := .writes) (irqSet_frame _ mb 0 (by simp))]
  split
  · exact h3
  · exact h3

/-- Once the firmware serves the page its response also waits for a grant on the page's port. -/
theorem postOne_msgs {r : Rsp} (hport : mb + 1 < d.slu.ports.length) :
    (portGet (postOne mb r d).slu (mb + 1)).msgs = (portGet d.slu (mb + 1)).msgs ++ if (mbGet d mb).rom then [] else
      [{ requester := 3, bytes := r.header ++ r.payload, addr := [], udpPort := 0, srcPort := 0, mb := mb, tag := r.tag }] := by
  unfold postOne
  extract_lets m d1 d2 d3 msg
  have h3 : d3.slu = d.slu := slu_of_view (by simp [d3, d2, d1])
  rw [slu_of_view (irqSet_frame _ mb 0 (by simp))]
  show (portGet (if m.rom = true then d3 else queueMsg (mb + 1) msg d3).slu (mb + 1)).msgs = _ ++ if m.rom = true then [] else [msg]
  split
  · rw [h3, List.append_nil]
  · rw [portGet_queueMsg msg (h3 ▸ hport), h3]

/-! ### Ending a command -/

section Ends

variable {c : Cmd} {status : Nat} {payload : Bytes} (hp : payload.length ≤ 1008)

/-- The final response of a command, which needs no bulk window. -/
def finalRsp (c : Cmd) (status : Nat) (payload : Bytes) : Rsp :=
  ⟨c.tag, rspHeader c status payload.length true false, payload, false, true⟩

/-- The command is remembered as final. -/
def noteFinal (c : Cmd) (status : Nat) (d : Dev) : Dev :=
  modMb c.mb (fun m => { m with finals := (⟨c.tag, c.op, status⟩ :: m.finals).take 16 }) d

/-- And its response waits behind those of its page. -/
def queuedFinal (c : Cmd) (status : Nat) (payload : Bytes) (d : Dev) : Dev :=
  modMb c.mb (fun m => { m with rspQueue := m.rspQueue ++ [finalRsp c status payload] }) (noteFinal c status d)

theorem queuedFinal_length : (queuedFinal c status payload d).kmp.mbs.length = d.kmp.mbs.length := by
  rw [queuedFinal, modMb_mbs_length, noteFinal, modMb_mbs_length]

theorem queuedFinal_mb (hlen : c.mb < d.kmp.mbs.length) (status : Nat) : mbGet (queuedFinal c status payload d) c.mb =
    { mbGet d c.mb with
      finals := (⟨c.tag, c.op, status⟩ :: (mbGet d c.mb).finals).take 16
      rspQueue := (mbGet d c.mb).rspQueue ++ [finalRsp c status payload] } := by
  rw [queuedFinal, mbGet_modMb_self _ (by rwa [noteFinal, modMb_mbs_length]), noteFinal, mbGet_modMb_self _ hlen]

include hp

theorem sentStatus_of_short (c : Cmd) (status : Nat) : sentStatus c status payload = status := by
  simp [sentStatus, Nat.not_lt.2 hp]

theorem finish_of_page (hmb : c.mb < 2) (status : Nat) (d : Dev) :
    finish c status payload d = postResponses c.mb (queuedFinal c status payload d) := by
  rw [finish, sentStatus_of_short hp, respond, if_neg (by omega)]
  simp only [Nat.not_lt.2 hp, decide_false, Bool.not_false, Bool.true_or, if_true, Bool.false_and]
  rfl

theorem finish_of_backbone (hmb : 2 ≤ c.mb) (status : Nat) (d : Dev) : finish c status payload d =
    udpResponse c (rspHeader c status payload.length true false ++ payload) (noteFinal c status d) := by
  rw [finish, sentStatus_of_short hp, respond, if_pos hmb]
  rfl

theorem finish_postsOn (status : Nat) (d : Dev) : PostsOn c.mb (noteFinal c status d) (finish c status payload d) := by
  by_cases hmb : c.mb < 2
  · rw [finish_of_page hp hmb]
    exact .trans (.of_modMb (f := fun m => { m with rspQueue := m.rspQueue ++ [finalRsp c status payload] }) (fun _ => rfl) _)
      (postResponses_postsOn _ _)
  · rw [finish_of_backbone hp (by omega)]
    exact .trans (.of_modMb (f := rememberTag _ _) (fun _ => rfl) _) (.of_kmp rfl)

theorem finish_of_free {c : Cmd} (hmb : c.mb < 2) (hlen : c.mb < d.kmp.mbs.length) (hq : (mbGet d c.mb).rspQueue = [])
    (hroom : rspRoom (mbGet d c.mb) = true) (status : Nat) :
    finish c status payload d = postOne c.mb (finalRsp c status payload) (queuedFinal c status payload d) := by
  have hmb' : mbGet (queuedFinal c status payload d) c.mb = _ := queuedFinal_mb hlen status
  rw [finish_of_page hp hmb]
  refine postResponses_of_single (by rwa [queuedFinal_length]) ?_ ?_ rfl
  · rw [hmb', hq]
    rfl
  · rw [hmb']
    exact hroom

end Ends

/-- Settles O6: the response is the only one that waits and is posted, or it stays queued behind full slots, or it is a message. -/
theorem finalResponsesReachTheirMailbox : Obligations.FinalResponsesReachTheirMailbox := by
  intro c status payload d hp hlen
  dsimp only
  have hkeeps := finish_postsOn (c := c) hp status d
  have hresp := finish_respOnly c status payload d
  have hqueued := queuedFinal_mb (payload := payload) hlen status
  refine ⟨fun hmb hq hroom => ?_, fun hmb hroom => ?_, fun hmb hport => ?_, ?_, fun k hk => ?_, respOnly_session hresp,
    respOnly_staged hresp, only_of_views fun p hp => by cases p <;> simp at hp ⊢⟩
  · have hlen' : c.mb < (queuedFinal c status payload d).kmp.mbs.length := by rwa [queuedFinal_length]
    rw [finish_of_free hp hmb hlen hq hroom, mbGet_postOne_self _ hlen', hqueued, postOne_writes rfl, hqueued]
    refine ⟨rfl, rfl, by rw [postedMb, hq]; rfl, bit_putBit_self _ _, fun hport => ?_⟩
    rw [postOne_msgs (d := queuedFinal c status payload d) hport, hqueued]
    rfl
  · have hnone := postResponses_of_full (d := queuedFinal c status payload d) (mb := c.mb) (by rw [hqueued]; exact hroom)
    rw [finish_of_page hp hmb]
    have hmb' := mbGet_congr (hnone .kmp (by simp)) c.mb
    rw [hqueued] at hmb'
    exact ⟨hnone .writes (by simp), (congrArg Mailbox.rspPi hmb' :), hnone .slu (by simp), (congrArg Mailbox.rspQueue hmb' :)⟩
  · rw [finish_of_backbone hp hmb]
    exact ⟨rfl, portGet_queueMsg _ hport⟩
  · rw [hkeeps.finals, noteFinal, mbGet_modMb_self _ hlen]
  · rw [hkeeps.others k hk, noteFinal, mbGet_modMb_ne _ _ hk]

end Sys2Proof.Laws
end

section
/-!
The resets (R358, R360, R473): into reset by a command's own effect or by a reset that waited for its response, and out of it.
-/
namespace Sys2Proof.Laws

open Sys2Proof.Machine

variable {s : State} {d x : Dev} {mb : Nat} {c : Cmd}

/-! ### What a reset leaves -/

theorem deEnergise_outs_length (n : Nat) (d : Dev) : (deEnergise n d).saf.outs.length = d.saf.outs.length := by
  unfold deEnergise
  extract_lets was d1
  have h1 : d1.saf.outs.length = d.saf.outs.length := List.length_modify ..
  split
  · rwa [raise_saf]
  · exact h1

theorem followOut_outs_length (n : Nat) (d : Dev) : (followOut n d).saf.outs.length = d.saf.outs.length := by
  unfold followOut
  split
  · exact List.length_modify ..
  · exact (List.length_modify ..).trans (deEnergise_outs_length n d)

/-- What follows a command leaves as many outputs as there were. -/
theorem settle_outs_length (hr : d.sys.resetAfter = none) (before : Bool) :
    (settle before d).saf.outs.length = d.saf.outs.length := by
  have hwaits : (haltSession (followOuts (eventTriggers 16 d))).sys.resetAfter = none := (awaited_of_view (d := d) (by simp)).trans hr
  have hreset : resetDue (haltSession (followOuts (eventTriggers 16 d))) = haltSession (followOuts (eventTriggers 16 d)) := by
    rw [resetDue, hwaits]
  have houts : (settle before d).saf.outs = (followOuts (eventTriggers 16 d)).saf.outs := outs_of_view (by rw [settle, hreset]; simp)
  rw [houts, followOuts, followOut_outs_length, followOut_outs_length, saf_of_view (eventTriggers_frame _ _ (by simp))]

/-- In reset, as R360 lists it. -/
def AfterReset (s t : State) : Prop :=
  t.pending = s.pending ∧ t.dev.sys.inReset = true ∧ t.dev.sys.op = .castOn ∧ t.dev.sys.boot = 0 ∧
    t.dev.sys.bootReady = false ∧ t.dev.sys.now = 0 ∧ t.dev.saf.railClosed = false ∧ t.dev.emi.inhibit = true ∧ t.outputsOff ∧
    t.dev.kmp.session = none ∧ (∀ mb, (mbGet t.dev mb).cmdPi = 0 ∧ (mbGet t.dev mb).cmdCi = 0 ∧ (mbGet t.dev mb).rspPi = 0 ∧
      (mbGet t.dev mb).rspCi = 0) ∧ t.dev.recv.align = alignDefault ∧ t.dev.sec.burned = s.dev.sec.burned ∧
    t.dev.prm = Prm.reset ∧ t.dev.slu = Slu.reset ∧ t.dev.pcie = Pcie.reset

/-- Both outputs of a device in cast-on are off, whatever command it comes from. -/
theorem outputsOff_of_castOn {i : Instr} {t : State} (h : exec i s = .next t) (ho : t.dev.sys.op = .castOn)
    (hlen : t.dev.saf.outs.length = 2) : t.outputsOff := by
  intro o hmem
  obtain ⟨n, hn, rfl⟩ := List.getElem_of_mem hmem
  have hout : safeOut t.dev n = t.dev.saf.outs[n] := List.getD_eq_getElem _ _ hn
  rw [← hout]
  refine Bool.eq_false_iff.2 fun he => ?_
  have hrun := ((outConditions_iff t.dev n).1 (exec_outsOk h n (by omega) he)).1
  exact absurd (ho.symm.trans hrun) (by decide)

theorem mbGet_reset (mb : Nat) (h : d.kmp = Kmp.reset) : mbGet d mb = Mailbox.reset := by
  rw [mbGet, h]
  show (List.replicate 10 Mailbox.reset).getD mb Mailbox.reset = Mailbox.reset
  rw [List.getD_eq_getElem?_getD, List.getElem?_replicate]
  split
  · rfl
  · rfl

/-- A command whose effect is a reset. -/
theorem resets {i : Instr} {f : Dev → Dev} {por : Bool} (he : exec i s = runDev f s) (hf : f s.fresh = devReset por x)
    (hburned : x.sec.burned = s.dev.sec.burned) :
    ∃ t, exec i s = .next t ∧ AfterReset s t ∧ t.dev.sys.porHeld = por ∧ t.dev.sys.strapSpiv = (!por && x.sys.strapSpiv) := by
  have hc : Calm (f s.fresh) := hf ▸ ⟨rfl, fun _ => rfl⟩
  have hlen := settle_outs_length hc.1 (irqLow s.dev)
  have hafter := (settle_aftermath (irqLow s.dev) (f s.fresh) hc).1
  obtain ⟨e, hset⟩ : ∃ e, settle (irqLow s.dev) (f s.fresh) = e := ⟨_, rfl⟩
  have hnext : exec i s = .next { s with ram := memWrites s.ram e.writes, dev := { e with writes := [] } } := by
    rw [he, ← hset]
    rfl
  rw [hset, hf] at hafter hlen
  have hsys : e.sys = (devReset por x).sys := (congrArg Dev.sys hafter).trans rfl
  have hkmp : e.kmp = Kmp.reset := (congrArg Dev.kmp hafter).trans rfl
  have hsaf : e.saf.railClosed = false := (congrArg (fun d : Dev => d.saf.railClosed) hafter).trans rfl
  have hinhibit : e.emi.inhibit = true := (congrArg (fun d : Dev => d.emi.inhibit) hafter).trans rfl
  have halign : e.recv.align = alignDefault := (congrArg (fun d : Dev => d.recv.align) hafter).trans rfl
  have hsec : e.sec.burned = x.sec.burned := (congrArg (fun d : Dev => d.sec.burned) hafter).trans rfl
  have hprm : e.prm = Prm.reset := (congrArg Dev.prm hafter).trans rfl
  have hslu : e.slu = Slu.reset := (congrArg Dev.slu hafter).trans rfl
  have hpcie : e.pcie = Pcie.reset := (congrArg Dev.pcie hafter).trans rfl
  refine ⟨_, hnext, ⟨rfl, congrArg Sys.inReset hsys, congrArg Sys.op hsys, congrArg Sys.boot hsys, congrArg Sys.bootReady hsys,
    congrArg Sys.now hsys, hsaf, hinhibit, ?_, congrArg Kmp.session hkmp, fun mb => ?_, halign, hsec.trans hburned, hprm, hslu, hpcie⟩,
    congrArg Sys.porHeld hsys, congrArg Sys.strapSpiv hsys⟩
  · exact outputsOff_of_castOn hnext (congrArg Sys.op hsys) hlen
  · have hmb : mbGet { e with writes := [] } mb = Mailbox.reset := mbGet_reset mb hkmp
    rw [hmb]
    exact ⟨rfl, rfl, rfl, rfl⟩

/-! ### NRESET and the end of reset -/

theorem nreset_of_short {lowNs : Nat} (h : lowNs < 10000 ∨ (25000 ≤ lowNs ∧ d.sys.porHeld = true)) : nreset lowNs d = d := by
  unfold nreset
  rcases h with h | ⟨h, hpor⟩
  · exact if_pos h
  · rw [if_neg (by omega), if_neg (by simp; omega), if_pos hpor, if_neg (by omega)]

theorem nreset_of_long {lowNs : Nat} (h : 25000 ≤ lowNs) (hpor : d.sys.porHeld = false) : nreset lowNs d = devReset false d := by
  unfold nreset
  rw [if_neg (by omega), if_neg (by simp; omega), if_neg (by simp [hpor]), if_neg (by omega)]

/-- Between 10 and 25 µs the pulse is ignored or taken, as an open value says (DESIGN CHOICE, assumption log, entry 58). -/
theorem nreset_of_between {lowNs : Nat} (hlo : 10000 ≤ lowNs) (hhi : lowNs < 25000) (hpor : d.sys.porHeld = false) :
    nreset lowNs d = draw d ∨ nreset lowNs d = devReset false (draw d) := by
  unfold nreset
  rw [if_neg (by omega)]
  split
  · exact .inl rfl
  · exact .inr (if_neg (by simp [hpor]))

/-- Settles O40: a reset is the reset state but for what outlives it, and nothing that follows a command changes that. -/
theorem resetsReturnTheDevice : Obligations.ResetsReturnTheDevice := by
  intro s
  refine ⟨?_, fun lowNs h hpor => ?_, fun lowNs h hc => ?_, fun lowNs hlo hhi hpor hc => ?_, fun spiv refclk pcie hc hr => ?_,
    fun spiv refclk pcie hc hr => ?_⟩
  · obtain ⟨t, hexec, hreset, hpor, -⟩ := resets (i := .powerOnReset) (f := powerOn) (x := s.fresh) rfl rfl rfl
    exact ⟨t, hexec, hreset, hpor⟩
  · obtain ⟨t, hexec, hreset, -, hspiv⟩ :=
      resets (i := .nresetAssert lowNs) (f := nreset lowNs) rfl (nreset_of_long (d := s.fresh) h hpor) rfl
    exact ⟨t, hexec, hreset, hspiv⟩
  · exact completes_of_views rfl (nreset_of_short (d := s.fresh) h) hc rfl rfl rfl
  · rcases nreset_of_between (d := s.fresh) hlo hhi hpor with h | h
    · exact .inr ⟨_, completes_of_views rfl h hc rfl rfl rfl, only_of_views fun p hp => by cases p <;> simp at hp ⊢⟩
    · obtain ⟨t, hexec, hreset, -⟩ := resets (i := .nresetAssert lowNs) (f := nreset lowNs) rfl h rfl
      exact .inl ⟨t, hexec, hreset⟩
  · have hrel : resetRelease spiv refclk pcie s.fresh = _ := if_neg (by simp [State.fresh, hr])
    have hcomplete := completes_of (.resetRelease spiv refclk pcie) (resetRelease spiv refclk pcie) s rfl (by rw [hrel]; exact hc)
    rw [hrel] at hcomplete
    refine ⟨_, hcomplete, rfl, rfl, ⟨_, rfl, fun k hk => ?_⟩,
      only_of_views fun p hp => by cases p <;> simp at hp ⊢⟩
    exact List.getElem?_modify_ne _ _ hk.symm
  · exact completes_of_views rfl (if_pos (by simp [State.fresh, hr])) hc rfl rfl rfl

/-! ### A reset that waits for its response -/

/-- A reset whose response stands in its page's slot takes place with the command's own writes done. -/
theorem settle_of_due {tag : Nat} (hdue : d.sys.resetAfter = some (mb, tag)) (hmb : mb < 2) (hq : (mbGet d mb).rspQueue = [])
    (hsession : d.sys.op = .halted → d.kmp.session = none) (before : Bool) :
    ∃ x : Dev, settle before d = noteIrq before (noteLifetimes (devReset false x)) ∧ x.sys = d.sys ∧ x.sec = d.sec ∧
      x.writes = d.writes := by
  obtain ⟨x, hx⟩ : ∃ x, followOuts (eventTriggers 16 d) = x := ⟨_, rfl⟩
  have hsys : x.sys = d.sys := sys_of_view (by simp [← hx])
  have hkmp : x.kmp = d.kmp := kmp_of_view (by simp [← hx])
  have hhalt : haltSession x = x := if_neg fun h => by
    simp only [Bool.and_eq_true, beq_iff_eq, hsys, hkmp] at h
    simp [hsession h.1] at h
  have hdelivered : rspPending mb tag x = false := by
    rw [rspPending, if_pos hmb, mbGet_congr hkmp, hq]
    rfl
  refine ⟨x, ?_, hsys, same_of_view (p := .sec) (by simp [← hx]), same_of_view (p := .writes) (by simp [← hx])⟩
  rw [settle, hx, hhalt, resetDue, hsys, hdue]
  simp only [hdelivered, Bool.false_eq_true, if_false]

/-- A mailbox whose command was taken off has its responses as before. -/
theorem takeOff_mb (c : Cmd) (mb k : Nat) (d : Dev) : ∃ w, mbGet (takeOff c mb d) k = { mbGet d k with waiting := w } := by
  rw [mbGet, takeOff, modMb, modKmp_kmp, listMod_getD]
  split
  · exact ⟨_, rfl⟩
  · exact ⟨(mbGet d k).waiting, rfl⟩

theorem rspHeader_length (c : Cmd) (status len : Nat) (final bulk : Bool) : (rspHeader c status len final bulk).length = 16 := by
  simp [rspHeader, le_length]

/-- SYS_RESET that the host confirmed: the reset waits for its response. -/
def resetAsked (s : State) (c : Cmd) (mb : Nat) : Dev :=
  modSys (fun y => { y with resetAfter := some (c.mb, c.tag) }) (s.taken c mb)

/-- And the response is out. -/
def resetAnswered (s : State) (c : Cmd) (mb : Nat) : Dev := finish c stOk [] (resetAsked s c mb)

theorem sysReset_of_confirmed (hs : Starts s 0x0102 mb c) (h : rdU c.payload 0 4 = 0xE1A50001) :
    answer 0x0102 mb doSysReset s.fresh = resetAnswered s c mb := by
  rw [answer, startCmd_of_next _ _ _ _ c (by rw [nextCmd_fresh]; exact hs.2), ← taken_eq, doSysReset, if_neg (by simp [h])]
  rfl

/-- On a page with a free slot and nothing waiting, the response of SYS_RESET stands in its slot. -/
theorem resetAnswered_page (hmb : c.mb < 2) (hlen : c.mb < s.dev.kmp.mbs.length) (hq : (mbGet s.dev c.mb).rspQueue = [])
    (hroom : rspRoom (mbGet s.dev c.mb) = true) :
    (resetAnswered s c mb).writes = [(rspPlace c.mb (mbGet s.dev c.mb), rspHeader c stOk 0 true false)] ∧
      (mbGet (resetAnswered s c mb) c.mb).rspQueue = [] := by
  obtain ⟨w, hw⟩ := takeOff_mb c mb c.mb s.fresh
  have hmb' : mbGet (resetAsked s c mb) c.mb = { mbGet s.dev c.mb with waiting := w } := hw
  have hlen' : c.mb < (resetAsked s c mb).kmp.mbs.length := (taken_mbs_length c mb s).symm ▸ hlen
  have hpost := (finalResponsesReachTheirMailbox c stOk [] (resetAsked s c mb) (Nat.zero_le _) hlen').1 hmb
    (by rw [hmb']; exact hq) (by rw [hmb']; exact hroom)
  rw [hmb'] at hpost
  obtain ⟨hwrites, -, hnone, -⟩ := hpost
  exact ⟨hwrites.trans (by rw [List.append_nil]; rfl), hnone⟩

/-- Settles O17: the reset keeps what the response wrote, and what the reset itself keeps. -/
theorem sysResetFollowsItsResponse : Obligations.SysResetFollowsItsResponse := by
  intro s mb c hs
  refine ⟨fun h => answers_unchanged hs rfl (f := doSysReset) (if_pos h), fun h hmb hlen hq hroom => ?_⟩
  obtain ⟨hwrites, hnone⟩ := resetAnswered_page (mb := mb) hmb hlen hq hroom
  have hresp : RespOnly _ (resetAnswered s c mb) := finish_respOnly _ _ _ _
  have hsys := respOnly_sys hresp
  obtain ⟨x, hset, hxsys, hxsec, hxwrites⟩ := settle_of_due (d := resetAnswered s c mb) (congrArg Sys.resetAfter hsys) hmb hnone
    (by rw [hsys, respOnly_session hresp]; exact hs.1.2) (irqLow s.dev)
  obtain ⟨e, he⟩ : ∃ e, settle (irqLow s.dev) (resetAnswered s c mb) = e := ⟨_, rfl⟩
  have hnext : exec (.sysReset mb) s = .next { s with ram := memWrites s.ram e.writes, dev := { e with writes := [] } } := by
    rw [← he, ← sysReset_of_confirmed hs h]
    rfl
  rw [hset] at he
  have hesys : e.sys = (devReset false x).sys := sys_of_view (by simp [← he])
  have hesec : e.sec = (devReset false x).sec := same_of_view (p := .sec) (by simp [← he])
  have hekmp : e.kmp = (devReset false x).kmp := kmp_of_view (by simp [← he])
  have hewrites : e.writes = (devReset false x).writes := same_of_view (p := .writes) (by simp [← he])
  refine ⟨_, hnext, rfl, hesys.trans ?_, ?_, hekmp, fun hwf => ?_⟩
  · rw [devReset, hxsys, hsys]
    rfl
  · show e.sec.burned = _
    rw [hesec, devReset, hxsec, hresp]
    rfl
  · show memRead (memWrites s.ram e.writes) _ 16 = _
    rw [hewrites, devReset, hxwrites, hwrites, ← rspHeader_length c stOk 0 true false]
    exact memRead_memWrite _ _ _ hwf

end Sys2Proof.Laws
end

section
/-!
What halts the device (R31, R239, R285, R365, R385, R470), and what a halt leaves.
-/
namespace Sys2Proof.Laws

open Sys2Proof.Machine

variable {s : State} {d e : Dev} {cause : Nat} {i : Instr}

/-! ### A halt -/

theorem halt_sys (h : d.sys.op ≠ .halted) (cause : Nat) :
    (halt cause d).sys = { d.sys with op := .halted, boot := 0xE0, haltCause := cause, bootReady := true } := by
  rw [halt, if_neg (by simpa using h)]
  extract_lets d1 d2 d3
  have h1 : d1.sys = d.sys := sys_of_view (by simp [d1])
  have h2 : d2.sys = { d.sys with op := .halted } := by
    have hne : d1.sys.op ≠ .halted := by rwa [h1]
    rw [← h1]
    simp [d2, toState, hne]
  rw [sys_of_view (d := d3) (by simp)]
  show ({ d2.sys with boot := _, haltCause := _, bootReady := _ } : Sys) = _
  rw [h2]

theorem loopsOff_started (d : Dev) : (loopsOff d).scan.started = d.scan.started := by
  unfold loopsOff leaveL0
  extract_lets d1
  have h1 : d1.scan = d.scan := by
    simp only [d1]
    split
    · exact scan_of_view (by simp)
    · rfl
  show d1.scan.started = _
  rw [h1]

theorem halt_scan (h : d.sys.op ≠ .halted) (cause : Nat) : (halt cause d).scan.started = false := by
  rw [halt, if_neg (by simpa using h)]
  extract_lets d1 d2 d3
  rw [scan_of_view (driveRest_frame _ (by simp)), loopsOff_started]
  rfl

theorem halt_inhibit (h : d.sys.op ≠ .halted) (cause : Nat) : (halt cause d).emi.inhibit = true := by
  rw [halt, if_neg (by simpa using h)]
  extract_lets d1 d2 d3
  exact inhibit_of_view (d := openRail (cancelStateCmds d)) (by simp [d3, d2, d1])

/-- No reset is due, so the end of the session is all that follows a halt but for events and outputs. -/
theorem settle_of_halt (ho : d.sys.op ≠ .halted) (hr : d.sys.resetAfter = none) (before : Bool) : settle before (halt cause d) =
    noteIrq before (noteLifetimes (haltSession (followOuts (eventTriggers 16 (halt cause d))))) := by
  obtain ⟨x, hx⟩ : ∃ x, haltSession (followOuts (eventTriggers 16 (halt cause d))) = x := ⟨_, rfl⟩
  have hxsys : x.sys = (halt cause d).sys := sys_of_view (by simp [← hx])
  have hreset : resetDue x = x := by rw [resetDue, hxsys, halt_sys ho, hr]
  rw [settle, hx, hreset]

/-- A command whose effect halts the device: what follows it ends the session, and touches nothing else of what the halt left. -/
theorem halts_of {f : Dev → Dev} (he : exec i s = runDev f s) (hf : f s.fresh = halt cause d) (ho : d.sys.op ≠ .halted)
    (hr : d.sys.resetAfter = none) : Halts i s cause := by
  obtain ⟨e, hset⟩ : ∃ e, settle (irqLow s.dev) (f s.fresh) = e := ⟨_, rfl⟩
  have hnext : exec i s = .next { s with ram := memWrites s.ram e.writes, dev := { e with writes := [] } } := by
    rw [he, ← hset]
    rfl
  rw [hf] at hset
  have hex := hset.symm.trans (settle_of_halt ho hr (irqLow s.dev))
  have hsys : e.sys = (halt cause d).sys := sys_of_view (by simp [hex])
  rw [halt_sys ho] at hsys
  have hrail : e.saf.railClosed = (halt cause d).saf.railClosed := railClosed_of_view (by simp [hex])
  have hinhibit : e.emi.inhibit = (halt cause d).emi.inhibit := inhibit_of_view (by simp [hex])
  have hscan : e.scan = (halt cause d).scan := scan_of_view (by simp [hex])
  have hop : e.sys.op = .halted := congrArg Sys.op hsys
  refine ⟨_, hnext, rfl, hop, congrArg Sys.boot hsys, congrArg Sys.haltCause hsys, congrArg Sys.bootReady hsys,
    hrail.trans (halt_railClosed _ cause ho), hinhibit.trans (halt_inhibit ho cause), ?_, ?_, fun n hn => ?_⟩
  · exact (hset ▸ settle_noSessionHalted (irqLow s.dev) (halt cause d)) hop
  · show e.scan.started = false
    rw [hscan, halt_scan ho]
  · refine Bool.eq_false_iff.2 fun hon => ?_
    have hrun := ((outConditions_iff _ n).1 (exec_outsOk hnext n hn hon)).1
    exact absurd (hop.symm.trans hrun) (by decide)

theorem cancelStateCmds_undisturbed (d : Dev) : Undisturbed d (cancelStateCmds d) :=
  .foldl (fun _ _ => finishRunning_undisturbed _ _ _ _) _ _

theorem halt_undisturbed (cause : Nat) (d : Dev) : Undisturbed d (halt cause d) := by
  unfold halt
  refine .ite (.refl d) ?_
  extract_lets d1 d2 d3
  exact (cancelStateCmds_undisturbed d).trans (.of_frame (by simp [d3, d2, d1]))

/-- A halt and what follows it leave the ports' links. -/
theorem links_of_halt {f : Dev → Dev} {t : State} (he : exec i s = runDev f s) (hf : f s.fresh = halt cause d)
    (ho : d.sys.op ≠ .halted) (hr : d.sys.resetAfter = none) (h : exec i s = .next t) :
    t.dev.net = d.net ∧ t.dev.pcie.linkUp = d.pcie.linkUp := by
  obtain ⟨e, hset⟩ : ∃ e, settle (irqLow s.dev) (f s.fresh) = e := ⟨_, rfl⟩
  have hnext : exec i s = .next { s with ram := memWrites s.ram e.writes, dev := { e with writes := [] } } := by
    rw [he, ← hset]
    rfl
  obtain rfl := Host.Outcome.next.inj (hnext.symm.trans h)
  rw [hf, settle_of_halt ho hr] at hset
  have hend (x : Dev) : Undisturbed x (haltSession x) := .ite (endSession_undisturbed 2 x) (.refl x)
  obtain ⟨x, hx⟩ : ∃ x, followOuts (eventTriggers 16 (halt cause d)) = x := ⟨_, rfl⟩
  rw [hx] at hset
  have hlink : Undisturbed d (haltSession x) := ((halt_undisturbed cause d).trans (.of_frame (by simp [← hx]))).trans (hend x)
  have hnet : e.net = d.net := same_of_view (p := .net) (by simp [← hset, ← hx])
  have hpcie : e.pcie = (haltSession x).pcie := pcie_of_view (by simp [← hset])
  exact ⟨hnet, by rw [show e.pcie = _ from hpcie, hlink.pcie]⟩

/-! ### Cast-on -/

/-- In cast-on a charge past a budget opens the rail and nothing more: the state stays (R270). -/
theorem chargeCells_sys (ho : d.sys.op = .castOn) (az : List Nat) (b e : Nat) : (chargeCells az b e d).sys = d.sys := by
  obtain ⟨d2, h2, ⟨-, heq⟩ | ⟨-, heq⟩⟩ := chargeCells_outcome az b e d
  · rw [heq]
    exact evOnly_only h2 .sys (by decide)
  · have hsys : d2.sys = d.sys := evOnly_only h2 .sys (by decide)
    rw [heq, trip_of_not_operating _ (by simp [Operating, hsys, ho])]
    exact hsys

theorem foldl_chargeCells_sys (az : List Nat) (e : Nat) (banks : List Nat) : ∀ d : Dev, d.sys.op = .castOn →
    (banks.foldl (fun d b => chargeCells az b e d) d).sys = d.sys := by
  induction banks with
  | nil => exact fun _ _ => rfl
  | cons b banks ih =>
    intro d ho
    have h1 := chargeCells_sys ho az b e
    exact (ih _ (by rw [h1, ho])).trans h1

theorem restOfFiring_sys (ho : d.sys.op = .castOn) : (restOfFiring d).sys = d.sys := by
  unfold restOfFiring
  extract_lets k d1
  split
  · rfl
  · split
    · rfl
    · exact foldl_chargeCells_sys _ _ _ d1 ho

/-- The device at the end of calibration firing, before its outcome is judged. -/
def firedOut (d : Dev) : Dev := closeShot (restOfFiring (advanceTuss (d.emi.calAt + 200000000) d))

theorem firedOut_sys (ho : d.sys.op = .castOn) : (firedOut d).sys = (advanceTuss (d.emi.calAt + 200000000) d).sys :=
  (sys_of_view (closeShot_frame _ (by simp))).trans (restOfFiring_sys ho)

/-- Every slice that is gated stays so, whatever else is. -/
theorem orBits_full (m : Nat) : orBits 4 m 15 = 15 := by
  have h : (List.range 4).filter (fun i => bit m i || bit 15 i) = List.range 4 :=
    List.filter_eq_self.2 fun i hi => by
      have hbit : ∀ i ∈ List.range 4, bit 15 i = true := by decide
      rw [hbit i hi, Bool.or_true]
  rw [orBits, h]
  rfl

theorem orBits_full_left (m : Nat) : orBits 4 15 m = 15 := by
  have h : (List.range 4).filter (fun i => bit 15 i || bit m i) = List.range 4 :=
    List.filter_eq_self.2 fun i hi => by
      have hbit : ∀ i ∈ List.range 4, bit 15 i = true := by decide
      rw [hbit i hi, Bool.true_or]
  rw [orBits, h]
  rfl

theorem atStage_of {b : Nat} (hr : d.sys.inReset = false) (ho : d.sys.op = .castOn) (hb : d.sys.boot = b) : atStage b d = true := by
  simp [atStage, hr, ho, hb]

/-- With every slice gated cast-on halts. -/
theorem gateAtCastOn_of_none {mask : Nat} (h : mask = 15) : gateAtCastOn mask d = halt 1 (modRecv (fun r => { r with gated := 15 }) d) := by
  subst h
  unfold gateAtCastOn
  extract_lets d1
  have h1 : d1 = modRecv (fun r => { r with gated := 15 }) d := by simp only [d1, modRecv, orBits_full]
  rw [h1]
  exact if_pos (show clrBits 4 15 15 = 0 by decide)

/-- The device after its self-test, with lanes, masks, start lanes and segments judged, before slices are gated (R367). -/
def bistJudged (lanes : List Nat) (starts : Nat) (probes : List (Nat × List (Nat × Nat))) (dark : List (Nat × Nat)) (repairs : Nat)
    (d : Dev) : Dev :=
  let d1 := modSaf (fun s => { s with tested := true }) (toStage 0x20 d)
  let d2 := modRep (fun r => { r with sram := repairs % 65536 }) (modRecv (fun r => { r with
    lanesFailed := (lanes.filter (fun p => decide (p < 1088))).eraseDups,
    masks := (darkKeys dark).foldl (fun t k => tabSet Mask.none t k (castOnMask d (darkOf dark k))) r.masks }) d1)
  let d3 := modGauge (fun g => { g with startsFailed := bitList 8 starts }) d2
  let fails := ((List.range 264).map (fun t => (t, castOnClass probes t))).filter (fun t => t.2 != 0)
  assignSpares (fails.foldl failTarget (castOnProbes probes d3))

section Bist

variable {slices starts repairs : Nat} {lanes : List Nat} {probes : List (Nat × List (Nat × Nat))} {dark : List (Nat × Nat)}
  (hst : atStage 0x10 d = true)
include hst

theorem bistComplete_of_passed : bistComplete false false slices lanes starts probes dark repairs d =
    gateAtCastOn (orBits 4 (slices % 16) (shortSlices (bistJudged lanes starts probes dark repairs d)))
      (bistJudged lanes starts probes dark repairs d) := by
  rw [bistComplete, if_neg (by simp [hst]), if_neg Bool.false_ne_true, if_neg Bool.false_ne_true]
  unfold bistJudged
  extract_lets d1 d2 d3 fails d4
  rfl

theorem bistComplete_of_tussock (fatal : Bool) : bistComplete true fatal slices lanes starts probes dark repairs d = halt 2 d := by
  rw [bistComplete, if_neg (by simp [hst])]
  exact if_pos rfl

theorem bistComplete_of_fatal : bistComplete false true slices lanes starts probes dark repairs d = halt 1 d := by
  rw [bistComplete, if_neg (by simp [hst]), if_neg Bool.false_ne_true]
  exact if_pos rfl

end Bist

theorem bistJudged_sys (lanes : List Nat) (starts : Nat) (probes : List (Nat × List (Nat × Nat))) (dark : List (Nat × Nat))
    (repairs : Nat) (d : Dev) : (bistJudged lanes starts probes dark repairs d).sys = { d.sys with boot := 0x20 } := by
  unfold bistJudged
  extract_lets d1 d2 d3 fails
  exact sys_of_view (d := d3) (by simp)

section Firing

variable {refs : List (Nat × Nat × Nat)} {vbd : Nat} {temp : Int} {ratios : List Nat} {charged : Bool}

/-- Calibration's measurements, before the clock ratios are judged. -/
def calibrated (refs : List (Nat × Nat × Nat)) (vbd : Nat) (temp : Int) (d : Dev) : Dev :=
  modRecv (fun r => { r with vbd0 := vbd, t0 := temp })
    (modTim (fun t => { t with lanes := tabOf LaneCal.none 1088 (castOnCal refs (8 * prmGet d 0x040A)) }) (firedOut d))

theorem calibrationEnd_of_unmeasured (hst : atStage 0x60 d = true) (hclosed : d.gauge.closed = true)
    (h : ratios.length < 3 ∨ 0 ∈ ratios) : calibrationEnd refs vbd temp ratios charged d = halt 2 (calibrated refs vbd temp d) := by
  rw [calibrationEnd, if_neg (by simp [hst, hclosed])]
  have hbad : ratios.length < 3 ∨ ratios.contains 0 = true := by simpa using h
  dsimp only
  rw [if_pos hbad, calibrated, firedOut]

theorem calibrated_sys (ho : d.sys.op = .castOn) :
    (calibrated refs vbd temp d).sys = (advanceTuss (d.emi.calAt + 200000000) d).sys := by
  rw [calibrated, modRecv_sys, modTim_sys, firedOut_sys ho]

end Firing

/-! ### What halts -/

/-- Bind-off at its end, before the halt: the queues of events empty, port 0's links down. -/
def boundOff (d : Dev) : Dev :=
  modNet (fun n => { n with linkUp := [false, false] })
    (modEv (fun e => { e with queues := e.queues.map (fun q => { q with recs := [] }) })
      (if d.ev.queues.all (fun q => q.recs.isEmpty) then d else advanceTuss (d.sys.bindOffAt + 15000000) d))

theorem bindOffComplete_of (ho : d.sys.op = .bindOff) : bindOffComplete d = halt 7 (boundOff d) := if_neg (by simp [ho])

theorem boundOff_sys (ho : d.sys.op = .bindOff) (hr : d.sys.resetAfter = none) :
    (boundOff d).sys.op ≠ .halted ∧ (boundOff d).sys.resetAfter = none := by
  unfold boundOff
  split
  · exact ⟨by simp [ho], hr⟩
  · exact ⟨by simp [ho, advanceTuss], hr⟩

theorem boundOff_pcie (d : Dev) : (boundOff d).pcie = d.pcie := pcie_of_view (by simp [boundOff])

/-- Settles O42: each of these commands comes to a halt of its cause, from a device that runs. -/
theorem faultsHalt : Obligations.FaultsHalt := by
  intro s hr hin ho
  have hr' : s.fresh.sys.resetAfter = none := hr
  have hin' : s.fresh.sys.inReset = false := hin
  have ho' : s.fresh.sys.op ≠ .halted := ho
  have hw' (hw : hookBWaits s.dev = false) : hookBWaits s.fresh = false := hw
  refine ⟨?_, fun kind => ?_, fun block readAt flips corrected hw => ?_, fun block readAt flips corrected hw href hdiff => ?_,
    fun last block readAt flips hfw hdiff => ?_, fun addr ht => ?_, fun fatal slices lanes starts probes dark repairs hop hb => ?_,
    fun refs vbd temp ratios charged hop hb hclosed h => ?_, fun hop => ?_⟩
  · exact halts_of (d := s.fresh) rfl (if_neg (by simp [hin'])) ho hr
  · exact halts_of (d := s.fresh) rfl (if_neg (by simp [hin'])) ho hr
  · refine halts_of (d := s.fresh) rfl ((if_neg (by simp [hw' hw])).trans ?_) ho hr
    simp [scrubTussock, tussockFault, ho', hin']
  · refine halts_of (d := s.fresh) rfl ((if_neg (by simp [hw' hw])).trans ?_) ho hr
    have href' : scrubHasRef s.fresh block = true := href
    simp [scrubTussock, tussockFault, ho', hin', href', hdiff]
  · have hfw' : s.fresh.sys.firmware = true := hfw
    exact halts_of (d := s.fresh) rfl ((if_neg (by simp [hfw', ho'])).trans (if_pos hdiff)) ho hr
  · have ht' : ticking s.fresh = true := ht
    exact halts_of (d := s.fresh) rfl (if_neg (by simp [ht'])) ho hr
  · have hst : atStage 0x10 s.fresh = true := atStage_of hin hop hb
    refine ⟨halts_of rfl (bistComplete_of_tussock hst fatal) ho hr, halts_of rfl (bistComplete_of_fatal hst) ho hr, fun h => ?_⟩
    have hsys := bistJudged_sys lanes starts probes dark repairs s.fresh
    refine halts_of rfl ((bistComplete_of_passed hst).trans (gateAtCastOn_of_none (by rw [h, orBits_full_left]))) ?_ ?_
    · rw [modRecv_sys, hsys]
      exact ho
    · rw [modRecv_sys, hsys]
      exact hr
  · have hst : atStage 0x60 s.fresh = true := atStage_of hin hop hb
    have hsys := calibrated_sys (refs := refs) (vbd := vbd) (temp := temp) (d := s.fresh) hop
    refine halts_of rfl (calibrationEnd_of_unmeasured hst hclosed h) ?_ ?_
    · rw [hsys]
      exact ho
    · rw [hsys]
      exact hr
  · have heq := bindOffComplete_of (d := s.fresh) hop
    obtain ⟨ho1, hr1⟩ := boundOff_sys (d := s.fresh) hop hr
    refine ⟨halts_of rfl heq ho1 hr1, fun t ht => ?_⟩
    obtain ⟨hnet, hpcie⟩ := links_of_halt (f := bindOffComplete) rfl heq ho1 hr1 ht
    exact ⟨by rw [hnet]; rfl, by rw [hpcie, boundOff_pcie]; rfl⟩

end Sys2Proof.Laws
end

section
/-!
The stages of cast-on, each event at its own stage (R97, R176, R361, R362, R366, R367).
-/
namespace Sys2Proof.Laws

open Sys2Proof.Machine

variable {s : State} {d e : Dev} {mb : Nat} {c : Cmd}

/-! ### Slices and lanes -/

theorem orBits_small {m : Nat} (h : m < 16) : orBits 4 0 (orBits 4 m 0) = m := by
  have hall : ∀ m < 16, orBits 4 0 (orBits 4 m 0) = m := by decide
  exact hall m h

theorem clrBits_small {m : Nat} (h : m < 16) (hne : m ≠ 15) : clrBits 4 15 m ≠ 0 := by
  have hall : ∀ m < 16, m ≠ 15 → clrBits 4 15 m ≠ 0 := by decide
  exact hall m h hne

/-- With at most four lanes failed in every group no slice is short of spares. -/
theorem shortSlices_of_spared (h : ∀ g, g < 16 → (d.recv.lanesFailed.filter (fun p => groupOfLane p == g)).length ≤ 4) :
    shortSlices d = 0 := by
  have hnone : (List.range 4).filter (fun s => (List.range 4).any (fun i => decide (4 < failedInGroup d (4 * s + i)))) = [] := by
    refine List.filter_eq_nil_iff.2 fun s hs => ?_
    simp only [List.any_eq_true, decide_eq_true_eq, not_exists, not_and, Nat.not_lt, List.mem_range] at hs ⊢
    exact fun i hi => h _ (by omega)
  rw [shortSlices, hnone]
  rfl

/-- Lanes are mapped by the map alone. -/
theorem mapLanes_recv (d : Dev) : ∃ m, (mapLanes d).recv = { d.recv with laneMap := m } := by
  refine List.foldlRecOn (motive := fun e : Dev => ∃ m, e.recv = { d.recv with laneMap := m }) _ _ ⟨d.recv.laneMap, rfl⟩ ?_
  intro e ⟨m, he⟩ ch _
  split
  · split
    · next k _ _ => exact ⟨tabPut ch k e.recv.laneMap, by rw [modRecv_recv, he]⟩
    · exact ⟨m, he⟩
  · exact ⟨m, he⟩

theorem gateAtCastOn_of_some {mask : Nat} (h : clrBits 4 15 (orBits 4 d.recv.gated mask) ≠ 0) :
    gateAtCastOn mask d = mapLanes (modRecv (fun r => { r with gated := orBits 4 r.gated mask }) d) := if_neg h

/-- A command whose effect is `d`, calm. -/
theorem completes_with {i : Instr} {f : Dev → Dev} (he : exec i s = runDev f s) (hf : f s.fresh = d) (hc : Calm d) : Completes i s d := by
  subst hf
  exact completes_of i f s he hc

/-! ### Self-test -/

section Bist

variable (lanes : List Nat) (starts : Nat) (probes : List (Nat × List (Nat × Nat))) (dark : List (Nat × Nat)) (repairs : Nat) (d : Dev)

theorem bistJudged_saf : (bistJudged lanes starts probes dark repairs d).saf = { d.saf with tested := true } := by
  unfold bistJudged
  extract_lets d1 d2 d3 fails
  exact saf_of_view (d := d3) (by simp)

theorem bistJudged_rep : (bistJudged lanes starts probes dark repairs d).rep = { d.rep with sram := repairs % 65536 } := by
  unfold bistJudged
  extract_lets d1 d2 d3 fails
  exact same_of_view (d := d3) (p := .rep) (by simp)

theorem bistJudged_gauge : (bistJudged lanes starts probes dark repairs d).gauge = { d.gauge with startsFailed := bitList 8 starts } := by
  unfold bistJudged
  extract_lets d1 d2 d3 fails
  exact same_of_view (d := d3) (p := .gauge) (by simp)

theorem bistJudged_recv : ∃ masks, (bistJudged lanes starts probes dark repairs d).recv =
    { d.recv with lanesFailed := (lanes.filter (fun p => decide (p < 1088))).eraseDups, masks := masks } := by
  unfold bistJudged
  extract_lets d1 d2 d3 fails
  exact ⟨_, same_of_view (d := d3) (p := .recv) (by simp)⟩

theorem bistJudged_frame {v : Facet} (h : v ∉ [.sys, .recv, .rep, .gauge, .emi, .saf, .rail, .standing, .gated, .inhibit]) :
    v.view (bistJudged lanes starts probes dark repairs d) = v.view d := by
  simp at h
  simp [bistJudged, h]

end Bist

/-- Self-test passed with no group short of spares: what the device is then. -/
theorem bist_completes (hc : Calm s.dev) (hin : s.dev.sys.inReset = false) (ho : s.dev.sys.op = .castOn) (hb : s.dev.sys.boot = 0x10)
    (hg : s.dev.recv.gated = 0) {bad : Nat} {lanes : List Nat} (starts : Nat) (probes : List (Nat × List (Nat × Nat)))
    (dark : List (Nat × Nat)) (repairs : Nat) (hbad : bad % 16 ≠ 15)
    (hspared : ∀ g, g < 16 → (((lanes.filter (fun p => decide (p < 1088))).eraseDups).filter (fun p => groupOfLane p == g)).length ≤ 4) :
    ∃ d, Completes (.bistComplete false false bad lanes starts probes dark repairs) s d ∧
      d.sys = { s.dev.sys with boot := 0x20 } ∧ d.saf = { s.dev.saf with tested := true } ∧
      d.rep = { s.dev.rep with sram := repairs % 65536 } ∧ d.recv.gated = bad % 16 ∧
      d.recv.lanesFailed = (lanes.filter (fun p => decide (p < 1088))).eraseDups ∧
      d.gauge = { s.dev.gauge with startsFailed := bitList 8 starts } ∧
      Only [.sys, .recv, .rep, .gauge, .emi, .saf] s.fresh d := by
  obtain ⟨x, hx⟩ : ∃ x, bistJudged lanes starts probes dark repairs s.fresh = x := ⟨_, rfl⟩
  obtain ⟨masks, hrecv⟩ := hx ▸ bistJudged_recv lanes starts probes dark repairs s.fresh
  have hsys := hx ▸ bistJudged_sys lanes starts probes dark repairs s.fresh
  have hfailed : x.recv.lanesFailed = (lanes.filter (fun p => decide (p < 1088))).eraseDups := congrArg Recv.lanesFailed hrecv
  have hgated : orBits 4 x.recv.gated (orBits 4 (bad % 16) (shortSlices x)) = bad % 16 := by
    rw [shortSlices_of_spared (by rwa [hfailed]), hrecv, show s.fresh.recv.gated = 0 from hg, orBits_small (Nat.mod_lt _ (by decide))]
  have heff := hx ▸ bistComplete_of_passed (d := s.fresh) (slices := bad) (lanes := lanes) (starts := starts) (probes := probes)
    (dark := dark) (repairs := repairs) (atStage_of hin ho hb)
  rw [gateAtCastOn_of_some (by rw [hgated]; exact clrBits_small (Nat.mod_lt _ (by decide)) hbad)] at heff
  obtain ⟨m, hmap⟩ := mapLanes_recv (modRecv (fun r => { r with gated := orBits 4 r.gated (orBits 4 (bad % 16) (shortSlices x)) }) x)
  obtain ⟨e, he⟩ : ∃ e, mapLanes (modRecv (fun r => { r with gated := orBits 4 r.gated (orBits 4 (bad % 16) (shortSlices x)) }) x) = e :=
    ⟨_, rfl⟩
  rw [he] at heff hmap
  have hesys : e.sys = { s.dev.sys with boot := 0x20 } := (sys_of_view (d := x) (by simp [← he])).trans hsys
  have hesaf : e.saf = x.saf := saf_of_view (by simp [← he])
  have herep : e.rep = x.rep := same_of_view (p := .rep) (by simp [← he])
  have hegauge : e.gauge = x.gauge := same_of_view (p := .gauge) (by simp [← he])
  refine ⟨e, completes_with rfl heff ⟨by rw [hesys]; exact hc.1, fun h => ?_⟩, hesys, ?_, ?_, ?_, ?_, ?_, only_of_views fun p hp => ?_⟩
  · rw [hesys] at h
    exact absurd (ho.symm.trans h) (by decide)
  · rw [hesaf, ← hx]
    exact bistJudged_saf ..
  · rw [herep, ← hx]
    exact bistJudged_rep ..
  · rw [hmap]
    exact hgated
  · rw [hmap]
    exact hfailed
  · rw [hegauge, ← hx]
    exact bistJudged_gauge ..
  · cases p <;> simp at hp <;> simp [← he, ← hx, bistJudged_frame]

/-! ### Gauge's collection -/

/-- A table's record that a bound failed. -/
def boundNoted (bound : Nat) (t : GaugeRec) : GaugeRec := { t with boundFail := true, failBound := bound }

theorem boundNoted_ne (bound : Nat) (t : GaugeRec) : boundNoted bound t ≠ GaugeRec.none := fun h =>
  Bool.noConfusion (show true = false from congrArg GaugeRec.boundFail h)

theorem castOnBound_gaugeOf (d : Dev) (f : Nat × Nat) (k : Nat) :
    gaugeOf (castOnBound d f) k = if k = f.1 then boundNoted f.2 (gaugeOf d f.1) else gaugeOf d k := by
  have hgauge : (castOnBound d f).gauge = (modTable f.1 (boundNoted f.2) d).gauge := by
    unfold castOnBound
    extract_lets d1
    split
    · exact same_of_view (d := d1) (p := .gauge) (by simp)
    · rfl
  rw [gaugeOf, hgauge]
  exact gaugeOf_modTable (boundNoted_ne _ _) k

/-- Of lanes that failed once each, every one has its bound noted (R95). -/
theorem foldl_castOnBound_gaugeOf (fails : List (Nat × Nat)) : ∀ d : Dev, (fails.map (·.1)).Nodup →
    (∀ k, k ∉ fails.map (·.1) → gaugeOf (fails.foldl castOnBound d) k = gaugeOf d k) ∧
    ∀ f ∈ fails, (gaugeOf (fails.foldl castOnBound d) f.1).boundFail = true ∧
      (gaugeOf (fails.foldl castOnBound d) f.1).failBound = f.2 := by
  induction fails with
  | nil => exact fun _ _ => ⟨fun _ _ => rfl, by simp⟩
  | cons f fails ih =>
    intro d hnodup
    obtain ⟨hf, hrest⟩ := List.nodup_cons.1 hnodup
    obtain ⟨hkeep, hnoted⟩ := ih (castOnBound d f) hrest
    refine ⟨fun k hk => ?_, fun g hg => ?_⟩
    · obtain ⟨hne, hk⟩ := not_or.1 (List.mem_cons.not.1 hk)
      exact (hkeep k hk).trans ((castOnBound_gaugeOf d f k).trans (if_neg hne))
    · rcases List.mem_cons.1 hg with rfl | hg
      · have h := (hkeep g.1 hf).trans ((castOnBound_gaugeOf d g g.1).trans (if_pos rfl))
        rw [List.foldl_cons, h]
        exact ⟨rfl, rfl⟩
      · exact hnoted g hg

theorem castOnTables_nodup (counts : List (Nat × List Nat)) : ((castOnTables counts).2.map (·.1)).Nodup := by
  unfold castOnTables
  extract_lets fit rec0 plain all
  have hkeys : (all.filter (fun e => e.2.2 != 0)).map (fun e => e.1) = ((all.filter (fun e => e.2.2 != 0)).map (·.1)) := rfl
  have hall : all.map (·.1) = List.range 1096 := by
    simp only [all, List.map_map]
    exact List.map_id _
  rw [List.map_map]
  exact (hall ▸ List.nodup_range).sublist (List.filter_sublist.map _)

/-- The device after Gauge's collection, with the tables and the lanes that failed a bound, before slices are gated. -/
def gaugeJudged (t : Tab GaugeRec × List (Nat × Nat)) (d : Dev) : Dev :=
  let failed := t.2.map (·.1)
  let d1 := t.2.foldl castOnBound (advanceTo (d.sys.now + 200000000) d)
  let d2 := modGauge (fun g => { g with
    shadow := t.1, closed := true,
    startsFailed := (g.startsFailed ++ (failed.filter (fun p => decide (1088 ≤ p))).map (· - 1088)).eraseDups }) d1
  modRecv (fun r => { r with lanesFailed := (r.lanesFailed ++ failed.filter (fun p => decide (p < 1088))).eraseDups }) d2

section Gauge

variable (t : Tab GaugeRec × List (Nat × Nat)) (d : Dev)

theorem castOnGauge_of_open {counts : List (Nat × List Nat)} (ht : castOnTables counts = t) (hst : atStage 0x60 d = true)
    (hopen : d.gauge.closed = false) :
    castOnGauge counts d = beginFiring (gateAtCastOn (shortSlices (gaugeJudged t d)) (gaugeJudged t d)) := by
  rw [castOnGauge, if_neg (by simp [hst, hopen]), ht]
  rfl

theorem gaugeJudged_frame {v : Facet} (h : v ∉ [.sys, .recv, .gauge, .ev, .rail, .standing]) : v.view (gaugeJudged t d) = v.view d := by
  simp at h
  simp [gaugeJudged, h]

theorem gaugeJudged_sys : (gaugeJudged t d).sys = { d.sys with now := d.sys.now + 200000000 } := by
  unfold gaugeJudged
  extract_lets failed d1 d2
  have h1 : d1.sys = (advanceTo (d.sys.now + 200000000) d).sys := sys_of_view (by simp [d1])
  show d1.sys = _
  rw [h1, advanceTo_sys, Nat.max_eq_right (Nat.le_add_right _ _)]

theorem gaugeJudged_recv : (gaugeJudged t d).recv = { d.recv with
    lanesFailed := (d.recv.lanesFailed ++ (t.2.map (·.1)).filter (fun p => decide (p < 1088))).eraseDups } := by
  unfold gaugeJudged
  extract_lets failed d1 d2
  have h1 : d1.recv = d.recv := same_of_view (p := .recv) (by simp [d1])
  have h2 : d2.recv = d.recv := h1
  rw [modRecv_recv, h2]

theorem gaugeJudged_bounds (hnodup : (t.2.map (·.1)).Nodup) : ∀ f ∈ t.2,
    (gaugeOf (gaugeJudged t d) f.1).boundFail = true ∧ (gaugeOf (gaugeJudged t d) f.1).failBound = f.2 :=
  (foldl_castOnBound_gaugeOf _ _ hnodup).2

end Gauge

theorem beginFiring_of_castOn (ho : d.sys.op ≠ .halted) : beginFiring d =
    modEmi (fun e => { e with calAt := tussNow d, calShots := 0 }) (closeRail (loadCodes d)) := if_neg (by simpa using ho)

/-- Gauge's collection ends with no group short of spares, and calibration firing begins. -/
theorem castOnGauge_completes (hc : Calm s.dev) (hin : s.dev.sys.inReset = false) (ho : s.dev.sys.op = .castOn)
    (hb : s.dev.sys.boot = 0x60) (hopen : s.dev.gauge.closed = false) (hg : s.dev.recv.gated = 0) {counts : List (Nat × List Nat)}
    {t : Tab GaugeRec × List (Nat × Nat)} (ht : castOnTables counts = t) {lanes : List Nat}
    (hlanes : lanes = (s.dev.recv.lanesFailed ++ (t.2.map (·.1)).filter (fun p => decide (p < 1088))).eraseDups)
    (hspared : ∀ g, g < 16 → (lanes.filter (fun p => groupOfLane p == g)).length ≤ 4) :
    ∃ d, Completes (.castOnGaugeCollectionEnd counts) s d ∧ d.gauge.closed = true ∧ d.gauge.shadow = t.1 ∧
      (∀ f ∈ t.2, (gaugeOf d f.1).boundFail = true ∧ (gaugeOf d f.1).failBound = f.2) ∧
      d.recv.lanesFailed = lanes ∧ d.sys = { s.dev.sys with now := s.dev.sys.now + 200000000 } ∧
      d.saf = { s.dev.saf with railClosed := true } ∧
      d.emi = { s.dev.emi with inhibit := false, closedAt := some (tussNow d), calAt := tussNow d, calShots := 0 } ∧
      Only [.sys, .recv, .gauge, .histo, .emi, .saf, .ev] s.fresh d := by
  obtain ⟨x, hx⟩ : ∃ x, gaugeJudged t s.fresh = x := ⟨_, rfl⟩
  have hrecv := hx ▸ gaugeJudged_recv t s.fresh
  have hsys := hx ▸ gaugeJudged_sys t s.fresh
  have hbounds := hx ▸ gaugeJudged_bounds t s.fresh (ht ▸ castOnTables_nodup counts)
  have hfailed : x.recv.lanesFailed = lanes := (congrArg Recv.lanesFailed hrecv).trans hlanes.symm
  have hgated : orBits 4 x.recv.gated (shortSlices x) = 0 := by
    rw [shortSlices_of_spared (by rwa [hfailed]), hrecv, show s.fresh.recv.gated = 0 from hg]
    rfl
  have heff := hx ▸ castOnGauge_of_open t s.fresh ht (atStage_of hin ho hb) hopen
  rw [gateAtCastOn_of_some (by rw [hgated]; decide)] at heff
  obtain ⟨y, hy⟩ : ∃ y, mapLanes (modRecv (fun r => { r with gated := orBits 4 r.gated (shortSlices x) }) x) = y := ⟨_, rfl⟩
  obtain ⟨m, hmap⟩ := hy ▸ mapLanes_recv (modRecv (fun r => { r with gated := orBits 4 r.gated (shortSlices x) }) x)
  have hysys : y.sys = { s.dev.sys with now := s.dev.sys.now + 200000000 } := (sys_of_view (d := x) (by simp [← hy])).trans hsys
  have hop : y.sys.op ≠ .halted := by
    rw [hysys]
    exact fun h => absurd (ho.symm.trans h) (by decide)
  rw [hy, beginFiring_of_castOn hop] at heff
  have hygauge : y.gauge = x.gauge := same_of_view (p := .gauge) (by simp [← hy])
  have hysaf : y.saf = s.dev.saf := saf_of_view (d := s.fresh) (by simp [← hy, ← hx, gaugeJudged_frame])
  have hyemi : y.emi = s.dev.emi := emi_of_view (d := s.fresh) (by simp [← hy, ← hx, gaugeJudged_frame])
  refine ⟨_, completes_with rfl heff ⟨?_, fun h => absurd h hop⟩, ?_, ?_, fun f hf => ?_, ?_, hysys, ?_, ?_,
    only_of_views fun p hp => ?_⟩
  · show y.sys.resetAfter = none
    rw [hysys]
    exact hc.1
  · show y.gauge.closed = true
    rw [hygauge, ← hx]
    rfl
  · show y.gauge.shadow = _
    rw [hygauge, ← hx]
    rfl
  · have hkeep : ∀ k, gaugeOf (modEmi (fun e => { e with calAt := tussNow y, calShots := 0 }) (closeRail (loadCodes y))) k = gaugeOf x k :=
      fun k => congrArg (fun g : Gauge => tabGet GaugeRec.none g.tables k) hygauge
    rw [hkeep]
    exact hbounds f hf
  · show y.recv.lanesFailed = lanes
    rw [hmap]
    exact hfailed
  · show { y.saf with railClosed := true } = _
    rw [hysaf]
  · rw [← hyemi]
    rfl
  · cases p <;> simp at hp <;> simp [← hy, ← hx, gaugeJudged_frame]

/-! ### Entry to READY -/

theorem slotAuto_mode {n : Nat} (h : n ≠ 0) (d : Dev) (k : Nat) :
    (slotGet (slotAuto n d) k).mode = if n = k ∧ k < d.loops.slots.length then .auto else (slotGet d k).mode := by
  unfold slotAuto
  extract_lets x d1
  rw [if_neg fun hn => h hn.1, slotGet, slotGet]
  show ((listMod d.loops.slots n _).getD k Slot9.reset).mode = _
  rw [listMod_getD]
  split
  · rfl
  · rfl

theorem slotAuto_length {n : Nat} (h : n ≠ 0) (d : Dev) : (slotAuto n d).loops.slots.length = d.loops.slots.length := by
  unfold slotAuto
  extract_lets x d1
  rw [if_neg fun hn => h hn.1]
  exact List.length_modify ..

/-- Slots put into AUTO one after the other are in AUTO. -/
theorem foldl_slotAuto_mode (is : List Nat) (k : Nat) : ∀ d : Dev, k < d.loops.slots.length →
    (is.foldl (fun d i => slotAuto (i + 2) d) d).loops.slots.length = d.loops.slots.length ∧
    (k ∈ is.map (· + 2) ∨ (slotGet d k).mode = .auto → (slotGet (is.foldl (fun d i => slotAuto (i + 2) d) d) k).mode = .auto) := by
  induction is with
  | nil => exact fun d _ => ⟨rfl, fun h => h.resolve_left (by simp)⟩
  | cons i is ih =>
    intro d hk
    have hlen := slotAuto_length (n := i + 2) (by omega) d
    have hmode := slotAuto_mode (n := i + 2) (by omega) d k
    obtain ⟨hlen', hauto⟩ := ih (slotAuto (i + 2) d) (hlen ▸ hk)
    refine ⟨hlen'.trans hlen, fun h => ?_⟩
    by_cases hik : i + 2 = k
    · exact hauto (.inr (hmode.trans (if_pos ⟨hik, hk⟩)))
    · refine hauto (h.imp (fun h => (List.mem_cons.1 h).resolve_left (Ne.symm hik)) fun h => ?_)
      rw [hmode, if_neg fun hc => hik hc.1, h]

theorem enterReady_mode {k : Nat} (hlen : d.loops.slots.length = 16) (hlo : 2 ≤ k) (hhi : k ≤ 11) :
    (slotGet (enterReady d) k).mode = .auto := by
  unfold enterReady
  extract_lets d1 d2 d3
  have hslots : (modSense (fun x => { x with diagAt := tussNow d }) d2).loops = d.loops := same_of_view (p := .loops) (by simp [d2, d1])
  have h3 : (slotGet d3 k).mode = .auto := by
    refine (foldl_slotAuto_mode (List.range 10) k _ ?_).2 (.inl ?_)
    · rw [hslots, hlen]
      omega
    · exact List.mem_map.2 ⟨k - 2, List.mem_range.2 (by omega), by omega⟩
  have hloops : (raise 1 0 (le 1 0xFF ++ le 1 0) d3).loops = d3.loops := same_of_view (p := .loops) (by simp)
  rw [slotGet, modSeq_loops, hloops]
  exact h3

theorem enterReady_sys (d : Dev) : (enterReady d).sys = { d.sys with boot := 0x70, op := .ready } := by
  unfold enterReady
  extract_lets d1 d2 d3
  exact sys_of_view (d := d1) (by simp [d3, d2])

theorem enterReady_seq (d : Dev) : (enterReady d).seq = { d.seq with nextFrame := d.sys.now + 1000000, tickTime := d.sys.now } := by
  unfold enterReady
  extract_lets d1 d2 d3
  have h3 : (raise 1 0 (le 1 0xFF ++ le 1 0) d3).seq = d.seq := same_of_view (p := .seq) (by simp [d3, d2, d1])
  rw [modSeq_seq, h3]

/-! ### The end of calibration firing -/

theorem chargeCells_vsafe (az : List Nat) (b e : Nat) (d : Dev) : (chargeCells az b e d).saf.vsafeOk = d.saf.vsafeOk := by
  obtain ⟨d2, h2, hcases⟩ := chargeCells_outcome az b e d
  have hsaf : d2.saf.vsafeOk = (charged az b e d).saf.vsafeOk := congrArg Saf.vsafeOk (evOnly_only h2 .saf (by decide))
  rcases hcases with ⟨-, heq⟩ | ⟨-, heq⟩
  · rw [heq, hsaf]
    rfl
  · rw [heq, trip_saf]
    exact hsaf

theorem foldl_chargeCells_vsafe (az : List Nat) (e : Nat) (banks : List Nat) : ∀ d : Dev,
    (banks.foldl (fun d b => chargeCells az b e d) d).saf.vsafeOk = d.saf.vsafeOk := by
  induction banks with
  | nil => exact fun _ => rfl
  | cons b banks ih => exact fun d => (ih _).trans (chargeCells_vsafe az b e d)

theorem restOfFiring_vsafe (d : Dev) : (restOfFiring d).saf.vsafeOk = d.saf.vsafeOk := by
  unfold restOfFiring
  extract_lets k d1
  split
  · rfl
  · split
    · rfl
    · exact foldl_chargeCells_vsafe _ _ _ d1

/-- Without a shot that SHOT_TICK commanded, every shot of the firing charges the fill (R253; DESIGN CHOICE, assumption log,
entry 51). -/
theorem restOfFiring_fill (hi : d.emi.inhibit = false) (hk : d.emi.calShots = 0) :
    (restOfFiring d).saf.fill = addFill d.saf.fill (calFill 2500) := by
  unfold restOfFiring
  rw [if_neg (by simp [hi]), hk]
  rfl

/-- The device with calibration firing over and measured, on the threshold of READY. -/
def firingEnded (refs : List (Nat × Nat × Nat)) (vbd : Nat) (temp : Int) (ratios : List Nat) (charged : Bool) (d : Dev) : Dev :=
  let d4 := modSaf (fun s => { s with
    clockRatios := [ratios.getD 0 0, ratios.getD 1 0, ratios.getD 2 0], clockAt := tussNow (firedOut d) }) (calibrated refs vbd temp d)
  let d5 := modEmi (fun e => { e with calCharge := tabOf 0 136 (calChargeOf charged (firedOut d)) }) d4
  loadCodes (openRail (dropFiring d5))

section Firing

variable {refs : List (Nat × Nat × Nat)} {vbd : Nat} {temp : Int} {ratios : List Nat} {charged : Bool}

theorem calibrationEnd_of_measured (hst : atStage 0x60 d = true) (hclosed : d.gauge.closed = true) (h3 : 3 ≤ ratios.length)
    (h0 : 0 ∉ ratios) : calibrationEnd refs vbd temp ratios charged d = enterReady (firingEnded refs vbd temp ratios charged d) := by
  rw [calibrationEnd, if_neg (by simp [hst, hclosed])]
  have hgood : ¬ (ratios.length < 3 ∨ ratios.contains 0 = true) := by simpa using ⟨h3, h0⟩
  dsimp only
  rw [if_neg hgood, firingEnded, calibrated, firedOut]

theorem firedOut_frame {v : Facet}
    (h : v ∉ [.sys, .tim, .histo, .pts, .emi, .saf, .slu, .pcie, .kmp, .ev, .writes, .out, .rail, .outs, .latches, .standing, .inhibit]) :
    v.view (firedOut d) = v.view d := by
  simp at h
  simp [firedOut, h]

theorem firingEnded_frame {v : Facet}
    (h : v ∉ [.sys, .recv, .tim, .histo, .pts, .emi, .saf, .slu, .pcie, .kmp, .ev, .writes, .out, .rail, .outs, .latches, .standing,
      .inhibit]) : v.view (firingEnded refs vbd temp ratios charged d) = v.view d := by
  simp at h
  simp [firingEnded, calibrated, firedOut_frame, h]

theorem firingEnded_sys (ho : d.sys.op = .castOn) :
    (firingEnded refs vbd temp ratios charged d).sys = (advanceTuss (d.emi.calAt + 200000000) d).sys := by
  unfold firingEnded
  extract_lets d4 d5
  rw [sys_of_view (d := calibrated refs vbd temp d) (by simp [d5, d4]), calibrated_sys ho]

theorem firingEnded_recv : (firingEnded refs vbd temp ratios charged d).recv = { d.recv with vbd0 := vbd, t0 := temp } := by
  unfold firingEnded
  extract_lets d4 d5
  have h1 : (firedOut d).recv = d.recv := same_of_view (p := .recv) (firedOut_frame (by simp))
  rw [same_of_view (p := .recv) (d := calibrated refs vbd temp d) (by simp [d5, d4]), calibrated, modRecv_recv, modTim_recv, h1]

/-- Tussock's group with the clock ratios measured at `t` and the switches open. -/
def measuredSaf (ratios : List Nat) (t : Nat) (f : Saf) : Saf :=
  { f with
    clockRatios := [ratios.getD 0 0, ratios.getD 1 0, ratios.getD 2 0], clockAt := t, railClosed := false, invSince := none,
    devSince := none, disSince := none, frozen := [] }

theorem firingEnded_saf : (firingEnded refs vbd temp ratios charged d).saf =
    measuredSaf ratios (tussNow (firedOut d)) (restOfFiring (advanceTuss (d.emi.calAt + 200000000) d)).saf := by
  unfold firingEnded
  extract_lets d4 d5
  have hcal : (calibrated refs vbd temp d).saf = (restOfFiring (advanceTuss (d.emi.calAt + 200000000) d)).saf := by
    rw [calibrated, modRecv_saf, modTim_saf]
    exact saf_of_view (closeShot_frame _ (by simp))
  have h5 : (dropFiring d5).saf = d4.saf := saf_of_view (by simp [d5])
  rw [saf_of_view (d := openRail (dropFiring d5)) (by simp), openRail, modEmi_saf, modSaf_saf, h5, ← hcal]
  simp only [d4, modSaf_saf, measuredSaf]

theorem firingEnded_inhibit : (firingEnded refs vbd temp ratios charged d).emi.inhibit = true := by
  unfold firingEnded
  extract_lets d4 d5
  exact inhibit_of_view (d := openRail (dropFiring d5)) (by simp)

/-- The end of calibration firing, measured, is the entry to READY (R176, R242, R362). -/
theorem calibrationEnd_completes (hc : Calm s.dev) (hin : s.dev.sys.inReset = false) (ho : s.dev.sys.op = .castOn)
    (hb : s.dev.sys.boot = 0x60) (hclosed : s.dev.gauge.closed = true) (h3 : 3 ≤ ratios.length) (h0 : 0 ∉ ratios) :
    Completes (.calibrationFiringEnd refs vbd temp ratios charged) s
      (enterReady (firingEnded refs vbd temp ratios charged s.fresh)) := by
  refine completes_with rfl (calibrationEnd_of_measured (d := s.fresh) (atStage_of hin ho hb) hclosed h3 h0) ⟨?_, fun h => ?_⟩
  · rw [enterReady_sys, firingEnded_sys (d := s.fresh) ho]
    exact hc.1
  · rw [enterReady_sys] at h
    exact absurd (show OpState.ready = .halted from h) (by decide)

theorem calibrationEnd_saf : (enterReady (firingEnded refs vbd temp ratios charged d)).saf =
    measuredSaf ratios (tussNow (firedOut d)) (restOfFiring (advanceTuss (d.emi.calAt + 200000000) d)).saf :=
  (saf_of_view (d := firingEnded refs vbd temp ratios charged d) (by simp)).trans firingEnded_saf

theorem calibrationEnd_vsafe (refs : List (Nat × Nat × Nat)) (vbd : Nat) (temp : Int) (ratios : List Nat) (charged : Bool) (d : Dev) :
    (enterReady (firingEnded refs vbd temp ratios charged d)).saf.vsafeOk = d.saf.vsafeOk := by
  rw [calibrationEnd_saf]
  exact restOfFiring_vsafe _

end Firing

/-- Settles O41: each event takes its stage's device to the next stage, and what it measured stands there. -/
theorem castOnStagesAdvance : Obligations.CastOnStagesAdvance := by
  intro s hc hin ho
  have hst {b : Nat} (hb : s.dev.sys.boot = b) : atStage b s.fresh = true := atStage_of (d := s.fresh) hin ho hb
  refine ⟨fun hb => ?_, fun bad lanes starts probes dark repairs hb hg hbad hspared => ?_, fun hb => ?_, fun hb => ?_,
    fun counts hb hopen hg => ?_, fun refs vbd temp ratios charged hb hclosed h3 h0 hlen => ?_⟩
  · exact completes_with rfl (if_pos (hst hb)) hc
  · exact bist_completes hc hin ho hb hg starts probes dark repairs hbad hspared
  · exact completes_with rfl (if_neg (by simp [hst hb])) hc
  · exact completes_with rfl (if_pos (hst hb)) hc
  · intro t lanes hspared
    exact castOnGauge_completes hc hin ho hb hopen hg rfl rfl hspared
  · have hsys := (enterReady_sys (firingEnded refs vbd temp ratios charged s.fresh)).trans
      (congrArg (fun y : Sys => { y with boot := 0x70, op := .ready }) (firingEnded_sys (d := s.fresh) ho))
    have hnow : (enterReady (firingEnded refs vbd temp ratios charged s.fresh)).sys.now =
        (firingEnded refs vbd temp ratios charged s.fresh).sys.now := by rw [enterReady_sys]
    have hloops : (firingEnded refs vbd temp ratios charged s.fresh).loops = s.dev.loops :=
      same_of_view (p := .loops) (firingEnded_frame (d := s.fresh) (by simp))
    have hseq : (firingEnded refs vbd temp ratios charged s.fresh).seq = s.dev.seq :=
      same_of_view (p := .seq) (firingEnded_frame (d := s.fresh) (by simp))
    refine ⟨_, calibrationEnd_completes hc hin ho hb hclosed h3 h0, congrArg Sys.op hsys, congrArg Sys.boot hsys, congrArg Sys.now hsys,
      ?_, ?_, ?_, ?_, ?_, fun hi hk => ?_, fun n hlo hhi => ?_, only_of_views fun p hp => ?_⟩
    · rw [hnow, ← hseq]
      exact enterReady_seq _
    · rw [same_of_view (p := .recv) (enterReady_frame _ (by simp))]
      exact firingEnded_recv
    · rw [calibrationEnd_saf]
      rfl
    · rw [inhibit_of_view (enterReady_frame _ (by simp))]
      exact firingEnded_inhibit
    · rw [calibrationEnd_saf]
      rfl
    · rw [calibrationEnd_saf]
      exact restOfFiring_fill (d := advanceTuss (s.fresh.emi.calAt + 200000000) s.fresh) hi hk
    · exact enterReady_mode (by rw [hloops, hlen]) hlo hhi
    · cases p <;> simp at hp <;> simp [firingEnded_frame]

/-- Settles O43: each clause is one of the lemmas above, or what holds of every command. -/
theorem supplyLossInCastOnHalts : Obligations.SupplyLossInCastOnHalts := by
  intro s
  refine ⟨fun vin hr hin ho => ?_, ?_, fun refs vbd temp ratios charged hc hin ho hb hclosed h3 h0 hv => ?_,
    fun i t h hv n hn => ?_, fun mb c hs hw hv => ?_⟩
  · refine halts_of (d := modSys (fun y => { y with vinOk := y.vinOk && !vin }) s.fresh) rfl ?_ ?_ hr
    · have ho' : s.fresh.sys.op = .castOn := ho
      have hin' : s.fresh.sys.inReset = false := hin
      exact (if_neg (by simp [hin'])).trans (if_pos (by simp [ho']))
    · exact fun h => absurd (ho.symm.trans h) (by decide)
  · obtain ⟨t, hexec, ⟨-, hinReset, hop, -⟩, hpor, -⟩ := resets (i := .powerOnReset) (f := powerOn) (x := s.fresh) rfl rfl rfl
    exact ⟨t, hexec, hinReset, hpor, hop⟩
  · exact ⟨_, calibrationEnd_completes hc hin ho hb hclosed h3 h0, by rw [enterReady_sys], (calibrationEnd_vsafe ..).trans hv⟩
  · refine Bool.eq_false_iff.2 fun he => ?_
    obtain ⟨-, -, -, -, -, -, -, hvsafe, -⟩ := (outConditions_iff t.dev n).1 (exec_outsOk h n hn he)
    exact Bool.false_ne_true (hv.symm.trans hvsafe)
  · exact armNeedsHealthyTussock s mb c hs hw (.inr (.inr (.inl hv)))

end Sys2Proof.Laws
end

section
/-!
Event records and their queues (R458, R462, R463).
-/
namespace Sys2Proof.Laws

open Sys2Proof.Machine

variable {d : Dev} {src cond p : Nat}

/-- The record stands before the last records that come after it, and behind the latest that does not. -/
theorem evPlace_splits (r : EvRec) (rs : List EvRec) : ∃ before later, rs = before ++ later ∧
    evPlace r rs = before ++ r :: later ∧ (∀ x ∈ later, evAfter r x = true) ∧
      ∀ x xs, before = xs ++ [x] → evAfter r x = false := by
  have hsplit : rs.rdropWhile (evAfter r) ++ rs.rtakeWhile (evAfter r) = rs := List.rdropWhile_append_rtakeWhile ..
  have hlen : rs.length - (rs.reverse.takeWhile (evAfter r)).length = (rs.rdropWhile (evAfter r)).length := by
    have h := congrArg List.length hsplit
    rw [List.length_append, List.rtakeWhile, List.length_reverse] at h
    omega
  refine ⟨rs.rdropWhile (evAfter r), rs.rtakeWhile (evAfter r), hsplit.symm, ?_, fun x hx => List.mem_rtakeWhile_imp hx, fun x xs hx => ?_⟩
  · have htake := List.take_left' (l₂ := rs.rtakeWhile (evAfter r)) hlen.symm
    have hdrop := List.drop_left' (l₂ := rs.rtakeWhile (evAfter r)) hlen.symm
    rw [hsplit] at htake hdrop
    rw [evPlace, htake, hdrop]
  · have hne : rs.rdropWhile (evAfter r) ≠ [] := by simp [hx]
    have hlast := List.rdropWhile_last_not (evAfter r) rs hne
    rw [List.getLast_congr hne (by simp) hx, List.getLast_concat] at hlast
    simpa using hlast

theorem evAfter_iff (r x : EvRec) :
    evAfter r x = true ↔ x.time = r.time ∧ (r.source < x.source ∨ (r.source = x.source ∧ r.cond < x.cond)) := by
  simp [evAfter]

/-! ### Raising a condition -/

theorem raise_of_shut (h : evOpen d src = false ∨ (src, cond) ∈ d.ev.raised) (detail : Bytes) : raise src cond detail d = d :=
  if_pos (by rcases h with h | h <;> simp [h])

theorem raise_raised (h : evOpen d src = true) (detail : Bytes) : (src, cond) ∈ (raise src cond detail d).ev.raised := by
  unfold raise
  split
  · next hs => simpa [h] using hs
  · exact List.mem_cons_self

/-- The record of a condition raised now. -/
def recordOf (src cond : Nat) (detail : Bytes) (d : Dev) : EvRec := ⟨src, cond, d.seq.frame, d.sys.now, fitTo 16 detail⟩

theorem evQueueOf_evDeliver (r : EvRec) (d : Dev) (hp : p < 3) : evQueueOf (evDeliver r d) p =
    if bit (evRoute d r.source) (evRouteBit p) && evPortOpen d p then evPush r (evQueueOf d p) else evQueueOf d p := by
  unfold evDeliver
  extract_lets route
  rw [evQueueOf, modEv_ev, List.getD_eq_getElem?_getD, List.getElem?_map, List.getElem?_range hp]
  rfl

theorem evQueueOf_raise (ho : evOpen d src = true) (hn : (src, cond) ∉ d.ev.raised) (detail : Bytes) (hp : p < 3) :
    evQueueOf (raise src cond detail d) p =
      if bit (evRoute d src) (evRouteBit p) && evPortOpen d p then evPush (recordOf src cond detail d) (evQueueOf d p)
      else evQueueOf d p := by
  rw [raise, if_neg (by simp [ho, hn])]
  exact evQueueOf_evDeliver _ _ hp

/-- The queue has room for the record: 64 of its 512 places serve sources 512 to 639 alone (R463). -/
def QueueRoom (r : EvRec) (q : EvQueue) : Prop :=
  q.recs.length < 512 ∧ (evIsSafety r = true ∨ (q.recs.filter (fun x => !evIsSafety x)).length < 448)

theorem evPush_of_room {r : EvRec} {q : EvQueue} (h : QueueRoom r q) : evPush r q = { q with recs := evPlace r q.recs } :=
  if_pos (by simpa [QueueRoom] using h)

theorem evPush_of_full {r : EvRec} {q : EvQueue} (h : ¬ QueueRoom r q) :
    evPush r q = { q with lost := true, lostCount := min (2 ^ 32 - 1) (q.lostCount + 1) } := by
  rw [evPush, if_neg (by simpa [QueueRoom] using h), incSat_eq]

/-- Settles O7: a condition raised once stands among those raised, and its record is pushed onto each queue that its route names. -/
theorem eventsAreRecordedOnceAFrame : Obligations.EventsAreRecordedOnceAFrame := by
  intro src cond detail d
  refine ⟨fun x => raise_of_shut ?_ x, evOnly_only (raise_evOnly src cond detail d), fun ho hn p hp => ?_⟩
  · cases ho : evOpen d src with
    | false => exact .inl (by rw [raise_of_shut (.inl ho), ho])
    | true => exact .inr (raise_raised ho detail)
  · intro q r rec' safety others
    have hr : r = if bit (evRoute d src) (evRouteBit p) && evPortOpen d p then evPush rec' q else q := evQueueOf_raise ho hn detail hp
    have hroute : (bit (evRoute d src) (evRouteBit p) && evPortOpen d p) = false ↔
        bit (evRoute d src) (evRouteBit p) = false ∨ (p = 0 ∧ prmGet d 0x0B23 = 0xFF) := by
      rw [Bool.and_eq_false_iff]
      simp [evPortOpen]
    have hsafety : evIsSafety rec' = true ↔ safety := decide_eq_true_iff
    split
    · next hno => rw [hr, if_neg (by rw [hroute.2 hno]; decide)]
    · next hyes =>
      rw [if_pos (by simpa using mt hroute.1 hyes)] at hr
      split
      · next hroom =>
        obtain ⟨before, later, hrecs, hplace, hafter, hbefore⟩ := evPlace_splits rec' q.recs
        rw [evPush_of_room (hroom.imp_right (.imp_left hsafety.2)), hplace] at hr
        refine ⟨before, later, hrecs, hr, fun x hx => (evAfter_iff rec' x).1 (hafter x hx), fun x xs hx hc => ?_⟩
        exact Bool.false_ne_true ((hbefore x xs hx).symm.trans ((evAfter_iff rec' x).2 hc))
      · next hfull => rw [hr, evPush_of_full fun h => hfull (h.imp_right (.imp_left hsafety.1))]

end Sys2Proof.Laws
end

section
/-!
Taking a command (R391, R401, R404): what its judgement reads, and what taking or refusing it leaves.
-/
namespace Sys2Proof.Laws

open Sys2Proof.Machine

variable {s : State} {d e : Dev} {mb k : Nat} {c : Cmd} {h : Bytes}

/-! ### Transport errors -/

/-- A mailbox with a transport error noted (R392). -/
def failedMb (code index : Nat) (m : Mailbox) : Mailbox :=
  { m with errInfo := code + 0x10000 * (index % 65536), errCount := min (2 ^ 32 - 1) (m.errCount + 1),
           irqStatus := putBit m.irqStatus 2 true }

/-- Two changes of a mailbox are one. -/
theorem modMb_modMb (f g : Mailbox → Mailbox) (d : Dev) : modMb mb g (modMb mb f d) = modMb mb (g ∘ f) d := by
  simp only [modMb, modKmp, listMod_listMod]

theorem modMb_eq_self {f : Mailbox → Mailbox} (h : f (mbGet d mb) = mbGet d mb) : modMb mb f d = d := by
  simp only [modMb, modKmp]
  rw [listMod_eq_self Mailbox.reset fun _ => h]

theorem transportError_kmp (mb code index : Nat) (d : Dev) :
    (transportError mb code index d).kmp = (modMb mb (failedMb code index) d).kmp := by
  unfold transportError
  rw [kmp_of_view (raise_frame _ _ _ _ (by simp)), irqSet_kmp, modMb_modMb]
  have hf : (fun m : Mailbox => { m with irqStatus := putBit m.irqStatus 2 true }) ∘
      (fun m : Mailbox => { m with errInfo := code + 0x10000 * (index % 65536), errCount := incSat 32 m.errCount }) =
      failedMb code index := by
    funext m
    simp [failedMb, incSat_eq]
  rw [hf]

/-! ### The judgement -/

/-- What the judgement of a command reads of its mailbox. -/
def SameCommands (m n : Mailbox) : Prop := n.rom = m.rom ∧ n.waiting = m.waiting ∧ n.running = m.running

/-- The judgement reads the state, time, the session and the mailbox's commands. -/
theorem takeStatus_congr (hsys : e.sys = d.sys) (hsession : e.kmp.session = d.kmp.session) (hlast : e.kmp.lastIds = d.kmp.lastIds)
    (hmb : SameCommands (mbGet d c.mb) (mbGet e c.mb)) (h : Bytes) (held : Bool) : takeStatus e c h held = takeStatus d c h held := by
  obtain ⟨hrom, hwaiting, hrunning⟩ := hmb
  unfold takeStatus romServes classStatus tagStatus outstanding sessionStatus sessionNeeded inService tussNow
  dsimp only
  rw [hsys, hsession, hlast, hrom, hwaiting, hrunning]

/-- Without BULK the window's owner does not matter (R395). -/
theorem takeStatus_of_noBulk (hb : bit c.flags 0 = false) (h : Bytes) (held : Bool) (d : Dev) :
    takeStatus d c h held = takeStatus d c h false := by
  simp only [takeStatus, hb, Bool.and_false]

/-! ### What taking leaves -/

theorem renewLease_kmp (c : Cmd) (d : Dev) :
    ∃ x, (renewLease c d).kmp = { d.kmp with session := x } ∧ (d.kmp.session = none → x = none) := by
  unfold renewLease
  split
  · exact ⟨_, rfl, fun h => by rw [h]; rfl⟩
  · exact ⟨d.kmp.session, rfl, id⟩

theorem renewLease_sys (c : Cmd) (d : Dev) : (renewLease c d).sys = d.sys := sys_of_view (by simp)

theorem renewLease_calm (c : Cmd) (hc : Calm d) : Calm (renewLease c d) := by
  obtain ⟨x, hk, hx⟩ := renewLease_kmp c d
  rw [Calm, renewLease_sys, hk]
  exact ⟨hc.1, fun ho => hx (hc.2 ho)⟩

theorem renewLease_mb (c : Cmd) (d : Dev) (k : Nat) : mbGet (renewLease c d) k = mbGet d k := by
  obtain ⟨x, hk, -⟩ := renewLease_kmp c d
  rw [mbGet, hk, mbGet]

theorem renewLease_length (c : Cmd) (d : Dev) : (renewLease c d).kmp.mbs.length = d.kmp.mbs.length := by
  obtain ⟨x, hk, -⟩ := renewLease_kmp c d
  rw [hk]

theorem verifyBegins_kmp (c : Cmd) (d : Dev) : (verifyBegins c d).kmp = d.kmp := kmp_of_view (by simp)

theorem verifyBegins_calm (c : Cmd) (hc : Calm d) : Calm (verifyBegins c d) := by
  unfold verifyBegins
  extract_lets port k
  split
  · exact hc
  · exact hc

/-- A mailbox with a command put behind those that wait. -/
def withWaiting (c : Cmd) (m : Mailbox) : Mailbox := { m with waiting := m.waiting ++ [c] }

/-- A command put behind those that wait, its lease renewed. -/
def takenIn (c : Cmd) (d : Dev) : Dev := verifyBegins c (modMb c.mb (withWaiting c) (renewLease c d))

theorem takeCmd_of_accepted (held : Bool) (hst : takeStatus d c h held = none) : takeCmd c h [] held d = takenIn c d := by
  unfold takeCmd
  extract_lets st d1
  have hst' : st = none := hst
  rw [hst']
  simp only [List.append_nil]
  rfl

theorem takeCmd_of_refused (held : Bool) {st : Nat} (hst : takeStatus d c h held = some st) :
    takeCmd c h [] held d = finish c st (refusedPayload c st) (renewLease c d) := by
  unfold takeCmd
  extract_lets st' d1
  have hst' : st' = some st := hst
  rw [hst']

theorem takenIn_calm (c : Cmd) (hc : Calm d) : Calm (takenIn c d) := verifyBegins_calm c (renewLease_calm c hc)

theorem takenIn_mb (hlen : c.mb < d.kmp.mbs.length) :
    mbGet (takenIn c d) c.mb = withWaiting c (mbGet d c.mb) := by
  rw [takenIn, mbGet_congr (verifyBegins_kmp c _), mbGet_modMb_self _ (by rwa [renewLease_length]), renewLease_mb]

theorem takenIn_frame {v : Facet} (hv : v ∉ [.sys, .kmp, .session, .standing, .rail]) : v.view (takenIn c d) = v.view d := by
  simp at hv
  simp [takenIn, hv]

theorem refusedPayload_length (c : Cmd) (st : Nat) : (refusedPayload c st).length ≤ 1008 := by
  unfold refusedPayload
  split
  · simp
  · simp

end Sys2Proof.Laws
end

section
/-!
The mailbox pages (R389 to R395): the doorbell, RSP_CI, RELEASE and the registers, each of a page that answers.
-/
namespace Sys2Proof.Laws

open Sys2Proof.Machine

variable {s : State} {d e x : Dev} {mb v : Nat} {ram : List Host.Cell} {i : Instr} {f : Dev → Dev} {g : Mailbox → Mailbox}

/-! ### Commands that change a mailbox -/

/-- The mailboxes with one of them changed, and else the group as it was. -/
def ChangesMb (s : State) (mb : Nat) (g : Mailbox → Mailbox) (d : Dev) : Prop :=
  d.kmp = { s.dev.kmp with mbs := listMod s.dev.kmp.mbs mb g }

/-- But for what a write through PCIe does to the endpoint, the device is as the command found it. -/
def AsFound (s : State) (x : Dev) : Prop := ∀ v : Facet, v ∉ [.pcie, .out] → v.view x = v.view s.fresh

theorem AsFound.kmp (hx : AsFound s x) : x.kmp = s.dev.kmp := kmp_of_view (d := s.fresh) (hx .kmp (by simp))

theorem AsFound.sys (hx : AsFound s x) : x.sys = s.dev.sys := sys_of_view (d := s.fresh) (hx .sys (by simp))

theorem AsFound.mailbox (hx : AsFound s x) (k : Nat) : mbGet x k = mbGet s.dev k := mbGet_congr hx.kmp k

theorem asFound_fresh (s : State) : AsFound s s.fresh := fun _ _ => rfl

theorem asFound_hostWrites (s : State) (mb : Nat) : AsFound s (hostWrites mb s.fresh) := fun _ h => hostWrites_frame _ mb h

theorem AsFound.changes (hx : AsFound s x) (mb : Nat) (g : Mailbox → Mailbox) : ChangesMb s mb g (modMb mb g x) := by
  rw [ChangesMb, modMb, modKmp_kmp, hx.kmp]

/-- The command of a device that stands in its state as before and has but one mailbox changed. -/
theorem changes_completes (he : exec i s = runDev f s) (hf : f s.fresh = d) (hc : Calm s.dev) (hsys : d.sys = s.dev.sys)
    (hk : ChangesMb s mb g d) : Completes i s d := by
  refine completes_with he hf ?_
  rw [Calm, hsys, hk]
  exact hc

/-- A transport error touches the page's error registers and cause alone, and is reported (R392). -/
theorem transportError_completes (he : exec i s = runDev f s) (hc : Calm s.dev) (hx : AsFound s x) {code index : Nat}
    (hf : f s.fresh = transportError mb code index x) :
    ∃ d, Completes i s d ∧ ChangesMb s mb (failedMb code index) d ∧ Only [.pcie, .kmp, .ev, .out] s.fresh d := by
  have hk : ChangesMb s mb (failedMb code index) (transportError mb code index x) :=
    (transportError_kmp mb code index x).trans (hx.changes mb _)
  have hsys : (transportError mb code index x).sys = s.dev.sys := (sys_of_view (by simp)).trans hx.sys
  refine ⟨_, changes_completes he hf hc hsys hk, hk, only_of_views fun p hp => ?_⟩
  cases p <;> simp at hp <;> simp [hx _]

/-! ### Indexes -/

theorem postedCount_of_idle {m : Mailbox} (h : m.cmdCi = m.cmdPi) : postedCount m = 0 := by
  rw [postedCount, h]
  omega

/-- Nothing is posted: nothing is taken, and nobody asks for the window. -/
theorem takePosted_of_idle (h : (mbGet d mb).cmdCi = (mbGet d mb).cmdPi) : takePosted ram mb d = d := by
  rw [takePosted, postedCount_of_idle h]
  rfl

theorem claimWindow_of_unasked (h : (postedHeaders ram mb (mbGet d mb)).find? hasBulk = none) : claimWindow ram mb d = d := by
  unfold claimWindow
  extract_lets m
  split
  · rfl
  · rw [show postedHeaders ram mb m = postedHeaders ram mb (mbGet d mb) from rfl, h]

theorem claimWindow_of_idle (h : (mbGet d mb).cmdCi = (mbGet d mb).cmdPi) : claimWindow ram mb d = d :=
  claimWindow_of_unasked (by rw [postedHeaders, postedCount_of_idle h]; rfl)

theorem postResponses_of_none (h : (mbGet d mb).rspQueue = []) : postResponses mb d = d := by
  unfold postResponses
  rw [h]
  exact if_neg (by simp [postLoop, rspWaiting, h])

/-! ### The doorbell -/

theorem ringDoorbell_of_past (h : (if (mbGet d mb).rom = true then 1 else 16) < (v % 65536 + 65536 - (mbGet d mb).cmdCi) % 65536) :
    ringDoorbell ram mb v d = transportError mb 1 v d := if_pos h

/-- CMD_PI written. -/
def posted (mb v : Nat) (d : Dev) : Dev := modMb mb (fun m => { m with cmdPi := v % 65536 }) d

theorem posted_mb (hlen : mb < d.kmp.mbs.length) : mbGet (posted mb v d) mb = { mbGet d mb with cmdPi := v % 65536 } :=
  mbGet_modMb_self _ hlen

theorem ringDoorbell_of_room {n : Nat} (hn : n ≤ 1) (h : (v % 65536 + 65536 - (mbGet d mb).cmdCi) % 65536 = n) :
    ringDoorbell ram mb v d = takePosted ram mb (claimWindow ram mb (posted mb v d)) := by
  refine if_neg ?_
  rw [h]
  split <;> omega

theorem ringDoorbell_of_nothing (hlen : mb < d.kmp.mbs.length) (h : v % 65536 = (mbGet d mb).cmdCi) :
    ringDoorbell ram mb v d = posted mb v d := by
  have hidle : (mbGet (posted mb v d) mb).cmdCi = (mbGet (posted mb v d) mb).cmdPi := by
    rw [posted_mb hlen]
    exact h.symm
  rw [ringDoorbell_of_room (n := 0) (by decide) (by omega), claimWindow_of_idle hidle, takePosted_of_idle hidle]

/-- The command in the slot of CMD_CI, without BULK. -/
def postedCmd (ram : List Host.Cell) (mb t : Nat) (m : Mailbox) : Cmd :=
  let h := memRead ram (cmdPlace mb m m.cmdCi) 16
  { mb := mb, tag := rdU h 2 2, op := rdU h 0 2, session := rdU h 8 4, flags := rdU h 12 2,
    payload := memRead ram (cmdPlace mb m m.cmdCi + 16) (min (rdU h 4 4) 1008), t := t, src := [], srcPort := 0 }

/-- CMD_CI moves on and its cause is set, as a command leaves its slot. -/
def slotTaken (mb : Nat) (d : Dev) : Dev := irqSet mb 1 (modMb mb (fun m => { m with cmdCi := (m.cmdCi + 1) % 65536 }) d)

/-- A command without BULK, which is not LOAD_CHUNK, is its slot alone. -/
theorem takeOne_of_plain {h : Bytes} (hh : memRead ram (cmdPlace mb (mbGet d mb) (mbGet d mb).cmdCi) 16 = h) (hb : hasBulk h = false)
    (hop : rdU h 0 2 ≠ 0x01F2) :
    ∃ held, takeOne ram mb d = takeCmd (postedCmd ram mb (tussNow d) (mbGet d mb)) h [] held (slotTaken mb d) := by
  have hop' : (rdU h 0 2 == 0x01F2) = false := by simpa using hop
  unfold takeOne postedCmd
  dsimp only
  rw [hh, hb, hop']
  exact ⟨_, rfl⟩

/-- One command posted, and no response waiting: it is the one taken. -/
theorem takePosted_of_one (hlt : (mbGet d mb).cmdCi < 65536) (hpi : (mbGet d mb).cmdPi = ((mbGet d mb).cmdCi + 1) % 65536)
    (hw : rspWaiting (mbGet d mb) = false) : takePosted ram mb d = takeOne ram mb d := by
  have hone : postedCount (mbGet d mb) = 1 := by
    rw [postedCount, hpi]
    omega
  rw [takePosted, hone, takeLoop]
  rw [if_neg, takeLoop]
  rintro (h | h)
  · rw [hpi] at h
    omega
  · exact Bool.false_ne_true (hw.symm.trans h)

theorem slotTaken_length (mb : Nat) (d : Dev) : (slotTaken mb d).kmp.mbs.length = d.kmp.mbs.length := by
  rw [slotTaken, irqSet_kmp, modMb_mbs_length, modMb_mbs_length]

theorem slotTaken_mb (hlen : mb < d.kmp.mbs.length) : mbGet (slotTaken mb d) mb =
    { mbGet d mb with cmdCi := ((mbGet d mb).cmdCi + 1) % 65536, irqStatus := putBit (mbGet d mb).irqStatus 1 true } := by
  rw [slotTaken, mbGet_congr (irqSet_kmp mb 1 _), mbGet_modMb_self _ (by rwa [modMb_mbs_length]), mbGet_modMb_self _ hlen]

/-- The device as a doorbell's command leaves its slot. -/
def doorbellTaken (s : State) (mb v : Nat) : Dev := slotTaken mb (posted mb v (hostWrites mb s.fresh))

/-- A doorbell that posts one command without BULK, while no response waits, has it judged. -/
theorem doorbell_takes {h : Bytes} (hlive : pageLive mb s.dev = true) (hlen : mb < s.dev.kmp.mbs.length)
    (hh : memRead s.ram (cmdPlace mb (mbGet s.dev mb) (mbGet s.dev mb).cmdCi) 16 = h) (hlt : (mbGet s.dev mb).cmdCi < 65536)
    (hv : v % 65536 = ((mbGet s.dev mb).cmdCi + 1) % 65536) (hw : rspWaiting (mbGet s.dev mb) = false) (hb : hasBulk h = false)
    (hop : rdU h 0 2 ≠ 0x01F2) : ∃ held, doorbell s.ram mb v s.fresh =
      takeCmd (postedCmd s.ram mb (tussNow s.dev) (mbGet s.dev mb)) h [] held (doorbellTaken s mb v) := by
  unfold doorbellTaken
  have hx := asFound_hostWrites s mb
  obtain ⟨x, hxeq⟩ : ∃ x, hostWrites mb s.fresh = x := ⟨_, rfl⟩
  rw [hxeq] at hx ⊢
  have hxm := hx.mailbox mb
  have hxlen : mb < x.kmp.mbs.length := hx.kmp ▸ hlen
  have hym : mbGet (posted mb v x) mb = { mbGet s.dev mb with cmdPi := v % 65536 } := by rw [posted_mb hxlen, hxm]
  have hasked : (postedHeaders s.ram mb (mbGet (posted mb v x) mb)).find? hasBulk = none := by
    have hone : postedCount (mbGet (posted mb v x) mb) = 1 := by
      rw [hym]
      show (v % 65536 + 65536 - (mbGet s.dev mb).cmdCi) % 65536 = 1
      omega
    rw [postedHeaders, hone, hym]
    show [memRead s.ram (cmdPlace mb (mbGet s.dev mb) (mbGet s.dev mb).cmdCi) 16].find? hasBulk = none
    rw [hh, List.find?_singleton, if_neg (by simp [hb])]
  have hring : ringDoorbell s.ram mb v x = takeOne s.ram mb (posted mb v x) := by
    rw [ringDoorbell_of_room (n := 1) le_rfl (by rw [hxm]; omega), claimWindow_of_unasked hasked]
    refine takePosted_of_one ?_ ?_ ?_
    · rw [hym]
      exact hlt
    · rw [hym]
      exact hv
    · rw [hym]
      exact hw
  have hlive' : doorbell s.ram mb v s.fresh = ringDoorbell s.ram mb v x := hxeq ▸ if_pos hlive
  obtain ⟨held, htake⟩ := takeOne_of_plain (d := posted mb v x) (mb := mb) (ram := s.ram) (h := h) (by rw [hym]; exact hh) hb hop
  refine ⟨held, (hlive'.trans hring).trans (htake.trans ?_)⟩
  have htime : tussNow (posted mb v x) = tussNow s.dev := by
    show tussNow x = _
    rw [tussNow, hx.sys, tussNow]
  rw [hym, htime]
  rfl

section Taken

variable {h : Bytes} (hlive : pageLive mb s.dev = true) (hlen : mb < s.dev.kmp.mbs.length)
  (hh : memRead s.ram (cmdPlace mb (mbGet s.dev mb) (mbGet s.dev mb).cmdCi) 16 = h) (hlt : (mbGet s.dev mb).cmdCi < 65536)
  (hv : v % 65536 = ((mbGet s.dev mb).cmdCi + 1) % 65536) (hw : rspWaiting (mbGet s.dev mb) = false) (hb : hasBulk h = false)
  (hop : rdU h 0 2 ≠ 0x01F2)

theorem doorbellTaken_frame {w : Facet} (h : w ∉ [.pcie, .kmp, .out]) : w.view (doorbellTaken s mb v) = w.view s.fresh := by
  simp at h
  simp [doorbellTaken, slotTaken, posted, h]

theorem doorbellTaken_session : (doorbellTaken s mb v).kmp.session = s.dev.kmp.session ∧
    (doorbellTaken s mb v).kmp.lastIds = s.dev.kmp.lastIds := by
  rw [doorbellTaken, slotTaken, irqSet_kmp]
  show (hostWrites mb s.fresh).kmp.session = _ ∧ (hostWrites mb s.fresh).kmp.lastIds = _
  rw [(asFound_hostWrites s mb).kmp]
  exact ⟨rfl, rfl⟩

theorem doorbellTaken_calm (hc : Calm s.dev) : Calm (doorbellTaken s mb v) := by
  rw [Calm, sys_of_view (d := s.fresh) (doorbellTaken_frame (by simp)), doorbellTaken_session.1]
  exact hc

include hlen in
theorem doorbellTaken_length : mb < (doorbellTaken s mb v).kmp.mbs.length := by
  rw [doorbellTaken, slotTaken_length, posted, modMb_mbs_length, (asFound_hostWrites s mb).kmp]
  exact hlen

include hlen hv in
theorem doorbellTaken_mb : mbGet (doorbellTaken s mb v) mb = { mbGet s.dev mb with
    cmdPi := v % 65536, cmdCi := v % 65536, irqStatus := putBit (mbGet s.dev mb).irqStatus 1 true } := by
  have hxlen : mb < (hostWrites mb s.fresh).kmp.mbs.length := (asFound_hostWrites s mb).kmp ▸ hlen
  rw [doorbellTaken, slotTaken_mb (by rwa [posted, modMb_mbs_length]), posted_mb hxlen, (asFound_hostWrites s mb).mailbox, hv]

include hlen hv hb hh in
/-- The command in the slot is judged as it was when it was posted. -/
theorem takeStatus_doorbell (held : Bool) : takeStatus (doorbellTaken s mb v) (postedCmd s.ram mb (tussNow s.dev) (mbGet s.dev mb)) h held =
    takeStatus s.dev (postedCmd s.ram mb (tussNow s.dev) (mbGet s.dev mb)) h false := by
  have hflags : bit (postedCmd s.ram mb (tussNow s.dev) (mbGet s.dev mb)).flags 0 = false := by
    subst hh
    exact hb
  rw [takeStatus_of_noBulk hflags]
  refine takeStatus_congr (sys_of_view (doorbellTaken_frame (by simp))) doorbellTaken_session.1 doorbellTaken_session.2 ?_ h false
  show SameCommands (mbGet s.dev mb) (mbGet (doorbellTaken s mb v) mb)
  rw [doorbellTaken_mb hlen hv]
  exact ⟨rfl, rfl, rfl⟩

include hlive hlen hh hlt hv hw hb hop

theorem doorbell_accepts (hc : Calm s.dev)
    (hst : takeStatus s.dev (postedCmd s.ram mb (tussNow s.dev) (mbGet s.dev mb)) h false = none) :
    ∃ d, Completes (.doorbell mb v) s d ∧ Only [.sys, .pcie, .kmp, .out] s.fresh d ∧
      mbGet d mb = { mbGet s.dev mb with
        cmdPi := v % 65536, cmdCi := v % 65536, irqStatus := putBit (mbGet s.dev mb).irqStatus 1 true,
        waiting := (mbGet s.dev mb).waiting ++ [postedCmd s.ram mb (tussNow s.dev) (mbGet s.dev mb)] } := by
  obtain ⟨held, heff⟩ := doorbell_takes hlive hlen hh hlt hv hw hb hop
  have htaken := heff.trans (takeCmd_of_accepted held ((takeStatus_doorbell hlen hh hv hb held).trans hst))
  refine ⟨_, completes_with rfl htaken (takenIn_calm _ (doorbellTaken_calm hc)), only_of_views fun p hp => ?_, ?_⟩
  · rw [takenIn_frame (by cases p <;> simp at hp ⊢)]
    exact doorbellTaken_frame (by cases p <;> simp at hp ⊢)
  · have hmb := takenIn_mb (c := postedCmd s.ram mb (tussNow s.dev) (mbGet s.dev mb)) (d := doorbellTaken s mb v)
      (doorbellTaken_length hlen)
    exact hmb.trans (congrArg (withWaiting _) (doorbellTaken_mb hlen hv))

theorem doorbell_refuses (hc : Calm s.dev) {st : Nat}
    (hst : takeStatus s.dev (postedCmd s.ram mb (tussNow s.dev) (mbGet s.dev mb)) h false = some st) :
    ∃ d, Completes (.doorbell mb v) s d ∧ Only [.slu, .pcie, .kmp, .ev, .writes, .out] s.fresh d ∧
      (mbGet d mb).cmdCi = v % 65536 ∧ (mbGet d mb).waiting = (mbGet s.dev mb).waiting ∧
      (mbGet d mb).finals.head? = some ⟨(postedCmd s.ram mb (tussNow s.dev) (mbGet s.dev mb)).tag,
        (postedCmd s.ram mb (tussNow s.dev) (mbGet s.dev mb)).op, st⟩ := by
  obtain ⟨held, heff⟩ := doorbell_takes hlive hlen hh hlt hv hw hb hop
  have hrefused := heff.trans (takeCmd_of_refused held ((takeStatus_doorbell hlen hh hv hb held).trans hst))
  generalize hcmd : postedCmd s.ram mb (tussNow s.dev) (mbGet s.dev mb) = c at *
  have hcmb : c.mb = mb := by rw [← hcmd]; rfl
  have hkept := finish_postsOn (c := c) (refusedPayload_length c st) st (renewLease c (doorbellTaken s mb v))
  have hmb : mbGet (noteFinal c st (renewLease c (doorbellTaken s mb v))) mb =
      { mbGet (doorbellTaken s mb v) mb with finals := (⟨c.tag, c.op, st⟩ :: (mbGet (doorbellTaken s mb v) mb).finals).take 16 } := by
    rw [noteFinal, hcmb, mbGet_modMb_self _ (by rw [renewLease_length]; exact doorbellTaken_length hlen), renewLease_mb]
  rw [doorbellTaken_mb hlen hv] at hmb
  refine ⟨_, completes_with rfl hrefused (finish_calm _ _ _ (renewLease_calm c (doorbellTaken_calm hc))), only_of_views fun p hp => ?_,
    ?_, ?_, ?_⟩
  · have hframe := doorbellTaken_frame (s := s) (mb := mb) (v := v) (w := Facet.of p)
    cases p <;> simp at hp hframe <;> simp [hframe]
  · rw [hkept.cmdCi, hmb]
  · rw [hkept.waiting, hmb]
  · rw [hkept.finals, hmb]
    rfl

end Taken

end Sys2Proof.Laws
end

section
/-!
The mailbox pages (R389 to R395), after the doorbell: RSP_CI, RELEASE, the cleared causes and the registers read.
-/
namespace Sys2Proof.Laws

open Sys2Proof.Machine

variable {s : State} {d e x : Dev} {mb v : Nat} {ram : List Host.Cell}

/-! ### RSP_CI -/

/-- RSP_CI written, with the responses it frees asking for no grant any more. -/
def slotsFreed (mb v : Nat) (d : Dev) : Dev := dropRead mb (modMb mb (fun m => { m with rspCi := v % 65536 }) d)

theorem writeRspCi_of_past (h : 16 < ((mbGet d mb).rspPi + 65536 - v % 65536) % 65536) :
    writeRspCi ram mb v d = transportError mb 2 v d := if_pos h

theorem writeRspCi_of_within (h : ((mbGet d mb).rspPi + 65536 - v % 65536) % 65536 ≤ 16) :
    writeRspCi ram mb v d = takePosted ram mb (postResponses mb (slotsFreed mb v d)) := if_neg (by omega)

theorem slotsFreed_kmp (mb v : Nat) (d : Dev) : (slotsFreed mb v d).kmp = (modMb mb (fun m => { m with rspCi := v % 65536 }) d).kmp :=
  kmp_of_view (dropRead_frame _ mb (by simp))

theorem slotsFreed_mb (hlen : mb < d.kmp.mbs.length) : mbGet (slotsFreed mb v d) mb = { mbGet d mb with rspCi := v % 65536 } :=
  (mbGet_congr (slotsFreed_kmp mb v d) mb).trans (mbGet_modMb_self _ hlen)

theorem slotsFreed_length (mb v : Nat) (d : Dev) : (slotsFreed mb v d).kmp.mbs.length = d.kmp.mbs.length := by
  rw [slotsFreed_kmp, modMb_mbs_length]

theorem slotsFreed_frame {w : Facet} (h : w ∉ [.slu, .kmp, .queues]) : w.view (slotsFreed mb v d) = w.view d := by
  simp at h
  simp [slotsFreed, h]

/-- As many responses ask for a grant as slots are in use, at most. -/
theorem dropRead_msgs (mb : Nat) (d : Dev) : ((portGet (dropRead mb d).slu (mb + 1)).msgs.filter (fun x => x.requester == 3)).length ≤
    ((mbGet d mb).rspPi + 65536 - (mbGet d mb).rspCi) % 65536 := by
  unfold dropRead
  extract_lets m left
  rw [modSlu_slu, portGet_modPort]
  split
  · rw [List.filter_append, List.filter_filter, List.length_append]
    have hothers : (portGet d.slu (mb + 1)).msgs.filter (fun a => a.requester == 3 && a.requester != 3) = [] :=
      List.filter_eq_nil_iff.2 fun a _ => by simp
    have hown := List.length_filter_le (fun x : Msg => x.requester == 3)
      (((portGet d.slu (mb + 1)).msgs.filter (fun m => m.requester == 3)).drop
        (((portGet d.slu (mb + 1)).msgs.filter (fun m => m.requester == 3)).length - left))
    rw [List.length_drop] at hown
    rw [hothers, List.length_nil]
    change _ ≤ left
    clear_value left
    omega
  · next hport =>
    have hnone : portGet d.slu (mb + 1) = Port.reset :=
      List.getD_eq_default _ _ (Nat.not_lt.1 fun h => hport ⟨rfl, h⟩)
    rw [hnone]
    exact Nat.zero_le _

/-- The window freed, before a response that waited for it is posted. -/
def windowFreed (mb : Nat) (d : Dev) : Dev :=
  irqSet mb 3 (modMb mb (fun m => { m with bulkBusy := false, bulkRsp := false, bulkOwner := 0 }) d)

theorem windowFreed_kmp (mb : Nat) (d : Dev) : (windowFreed mb d).kmp = (modMb mb (fun m => { m with
    bulkBusy := false, bulkRsp := false, bulkOwner := 0, irqStatus := putBit m.irqStatus 3 true }) d).kmp := by
  rw [windowFreed, irqSet_kmp, modMb_modMb]
  rfl

section Page

variable (hc : Calm s.dev) (hlive : pageLive mb s.dev = true)
include hlive

theorem doorbell_of_live (v : Nat) : doorbell s.ram mb v s.fresh = ringDoorbell s.ram mb v (hostWrites mb s.fresh) := if_pos hlive
theorem rspCiWrite_of_live (v : Nat) : rspCiWrite s.ram mb v s.fresh = writeRspCi s.ram mb v (hostWrites mb s.fresh) := if_pos hlive
theorem bulkRelease_of_live : bulkRelease s.ram mb s.fresh = releaseWindow s.ram mb (hostWrites mb s.fresh) := if_pos hlive
theorem irqClear_of_live (v : Nat) : irqClear mb v s.fresh = clearIrq mb v (hostWrites mb s.fresh) := if_pos hlive

include hc

theorem rspCi_frees (hlen : mb < s.dev.kmp.mbs.length) (hin : ((mbGet s.dev mb).rspPi + 65536 - v % 65536) % 65536 ≤ 16)
    (hq : (mbGet s.dev mb).rspQueue = []) (hidle : (mbGet s.dev mb).cmdCi = (mbGet s.dev mb).cmdPi) :
    ∃ d, Completes (.rspCiWrite mb v) s d ∧ ChangesMb s mb (fun m => { m with rspCi := v % 65536 }) d ∧
      ((portGet d.slu (mb + 1)).msgs.filter (fun x => x.requester == 3)).length ≤ ((mbGet s.dev mb).rspPi + 65536 - v % 65536) % 65536 ∧
      Only [.slu, .pcie, .kmp, .out] s.fresh d := by
  have heff := rspCiWrite_of_live hlive v
  have hx := asFound_hostWrites s mb
  generalize hostWrites mb s.fresh = x at heff hx
  have hxlen : mb < x.kmp.mbs.length := hx.kmp ▸ hlen
  have hmb := slotsFreed_mb (v := v) hxlen
  rw [hx.mailbox] at hmb
  rw [writeRspCi_of_within (by rwa [hx.mailbox]), postResponses_of_none (by rw [hmb]; exact hq),
    takePosted_of_idle (by rw [hmb]; exact hidle)] at heff
  have hk : ChangesMb s mb (fun m => { m with rspCi := v % 65536 }) (slotsFreed mb v x) := (slotsFreed_kmp mb v x).trans (hx.changes mb _)
  refine ⟨_, changes_completes rfl heff hc ((sys_of_view (slotsFreed_frame (by simp))).trans hx.sys) hk, hk, ?_,
    only_of_views fun p hp => ?_⟩
  · refine (dropRead_msgs mb _).trans ?_
    rw [mbGet_modMb_self _ hxlen, hx.mailbox]
  · rw [slotsFreed_frame (by cases p <;> simp at hp ⊢)]
    exact hx _ (by cases p <;> simp at hp ⊢)

theorem rspCi_posts (hlen : mb < s.dev.kmp.mbs.length) {r : Rsp}
    (hin : ((mbGet s.dev mb).rspPi + 65536 - v % 65536) % 65536 < 16) (hq : (mbGet s.dev mb).rspQueue = [r]) (hb : r.bulk = false)
    (hidle : (mbGet s.dev mb).cmdCi = (mbGet s.dev mb).cmdPi) :
    ∃ d, Completes (.rspCiWrite mb v) s d ∧ (mbGet d mb).rspCi = v % 65536 ∧
      (mbGet d mb).rspPi = ((mbGet s.dev mb).rspPi + 1) % 65536 ∧ (mbGet d mb).rspQueue = [] ∧ bit (mbGet d mb).irqStatus 0 = true ∧
      d.writes = [(rspPlace mb (mbGet s.dev mb), r.header ++ r.payload)] ∧ Only [.slu, .pcie, .kmp, .writes, .out] s.fresh d := by
  have heff := rspCiWrite_of_live hlive v
  have hx := asFound_hostWrites s mb
  generalize hostWrites mb s.fresh = x at heff hx
  have hxlen : mb < x.kmp.mbs.length := hx.kmp ▸ hlen
  have hzlen : mb < (slotsFreed mb v x).kmp.mbs.length := by rwa [slotsFreed_length]
  have hmb := slotsFreed_mb (v := v) hxlen
  rw [hx.mailbox] at hmb
  have hpost := mbGet_postOne_self r hzlen
  rw [hmb] at hpost
  rw [writeRspCi_of_within (by rw [hx.mailbox]; omega),
    postResponses_of_single hzlen (by rw [hmb]; exact hq) (by rw [hmb]; exact decide_eq_true hin) hb,
    takePosted_of_idle (by rw [hpost]; exact hidle)] at heff
  refine ⟨_, completes_with rfl heff ?_, by rw [hpost]; rfl, by rw [hpost]; rfl, by rw [hpost, postedMb, hq]; rfl,
    by rw [hpost]; exact bit_putBit_self _ _, ?_, only_of_views fun p hp => ?_⟩
  · refine respOnly_calm (postOne_respOnly ..) ?_
    rw [Calm, sys_of_view (d := x) (slotsFreed_frame (by simp)), slotsFreed_kmp, hx.sys]
    show _ ∧ (_ → x.kmp.session = none)
    rw [hx.kmp]
    exact hc
  · rw [postOne_writes hb, hmb, same_of_view (p := .writes) (slotsFreed_frame (by simp)),
      same_of_view (p := .writes) (hx .writes (by simp))]
    rfl
  · have hframe := slotsFreed_frame (d := x) (mb := mb) (v := v) (w := Facet.of p)
    have hfound := hx (Facet.of p)
    cases p <;> simp at hp hframe hfound <;> simp [postOne, hframe, hfound]

/-! ### RELEASE and the registers -/

omit hc in
theorem readRegister_of_live (off : Nat) : readRegister mb off s.fresh =
    pageEffects mb off 4 (emit (.read (portOfMb mb) (le 4 (pageWord mb s.fresh off))) s.fresh) :=
  if_neg (by simp [show pageLive mb s.fresh = true from hlive])

theorem release_frees (hlen : mb < s.dev.kmp.mbs.length) (hr : (mbGet s.dev mb).bulkRsp = true) (hq : (mbGet s.dev mb).rspQueue = [])
    (hidle : (mbGet s.dev mb).cmdCi = (mbGet s.dev mb).cmdPi) :
    ∃ d, Completes (.bulkRelease mb) s d ∧ Only [.pcie, .kmp, .out] s.fresh d ∧
      ChangesMb s mb (fun m => { m with
        bulkBusy := false, bulkRsp := false, bulkOwner := 0, irqStatus := putBit m.irqStatus 3 true }) d := by
  have heff := bulkRelease_of_live hlive
  have hx := asFound_hostWrites s mb
  generalize hostWrites mb s.fresh = x at heff hx
  have hxlen : mb < x.kmp.mbs.length := hx.kmp ▸ hlen
  have hkmp := windowFreed_kmp mb x
  have hmb : mbGet (windowFreed mb x) mb = { mbGet s.dev mb with
      bulkBusy := false, bulkRsp := false, bulkOwner := 0, irqStatus := putBit (mbGet s.dev mb).irqStatus 3 true } := by
    rw [mbGet_congr hkmp, mbGet_modMb_self _ hxlen, hx.mailbox]
  have hfree : freeWindow mb x = windowFreed mb x := postResponses_of_none (d := windowFreed mb x) (by rw [hmb]; exact hq)
  have hrelease : releaseWindow s.ram mb x = takePosted s.ram mb (claimWindow s.ram mb (freeWindow mb x)) :=
    if_neg (by simp [hx.mailbox, hr])
  rw [hrelease, hfree, claimWindow_of_idle (by rw [hmb]; exact hidle), takePosted_of_idle (by rw [hmb]; exact hidle)] at heff
  have hk := hkmp.trans (hx.changes mb _)
  refine ⟨_, changes_completes rfl heff hc ((sys_of_view (by simp [windowFreed])).trans hx.sys) hk, only_of_views fun p hp => ?_, hk⟩
  have hfound := hx (Facet.of p)
  cases p <;> simp at hp hfound <;> simp [windowFreed, hfound]

end Page

/-- On a page that does not answer nothing acts (R361). -/
theorem page_of_dead (hc : Calm s.dev) (h : pageLive mb s.dev = false) (v : Nat) :
    Completes (.doorbell mb v) s s.fresh ∧ Completes (.rspCiWrite mb v) s s.fresh ∧ Completes (.bulkRelease mb) s s.fresh ∧
      Completes (.irqStatusClear mb v) s s.fresh ∧ Completes (.errInfoRead mb) s s.fresh ∧ Completes (.errCountRead mb) s s.fresh ∧
      Completes (.devTimeRead mb) s s.fresh := by
  have hdead : pageLive mb s.fresh = false := h
  have hwrite (y : Dev) : (if pageLive mb s.fresh = true then y else s.fresh) = s.fresh := if_neg (by simp [hdead])
  have hread (off : Nat) : readRegister mb off s.fresh = s.fresh := if_pos (by simp [hdead])
  exact ⟨completes_with rfl (hwrite _) hc, completes_with rfl (hwrite _) hc, completes_with rfl (hwrite _) hc,
    completes_with rfl (hwrite _) hc, completes_with rfl (hread _) hc, completes_with rfl (hread _) hc, completes_with rfl (hread _) hc⟩

end Sys2Proof.Laws
end

section
/-!
The backbone's mailboxes (R332, R336, R406, R407): datagrams, their fragments and repeats; and the mailboxes' obligation as a whole.
-/
namespace Sys2Proof.Laws

open Sys2Proof.Machine

variable {s : State} {d e x : Dev} {mb sc port tag : Nat} {prot frag : Bool} {addr data msg : Bytes}

/-! ### A datagram that arrives -/

/-- The datagram comes outside a receive channel. -/
def Unprotected (d : Dev) (prot : Bool) : Prop := prot = false ∨ prmGet d 0x0F08 = 0

theorem kmpReceive_of_unheard (h : d.sys.inReset = true ∨ d.net.linkUp.any id = false ∨ frag = true) :
    kmpReceive sc prot addr port data frag d = d := if_pos (by rcases h with h | h | h <;> simp [h])

section Heard

variable (hr : d.sys.inReset = false) (hl : d.net.linkUp.any id = true)
include hr hl

theorem kmpReceive_of_unprotected (h : Unprotected d prot) : kmpReceive sc prot addr port data false d =
    raise 103 0 [] (modNet (fun n => { n with unprotected := min (2 ^ 32 - 1) (n.unprotected + 1) }) d) := by
  unfold kmpReceive
  rw [if_neg (by rw [hr, hl]; decide), if_pos (by rcases h with h | h <;> simp [h])]
  simp only [incSat_eq]

theorem kmpReceive_of_protected (h : ¬ Unprotected d prot) : kmpReceive sc prot addr port data false d =
    if !(mbGet d (2 + sc)).present then d
    else if fragmentOk (datagramLimit d (if addr.length = 4 then 4 else 6)) data then assemble (2 + sc) addr port data d
    else transportError (2 + sc) 4 0 d := by
  unfold kmpReceive
  rw [if_neg (by rw [hr, hl]; decide), if_neg]
  simpa [Unprotected] using h

end Heard

/-! ### Its fragments -/

/-- What a first fragment of several leaves behind. -/
def firstFragment (data : Bytes) (t : Nat) : Partial :=
  { tag := rdU data 4 2, total := rdU data 12 4, count := rdU data 7 1 + 1, frags := [(rdU data 6 1, data.drop 16)], since := t }

theorem assemble_of_several (hnone : (mbGet d mb).assembling = none) (h : rdU data 7 1 ≠ 0) :
    assemble mb addr port data d = modMb mb (fun m => { m with assembling := some (firstFragment data (tussNow d)) }) d := by
  unfold assemble
  rw [hnone]
  exact if_neg fun hlen => h (Nat.succ.inj hlen).symm

theorem assemble_of_single (hnone : (mbGet d mb).assembling = none) (h : rdU data 7 1 = 0) :
    assemble mb addr port data d = takeMessage mb addr port (rdU data 4 2) (data.drop 16) d := by
  have hself : modMb mb (fun m => { m with assembling := none }) d = d := modMb_eq_self (by rw [← hnone])
  unfold assemble
  rw [hnone]
  refine (if_pos (show 1 = _ by rw [h])).trans ?_
  rw [hself]
  show takeMessage mb addr port (rdU data 4 2) (data.drop 16 ++ []) d = _
  rw [List.append_nil]

/-! ### A whole message -/

/-- The command that a message carries. -/
def messageCmd (mb tag port t : Nat) (addr msg : Bytes) : Cmd :=
  { mb := mb, tag := tag, op := rdU msg 0 2, session := rdU msg 8 4, flags := rdU msg 12 2, payload := msg.drop 16, t := t, src := addr,
    srcPort := port }

/-- A mailbox that has heard a message of a later tag. -/
def heardMb (tag port : Nat) (addr : Bytes) (m : Mailbox) : Mailbox :=
  { m with highTag := some tag, recent := (⟨tag, []⟩ :: m.recent).take 16, srcAddr := addr, srcPort := port }

/-- The tag is later than every tag heard before. -/
def tagLater (m : Mailbox) (tag : Nat) : Bool := m.highTag.elim true (fun h => laterThan 16 tag h)

theorem takeMessage_of_malformed (h : rdU msg 2 2 ≠ tag ∨ rdU msg 4 4 + 16 ≠ msg.length) :
    takeMessage mb addr port tag msg d = transportError mb 4 0 d := if_pos h

section Whole

variable (htag : rdU msg 2 2 = tag) (hlen : rdU msg 4 4 + 16 = msg.length)
include htag hlen

theorem takeMessage_of_later (h : tagLater (mbGet d mb) tag = true) : takeMessage mb addr port tag msg d =
    takeCmd (messageCmd mb tag port (tussNow d) addr msg) (msg.take 16) [] false (modMb mb (heardMb tag port addr) d) :=
  (if_neg (by simp [htag, hlen])).trans (if_pos h)

theorem takeMessage_of_unknown (h : tagLater (mbGet d mb) tag = false) (hnone : (mbGet d mb).recent.find? (fun r => r.tag == tag) = none) :
    takeMessage mb addr port tag msg d = transportError mb 5 0 d := by
  refine (if_neg (by simp [htag, hlen])).trans ((if_neg (by rw [show Option.elim _ _ _ = _ from h]; decide)).trans ?_)
  rw [hnone]

theorem takeMessage_of_repeat {r : RecentTag} (h : tagLater (mbGet d mb) tag = false)
    (hsome : (mbGet d mb).recent.find? (fun r => r.tag == tag) = some r) :
    takeMessage mb addr port tag msg d = if r.response.isEmpty then d else resend mb tag r.response addr port d := by
  refine (if_neg (by simp [htag, hlen])).trans ((if_neg (by rw [show Option.elim _ _ _ = _ from h]; decide)).trans ?_)
  rw [hsome]

end Whole

/-- A later message's command is judged on the device as it stood, and taken. -/
theorem takeMessage_completes {i : Instr} {f : Dev → Dev} (he : exec i s = runDev f s) (hc : Calm s.dev)
    (hf : f s.fresh = takeMessage mb addr port tag msg s.fresh) (hmb : mb < s.dev.kmp.mbs.length) (htag : rdU msg 2 2 = tag)
    (hlen : rdU msg 4 4 + 16 = msg.length) (hlater : tagLater (mbGet s.dev mb) tag = true)
    (hst : takeStatus s.dev (messageCmd mb tag port (tussNow s.dev) addr msg) (msg.take 16) false = none) :
    ∃ d, Completes i s d ∧ Only [.sys, .kmp] s.fresh d ∧
      mbGet d mb = withWaiting (messageCmd mb tag port (tussNow s.dev) addr msg) (heardMb tag port addr (mbGet s.dev mb)) := by
  have hmb' : mbGet (modMb mb (heardMb tag port addr) s.fresh) mb = heardMb tag port addr (mbGet s.dev mb) :=
    mbGet_modMb_self (d := s.fresh) _ hmb
  have hjudged : takeStatus (modMb mb (heardMb tag port addr) s.fresh) (messageCmd mb tag port (tussNow s.dev) addr msg) (msg.take 16)
      false = none := by
    refine (takeStatus_congr (d := s.dev) (e := modMb mb (heardMb tag port addr) s.fresh) rfl rfl rfl ?_ _ _).trans hst
    show SameCommands (mbGet s.dev mb) (mbGet (modMb mb (heardMb tag port addr) s.fresh) mb)
    rw [hmb']
    exact ⟨rfl, rfl, rfl⟩
  have heff := hf.trans ((takeMessage_of_later (d := s.fresh) htag hlen hlater).trans (takeCmd_of_accepted false hjudged))
  refine ⟨_, completes_with he heff (takenIn_calm _ hc), only_of_views fun p hp => ?_, ?_⟩
  · rw [takenIn_frame (by cases p <;> simp at hp ⊢)]
    cases p <;> simp at hp ⊢
  · refine (takenIn_mb (c := messageCmd mb tag port (tussNow s.dev) addr msg) ?_).trans (congrArg _ hmb')
    rw [modMb_mbs_length]
    exact hmb

/-! ### Reassembly -/

theorem reassemblyTimeout_completes (hc : Calm s.dev) {p : Partial} (h : (mbGet s.dev mb).assembling = some p) :
    ∃ d, Completes (.kmpReassemblyTimeout mb) s d ∧ ChangesMb s mb (fun m => failedMb 4 0 { m with assembling := none }) d ∧
      d.sys = (advanceTuss (p.since + 100000000) s.fresh).sys ∧ Only [.sys, .pcie, .kmp, .ev, .out] s.fresh d := by
  have heff : reassemblyTimeout mb s.fresh =
      transportError mb 4 0 (modMb mb (fun m => { m with assembling := none }) (advanceTuss (p.since + 100000000) s.fresh)) := by
    unfold reassemblyTimeout
    rw [show (mbGet s.fresh mb).assembling = some p from h]
  have hk : ChangesMb s mb (fun m => failedMb 4 0 { m with assembling := none })
      (transportError mb 4 0 (modMb mb (fun m => { m with assembling := none }) (advanceTuss (p.since + 100000000) s.fresh))) := by
    rw [ChangesMb, transportError_kmp, modMb_modMb]
    rfl
  have hsys : (transportError mb 4 0 (modMb mb (fun m => { m with assembling := none }) (advanceTuss (p.since + 100000000) s.fresh))).sys =
      (advanceTuss (p.since + 100000000) s.fresh).sys := sys_of_view (by simp)
  refine ⟨_, completes_with rfl heff ?_, hk, hsys, only_of_views fun p hp => by cases p <;> simp at hp ⊢⟩
  rw [Calm, hsys, hk]
  exact hc

/-- A datagram that reaches a mailbox through its receive channel. -/
theorem datagram_of_heard (hr : s.dev.sys.inReset = false) (hl : s.dev.net.linkUp.any id = true) (hp : ¬ Unprotected s.dev prot)
    (hm : (mbGet s.dev (2 + sc)).present = true) : kmpReceive sc prot addr port data false s.fresh =
      if fragmentOk (datagramLimit s.dev (if addr.length = 4 then 4 else 6)) data then assemble (2 + sc) addr port data s.fresh
      else transportError (2 + sc) 4 0 s.fresh :=
  (kmpReceive_of_protected (d := s.fresh) hr hl hp).trans (if_neg (by rw [show (mbGet s.fresh (2 + sc)).present = true from hm]; decide))

/-- Settles O59: the page's registers, the doorbell, datagrams and reassembly, each by its own lemma above. -/
theorem mailboxPagesAndDatagramsAct : Obligations.MailboxPagesAndDatagramsAct := by
  intro s hc clock change failed bad
  refine ⟨fun mb v h => page_of_dead hc h v, fun mb v hlive hlen => ?_, fun sc prot addr port data frag => ?_, fun mb h => ?_,
    fun mb p h => reassemblyTimeout_completes hc h⟩
  · intro m idle
    have hx := asFound_hostWrites s mb
    have hm : mbGet (hostWrites mb s.fresh) mb = m := hx.mailbox mb
    have hxlen : mb < (hostWrites mb s.fresh).kmp.mbs.length := hx.kmp ▸ hlen
    have hread (off : Nat) (y : Dev) (h : readRegister mb off s.fresh = y) (hy : y.sys = s.dev.sys)
        (hk : ∃ g, ChangesMb s mb g y) {i : Instr} (he : exec i s = runDev (readRegister mb off) s) : Completes i s y :=
      hk.elim fun g hg => changes_completes he h hc hy hg
    refine ⟨fun h => ?_, fun h => ?_, ?_, fun h => ?_, fun h hq hidle => rspCi_frees hc hlive hlen h hq hidle.1,
      fun r h hq hb hidle => rspCi_posts hc hlive hlen h hq hb hidle.1, fun h => ?_,
      fun h hq hidle => release_frees hc hlive hlen h hq hidle.1, ?_, ?_, ?_, ?_⟩
    · exact transportError_completes rfl hc hx ((doorbell_of_live hlive v).trans (ringDoorbell_of_past (by rwa [hm])))
    · have hk := hx.changes mb (fun m => { m with cmdPi := v % 65536 })
      exact ⟨_, changes_completes rfl ((doorbell_of_live hlive v).trans (ringDoorbell_of_nothing hxlen (by rwa [hm]))) hc hx.sys hk, hk,
        only_of_views fun p hp => by cases p <;> simp [posted] at hp ⊢⟩
    · intro h c hlt hv hw hb hop
      exact ⟨doorbell_accepts hlive hlen rfl hlt hv hw hb hop hc, fun st => doorbell_refuses hlive hlen rfl hlt hv hw hb hop hc⟩
    · exact transportError_completes rfl hc hx ((rspCiWrite_of_live hlive v).trans (writeRspCi_of_past (by rwa [hm])))
    · exact transportError_completes rfl hc hx ((bulkRelease_of_live hlive).trans (if_pos (by rw [hm, h]; decide)))
    · have hk := hx.changes mb (fun m => { m with irqStatus := clrBits 5 m.irqStatus v })
      exact ⟨_, changes_completes rfl (irqClear_of_live hlive v) hc hx.sys hk, hk,
        only_of_views fun p hp => by cases p <;> simp at hp ⊢⟩
    · exact hread 0x30 _ (readRegister_of_live hlive 0x30) rfl ⟨_, rfl⟩ rfl
    · exact hread 0x34 _ (readRegister_of_live hlive 0x34) rfl ⟨_, rfl⟩ rfl
    · exact hread 0x38 _ (readRegister_of_live hlive 0x38) rfl ⟨_, rfl⟩ rfl
  · intro i mb m closed form
    refine ⟨fun h => completes_with rfl (kmpReceive_of_unheard (d := s.fresh) h) hc, fun hr hl hfrag => ?_⟩
    subst hfrag
    refine ⟨fun h => ?_, fun h hm => ?_, fun h hm hf => ?_, fun h hm hf hnone hlast => ?_, fun h hm hf hnone hlast hlen => ?_⟩
    · exact completes_of_views rfl (kmpReceive_of_unprotected (d := s.fresh) hr hl h) hc (by simp) (by simp) (by simp)
    · have hm' : (mbGet s.fresh (2 + sc)).present = false := hm
      exact completes_with rfl ((kmpReceive_of_protected (d := s.fresh) hr hl h).trans (if_pos (by simp [hm']))) hc
    · exact transportError_completes rfl hc (asFound_fresh s)
        ((datagram_of_heard hr hl h hm).trans (if_neg (by rw [show fragmentOk _ data = false from hf]; decide)))
    · have heff := assemble_of_several (addr := addr) (port := port) (d := s.fresh) hnone hlast
      exact completes_with rfl ((datagram_of_heard hr hl h hm).trans ((if_pos hf).trans heff)) hc
    · intro msg tag later c
      have hsingle := assemble_of_single (addr := addr) (port := port) (d := s.fresh) hnone hlast
      have heff := (datagram_of_heard (s := s) hr hl h hm).trans ((if_pos hf).trans hsingle)
      refine ⟨fun hbad => transportError_completes rfl hc (asFound_fresh s) (heff.trans (takeMessage_of_malformed hbad)),
        fun htag hlen' => ⟨fun hlater hst => takeMessage_completes rfl hc heff hlen htag hlen' hlater hst, fun hlater hunknown => ?_,
          fun r hlater hsome => ⟨fun hempty => ?_, fun hne => ?_⟩⟩⟩
      · exact transportError_completes rfl hc (asFound_fresh s)
          (heff.trans (takeMessage_of_unknown (d := s.fresh) htag hlen' hlater hunknown))
      · exact completes_with rfl
          (heff.trans ((takeMessage_of_repeat (d := s.fresh) htag hlen' hlater hsome).trans (if_pos (by rw [hempty]; rfl)))) hc
      · exact completes_with rfl
          (heff.trans ((takeMessage_of_repeat (d := s.fresh) htag hlen' hlater hsome).trans (if_neg (by simpa using hne)))) hc
  · have h' : (mbGet s.fresh mb).assembling = none := h
    exact completes_with rfl (by rw [reassemblyTimeout, h']) hc

end Sys2Proof.Laws
end
